-- ==== Sys2Proof/Word.lean ====
section
/-! DEFINITION. The word types of the Jentro 2420: bytes, record words, 40-bit addresses and saturating counters. -/

namespace Sys2Proof

/-- One byte. -/
abbrev Byte := BitVec 8
/-- A 16-bit value: tags, ring indices, record subjects. -/
abbrev Half := BitVec 16
/-- A 32-bit value: parameter words, set ids, block and chunk sequences (R5). -/
abbrev Word := BitVec 32
/-- A 64-bit value: byte counts of streams and sessions. -/
abbrev Dword := BitVec 64
/-- A system or memory address, 40 bits (00_scope, Addresses and accesses). -/
abbrev Addr := BitVec 40
/-- A counter: 32 bits, saturating (00_scope, Counters). The arithmetic is `Counter.add` of Machine/Ops.lean. -/
abbrev Counter := BitVec 32

/-- A drive, and with it its channel and its bay: 0 or 1. -/
abbrev Drive := Fin 2
/-- A stream tag 0..7. -/
abbrev Tag := Fin 8
/-- A restore session S0..S3. -/
abbrev SessionId := Fin 4
/-- A cartridge location 0..26 (R129). -/
abbrev Loc := Fin 27

end Sys2Proof
end

