-- ==== Sys2Proof/Config.lean ====
section
/-! DEFINITION. The constants the manual fixes: sizes, the part number and revision, record and cause codes. -/

namespace Sys2Proof.Config

/-- Part number reported by GET_INFO (R192). -/
def partNumber : Nat := 2420
/-- Revision reported by GET_INFO (R192). -/
def revision : Nat := 3
/-- Bytes of a pool page (R21). -/
def pageSize : Nat := 512
/-- Bytes of an image slot (R70). -/
def slotSize : Nat := 65536
/-- Bytes of a chunk header (R4). -/
def chunkHeaderSize : Nat := 10
/-- Bytes of a fragment header (R2). -/
def fragHeaderSize : Nat := 12
/-- Bytes of a block header (R1). -/
def blockHeaderSize : Nat := 16
/-- Bytes of a full fill buffer, and of a full chunk (R46). -/
def bufferSize : Nat := 4096
/-- Longest stored chunk that a reassembly record stores (R39). -/
def maxStored : Nat := 4106
/-- Chunk records in the chunk table (R28). -/
def chunkRecords : Nat := 1024
/-- FREE records that backup may not take (R31). -/
def recordReserve : Nat := 64
/-- Places of the ring unit's record buffer (R182). -/
def recordBuffer : Nat := 32
/-- Slots of the status ring (R181). -/
def statusSlots : Nat := 256
/-- Slots of the command ring (R181). -/
def commandSlots : Nat := 64
/-- Requests the move queue holds at most, and of those from commands (R148). -/
def queueMax : Nat := 10
def queueCommandMax : Nat := 8
/-- The interval between two tries of the EEPROM's device address, 8.192 ms (R168). -/
def eepromRetry : Nat := 8192
/-- Attempts at the EEPROM's device address (R168). -/
def eepromAttempts : Nat := 8
/-- What a byte of staging memory that nothing has written reads as.
DESIGN CHOICE (log entry 1; unsafe): the manual gives DRAM no contents before the first write. -/
def unwritten : Byte := 0

/-- A free value: a word that the manual does not state, drawn anew each time (log entry 10). -/
opaque freeWord : Nat → Word

end Sys2Proof.Config
end

