-- ==== Sys2Proof/Syntax.lean ====
section
/-! DEFINITION. The commands of the part: one constructor for each row of spec/opcode_table.json. A row is an access
taken at the system port, an answer of memory, a command record read from the command ring, an event of a sensor or
of the motion link, the expiry of a timer, or a step of one of the part's own engines. -/

namespace Sys2Proof

/-- A bus access at the system port (R172): where it starts, and its length or its bytes in lane order. -/
inductive Access where
  | read (addr : Addr) (len : Nat)
  | write (addr : Addr) (data : List Byte)
  deriving DecidableEq, Repr

/-- The sensor inputs of the loader (R131). `presence` covers the 24 storage slots and the mail slot. -/
inductive Sensor where
  | presence (loc : Fin 25)
  | bay (d : Drive)
  | gripper
  | door
  | latch (magazine : Fin 2)
  | button
  | power (d : Drive)
  deriving DecidableEq, Repr

/-- The value of a sensor input. A two-valued input is `off` or `on`: presence (EMPTY, FULL), gripper (empty, loaded),
door (closed, open), latch (unlatched, latched), button (released, pressed), power fault (clear, asserted). A bay
position input is `off` EMPTY, `mid` AT_MOUTH or `on` LOADED. -/
inductive Level where
  | off | mid | on
  deriving DecidableEq, Repr

/-- What a motion reply says (R141). -/
inductive Reply where
  | done | jam | noCartridge | blocked
  | label (text : List Byte)
  | noLabel
  deriving DecidableEq, Repr

/-- The two index words that the part writes (R181). -/
inductive IndexWord where
  | commandConsumer | statusProducer
  deriving DecidableEq, Repr

/-- The kinds of memory access of an assembler (R71): reads of a chunk's pool pages, and writes into the image. -/
inductive AsmAccess where
  | chunkRead | imageWrite
  deriving DecidableEq, Repr

/-- The commands of the part, in the order of spec/opcode_table.json. A constructor for a row of the command ring
carries the tag of the command record, the flags its rule names, and the parameter words its rule names (R6). An
`ok` operand is memory's answer: `true` for DONE, `false` for FAULT. -/
inductive Instr where
  | resetPin
  | eepromNoAckRetry (acked : Bool)
  | i2cClockTimeout
  | configHeaderRead (header : List Byte)
  | configImageRead (rest : List Byte)
  | malformedAccess (acc : Access)
  | forwardedAccess (acc : Access)
  | forwardedAnswer (ok : Bool)
  | commandProducerWrite
  | statusConsumerWrite
  | refusedAccess (acc : Access)
  | ingestWrite (addr : Addr) (data : List Byte)
  | ingestRead (addr : Addr) (len : Nat)
  | tapeOutRead (addr : Addr) (len : Nat)
  | imageReadAnswer (d : Drive) (ok : Bool)
  | tapeInWrite (addr : Addr) (data : List Byte)
  | readbackTimeout (d : Drive)
  | reassemblyWriteAnswer (d : Drive) (ok : Bool)
  | blockCommit (d : Drive)
  | blockDiscard (d : Drive)
  | restoreRead (addr : Addr) (len : Nat)
  | restoreStallTimeout (i : SessionId)
  | poolGrant
  | packCompletion
  | packWriteFault
  | packFaultReservationReturn
  | placementStart (d : Drive)
  | placementEnd (d : Drive)
  | closeEnd (d : Drive)
  | assemblerMemoryFault (d : Drive) (acc : AsmAccess)
  | drainTimerExpiry (d : Drive)
  | ageRelease (d : Drive)
  | decodeStart
  | decodeCompletion (readFault : Bool)
  | commandTake
  | commandSlotReadFault
  | unknownCommand (tag : Half) (kind : Byte)
  | statusRecordWriteAnswer (ok : Bool)
  | indexWordWriteAnswer (w : IndexWord) (ok : Bool)
  | snapshotWriteAnswer (ok : Bool)
  | openStream (tag : Half) (p0 p1 p2 p3 : Word)
  | suspendStream (tag : Half) (p0 : Word)
  | resumeStream (tag : Half) (p0 : Word)
  | endStream (tag : Half) (p0 : Word)
  | abortStream (tag : Half) (p0 : Word)
  | holdStream (tag : Half) (p0 : Word)
  | releaseStream (tag : Half) (p0 : Word)
  | setTargets (tag : Half) (p0 p1 : Word)
  | resetStreams (tag : Half)
  | setArbTable (tag : Half) (p0 p1 p2 p3 : Word)
  | mounted (tag : Half) (p0 p1 p2 p3 p4 p5 p6 p7 : Word)
  | setMode (tag : Half) (p0 p1 p2 p3 : Word)
  | flush (tag : Half) (p0 : Word)
  | earlyWarning (tag : Half) (p0 : Word)
  | endOfData (tag : Half) (p0 : Word)
  | unmount (tag : Half) (force : Bool) (p0 : Word)
  | cleanDone (tag : Half) (p0 : Word)
  | drivePower (tag : Half) (p0 p1 : Word)
  | resetChannel (tag : Half) (p0 : Word)
  | openRestore (tag : Half) (preempt cont : Bool) (p0 p1 p2 p3 p4 p5 : Word)
  | cancelRestore (tag : Half) (p0 : Word)
  | move (tag : Half) (force : Bool) (p0 p1 : Word)
  | exportCart (tag : Half) (force : Bool) (p0 : Word)
  | inventory (tag : Half) (p0 p1 : Word)
  | cancelMove (tag : Half) (p0 p1 : Word)
  | setScratch (tag : Half) (p0 p1 p2 p3 p4 p5 p6 : Word)
  | clean (tag : Half) (p0 : Word)
  | setCleanUses (tag : Half) (p0 p1 : Word)
  | doorLock (tag : Half)
  | doorUnlock (tag : Half)
  | recoverPicker (tag : Half)
  | resetLoader (tag : Half)
  | setParam (tag : Half) (p0 p1 : Word)
  | snapshot (tag : Half) (p0 p1 p2 : Word)
  | clearCounters (tag : Half) (p0 : Word)
  | getInfo (tag : Half)
  | rawSensorChange (sensor : Sensor) (value : Level)
  | sensorSettleExpiry (sensor : Sensor)
  | motionReply (number : Nat) (reply : Reply)
  | motionTimeout
  | mountTimeout (d : Drive)
  | ejectTimeout (d : Drive)
  | cleanTimeout (d : Drive)
  | eepromTransferNoAck
  deriving DecidableEq, Repr

end Sys2Proof
end

