-- ==== Sys2Proof/Machine/State.lean ====
section
/-! DEFINITION. The state of the part, as plain data, and its value after the reset pin. Each structure is one block of
the manual's block overview; a field that is the model's own is marked so. -/

namespace Sys2Proof.Machine

/-- Why a step stops with a fault. No meaning of this model faults: the manual gives every command an effect. -/
inductive Fault where
  deriving DecidableEq, Repr

/-- Why a step refuses. -/
inductive Refusal where
  /-- Raised by `exec` alone, for a command that has no meaning yet (none is left). Safe: nothing is claimed of it. -/
  | notModelled (mnemonic : String)
  deriving DecidableEq, Repr

/-! ## Memory (staging memory behind the memory port) -/

/-- Staging memory: address and byte pairs, addresses rising, no byte equal to what an unlisted address reads as. -/
abbrev Memory := List Host.Cell

/-! ## Codes of the records (R7, R8) -/

/-- Status record kinds (R7). -/
inductive RecordKind where
  | ready | commandDone | streamSuspended | streamEnded | streamAborted | poolHold | setVerified
  | channelFull | ejectReady | channelState | channelFailed | goBack | verifySummary
  | restoreEnd | restoreAwaitNext
  | moveEnd | locationChanged | labelRead | duplicateLabel | inventoryEnd | button | doorEvent | cleanEnd | powerFault
  | pickerFault | scratchEmpty
  | strayAccess | ringFault | snapshotDone
  deriving DecidableEq, Repr

/-- Causes (R8). -/
inductive Cause where
  | command | memory | writeError | mismatch | timeout | gap | check | drive | mountTimeout | ejectTimeout
  | unexpectedEject | magazineOpen | sourceEmpty | destFull | power | preempted | jam | noCartridge | blocked | doorOpen
  | noCleaner | reset | forced | picker
  deriving DecidableEq, Repr

/-- Outcomes (R8, R185). -/
inductive CmdOutcome where
  | done | accepted | doneClamped | refusedBusy | refusedState | badParam | unknownKind | cancelled
  | failed (c : Cause)
  deriving DecidableEq, Repr

/-- A status record (R7). -/
structure Record where
  kind : RecordKind
  byte1 : Byte := 0
  tag : Half := 0
  dropped : Half := 0
  subject : Half := 0
  e0 : Word := 0
  e1 : Word := 0
  e2 : Word := 0
  e3 : Word := 0
  e4 : Word := 0
  e5 : Word := 0
  deriving DecidableEq, Repr

/-! ## Path unit (chapter 9) -/

/-- Window kinds (R10). -/
inductive WindowKind where
  | plain | control | pool | ingest | tapeOut | tapeIn | restore
  deriving DecidableEq, Repr

/-- A window entry of the configuration image (R10). -/
structure Window where
  base : Nat
  size : Nat
  kind : WindowKind
  arg : Nat
  deriving DecidableEq, Repr

/-- The three answers to a bus access (R174); a read's DONE carries its bytes. -/
inductive Answer where
  | done (data : List Byte)
  | retry
  | fault
  deriving DecidableEq, Repr

/-- A forwarded access in the forwarded queue, with the index values it passes to the ring unit (R175). -/
structure Forwarded where
  acc : Access
  producer : Option Half
  consumer : Option Half
  deriving DecidableEq, Repr

/-- The engines whose jobs make accesses of which the manual gives neither the number nor the times: pack writes, the
assemblers' reads and writes, and unpack reads (R176, log entry 14). -/
inductive Engine where
  | pack
  | assembler (d : Drive)
  | unpack
  deriving DecidableEq, Repr

/-- A part-owned access of the part-owned queue (R176): an image read for sending, a burst of reassembly writes, the read
of the command slot of an index C, the write of the record at the buffer's head, an index word with its value, a
snapshot write, or an access of a job of an engine. -/
inductive Owned where
  | imageRead (d : Drive)
  | reassembly (d : Drive)
  | slotRead (c : Half)
  | statusWrite
  | commandIndex (v : Half)
  | statusIndex (v : Half)
  | snapshot
  | job (e : Engine)
  deriving DecidableEq, Repr

/-- The access that the port has issued to the DRAM controller (R176). -/
inductive Issued where
  | forwarded (f : Forwarded)
  | owned (o : Owned)
  deriving DecidableEq, Repr

/-- The two sides of the memory-port arbiter (R176). -/
inductive Side where
  | forwarded | owned
  deriving DecidableEq, Repr

/-- The memory port (R176): the forwarded queue, the part-owned queue, the access issued and not yet answered (DESIGN
CHOICE, log entry 6: one at a time), and the favoured side. -/
structure Port where
  fwdWait : List Forwarded := []
  ownWait : List Owned := []
  issued : Option Issued := none
  favoured : Side := .forwarded
  deriving DecidableEq, Repr

/-- Start-up states (R167). -/
inductive Startup where
  | loading | running | configFault
  deriving DecidableEq, Repr

/-- The counters of the path group, in the order of R180. -/
structure PathCounters where
  fwdReads : Counter := 0
  fwdWrites : Counter := 0
  fwdFaults : Counter := 0
  ownFaults : Counter := 0
  ringWriteFaults : Counter := 0
  malformed : Counter := 0
  refused : Counter := 0
  retries : Counter := 0
  partialIndex : Counter := 0
  strayIngest : Counter := 0
  strayRestore : Counter := 0
  deriving DecidableEq, Repr

/-- The path unit (R167 to R180). -/
structure Path where
  startup : Startup := .loading
  /-- Attempts made at the EEPROM's device address (R168), and when the last one was made. -/
  attempts : Nat := 1
  attemptTime : Nat := 0
  /-- The device address has been acknowledged. -/
  acked : Bool := false
  /-- The 8 header bytes of the image, once read. -/
  header : Option (List Byte) := none
  windows : List Window := []
  imageVersion : Half := 0
  paramEntries : Nat := 0
  /-- Layout values (R11), in units of 4 KiB and in pages; 0 until RUNNING. -/
  poolBase : Nat := 0
  poolPages : Nat := 0
  imageBase : Vector Nat 2 := Vector.replicate 2 0
  /-- Image area limits (R169). -/
  imageLimit : Vector Nat 2 := Vector.replicate 2 0
  port : Port := {}
  faultLine : Bool := false
  armedIngest : Bool := true
  armedRestore : Bool := true
  counters : PathCounters := {}
  /-- The answers the system port gave in the last event that answered an access. -/
  answers : List Answer := []
  deriving DecidableEq, Repr

/-! ## Ring unit (chapter 10) -/

/-- Intake states (R182). -/
inductive Intake where
  | stopped | idle | reading | blocked
  deriving DecidableEq, Repr

/-- The snapshot being written (R190): tag, page, destination, the sampled bytes, answers taken, any FAULT. -/
structure SnapshotJob where
  tag : Half
  page : Nat
  dest : Nat
  data : List Byte
  answered : Nat
  faulted : Bool
  deriving DecidableEq, Repr

/-- The counters of the ring group, in the order of R182. -/
structure RingCounters where
  taken : Counter := 0
  refused : Counter := 0
  failed : Counter := 0
  written : Counter := 0
  dropped : Counter := 0
  ringFaults : Counter := 0
  stallMs : Counter := 0
  deriving DecidableEq, Repr

/-- The ring unit (R182). `reserved` is the COMMAND_DONE reservation; `irq` is the interrupt line (R188); `stallMicros`
(the model's own) is the time BLOCKED that has not yet made a whole millisecond. -/
structure Ring where
  intake : Intake := .stopped
  c : Half := 0
  p : Half := 0
  s : Half := 0
  u : Half := 0
  buffer : List Record := []
  reserved : Bool := false
  d : Half := 0
  irq : Bool := false
  snapshot : Option SnapshotJob := none
  counters : RingCounters := {}
  stallMicros : Nat := 0
  deriving DecidableEq, Repr

/-! ## Parameters (10.4) -/

/-- The parameters, each at its built-in default until the configuration image is taken (10.4). -/
structure Params where
  poolHoldOn : Nat := 256
  poolHoldOff : Nat := 1024
  restoreReserve : Nat := 512
  imageCapacity : Vector Nat 2 := Vector.replicate 2 64
  regulatorBuffer : Vector Nat 2 := Vector.replicate 2 32
  drainInterval : Vector Nat 2 := Vector.replicate 2 200
  lowMark : Vector Nat 2 := Vector.replicate 2 4
  restartMark : Vector Nat 2 := Vector.replicate 2 8
  maxHold : Vector Nat 2 := Vector.replicate 2 2000
  verifyLimit : Vector Nat 2 := Vector.replicate 2 48
  rewriteLimit : Vector Nat 2 := Vector.replicate 2 3
  checkMode : Vector Nat 2 := Vector.replicate 2 1
  ewReserve : Vector Nat 2 := Vector.replicate 2 96
  cleaningInterval : Vector Nat 2 := Vector.replicate 2 0
  readbackTimeout : Nat := 9
  recoveryWindow : Nat := 130
  restoreStallTimeout : Nat := 12
  mountTimeout : Nat := 13
  motionTimeout : Nat := 10
  cleanTimeout : Nat := 14
  debounceSlot : Nat := 20
  debouncePanel : Nat := 50
  debounceBay : Nat := 30
  autoChangeover : Nat := 0
  autoInventory : Nat := 1
  cleanUsesNew : Nat := 50
  holdEnablePool : Nat := 1
  holdEnableVerify : Nat := 1
  deriving DecidableEq, Repr

/-! ## Pool unit (chapter 2) -/

/-- The role of a chunk record, with the stream tag of a BACKUP record and the owner of a reassembly record (R28). -/
inductive Role where
  | backup (tag : Tag)
  | restore (i : SessionId)
  | verify (d : Drive)
  deriving DecidableEq, Repr

/-- States of a chunk record in use (R29); a FREE record is one that the table does not list. -/
inductive RecState where
  | packing | packed | placing | reassembling | complete | decoding
  deriving DecidableEq, Repr

/-- A chunk record in use (R28). `form` is the form byte (R4). The last four fields are the model's own: the pages the
block in progress added, whether that block created the record, whether it brought the LAST fragment, and whether the
stream opening the record belongs to has been aborted. -/
structure ChunkRec where
  id : Nat
  role : Role
  setId : Word
  seq : Word
  origLen : Option Nat := none
  bodyLen : Option Nat := none
  form : Option Byte := none
  setend : Option Bool := none
  check : Option Word := none
  pages : List Nat := []
  state : RecState
  outstanding : Nat := 0
  committed : Nat := 0
  provisional : Nat := 0
  provPages : Nat := 0
  created : Bool := false
  lastIn : Bool := false
  orphan : Bool := false
  deriving DecidableEq, Repr

/-- The pool unit (R26 to R43). `hold` is the POOL hold; `waitMicros` (the model's own) is pool wait time that has not
yet made a whole millisecond. The chunk table lists the records in use, record numbers rising. -/
structure Pool where
  free : List Nat := []
  reservation : List Nat := []
  records : List ChunkRec := []
  hold : Bool := false
  lowMark : Nat := 0
  waits : Counter := 0
  waitMs : Counter := 0
  retries : Counter := 0
  holdTransitions : Counter := 0
  memFaults : Counter := 0
  waitMicros : Nat := 0
  deriving DecidableEq, Repr

/-! ## Stream table (chapter 3) and pack engine (1.5) -/

inductive StreamState where
  | closed | opened | suspending | suspended | ending
  deriving DecidableEq, Repr

inductive BufState where
  | empty | filling | ready | packing
  deriving DecidableEq, Repr

/-- A fill buffer (R46): its byte count is the length of `bytes`. -/
structure FillBuf where
  state : BufState := .empty
  bytes : List Byte := []
  seq : Word := 0
  setend : Bool := false
  discarded : Bool := false
  deriving DecidableEq, Repr

inductive BufId where
  | a | b
  deriving DecidableEq, Repr

/-- The target channels of a stream. -/
structure Targets where
  d0 : Bool := false
  d1 : Bool := false
  deriving DecidableEq, Repr

inductive Policy where
  | pack | store
  deriving DecidableEq, Repr

/-- A stream record (R44). `heldMicros` (the model's own) is held time that has not yet made a whole millisecond. -/
structure Stream where
  state : StreamState := .closed
  setId : Word := 0
  targets : Targets := {}
  policy : Policy := .pack
  ingest : Dword := 0
  nextSeq : Word := 0
  bufA : FillBuf := {}
  bufB : FillBuf := {}
  finalClose : Bool := false
  endTag : Option Half := none
  rawRun : Nat := 0
  skip : Nat := 0
  causeCommand : Bool := false
  causePreempt : Bool := false
  admin : Bool := false
  ingested : Counter := 0
  chunks : Counter := 0
  rawChunks : Counter := 0
  heldMs : Counter := 0
  heldMicros : Nat := 0
  deriving DecidableEq, Repr

inductive JobMode where
  | encode | copy
  deriving DecidableEq, Repr

/-- The pack job in the engine (R14): its input was fixed at pack start. -/
structure PackJob where
  tag : Tag
  buf : BufId
  setend : Bool
  mode : JobMode
  input : List Byte
  record : Nat
  discarded : Bool
  deriving DecidableEq, Repr

/-- The pack engine and the pack arbitration (R14, R31, R60). `job` present means BUSY. `draining` is the chunk record of
a job that a FAULT answer ended and whose writes are not all answered (R33). `hash` lists the hash table entries that
are not empty. -/
structure Pack where
  job : Option PackJob := none
  draining : Option Nat := none
  chosen : Option (Tag × BufId) := none
  waiting : Bool := false
  hash : List (Nat × Nat) := []
  table : Vector Tag 16 := Vector.ofFn fun i => ⟨i.val % 8, by omega⟩
  pendingTable : Option (Vector Tag 16) := none
  lastServed : Fin 16 := 15
  encoded : Counter := 0
  copied : Counter := 0
  discardedJobs : Counter := 0
  deriving DecidableEq, Repr

/-! ## Drive channels (chapters 4, 5 and 6) -/

/-- Channel states (R66). -/
inductive ChanState where
  | unmounted | mounting | idle | write | read | unmounting | ejectWait | failed
  deriving DecidableEq, Repr

/-- Mount values (R65). -/
structure Mount where
  size : Fin 4
  nextSeq : Word
  capacity : Word
  session : Word
  deriving DecidableEq, Repr

/-- States of an image that is not FREE (R70). -/
inductive ImageState where
  | assembling | queued | sending | verifyWait
  deriving DecidableEq, Repr

/-- An image record that is not FREE (R70). -/
structure Image where
  slot : Nat
  state : ImageState
  seq : Word
  openTime : Nat
  frags : Nat
  payload : Nat
  marks : List Word
  sends : Nat
  trailer : Word
  deriving DecidableEq, Repr

/-- Why an image closes, in the order of R89. -/
inductive CloseReason where
  | space | setEndLimit | flush | early | age | fullOrUnmount
  deriving DecidableEq, Repr

/-- The fragment being placed (R73): the chunk record, fragment number, LAST, and the part of the stored chunk. -/
structure Placement where
  record : Nat
  number : Nat
  last : Bool
  start : Nat
  len : Nat
  deriving DecidableEq, Repr

/-- What the assembler does (R65). -/
inductive Activity where
  | idle
  | placing (p : Placement)
  | closing (r : CloseReason)
  deriving DecidableEq, Repr

/-- A TAPE_OUT read whose image bytes are being read (R77): its length and where they lie; `live` while the send it
belongs to goes on. -/
structure SendRead where
  len : Nat
  slot : Nat
  offset : Nat
  live : Bool
  deriving DecidableEq, Repr

/-- The send cursor (R65). -/
structure Cursor where
  slot : Nat
  offset : Nat
  ghost : Bool
  deriving DecidableEq, Repr

inductive FullReason where
  | capacity | warning
  deriving DecidableEq, Repr

/-- The first-fault record (R87). -/
structure FirstFault where
  cause : Cause
  time : Nat
  seq : Word
  named : Bool
  header : List Byte
  deriving DecidableEq, Repr

/-- A verify-list entry (R90). -/
structure VerifyEntry where
  slot : Nat
  seq : Word
  crc : Word
  marks : List Word
  sends : Nat
  time : Nat
  deriving DecidableEq, Repr

/-- The reception cursor for readbacks (R94). -/
structure Readback where
  count : Nat := 0
  crc : Word := 0xFFFFFFFF
  header : List Byte := []
  trailer : List Byte := []
  deriving DecidableEq, Repr

/-- The position of the fragment walk (R3). -/
inductive Walk where
  | blockHeader
  | fragHeader (got : List Byte)
  | data (left : Nat)
  | finished
  deriving DecidableEq, Repr

/-- A fragment of interest or not, as the walk met it: its header, its place in the block, and the records of its
owners. -/
structure Frag where
  setId : Word
  seq : Word
  last : Bool
  number : Nat
  index : Nat
  records : List Nat
  deriving DecidableEq, Repr

/-- The requesters of the unpack engine, in circular order S0..S3, V0, V1 (R122); also the owners of reassembly records. -/
inductive Requester where
  | session (i : SessionId)
  | verify (d : Drive)
  deriving DecidableEq, Repr

/-- The block in progress in READ (R107). `owners` are those whose record for the fragment under the walk is still to be
created, `targets` the records that it is copied into; `frags` are the fragments met, in block order; `writes` counts the
reassembly writes not yet answered. -/
structure BlockRx where
  count : Nat := 0
  crc : Word := 0xFFFFFFFF
  header : List Byte := []
  trailer : List Byte := []
  bad : Bool := false
  walk : Walk := .blockHeader
  fragsLeft : Nat := 0
  owners : List Requester := []
  targets : List Nat := []
  frags : List Frag := []
  decision : Option Bool := none
  writes : Nat := 0
  deriving DecidableEq, Repr

/-- Reader tallies (R107). -/
structure Tallies where
  blocksRead : Counter := 0
  accepted : Counter := 0
  bad : Counter := 0
  duplicates : Counter := 0
  skipped : Counter := 0
  gaps : Counter := 0
  missed : Counter := 0
  chunksGood : Counter := 0
  chunksBad : Counter := 0
  unchecked : Counter := 0
  deriving DecidableEq, Repr

/-- The reader of a channel (R107). `staleWrites` (the model's own) counts the reassembly writes of discarded blocks that
memory has not answered yet. -/
structure Reader where
  running : Bool := false
  verify : Bool := false
  expected : Option Word := none
  recovering : Bool := false
  recoveryCount : Nat := 0
  rx : BlockRx := {}
  pendingVerify : Option Nat := none
  verifyQueue : List Nat := []
  tallies : Tallies := {}
  firstBad : Option Word := none
  staleWrites : Nat := 0
  deriving DecidableEq, Repr

/-- The counters of a channel (R89, R106, R158). -/
structure ChanCounters where
  sent : Counter := 0
  ghosts : Counter := 0
  resends : Counter := 0
  placed : Counter := 0
  split : Counter := 0
  closedSpace : Counter := 0
  closedSetEnd : Counter := 0
  closedFlush : Counter := 0
  closedEarly : Counter := 0
  closedAge : Counter := 0
  closedFull : Counter := 0
  saturations : Counter := 0
  stops : Counter := 0
  markRestarts : Counter := 0
  ageReleases : Counter := 0
  forcedRestarts : Counter := 0
  earlyCloses : Counter := 0
  shortReads : Counter := 0
  forcedUnmounts : Counter := 0
  verified : Counter := 0
  setsVerified : Counter := 0
  uncheckedSends : Counter := 0
  staleEmpty : Counter := 0
  staleDuplicate : Counter := 0
  staleWindow : Counter := 0
  damaged : Counter := 0
  mismatches : Counter := 0
  timeouts : Counter := 0
  goBacks : Counter := 0
  writeErrors : Counter := 0
  cutShort : Counter := 0
  unclaimed : Counter := 0
  deriving DecidableEq, Repr

/-- A drive channel (R65, R90, R107). `images` lists the images that are not FREE, in the order in which they were
opened. `abandoned` (the model's own) lists the activities abandoned while memory still owed them answers, oldest first:
the chunk of a placement, whose give-up waits for them (R34), or nothing for a close.
`waitingReads` (the model's own) are TAPE_OUT reads taken while `read` waits for memory. The readback timer runs while
`readbackTimer`; its deadline follows from the head of the verify list (R99). -/
structure Channel where
  state : ChanState := .unmounted
  mount : Option Mount := none
  images : List Image := []
  nextSlot : Nat := 0
  placeQueue : List Nat := []
  /-- The held chunk and the length of its fragment 0. -/
  held : Option (Nat × Nat) := none
  activity : Activity := .idle
  closeAsked : Option CloseReason := none
  abandoned : List (Option Nat) := []
  cursor : Option Cursor := none
  read : Option SendRead := none
  waitingReads : List Nat := []
  full : Option FullReason := none
  changeoverAsked : Bool := false
  running : Bool := false
  occupancy : Nat := 0
  drainTimer : Option Nat := none
  blocksMoved : Word := 0
  firstFault : Option FirstFault := none
  verifyList : List VerifyEntry := []
  stale : Option (Word × Word) := none
  readbackTimer : Bool := false
  checkPeriod : Bool := false
  readback : Readback := {}
  reader : Reader := {}
  mountTimer : Option Nat := none
  ejectTimer : Option Nat := none
  cleanTimer : Option Nat := none
  cleaningMark : Bool := false
  counters : ChanCounters := {}
  deriving DecidableEq, Repr

/-! ## Restore table (6.3) and unpack engine (1.7) -/

inductive SessionState where
  | free | waitMount | waitRead | active | awaitNext
  deriving DecidableEq, Repr

/-- An entry of a completed-chunk queue (R117, R121). -/
inductive QueueEntry where
  | chunk (record : Nat)
  | zero (first : Word) (count : Nat) (len : Nat) (setend : Bool)
  deriving DecidableEq, Repr

/-- A delivery buffer (R117): its byte count is the length of `bytes`. -/
structure Delivery where
  bytes : List Byte := []
  offset : Nat := 0
  setend : Bool := false
  lastChunk : Bool := false
  deriving DecidableEq, Repr

/-- A restore session (R117). `stall` is the time the stall timer was last started, while it runs (R126). `mountReq`
(the model's own) is the age stamp of the MOUNT that a WAIT_MOUNT session waits on. `link` is the preempt link: the
victim drive and the victim's cartridge, where it had one. -/
structure Session where
  state : SessionState := .free
  tag : Half := 0
  setId : Word := 0
  drive : Option Drive := none
  nextSeq : Word := 0
  lastSeq : Option Word := none
  cont : Bool := false
  pendingRec : Option Nat := none
  final : Bool := false
  queue : List QueueEntry := []
  buffer : Delivery := {}
  delivered : Dword := 0
  bytesDelivered : Counter := 0
  damaged : Counter := 0
  stall : Option Nat := none
  mountReq : Option Nat := none
  link : Option (Drive × Option Nat) := none
  deriving DecidableEq, Repr

/-- Decode outcomes (R22 to R24). -/
inductive DecodeOutcome where
  | good | headerBad | truncated | overrun | distanceBad | short | checkBad
  deriving DecidableEq, Repr

/-- The decode job in the unpack engine (R22). -/
structure DecodeJob where
  requester : Requester
  record : Nat
  headerBad : Bool
  discarded : Bool
  deriving DecidableEq, Repr

/-- The restore table, the unpack engine and its arbitration. `ends` counts DONE, FAILED, CANCELLED and AWAIT_NEXT. -/
structure Restore where
  sessions : Vector Session 4 := Vector.replicate 4 {}
  job : Option DecodeJob := none
  output : List Byte := []
  lastServed : Requester := .verify 1
  endsDone : Counter := 0
  endsFailed : Counter := 0
  endsCancelled : Counter := 0
  awaitNexts : Counter := 0
  deriving DecidableEq, Repr

/-! ## Loader unit (chapters 7 and 8) -/

/-- A sensor filter (R131), with the raw input pin it follows. -/
structure Filter where
  raw : Level := .off
  debounced : Level := .off
  candidate : Option Level := none
  deadline : Option Nat := none
  deriving DecidableEq, Repr

/-- Media kinds (R130). -/
inductive Media where
  | unknown | data | cleaning | expired
  deriving DecidableEq, Repr

/-- A cartridge record (R130). `uid` (the model's own) names the record while it moves. -/
structure Cart where
  uid : Nat
  label : Option (List Byte) := none
  uses : Nat := 0
  suspect : Bool := false
  home : Option (Fin 24) := none
  deriving DecidableEq, Repr

/-- What a location is reserved for (R150): a request, named by its age stamp, or the home of a cartridge record. -/
inductive Reservation where
  | request (stamp : Nat)
  | homeOf (uid : Nat)
  deriving DecidableEq, Repr

/-- Presence of a cartridge at a location (R129). -/
inductive Presence where
  | empty | full | unsure
  deriving DecidableEq, Repr

/-- A location record (R129); its presence is computed from its sensor filter. `expected` is the presence awaited:
`true` for FULL. -/
structure Location where
  cart : Option Cart := none
  expected : Option Bool := none
  reserved : Option Reservation := none
  deriving DecidableEq, Repr

/-- Picker states (R140). -/
inductive PickState where
  | homing | parked | travel | grip | release | scan | holding | faulted
  deriving DecidableEq, Repr

inductive PickPos where
  | home
  | loc (l : Loc)
  deriving DecidableEq, Repr

/-- Which step of a leg, a scan or a homing an order is (R142, R145). -/
inductive Stage where
  | home | toSource | grip | readLabel | toDest | release | visit | visitRead
  deriving DecidableEq, Repr

/-- A motion order (R141): its number, its step, its location and its deadline. `stray` says that an opening of the door
abandoned it, so that its reply is stray (R136). -/
structure Order where
  number : Nat
  stage : Stage
  loc : Option Loc
  deadline : Nat
  stray : Bool := false
  deriving DecidableEq, Repr

/-- Where homing sends a held cartridge (R145). -/
inductive HomeTo where
  | mail | legSource
  deriving DecidableEq, Repr

/-- The picker record (R140). `order` is the outstanding order; it is the order in flight while `inFlight`. -/
structure Picker where
  state : PickState := .homing
  pos : Option PickPos := none
  cart : Option Cart := none
  legSource : Option Loc := none
  active : Option Nat := none
  order : Option Order := none
  inFlight : Bool := false
  cut : Bool := false
  fault : Option Cause := none
  recovery : Option Half := none
  homeTo : HomeTo := .mail
  nextNumber : Nat := 1
  deriving DecidableEq, Repr

inductive MoveKind where
  | move | exportCart | importCart | mount | changeover | remount | clean | returnCart | inventory
  deriving DecidableEq, Repr

inductive WaitReason where
  | unsure | magazine | channel | cleaning | preempt
  deriving DecidableEq, Repr

inductive ReqState where
  | queued
  | waiting (r : WaitReason)
  | active
  deriving DecidableEq, Repr

/-- A move request (R148). `src` is absent for a RETURN (the picker) and for a CLEAN whose cleaner is not chosen.
`firstSrc`, `judged`, `drive`, `cart`, `recorded`, `blocked`, `marked` and `rewritten` are the model's own: the source of
the first leg once it has ended, the destination of the last leg judged, the drive a request is about, the cartridge
record it carries, a cause recorded for its end, the location a RETURN was blocked at, the mark of CANCEL_MOVE, and
whether a preempt has rewritten a MOUNT's legs. -/
structure Req where
  stamp : Nat
  id : Half
  internal : Bool
  kind : MoveKind
  src : Option Loc
  dst : Loc
  second : Option (Loc × Loc) := none
  force : Bool := false
  state : ReqState := .queued
  legsDone : Nat := 0
  pref : Option Drive := none
  preempt : Bool := false
  first : Nat := 0
  last : Nat := 0
  cursor : Nat := 0
  visits : Nat := 0
  labels : Nat := 0
  unlabelled : Nat := 0
  firstSrc : Option Loc := none
  judged : Option Loc := none
  drive : Option Drive := none
  cart : Option Nat := none
  recorded : Option Cause := none
  blocked : Option Loc := none
  marked : Bool := false
  rewritten : Bool := false
  deriving DecidableEq, Repr

/-- Phases of a preempt (R164). -/
inductive Phase where
  | draining | loading | restoring | remounting
  deriving DecidableEq, Repr

/-- The preempt record (R164). `unmountTaken` and `released` (the model's own) say that the victim's UNMOUNT has been
taken, and that the REMOUNT has released the victim's cartridge into the bay; `remount` (the model's own) is the age stamp
of the REMOUNT that this preempt has queued (R165). -/
structure Preempt where
  victim : Drive
  cart : Option Nat
  mount : Nat
  phase : Phase
  unmountTaken : Bool := false
  released : Bool := false
  remount : Option Nat := none
  deriving DecidableEq, Repr

/-- The counters of the loader group, in the orders of R147 and R166. -/
structure LoaderCounters where
  orders : Counter := 0
  jams : Counter := 0
  timeouts : Counter := 0
  protocolErrors : Counter := 0
  strayReplies : Counter := 0
  manualChanges : Counter := 0
  badLabels : Counter := 0
  duplicateLabels : Counter := 0
  presses : Counter := 0
  powerFaults : Counter := 0
  endedDone : Counter := 0
  endedFailed : Counter := 0
  endedCancelled : Counter := 0
  droppedReqs : Counter := 0
  displaced : Counter := 0
  preempts : Counter := 0
  changeovers : Counter := 0
  cleanings : Counter := 0
  deriving DecidableEq, Repr

/-- Index of a sensor input: 0..24 presence, 25 and 26 bay position, 27 gripper, 28 door, 29 and 30 latches, 31 button,
32 and 33 power faults. -/
abbrev SensorIx := Fin 34

/-- The loader unit (R129 to R166). `open_` tells the OPEN magazines; `nextUid` (the model's own) numbers cartridge
records. The raw pins after reset are DESIGN CHOICE (log entry 4): every place empty, magazines latched, door closed. -/
structure Loader where
  filters : Vector Filter 34 :=
    Vector.ofFn fun i => if i.val = 29 ∨ i.val = 30 then { raw := .on } else {}
  locs : Vector Location 27 := Vector.replicate 27 {}
  exportWaiting : Bool := false
  magOpen : Vector Bool 2 := Vector.replicate 2 false
  doorLockFlag : Bool := false
  lockOutput : Bool := false
  bayPower : Vector Bool 2 := Vector.replicate 2 false
  picker : Picker := {}
  queue : List Req := []
  nextId : Nat := 1
  nextStamp : Nat := 0
  scratch : List (Fin 24) := []
  cleaningDue : Vector Bool 2 := Vector.replicate 2 false
  noCleaner : Vector Bool 2 := Vector.replicate 2 false
  preempt : Option Preempt := none
  counters : LoaderCounters := {}
  nextUid : Nat := 0
  deriving DecidableEq, Repr

/-! ## The whole part -/

/-- The state of the part: the commands that wait, first in first out; staging memory; the timebase in microseconds;
and the ten blocks. `drawn` (the model's own) counts the free values drawn so far: where the manual states no value, the
part takes `Config.freeWord` of it. -/
structure State where
  pending : List Instr := []
  mem : Memory := []
  timebase : Nat := 0
  drawn : Nat := 0
  path : Path := {}
  ring : Ring := {}
  params : Params := {}
  pool : Pool := {}
  pack : Pack := {}
  streams : Vector Stream 8 := Vector.replicate 8 {}
  chans : Vector Channel 2 := Vector.replicate 2 {}
  restore : Restore := {}
  loader : Loader := {}
  deriving DecidableEq, Repr

/-- The part after the reset pin: LOADING, every block at the value its rule gives (R14, R22, R26, R28, R44, R60, R65,
R90, R107, R117, R129, R133, R140, R148, R161, R162, R164, R167, R182), memory with nothing listed. -/
def State.reset : State := {}

end Sys2Proof.Machine
end

