-- ==== Sys2Proof/WellFormed.lean ====
section
/-! DEFINITION. Which terms of Instr can occur: the shapes the manual gives the accesses, the sensor values, the
motion replies and the configuration image. Operand values that a command checks for itself (BAD_PARAM) are well
formed. -/

namespace Sys2Proof

/-- Where an access starts. -/
def Access.addr : Access → Addr
  | .read a _ => a
  | .write a _ => a

/-- How many bytes an access covers. -/
def Access.len : Access → Nat
  | .read _ n => n
  | .write _ ds => ds.length

/-- R172: 1 to 64 bytes that do not cross a 64-byte boundary. -/
def Access.shaped (a : Access) : Bool :=
  1 ≤ a.len && a.addr.toNat % 64 + a.len ≤ 64

/-- Only a bay position input has the middle value AT_MOUTH (R131). -/
def Sensor.takes : Sensor → Level → Bool
  | .bay _, _ => true
  | _, .mid => false
  | _, _ => true

/-- A LABEL reply carries 0 to 8 characters of text (R141). -/
def Reply.wf : Reply → Bool
  | .label t => t.length ≤ 8
  | _ => true

/-- The command kinds of R6. -/
def commandKinds : List Nat :=
  [0x10, 0x11, 0x12, 0x13, 0x14, 0x15, 0x16, 0x17, 0x18, 0x19, 0x20, 0x21, 0x22, 0x23, 0x24, 0x25, 0x26, 0x27, 0x28,
   0x30, 0x31, 0x40, 0x41, 0x42, 0x43, 0x44, 0x45, 0x46, 0x47, 0x48, 0x49, 0x4A, 0x50, 0x51, 0x52, 0x53]

/-- A term of Instr that can occur as a command of the part. -/
def Instr.wf : Instr → Bool
  | .configHeaderRead h => h.length == 8
  | .configImageRead rest => 4 ≤ rest.length && rest.length ≤ 2040
  | .malformedAccess a => !a.shaped
  | .forwardedAccess a => a.shaped
  | .refusedAccess a => a.shaped
  | .ingestWrite a ds => (Access.write a ds).shaped
  | .ingestRead a n => (Access.read a n).shaped
  | .tapeOutRead a n => (Access.read a n).shaped
  | .tapeInWrite a ds => (Access.write a ds).shaped
  | .restoreRead a n => (Access.read a n).shaped
  | .unknownCommand _ kind => !commandKinds.contains kind.toNat
  | .rawSensorChange sensor v => sensor.takes v
  | .motionReply n r => 1 ≤ n && n ≤ 255 && r.wf
  | _ => true

end Sys2Proof
end

