-- ==== Sys2Proof/Machine/Ops.lean ====
section
/-! DEFINITION. The operations every block shares: byte orders, CRC-32, sequence arithmetic, staging memory, the memory
port, status records, and the accessors of the blocks. -/

namespace Sys2Proof

/-- A counter stays at 4,294,967,295 (00_scope, Counters). -/
def Counter.add (c : Counter) (n : Nat) : Counter := BitVec.ofNat 32 (min (c.toNat + n) 4294967295)

namespace Machine

/-! ## Bytes and numbers -/

/-- The low `n` bytes of `v`, least significant first (00_scope, Byte order). -/
def leBytes : Nat → Nat → List Byte
  | 0, _ => []
  | n + 1, v => BitVec.ofNat 8 v :: leBytes n (v / 256)

/-- The number whose bytes these are, least significant first. -/
def ofLE : List Byte → Nat
  | [] => 0
  | b :: bs => b.toNat + 256 * ofLE bs

/-- The low `n` bytes of `v`, most significant first (R1, R2, R4). -/
def beBytes (n v : Nat) : List Byte := (leBytes n v).reverse

/-- The number whose bytes these are, most significant first. -/
def ofBE (bs : List Byte) : Nat := ofLE bs.reverse

/-- `n` as a 32-bit record word. -/
def w32 (n : Nat) : Word := BitVec.ofNat 32 n

/-- The part `[start, start + len)` of a byte string. -/
def slice (bs : List Byte) (start len : Nat) : List Byte := (bs.drop start).take len

/-- `bs` followed by zero bytes up to `n` bytes in all. -/
def padTo (n : Nat) (bs : List Byte) : List Byte := bs ++ List.replicate (n - bs.length) 0

/-- The quotient rounded up. -/
def ceilDiv (a b : Nat) : Nat := (a + b - 1) / b

/-- R5: `a` precedes `b` when (b − a) mod 2^32 lies in 1 .. 2^31 − 1. Two sequences exactly 2^31 apart neither precede nor
follow each other; what R111 leaves open there is settled by `Reader.classify` (DESIGN CHOICE, log entry 66). -/
def precedes (a b : Word) : Bool := 1 ≤ (b - a).toNat && (b - a).toNat < 2147483648

/-- R12: the time a timeout code gives, in microseconds. -/
def timeoutMicros (code : Nat) : Nat := 2 ^ (13 + code)

/-- A drive named by a parameter word, if it names one. -/
def driveOf (w : Word) : Option Drive := if h : w.toNat < 2 then some ⟨w.toNat, h⟩ else none

/-- A stream tag named by a parameter word, if it names one. -/
def tagOf (w : Word) : Option Tag := if h : w.toNat < 8 then some ⟨w.toNat, h⟩ else none

/-- A session named by a parameter word, if it names one. -/
def sessionOf (w : Word) : Option SessionId := if h : w.toNat < 4 then some ⟨w.toNat, h⟩ else none

/-- A location named by a parameter word, if it names one. -/
def locOf (w : Word) : Option Loc := if h : w.toNat < 27 then some ⟨w.toNat, h⟩ else none

/-- The location of a bay (R129). -/
def bayLoc (d : Drive) : Loc := ⟨25 + d.val, by omega⟩

/-- The mail slot (R129). -/
def mailLoc : Loc := 24

/-- The location of a storage slot. -/
def slotLoc (k : Fin 24) : Loc := ⟨k.val, by omega⟩

/-- The drive whose bay a location is. -/
def bayOf (l : Loc) : Option Drive := if h : 25 ≤ l.val then some ⟨l.val - 25, by omega⟩ else none

/-- The storage slot a location is. -/
def slotOf (l : Loc) : Option (Fin 24) := if h : l.val < 24 then some ⟨l.val, h⟩ else none

/-- The magazine of a storage slot: 0 left, 1 right (R129). -/
def magOf (l : Loc) : Option (Fin 2) := if l.val < 12 then some 0 else if l.val < 24 then some 1 else none

/-! ## CRC-32 (R13) -/

/-- One bit of the reflected CRC-32. -/
def crcBit (r : Word) : Word := if r.getLsbD 0 then (r >>> 1) ^^^ 0xEDB88320#32 else r >>> 1

/-- One byte, least significant bit first. -/
def crcByte (r : Word) (b : Byte) : Word :=
  crcBit (crcBit (crcBit (crcBit (crcBit (crcBit (crcBit (crcBit (r ^^^ b.setWidth 32))))))))

/-- The CRC register after some bytes. -/
def crcRun (r : Word) (bs : List Byte) : Word := bs.foldl crcByte r

/-- R13: the CRC-32 of a byte string. -/
def crc32 (bs : List Byte) : Word := ~~~ (crcRun 0xFFFFFFFF#32 bs)

/-! ## Staging memory -/

/-- One byte of memory. -/
def Memory.get (m : Memory) (a : Nat) : Byte :=
  match m with
  | [] => Config.unwritten
  | (x, b) :: rest => if x = a then b else Memory.get rest a

/-- The cells that a byte string starting at `a` lists. -/
def cellsOf (a : Nat) : List Byte → Memory
  | [] => []
  | b :: bs => if b = Config.unwritten then cellsOf (a + 1) bs else (a, b) :: cellsOf (a + 1) bs

/-- Memory with a byte string written from `a` upward. -/
def Memory.put (m : Memory) (a : Nat) (bs : List Byte) : Memory :=
  m.filter (fun c => c.1 < a) ++ (cellsOf a bs ++ m.filter (fun c => a + bs.length ≤ c.1))

/-- `n` bytes of memory from `a` upward. -/
def Memory.read (m : Memory) (a : Nat) : Nat → List Byte
  | 0 => []
  | n + 1 =>
    match m.dropWhile (fun c => c.1 < a) with
    | [] => List.replicate (n + 1) Config.unwritten
    | (x, b) :: rest =>
      if x = a then b :: Memory.read rest (a + 1) n
      else Config.unwritten :: Memory.read ((x, b) :: rest) (a + 1) n

/-- Addresses strictly rising from `lo`, and no byte equal to what an unlisted address reads as. -/
def Memory.wfFrom (lo : Nat) : Memory → Bool
  | [] => true
  | (x, b) :: rest => lo ≤ x && b != Config.unwritten && Memory.wfFrom (x + 1) rest

/-- The canonical form of memory. -/
def Memory.wf (m : Memory) : Bool := Memory.wfFrom 0 m

/-! ## Accessors of the blocks -/

def State.chan (s : State) (d : Drive) : Channel := s.chans[d]
def State.setChan (s : State) (d : Drive) (c : Channel) : State := { s with chans := s.chans.set d c }
def State.modChan (s : State) (d : Drive) (f : Channel → Channel) : State := s.setChan d (f (s.chan d))
def State.stream (s : State) (t : Tag) : Stream := s.streams[t]
def State.setStream (s : State) (t : Tag) (x : Stream) : State := { s with streams := s.streams.set t x }
def State.modStream (s : State) (t : Tag) (f : Stream → Stream) : State := s.setStream t (f (s.stream t))
def State.session (s : State) (i : SessionId) : Session := s.restore.sessions[i]
def State.setSession (s : State) (i : SessionId) (x : Session) : State :=
  { s with restore := { s.restore with sessions := s.restore.sessions.set i x } }
def State.modSession (s : State) (i : SessionId) (f : Session → Session) : State := s.setSession i (f (s.session i))
def State.loc (s : State) (l : Loc) : Location := s.loader.locs[l]
def State.setLoc (s : State) (l : Loc) (x : Location) : State :=
  { s with loader := { s.loader with locs := s.loader.locs.set l x } }
def State.modLoc (s : State) (l : Loc) (f : Location → Location) : State := s.setLoc l (f (s.loc l))
def State.modPath (s : State) (f : Path → Path) : State := { s with path := f s.path }
def State.modRing (s : State) (f : Ring → Ring) : State := { s with ring := f s.ring }
def State.modPool (s : State) (f : Pool → Pool) : State := { s with pool := f s.pool }
def State.modPack (s : State) (f : Pack → Pack) : State := { s with pack := f s.pack }
def State.modRestore (s : State) (f : Restore → Restore) : State := { s with restore := f s.restore }
def State.modLoader (s : State) (f : Loader → Loader) : State := { s with loader := f s.loader }
def State.picker (s : State) : Picker := s.loader.picker
def State.modPicker (s : State) (f : Picker → Picker) : State :=
  s.modLoader fun l => { l with picker := f l.picker }
def State.countPath (s : State) (f : PathCounters → PathCounters) : State :=
  s.modPath fun p => { p with counters := f p.counters }
def State.countRing (s : State) (f : RingCounters → RingCounters) : State :=
  s.modRing fun r => { r with counters := f r.counters }
def State.countLoader (s : State) (f : LoaderCounters → LoaderCounters) : State :=
  s.modLoader fun l => { l with counters := f l.counters }
def State.countChan (s : State) (d : Drive) (f : ChanCounters → ChanCounters) : State :=
  s.modChan d fun c => { c with counters := f c.counters }
def State.setMem (s : State) (m : Memory) : State := { s with mem := m }
/-- Bytes written to staging memory. -/
def State.poke (s : State) (a : Nat) (bs : List Byte) : State := s.setMem (s.mem.put a bs)
/-- Bytes read from staging memory. -/
def State.peek (s : State) (a n : Nat) : List Byte := s.mem.read a n
/-- The part is RUNNING (R167). -/
def State.running (s : State) : Bool := s.path.startup == .running

/-- A free value, where the manual states none (log entry 10). -/
def State.freeWord (s : State) : Word := Config.freeWord s.drawn
/-- The next free value is a fresh one. -/
def State.draw (s : State) : State := { s with drawn := s.drawn + 1 }

/-- Apply an update for each element of a list, in order. -/
def forEach {α : Type} (xs : List α) (f : α → State → State) (s : State) : State := xs.foldl (fun t x => f x t) s

/-- The drives, tags and sessions in ascending order. -/
def allDrives : List Drive := [0, 1]
def allTags : List Tag := [0, 1, 2, 3, 4, 5, 6, 7]
def allSessions : List SessionId := [0, 1, 2, 3]
def allSlots : List (Fin 24) := List.ofFn fun i : Fin 24 => i
def allLocs : List Loc := List.ofFn fun i : Fin 27 => i

/-! ## Codes -/

/-- R7: the record kinds. -/
def RecordKind.code : RecordKind → Byte
  | .ready => 0x01 | .commandDone => 0x02 | .streamSuspended => 0x10 | .streamEnded => 0x11 | .streamAborted => 0x12
  | .poolHold => 0x13 | .setVerified => 0x14 | .channelFull => 0x20 | .ejectReady => 0x21 | .channelState => 0x22
  | .channelFailed => 0x23 | .goBack => 0x24 | .verifySummary => 0x25 | .restoreEnd => 0x30 | .restoreAwaitNext => 0x31
  | .moveEnd => 0x40 | .locationChanged => 0x41 | .labelRead => 0x42 | .duplicateLabel => 0x43 | .inventoryEnd => 0x44
  | .button => 0x45 | .doorEvent => 0x46 | .cleanEnd => 0x47 | .powerFault => 0x48 | .pickerFault => 0x49
  | .scratchEmpty => 0x4A | .strayAccess => 0x50 | .ringFault => 0x51 | .snapshotDone => 0x52

/-- R8: the causes. -/
def Cause.code : Cause → Nat
  | .command => 0x01 | .memory => 0x02 | .writeError => 0x03 | .mismatch => 0x04 | .timeout => 0x05 | .gap => 0x06
  | .check => 0x07 | .drive => 0x08 | .mountTimeout => 0x09 | .ejectTimeout => 0x0A | .unexpectedEject => 0x0B
  | .magazineOpen => 0x0C | .sourceEmpty => 0x0D | .destFull => 0x0E | .power => 0x0F | .preempted => 0x10
  | .jam => 0x11 | .noCartridge => 0x12 | .blocked => 0x13 | .doorOpen => 0x14 | .noCleaner => 0x15 | .reset => 0x16
  | .forced => 0x17 | .picker => 0x18

/-- R8: the outcomes. -/
def CmdOutcome.code : CmdOutcome → Byte
  | .done => 0x00 | .accepted => 0x01 | .doneClamped => 0x02 | .refusedBusy => 0x10 | .refusedState => 0x11
  | .badParam => 0x12 | .unknownKind => 0x13 | .cancelled => 0x20 | .failed _ => 0x21

/-- The cause that E0 holds with an outcome, 0 unless it is FAILED (R8). -/
def CmdOutcome.cause : CmdOutcome → Word
  | .failed c => w32 c.code
  | _ => 0

/-- Byte 1 of a record that reports a cause (R8). -/
def Cause.byte (c : Cause) : Byte := BitVec.ofNat 8 c.code

/-- R7: the 32 bytes of a status record. -/
def Record.frame (r : Record) : List Byte :=
  [r.kind.code, r.byte1] ++ leBytes 2 r.tag.toNat ++ leBytes 2 r.dropped.toNat ++ leBytes 2 r.subject.toNat
    ++ leBytes 4 r.e0.toNat ++ leBytes 4 r.e1.toNat ++ leBytes 4 r.e2.toNat ++ leBytes 4 r.e3.toNat
    ++ leBytes 4 r.e4.toNat ++ leBytes 4 r.e5.toNat

/-- The low and the high word of a 64-bit count. -/
def lowWord (d : Dword) : Word := d.setWidth 32
def highWord (d : Dword) : Word := (d >>> 32).setWidth 32

/-! ## The memory port (R176) -/

/-- R176: while memory owes no answer, the arbiter issues one access. With both queues holding one it is the head of the
favoured queue, and the favour passes; with one alone it is that queue's head, and the favour stays. -/
def Port.issue (p : Port) : Port :=
  match p.issued, p.fwdWait, p.ownWait with
  | none, f :: fs, o :: os =>
    match p.favoured with
    | .forwarded => { p with fwdWait := fs, issued := some (.forwarded f), favoured := .owned }
    | .owned => { p with ownWait := os, issued := some (.owned o), favoured := .forwarded }
  | none, f :: fs, [] => { p with fwdWait := fs, issued := some (.forwarded f) }
  | none, [], o :: os => { p with ownWait := os, issued := some (.owned o) }
  | _, _, _ => p

/-- A forwarded access joins the forwarded queue. -/
def Port.joinForwarded (p : Port) (f : Forwarded) : Port := Port.issue { p with fwdWait := p.fwdWait ++ [f] }

/-- A part-owned access joins the part-owned queue. -/
def Port.joinOwned (p : Port) (o : Owned) : Port := Port.issue { p with ownWait := p.ownWait ++ [o] }

/-- Memory has answered the access issued, and the arbiter issues the next. -/
def Port.answered (p : Port) : Port := Port.issue { p with issued := none }

/-- The access issued is one of a job of an engine. -/
def Port.jobIssued (p : Port) : Option Engine :=
  match p.issued with
  | some (.owned (.job e)) => some e
  | _ => none

/-- Memory has answered an access of a job that has more of them: the engine's next one joins the part-owned queue, and the
arbiter issues the next access (log entry 14). -/
def Port.passJob (p : Port) : Port :=
  match p.jobIssued with
  | some e => Port.issue { p with issued := none, ownWait := p.ownWait ++ [.job e] }
  | none => p

/-- Memory's DONE answers to accesses of jobs that have more of them, until the access issued is one that is wanted. No row
of the table stands for such an answer, and it changes nothing but the port (log entry 14). The first argument bounds them. -/
def Port.passJobs (want : Issued → Bool) : Nat → Port → Port
  | 0, p => p
  | n + 1, p =>
    if p.issued.any want || p.jobIssued.isNone then p else Port.passJobs want n p.passJob

/-- The port when memory comes to the next access that is wanted, if accesses of jobs alone stand before it. Each of those in
the queue passes at most once before it comes round again. -/
def Port.upTo (want : Issued → Bool) (p : Port) : Port := Port.passJobs want (p.ownWait.length + 2) p

/-- Whether an access issued is a certain part-owned one. -/
def Issued.isOwned (o : Owned) (x : Issued) : Bool := x == .owned o

/-- Whether an access issued is a forwarded one. -/
def Issued.isForwarded : Issued → Bool
  | .forwarded _ => true
  | .owned _ => false

def State.modPort (s : State) (f : Port → Port) : State := s.modPath fun p => { p with port := f p.port }

/-- A block issues a part-owned access. Where one event lets several blocks issue accesses, which R176 lets join in either order,
they join in the order of the event's steps (DESIGN CHOICE, log entry 96). -/
def State.issue (s : State) (o : Owned) : State := s.modPort fun p => p.joinOwned o

/-- Memory's next answer can be the one to this part-owned access: it is the access issued, or stands behind accesses of
jobs alone. -/
def State.owes (s : State) (o : Owned) : Bool := (s.path.port.upTo (Issued.isOwned o)).issued == some (.owned o)

/-- Memory's answer takes this part-owned access off the port. -/
def State.answered (s : State) (o : Owned) : State := s.modPort fun p => (p.upTo (Issued.isOwned o)).answered

/-- A job of an engine begins its accesses. One of them stands in the part-owned queue or is issued, until the last one is
answered (log entry 14). -/
def State.startJob (s : State) (e : Engine) : State := s.issue (.job e)

/-- Memory's next answer can be one to an access of this engine's job. -/
def State.hasJob (s : State) (e : Engine) : Bool := s.owes (.job e)

/-- Memory has answered the last access of an engine's oldest job. -/
def State.endJob (s : State) (e : Engine) : State := s.answered (.job e)

/-- Memory has answered an access of an engine's job, and the job's accesses go on. -/
def State.passJob (s : State) (e : Engine) : State := s.modPort fun p => (p.upTo (Issued.isOwned (.job e))).passJob

/-- A FAULT answer on a part-owned access raises the part-owned faults counter (R177). -/
def State.ownFault (s : State) : State := s.countPath fun c => { c with ownFaults := c.ownFaults.add 1 }

/-- A FAULT answer on one of the pool's accesses raises the memory faults counter as well (R41). -/
def State.poolFault (s : State) : State :=
  s.ownFault.modPool fun p => { p with memFaults := p.memFaults.add 1 }

/-- The answers the system port gives in this event (R174); an answer RETRY is counted (R180). -/
def State.answer (s : State) (as : List Answer) : State :=
  (s.modPath fun p => { p with answers := as }).countPath fun c =>
    { c with retries := c.retries.add (as.filter (· == .retry)).length }

/-! ## Status records (R186) -/

/-- Free places of the status ring beyond the records in the buffer (R186). -/
def Ring.freePlaces (r : Ring) : Nat := Config.statusSlots - (r.s - r.u).toNat - r.buffer.length

/-- A place is free in the ring and in the buffer beyond the COMMAND_DONE reservation (R186). -/
def Ring.room (r : Ring) : Bool :=
  let held := if r.reserved then 1 else 0
  held < r.freePlaces && held + r.buffer.length < Config.recordBuffer

/-- A record joins the buffer: it takes D, and D becomes 0 (R186); the write of the buffer's head is issued when no
other record is being written (R187). -/
def State.joinBuffer (s : State) (r : Record) : State :=
  let t := s.modRing fun g => { g with buffer := g.buffer ++ [{ r with dropped := g.d }], d := 0 }
  if s.ring.buffer.isEmpty then t.issue .statusWrite else t

/-- A 16-bit count that stops at 65,535 (R186). -/
def bumpHalf (d : Half) : Half := if d = 65535 then d else d + 1

/-- R186: an event record joins the buffer, or is dropped and counted. -/
def State.emit (s : State) (r : Record) : State :=
  if s.ring.room then s.joinBuffer r
  else s.modRing fun g =>
    { g with d := bumpHalf g.d, counters := { g.counters with dropped := g.counters.dropped.add 1 } }

/-- R184: the intake's test while no command is in progress. When a command waits and a place can be reserved, the
command is taken: the place is reserved, and the read of its slot is issued. When a command waits and no place can be
reserved, the intake is BLOCKED. -/
def State.intakeTest (s : State) : State :=
  match s.ring.intake with
  | .idle | .blocked =>
    if s.ring.p = s.ring.c then s.modRing fun g => { g with intake := .idle }
    else if s.ring.room then
      (s.modRing fun g => { g with intake := .reading, reserved := true }).issue (.slotRead s.ring.c)
    else s.modRing fun g => { g with intake := .blocked }
  | _ => s

/-- R185: the outcomes that count as refused; the owner of such a command is unchanged. -/
def CmdOutcome.refused : CmdOutcome → Bool
  | .refusedBusy | .refusedState | .badParam | .unknownKind => true
  | _ => false

/-- Results E2 to E5 of a COMMAND_DONE (R185). -/
structure Results where
  e2 : Word := 0
  e3 : Word := 0
  e4 : Word := 0
  e5 : Word := 0
  deriving DecidableEq, Repr

/-- R184, R185: the command that the intake read ends. C advances and is written to the command consumer word, the
COMMAND_DONE is produced in its reserved place, and the intake takes the next command at once, if one waits.
`extra` is E0 where the outcome is UNKNOWN_KIND. -/
def State.endCommand (s : State) (kind : Nat) (tag : Half) (o : CmdOutcome) (r : Results) (extra : Word) : State :=
  let done : Record :=
    { kind := .commandDone, byte1 := o.code, tag := tag, subject := BitVec.ofNat 16 kind,
      e0 := if o = .unknownKind then extra else o.cause,
      e1 := s.ring.c.setWidth 32, e2 := r.e2, e3 := r.e3, e4 := r.e4, e5 := r.e5 }
  let t := s.modRing fun g =>
    { g with
      c := g.c + 1, intake := .idle
      counters := { g.counters with
        taken := g.counters.taken.add 1
        refused := g.counters.refused.add o.refused.toNat
        failed := g.counters.failed.add (match o with | .failed _ => 1 | _ => 0) } }
  let t := (t.issue (.commandIndex t.ring.c)).joinBuffer done
  (t.modRing fun g => { g with reserved := false }).intakeTest

/-- What a command's own rule gives: the state it leaves, its outcome and its results. -/
structure Effect where
  state : State
  outcome : CmdOutcome
  results : Results := {}

/-- A command turned away changes nothing in its owner (R185). -/
def State.turnAway (s : State) (o : CmdOutcome) : Effect := { state := s, outcome := o }

/-- A command that completes with DONE. -/
def State.ok (s : State) : Effect := { state := s, outcome := .done }

end Machine

end Sys2Proof
end

