-- ==== Sys2Proof/Decode.lean ====
section
/-! DEFINITION. Command words. The command table gives no row any bits, so no word spells a command by it; the records of
the command ring (R6) are the part's only coded commands. -/

namespace Sys2Proof

/-- The command that a word spells by the table's bits. No row of the table gives bits. -/
def decodeTableWord (_nbits _w : Nat) : Option Instr := none

namespace Machine

/-! ## Command records (R6) -/

/-- The fields of a command record. -/
structure CommandRecord where
  kind : Byte
  flags : Byte
  tag : Half
  params : List Word
  deriving DecidableEq, Repr

/-- Parameter word k. -/
def CommandRecord.p (r : CommandRecord) (k : Nat) : Word := r.params.getD k 0

/-- R6: the 32-bit words of a byte string, `n` of them. -/
def wordsOf : Nat → List Byte → List Word
  | 0, _ => []
  | n + 1, bs => w32 (ofLE (bs.take 4)) :: wordsOf n (bs.drop 4)

/-- R6: the fields of a 64-byte frame. -/
def readRecord (bs : List Byte) : CommandRecord :=
  { kind := bs.getD 0 0, flags := bs.getD 1 0, tag := BitVec.ofNat 16 (ofLE (slice bs 2 2))
    params := wordsOf 15 (bs.drop 4) }

/-- R6: the command of a record, its flags and parameter words as its rule names them; a kind that R6 does not list is
UNKNOWN_COMMAND. -/
def CommandRecord.command (r : CommandRecord) : Instr :=
  let p := r.p
  let force := r.flags.getLsbD 0
  match r.kind.toNat with
  | 0x10 => .openStream r.tag (p 0) (p 1) (p 2) (p 3)
  | 0x11 => .suspendStream r.tag (p 0)
  | 0x12 => .resumeStream r.tag (p 0)
  | 0x13 => .endStream r.tag (p 0)
  | 0x14 => .abortStream r.tag (p 0)
  | 0x15 => .holdStream r.tag (p 0)
  | 0x16 => .releaseStream r.tag (p 0)
  | 0x17 => .setTargets r.tag (p 0) (p 1)
  | 0x18 => .resetStreams r.tag
  | 0x19 => .setArbTable r.tag (p 0) (p 1) (p 2) (p 3)
  | 0x20 => .mounted r.tag (p 0) (p 1) (p 2) (p 3) (p 4) (p 5) (p 6) (p 7)
  | 0x21 => .setMode r.tag (p 0) (p 1) (p 2) (p 3)
  | 0x22 => .flush r.tag (p 0)
  | 0x23 => .earlyWarning r.tag (p 0)
  | 0x24 => .endOfData r.tag (p 0)
  | 0x25 => .unmount r.tag force (p 0)
  | 0x26 => .cleanDone r.tag (p 0)
  | 0x27 => .drivePower r.tag (p 0) (p 1)
  | 0x28 => .resetChannel r.tag (p 0)
  | 0x30 => .openRestore r.tag (r.flags.getLsbD 1) (r.flags.getLsbD 2) (p 0) (p 1) (p 2) (p 3) (p 4) (p 5)
  | 0x31 => .cancelRestore r.tag (p 0)
  | 0x40 => .move r.tag force (p 0) (p 1)
  | 0x41 => .exportCart r.tag force (p 0)
  | 0x42 => .inventory r.tag (p 0) (p 1)
  | 0x43 => .cancelMove r.tag (p 0) (p 1)
  | 0x44 => .setScratch r.tag (p 0) (p 1) (p 2) (p 3) (p 4) (p 5) (p 6)
  | 0x45 => .clean r.tag (p 0)
  | 0x46 => .setCleanUses r.tag (p 0) (p 1)
  | 0x47 => .doorLock r.tag
  | 0x48 => .doorUnlock r.tag
  | 0x49 => .recoverPicker r.tag
  | 0x4A => .resetLoader r.tag
  | 0x50 => .setParam r.tag (p 0) (p 1)
  | 0x51 => .snapshot r.tag (p 0) (p 1) (p 2)
  | 0x52 => .clearCounters r.tag (p 0)
  | 0x53 => .getInfo r.tag
  | _ => .unknownCommand r.tag r.kind

/-- R6: the command that a 64-byte frame of the command ring holds. -/
def decodeCommandRecord (bs : List Byte) : Instr := (readRecord bs).command

/-- A record of a kind, a tag, flags and its first parameter words. -/
def recordOf (kind flags : Nat) (tag : Half) (params : List Word) : Option CommandRecord :=
  some { kind := BitVec.ofNat 8 kind, flags := BitVec.ofNat 8 flags, tag := tag, params := params }

/-- R6: the record that asks a command of the command ring; the other rows of the table have none. -/
def encodeCommand : Instr → Option CommandRecord
  | .openStream t p0 p1 p2 p3 => recordOf 0x10 0 t [p0, p1, p2, p3]
  | .suspendStream t p0 => recordOf 0x11 0 t [p0]
  | .resumeStream t p0 => recordOf 0x12 0 t [p0]
  | .endStream t p0 => recordOf 0x13 0 t [p0]
  | .abortStream t p0 => recordOf 0x14 0 t [p0]
  | .holdStream t p0 => recordOf 0x15 0 t [p0]
  | .releaseStream t p0 => recordOf 0x16 0 t [p0]
  | .setTargets t p0 p1 => recordOf 0x17 0 t [p0, p1]
  | .resetStreams t => recordOf 0x18 0 t []
  | .setArbTable t p0 p1 p2 p3 => recordOf 0x19 0 t [p0, p1, p2, p3]
  | .mounted t p0 p1 p2 p3 p4 p5 p6 p7 => recordOf 0x20 0 t [p0, p1, p2, p3, p4, p5, p6, p7]
  | .setMode t p0 p1 p2 p3 => recordOf 0x21 0 t [p0, p1, p2, p3]
  | .flush t p0 => recordOf 0x22 0 t [p0]
  | .earlyWarning t p0 => recordOf 0x23 0 t [p0]
  | .endOfData t p0 => recordOf 0x24 0 t [p0]
  | .unmount t force p0 => recordOf 0x25 force.toNat t [p0]
  | .cleanDone t p0 => recordOf 0x26 0 t [p0]
  | .drivePower t p0 p1 => recordOf 0x27 0 t [p0, p1]
  | .resetChannel t p0 => recordOf 0x28 0 t [p0]
  | .openRestore t preempt cont p0 p1 p2 p3 p4 p5 =>
    recordOf 0x30 (2 * preempt.toNat + 4 * cont.toNat) t [p0, p1, p2, p3, p4, p5]
  | .cancelRestore t p0 => recordOf 0x31 0 t [p0]
  | .move t force p0 p1 => recordOf 0x40 force.toNat t [p0, p1]
  | .exportCart t force p0 => recordOf 0x41 force.toNat t [p0]
  | .inventory t p0 p1 => recordOf 0x42 0 t [p0, p1]
  | .cancelMove t p0 p1 => recordOf 0x43 0 t [p0, p1]
  | .setScratch t p0 p1 p2 p3 p4 p5 p6 => recordOf 0x44 0 t [p0, p1, p2, p3, p4, p5, p6]
  | .clean t p0 => recordOf 0x45 0 t [p0]
  | .setCleanUses t p0 p1 => recordOf 0x46 0 t [p0, p1]
  | .doorLock t => recordOf 0x47 0 t []
  | .doorUnlock t => recordOf 0x48 0 t []
  | .recoverPicker t => recordOf 0x49 0 t []
  | .resetLoader t => recordOf 0x4A 0 t []
  | .setParam t p0 p1 => recordOf 0x50 0 t [p0, p1]
  | .snapshot t p0 p1 p2 => recordOf 0x51 0 t [p0, p1, p2]
  | .clearCounters t p0 => recordOf 0x52 0 t [p0]
  | .getInfo t => recordOf 0x53 0 t []
  | .unknownCommand t kind => if commandKinds.contains kind.toNat then none else recordOf kind.toNat 0 t []
  | .resetPin | .eepromNoAckRetry _ | .i2cClockTimeout | .configHeaderRead _ | .configImageRead _ | .malformedAccess _
  | .forwardedAccess _ | .forwardedAnswer _ | .commandProducerWrite | .statusConsumerWrite | .refusedAccess _
  | .ingestWrite _ _ | .ingestRead _ _ | .tapeOutRead _ _ | .imageReadAnswer _ _ | .tapeInWrite _ _
  | .readbackTimeout _ | .reassemblyWriteAnswer _ _ | .blockCommit _ | .blockDiscard _ | .restoreRead _ _
  | .restoreStallTimeout _ | .poolGrant | .packCompletion | .packWriteFault | .packFaultReservationReturn
  | .placementStart _ | .placementEnd _ | .closeEnd _ | .assemblerMemoryFault _ _ | .drainTimerExpiry _ | .ageRelease _
  | .decodeStart | .decodeCompletion _ | .commandTake | .commandSlotReadFault | .statusRecordWriteAnswer _
  | .indexWordWriteAnswer _ _ | .snapshotWriteAnswer _ | .rawSensorChange _ _ | .sensorSettleExpiry _ | .motionReply _ _
  | .motionTimeout | .mountTimeout _ | .ejectTimeout _ | .cleanTimeout _ | .eepromTransferNoAck => none

/-- R6: the 64 bytes of a record; the parameter words that it does not give are 0. -/
def CommandRecord.frame (r : CommandRecord) : List Byte :=
  padTo 64 ([r.kind, r.flags] ++ leBytes 2 r.tag.toNat ++ r.params.flatMap fun w => leBytes 4 w.toNat)

end Machine

end Sys2Proof
end

