-- ==== Sys2Proof/Machine/Flags.lean ====
section
/-! DEFINITION. The conditions the blocks compute from the state: presence, media kinds, hold causes, indicators, the door
lock condition, usable pages, and the passage of time. -/

namespace Sys2Proof.Machine

/-! ## Sensors and locations (R129, R131) -/

/-- The index of a sensor's filter. -/
def sensorIx : Sensor → SensorIx
  | .presence l => ⟨l.val, by omega⟩
  | .bay d => ⟨25 + d.val, by omega⟩
  | .gripper => 27
  | .door => 28
  | .latch m => ⟨29 + m.val, by omega⟩
  | .button => 31
  | .power d => ⟨32 + d.val, by omega⟩

def State.filter (s : State) (x : Sensor) : Filter := s.loader.filters[sensorIx x]
def State.setFilter (s : State) (x : Sensor) (f : Filter) : State :=
  s.modLoader fun l => { l with filters := l.filters.set (sensorIx x) f }

/-- The sensor that shows a location's presence. -/
def presenceSensor (l : Loc) : Sensor := if h : l.val < 25 then .presence ⟨l.val, h⟩ else .bay ⟨l.val - 25, by omega⟩

/-- R131: the presence a filter shows; only a change of emptiness makes a bay UNSURE. -/
def Filter.presence (f : Filter) : Presence :=
  match f.candidate with
  | some c => if (c == .off) != (f.debounced == .off) then .unsure else if f.debounced = .off then .empty else .full
  | none => if f.debounced = .off then .empty else .full

/-- The presence of a location (R129, R131). -/
def State.presence (s : State) (l : Loc) : Presence := (s.filter (presenceSensor l)).presence

/-- The debounced position of the cartridge in a bay (R129). -/
def State.bayPos (s : State) (d : Drive) : Level := (s.filter (.bay d)).debounced

/-- The debounced door is open. -/
def State.doorOpen (s : State) : Bool := (s.filter .door).debounced == .on

/-- A location is a storage slot of an OPEN magazine (R133). -/
def State.inOpenMagazine (s : State) (l : Loc) : Bool :=
  match magOf l with
  | some m => s.loader.magOpen[m]
  | none => false

/-! ## Cartridges (R130) -/

/-- R130: the media kind follows from the label and the uses. -/
def Cart.media (c : Cart) : Media :=
  match c.label with
  | none => .unknown
  | some t =>
    match t.getLast? with
    | some ch => if ch = 0x44 then .data else if ch = 0x43 then (if c.uses = 0 then .expired else .cleaning) else .unknown
    | none => .unknown

/-- A fresh cartridge record (R129). -/
def freshCart (uid : Nat) : Cart := { uid := uid }

/-- The cartridge record in a bay. -/
def State.bayCart (s : State) (d : Drive) : Option Cart := (s.loc (bayLoc d)).cart

/-- Characters of labels: A to Z and 0 to 9. -/
def labelChar (b : Byte) : Bool := (0x41 ≤ b.toNat && b.toNat ≤ 0x5A) || (0x30 ≤ b.toNat && b.toNat ≤ 0x39)

/-- R132: a label in two record words, the first character in the lowest byte. -/
def labelWords (t : Option (List Byte)) : Word × Word :=
  let bs := t.getD []
  (w32 (ofLE (bs.take 4)), w32 (ofLE ((bs.drop 4).take 4)))

/-! ## Pool (R30) -/

/-- The free page count (R27). -/
def State.freePages (s : State) : Nat := s.pool.free.length

/-- The usable free page count (R30). -/
def State.usable (s : State) : Nat := s.freePages - s.params.restoreReserve

/-- The FREE records of the chunk table (R28). -/
def State.freeRecords (s : State) : Nat := Config.chunkRecords - s.pool.records.length

/-- Pages that BACKUP records hold. -/
def State.heldBackup (s : State) : Nat :=
  (s.pool.records.map fun r => match r.role with | .backup _ => r.pages.length | _ => 0).sum

/-- Pages that reassembly records hold. -/
def State.heldReassembly (s : State) : Nat :=
  (s.pool.records.map fun r => match r.role with | .backup _ => 0 | _ => r.pages.length).sum

/-! ## Hold causes of a stream (R49) -/

/-- Five hold causes, in the bit order of R190: POOL, VERIFY, TARGET, ADMIN, SUSPEND. -/
structure HoldSet where
  pool : Bool
  verify : Bool
  target : Bool
  admin : Bool
  suspend : Bool
  deriving DecidableEq, Repr

def HoldSet.any (h : HoldSet) : Bool := h.pool || h.verify || h.target || h.admin || h.suspend

def Targets.has (t : Targets) (d : Drive) : Bool := if d = 0 then t.d0 else t.d1
def Targets.list (t : Targets) : List Drive := allDrives.filter t.has
def Targets.count (t : Targets) : Nat := t.list.length

/-- A channel cannot take data: not in WRITE, FULL, or FAILED (R49). -/
def Channel.refuses (c : Channel) : Bool := c.state != .write || c.full.isSome

/-- R49: the hold causes whose conditions hold. A CLOSED stream has none active. -/
def State.holdConditions (s : State) (t : Tag) : HoldSet :=
  let x := s.stream t
  { pool := s.pool.hold
    verify := x.targets.list.any fun d => s.params.verifyLimit[d] ≤ (s.chan d).verifyList.length
    target := x.targets.list.any fun d => (s.chan d).refuses
    admin := x.admin
    suspend := x.causeCommand || x.causePreempt }

/-- R49: the hold causes that are active. -/
def State.holdActive (s : State) (t : Tag) : HoldSet :=
  let h := s.holdConditions t
  if (s.stream t).state = .closed then ⟨false, false, false, false, false⟩
  else { h with pool := h.pool && s.params.holdEnablePool == 1, verify := h.verify && s.params.holdEnableVerify == 1 }

def HoldSet.bits (h : HoldSet) : Nat :=
  h.pool.toNat + 2 * h.verify.toNat + 4 * h.target.toNat + 8 * h.admin.toNat + 16 * h.suspend.toNat

/-! ## Codes of states -/

def ChanState.code : ChanState → Nat
  | .unmounted => 0 | .mounting => 1 | .idle => 2 | .write => 3 | .read => 4 | .unmounting => 5 | .ejectWait => 6
  | .failed => 7

def PickState.code : PickState → Nat
  | .homing => 0 | .parked => 1 | .travel => 2 | .grip => 3 | .release => 4 | .scan => 5 | .holding => 6 | .faulted => 7

def MoveKind.code : MoveKind → Nat
  | .move => 0 | .exportCart => 1 | .importCart => 2 | .mount => 3 | .changeover => 4 | .remount => 5 | .clean => 6
  | .returnCart => 7 | .inventory => 8

/-- R148: the class of a request. -/
def MoveKind.cls : MoveKind → Nat
  | .returnCart => 1 | .changeover => 2 | .remount => 2 | .mount => 3 | .clean => 4 | .move => 5 | .exportCart => 5
  | .importCart => 6 | .inventory => 7

def Media.code : Media → Nat
  | .unknown => 0 | .data => 1 | .cleaning => 2 | .expired => 3

def StreamState.code : StreamState → Nat
  | .closed => 0 | .opened => 1 | .suspending => 2 | .suspended => 3 | .ending => 4

def SessionState.code : SessionState → Nat
  | .free => 0 | .waitMount => 1 | .waitRead => 2 | .active => 3 | .awaitNext => 4

def Phase.code : Phase → Nat
  | .draining => 1 | .loading => 2 | .restoring => 3 | .remounting => 4

/-- The order kinds of R143. -/
def Stage.kindCode : Stage → Nat
  | .toSource | .toDest | .visit => 0
  | .grip => 1
  | .release => 2
  | .readLabel | .visitRead => 3
  | .home => 4

/-! ## Outputs of the loader (R134, R135, R138) -/

/-- R152: the locations a request involves. -/
def Req.involves (r : Req) (l : Loc) : Bool :=
  match r.kind with
  | .inventory => r.cursor == l.val
  | _ => r.src == some l || r.dst == l

/-- R134: the indicator of a magazine, by the codes of R190: 0 OFF, 1 ON, 2 BLINK. It blinks for an INVENTORY whose range holds
any slot of the magazine (DESIGN CHOICE, log entry 76). -/
def State.magIndicator (s : State) (m : Fin 2) : Nat :=
  if s.loader.magOpen[m] then 1
  else if s.loader.queue.any fun r =>
      r.kind == .inventory && r.first ≤ 12 * m.val + 11 && 12 * m.val ≤ r.last then 2
  else 0

/-- R138: the mail slot indicator. -/
def State.mailIndicator (s : State) : Nat :=
  if s.loader.queue.any fun r => r.kind != .inventory && (r.src == some mailLoc || r.dst == mailLoc) then 2
  else if s.loader.exportWaiting then 1
  else 0

/-- R135: the door lock is to be engaged. -/
def State.lockWanted (s : State) : Bool :=
  s.running &&
    (match s.picker.state with
     | .parked => s.loader.doorLockFlag
     | .faulted => false
     | _ => true)

/-! ## Images (R70) -/

def Channel.count (c : Channel) (st : ImageState) : Nat := (c.images.filter (·.state == st)).length
def Channel.assembling (c : Channel) : Option Image := c.images.find? (·.state == .assembling)
def Channel.oldestQueued (c : Channel) : Option Image := c.images.find? (·.state == .queued)
def Channel.modImage (c : Channel) (slot : Nat) (f : Image → Image) : Channel :=
  { c with images := c.images.map fun i => if i.slot = slot then f i else i }
/-- An image becomes FREE. -/
def Channel.freeImage (c : Channel) (slot : Nat) : Channel :=
  { c with images := c.images.filter fun i => i.slot ≠ slot }

/-- Every image FREE, no chunk held, the assembler idle (R68, R80, R158). -/
def Channel.drained (c : Channel) : Bool := c.images.isEmpty && c.held.isNone && c.activity == .idle

/-- R83: the oldest unsent image. -/
def Channel.oldestUnsent (c : Channel) : Option Image :=
  match c.oldestQueued with
  | some i => some i
  | none => c.assembling.filter (0 < ·.frags)

/-! ## Time (R12) -/

/-- Microseconds gathered into whole milliseconds: the milliseconds, and what is left over. -/
def wholeMs (left n : Nat) : Nat × Nat := ((left + n) / 1000, (left + n) % 1000)

/-- R50: held time of one stream over `n` microseconds in which nothing else happens. -/
def State.elapseStream (s : State) (n : Nat) (t : Tag) : Stream :=
  let x := s.stream t
  if (s.holdActive t).any then
    let r := wholeMs x.heldMicros n
    { x with heldMs := x.heldMs.add r.1, heldMicros := r.2 }
  else x

/-- R12: `n` microseconds pass in which nothing else happens: the timebase rises, and held time (R50), pool wait time
(R31) and ring stall time (R184) accumulate. -/
def State.elapse (s : State) (n : Nat) : State :=
  { s with
    timebase := s.timebase + n
    streams := Vector.ofFn (s.elapseStream n)
    pool := if s.pack.waiting then
        let r := wholeMs s.pool.waitMicros n
        { s.pool with waitMs := s.pool.waitMs.add r.1, waitMicros := r.2 }
      else s.pool
    ring := if s.ring.intake = .blocked then
        let r := wholeMs s.ring.stallMicros n
        { s.ring with counters := { s.ring.counters with stallMs := s.ring.counters.stallMs.add r.1 }
                      stallMicros := r.2 }
      else s.ring }

/-- An expiry at `deadline` is the event at which the timebase has reached it (DESIGN CHOICE, log entry 3). -/
def State.elapseTo (s : State) (deadline : Nat) : State := s.elapse (deadline - s.timebase)

end Sys2Proof.Machine
end

