-- ==== Sys2Proof/Machine/Operands.lean ====
section
/-! DEFINITION. The operand forms of the part: bus accesses by window (R172, R173), watched index words (R175), and
parameters by id (R11) with their ranges and clamps (R189). -/

namespace Sys2Proof.Machine

/-! ## Windows -/

/-- The window holds a byte address. -/
def Window.holds (w : Window) (a : Nat) : Bool := w.base ≤ a && a < w.base + w.size

/-- R172: the window that an access falls in; outside RUNNING there is none (R167, R171). -/
def State.windowAt (s : State) (a : Addr) : Option Window :=
  if s.running then s.path.windows.find? (·.holds a.toNat) else none

/-- The CONTROL window's base (R181); the image holds exactly one (R169). -/
def State.controlBase (s : State) : Nat :=
  match s.path.windows.find? (·.kind == .control) with
  | some w => w.base
  | none => 0

/-- R173: an access to a PLAIN or CONTROL window, or to no window, is forwarded. -/
def State.forwards (s : State) (acc : Access) : Bool :=
  match s.windowAt acc.addr with
  | none => true
  | some w => w.kind == .plain || w.kind == .control

/-- R173: the accesses that the table answers FAULT. -/
def State.refuses (s : State) (acc : Access) : Bool :=
  match s.windowAt acc.addr, acc with
  | some w, .read _ _ => w.kind == .pool || w.kind == .tapeIn
  | some w, .write _ _ => w.kind == .pool || w.kind == .tapeOut || w.kind == .restore
  | none, _ => false

/-- The argument of the window of kind `k` that an address lies in. -/
def State.windowArg (s : State) (k : WindowKind) (a : Addr) : Option Nat :=
  match s.windowAt a with
  | some w => if w.kind = k then some w.arg else none
  | none => none

def State.ingestTag (s : State) (a : Addr) : Option Tag :=
  (s.windowArg .ingest a).bind fun n => if h : n < 8 then some ⟨n, h⟩ else none

def State.tapeOutDrive (s : State) (a : Addr) : Option Drive :=
  (s.windowArg .tapeOut a).bind fun n => if h : n < 2 then some ⟨n, h⟩ else none

def State.tapeInDrive (s : State) (a : Addr) : Option Drive :=
  (s.windowArg .tapeIn a).bind fun n => if h : n < 2 then some ⟨n, h⟩ else none

def State.restoreSession (s : State) (a : Addr) : Option SessionId :=
  (s.windowArg .restore a).bind fun n => if h : n < 4 then some ⟨n, h⟩ else none

/-! ## Watched index words (R175) -/

/-- What a write makes of a two-byte word at `word`: the value when it covers both bytes, and whether it covers one. -/
def watched (acc : Access) (word : Nat) : Option Half × Bool :=
  match acc with
  | .read _ _ => (none, false)
  | .write a ds =>
    let covers (x : Nat) : Bool := a.toNat ≤ x && x < a.toNat + ds.length
    let off := word - a.toNat
    if covers word && covers (word + 1) then (some (BitVec.ofNat 16 (ofLE (slice ds off 2))), false)
    else (none, covers word || covers (word + 1))

/-- R175: a forwarded access with the index values it passes, and whether it covers a watched word in part. Each word is judged by
itself, and one write is counted once at most (DESIGN CHOICE, log entry 95). -/
def State.watch (s : State) (acc : Access) : Forwarded × Bool :=
  match s.windowAt acc.addr with
  | some w =>
    if w.kind = .control then
      let p := watched acc w.base
      let u := watched acc (w.base + 0xC)
      ({ acc := acc, producer := p.1, consumer := u.1 }, p.2 || u.2)
    else ({ acc := acc, producer := none, consumer := none }, false)
  | none => ({ acc := acc, producer := none, consumer := none }, false)

/-! ## Parameters (R11, 10.4) -/

/-- The parameters of R11, layout entries first. -/
inductive Param where
  | poolBase | poolPages | imageBase (d : Drive)
  | poolHoldOn | poolHoldOff | restoreReserve
  | imageCapacity (d : Drive) | regulatorBuffer (d : Drive) | drainInterval (d : Drive) | lowMark (d : Drive)
  | restartMark (d : Drive) | maxHold (d : Drive) | verifyLimit (d : Drive) | rewriteLimit (d : Drive)
  | checkMode (d : Drive) | ewReserve (d : Drive) | cleaningInterval (d : Drive)
  | readbackTimeout | recoveryWindow | restoreStallTimeout
  | mountTimeout | motionTimeout | cleanTimeout | debounceSlot | debouncePanel | debounceBay
  | autoChangeover | autoInventory | cleanUsesNew | holdEnablePool | holdEnableVerify
  deriving DecidableEq, Repr

/-- The parameters held once, by number (R11). -/
def Param.single : Nat → Option Param
  | 0x01 => some .poolBase | 0x02 => some .poolPages
  | 0x10 => some .poolHoldOn | 0x11 => some .poolHoldOff | 0x12 => some .restoreReserve
  | 0x30 => some .readbackTimeout | 0x31 => some .recoveryWindow | 0x32 => some .restoreStallTimeout
  | 0x40 => some .mountTimeout | 0x41 => some .motionTimeout | 0x42 => some .cleanTimeout
  | 0x43 => some .debounceSlot | 0x44 => some .debouncePanel | 0x45 => some .debounceBay
  | 0x46 => some .autoChangeover | 0x47 => some .autoInventory | 0x48 => some .cleanUsesNew
  | 0x50 => some .holdEnablePool | 0x51 => some .holdEnableVerify
  | _ => none

/-- The parameters held once for each drive, by number (R11). -/
def Param.perDrive (d : Drive) : Nat → Option Param
  | 0x03 => some (.imageBase d) | 0x20 => some (.imageCapacity d) | 0x21 => some (.regulatorBuffer d)
  | 0x22 => some (.drainInterval d) | 0x23 => some (.lowMark d) | 0x24 => some (.restartMark d)
  | 0x25 => some (.maxHold d) | 0x26 => some (.verifyLimit d) | 0x27 => some (.rewriteLimit d)
  | 0x28 => some (.checkMode d) | 0x29 => some (.ewReserve d) | 0x2A => some (.cleaningInterval d)
  | _ => none

/-- R11: the parameter an id names: number in the high byte, drive or 0 in the low byte. -/
def Param.ofId (id : Nat) : Option Param :=
  match Param.perDrive 0 (id / 256) with
  | some _ => if h : id % 256 < 2 then Param.perDrive ⟨id % 256, h⟩ (id / 256) else none
  | none => if id % 256 = 0 then Param.single (id / 256) else none

/-- R11: a layout entry. -/
def Param.isLayout : Param → Bool
  | .poolBase | .poolPages | .imageBase _ => true
  | _ => false

/-- The parameters that SET_PARAM can change, in ascending id order (R11, R189). -/
def Param.ordered : List Param :=
  [.poolHoldOn, .poolHoldOff, .restoreReserve, .imageCapacity 0, .imageCapacity 1, .regulatorBuffer 0,
   .regulatorBuffer 1, .drainInterval 0, .drainInterval 1, .lowMark 0, .lowMark 1, .restartMark 0, .restartMark 1,
   .maxHold 0, .maxHold 1, .verifyLimit 0, .verifyLimit 1, .rewriteLimit 0, .rewriteLimit 1, .checkMode 0, .checkMode 1,
   .ewReserve 0, .ewReserve 1, .cleaningInterval 0, .cleaningInterval 1, .readbackTimeout, .recoveryWindow,
   .restoreStallTimeout, .mountTimeout, .motionTimeout, .cleanTimeout, .debounceSlot, .debouncePanel, .debounceBay,
   .autoChangeover, .autoInventory, .cleanUsesNew, .holdEnablePool, .holdEnableVerify]

/-- The value in force; layout entries are not among them. -/
def Params.get (q : Params) : Param → Nat
  | .poolBase | .poolPages | .imageBase _ => 0
  | .poolHoldOn => q.poolHoldOn | .poolHoldOff => q.poolHoldOff | .restoreReserve => q.restoreReserve
  | .imageCapacity d => q.imageCapacity[d] | .regulatorBuffer d => q.regulatorBuffer[d]
  | .drainInterval d => q.drainInterval[d] | .lowMark d => q.lowMark[d] | .restartMark d => q.restartMark[d]
  | .maxHold d => q.maxHold[d] | .verifyLimit d => q.verifyLimit[d] | .rewriteLimit d => q.rewriteLimit[d]
  | .checkMode d => q.checkMode[d] | .ewReserve d => q.ewReserve[d] | .cleaningInterval d => q.cleaningInterval[d]
  | .readbackTimeout => q.readbackTimeout | .recoveryWindow => q.recoveryWindow
  | .restoreStallTimeout => q.restoreStallTimeout | .mountTimeout => q.mountTimeout
  | .motionTimeout => q.motionTimeout | .cleanTimeout => q.cleanTimeout | .debounceSlot => q.debounceSlot
  | .debouncePanel => q.debouncePanel | .debounceBay => q.debounceBay | .autoChangeover => q.autoChangeover
  | .autoInventory => q.autoInventory | .cleanUsesNew => q.cleanUsesNew | .holdEnablePool => q.holdEnablePool
  | .holdEnableVerify => q.holdEnableVerify

/-- A parameter takes a value; layout entries are fixed (R11). -/
def Params.set (q : Params) (p : Param) (v : Nat) : Params :=
  match p with
  | .poolBase | .poolPages | .imageBase _ => q
  | .poolHoldOn => { q with poolHoldOn := v } | .poolHoldOff => { q with poolHoldOff := v }
  | .restoreReserve => { q with restoreReserve := v }
  | .imageCapacity d => { q with imageCapacity := q.imageCapacity.set d v }
  | .regulatorBuffer d => { q with regulatorBuffer := q.regulatorBuffer.set d v }
  | .drainInterval d => { q with drainInterval := q.drainInterval.set d v }
  | .lowMark d => { q with lowMark := q.lowMark.set d v }
  | .restartMark d => { q with restartMark := q.restartMark.set d v }
  | .maxHold d => { q with maxHold := q.maxHold.set d v }
  | .verifyLimit d => { q with verifyLimit := q.verifyLimit.set d v }
  | .rewriteLimit d => { q with rewriteLimit := q.rewriteLimit.set d v }
  | .checkMode d => { q with checkMode := q.checkMode.set d v }
  | .ewReserve d => { q with ewReserve := q.ewReserve.set d v }
  | .cleaningInterval d => { q with cleaningInterval := q.cleaningInterval.set d v }
  | .readbackTimeout => { q with readbackTimeout := v } | .recoveryWindow => { q with recoveryWindow := v }
  | .restoreStallTimeout => { q with restoreStallTimeout := v } | .mountTimeout => { q with mountTimeout := v }
  | .motionTimeout => { q with motionTimeout := v } | .cleanTimeout => { q with cleanTimeout := v }
  | .debounceSlot => { q with debounceSlot := v } | .debouncePanel => { q with debouncePanel := v }
  | .debounceBay => { q with debounceBay := v } | .autoChangeover => { q with autoChangeover := v }
  | .autoInventory => { q with autoInventory := v } | .cleanUsesNew => { q with cleanUsesNew := v }
  | .holdEnablePool => { q with holdEnablePool := v } | .holdEnableVerify => { q with holdEnableVerify := v }

/-- 10.4: a parameter's own range, given the number of pool pages and the image area limits. -/
def Param.range (pages : Nat) (limit : Vector Nat 2) : Param → Nat × Nat
  | .poolBase | .poolPages | .imageBase _ => (0, 4294967295)
  | .poolHoldOn => (0, 65535) | .poolHoldOff => (1, 65535) | .restoreReserve => (0, pages / 2)
  | .imageCapacity d => (16, limit[d]) | .regulatorBuffer _ => (4, 1024) | .drainInterval _ => (1, 65535)
  | .lowMark _ => (0, 1023) | .restartMark _ => (1, 128) | .maxHold _ => (1, 65535) | .verifyLimit _ => (1, 128)
  | .rewriteLimit _ => (1, 7) | .checkMode _ => (0, 1) | .ewReserve _ => (0, 65535)
  | .cleaningInterval _ => (0, 4294967295)
  | .readbackTimeout | .restoreStallTimeout | .mountTimeout | .motionTimeout | .cleanTimeout => (0, 14)
  | .recoveryWindow => (1, 255) | .debounceSlot | .debouncePanel | .debounceBay => (1, 255)
  | .autoChangeover | .autoInventory | .holdEnablePool | .holdEnableVerify => (0, 1)
  | .cleanUsesNew => (1, 255)

/-- A value brought into a range. -/
def clampTo (r : Nat × Nat) (v : Nat) : Nat := max r.1 (min r.2 v)

/-- R189: the clamp against the parameters of lower id that a parameter depends on. -/
def Params.clampLower (q : Params) (p : Param) (v : Nat) : Nat :=
  match p with
  | .poolHoldOff => max v (q.poolHoldOn + 1)
  | .lowMark d => min v (q.regulatorBuffer[d] - 1)
  | .restartMark d => min v q.imageCapacity[d]
  | .verifyLimit d => min v q.imageCapacity[d]
  | _ => v

/-- R189, R30: the clamp that SET_PARAM applies, first to the range and then against what the parameter depends on. -/
def State.clampParam (s : State) (p : Param) (v : Nat) : Nat :=
  let v := clampTo (p.range s.path.poolPages s.path.imageLimit) v
  match p with
  | .poolHoldOn => min v (s.params.poolHoldOff - 1)
  | .restoreReserve => min v (s.path.poolPages - (s.heldBackup + s.pool.reservation.length))
  | _ => s.params.clampLower p v

/-- R189: one image entry applied at start-up: to its range, and against the parameters of lower id. -/
def applyEntry (pages : Nat) (limit : Vector Nat 2) (q : Params) (e : Param × Nat) : Params :=
  q.set e.1 (q.clampLower e.1 (clampTo (e.1.range pages limit) e.2))

/-- R189: the parameters at start-up: the image's entries in ascending id order, the later of two entries of one id used
(R11), and then every parameter clamped again in ascending id order. -/
def startParams (pages : Nat) (limit : Vector Nat 2) (entries : List (Param × Nat)) : Params :=
  let sorted := Param.ordered.flatMap fun p => entries.filter fun e => e.1 = p
  let q := sorted.foldl (applyEntry pages limit) {}
  Param.ordered.foldl (fun r p => applyEntry pages limit r (p, r.get p)) q

end Sys2Proof.Machine
end

