-- ==== Sys2Proof/Machine/Intake.lean ====
section
/-! DEFINITION. Commands that the intake reads (R181, R184): the slot of a command, the command record that stands in it,
and the end of the command that its owner has acted on. -/

namespace Sys2Proof.Machine

/-- R181: where a command slot lies. -/
def State.commandSlotAddr (s : State) (i : Half) : Nat := s.controlBase + 0x040 + 64 * (i.toNat % Config.commandSlots)

/-- R6, R184: the command that the command slot of index C holds in memory. -/
def State.slotCommand (s : State) : Instr := decodeCommandRecord (s.peek (s.commandSlotAddr s.ring.c) 64)

/-- R184: a command is in progress, and memory's next answer is the one to the read of its slot. -/
def State.readsSlot (s : State) : Bool := s.ring.intake == .reading && s.owes (.slotRead s.ring.c)

/-- R184: the answer to the intake's slot read brings the command `c`. -/
def State.takes (s : State) (c : Instr) : Bool := s.readsSlot && s.slotCommand == c

/-- A command record answers the intake's slot read (R184). Where the answer that comes next is another one, or the slot
holds another command, nothing happens (log entry 7). The owner acts in this event, and the COMMAND_DONE follows its
records. -/
def State.command (s : State) (c : Instr) (kind : Nat) (tag : Half) (owner : State → Effect) : State :=
  if s.takes c then
    let e := owner (s.answered (.slotRead s.ring.c))
    e.state.endCommand kind tag e.outcome e.results 0
  else s

end Sys2Proof.Machine
end

