-- ==== Sys2Proof/Machine/Codec.lean ====
section
/-! DEFINITION. The tape formats (1.1), the encoder of the pack engine (1.5) and the decoder of the unpack engine (1.7). -/

namespace Sys2Proof.Machine

/-! ## Tape formats -/

/-- R1: the block size of a size code, in bytes. -/
def blockSize (k : Fin 4) : Nat := 8192 * 2 ^ k.val

/-- R1: the payload capacity of a size code. -/
def capacityOf (k : Fin 4) : Nat := blockSize k - 20

/-- R1: the 16-byte block header. -/
def blockHeader (size : Fin 4) (frags : Nat) (seq session : Word) (payload : Nat) : List Byte :=
  [0x4A, 0x54, BitVec.ofNat 8 size.val, BitVec.ofNat 8 frags]
    ++ beBytes 4 seq.toNat ++ beBytes 4 session.toNat ++ beBytes 4 payload

/-- R2: the 12-byte fragment header. -/
def fragHeader (setId seq : Word) (len : Nat) (last : Bool) (number : Nat) : List Byte :=
  beBytes 4 setId.toNat ++ beBytes 4 seq.toNat ++ beBytes 2 len ++ [if last then 1 else 0, BitVec.ofNat 8 number]

/-- The fields of a fragment header (R2); bits 1 to 7 of the flags are not read (R3). -/
structure FragFields where
  setId : Word
  seq : Word
  len : Nat
  last : Bool
  number : Nat
  deriving DecidableEq, Repr

/-- The fields read from the 12 bytes of a fragment header. -/
def parseFrag (bs : List Byte) : FragFields :=
  { setId := w32 (ofBE (slice bs 0 4)), seq := w32 (ofBE (slice bs 4 4)), len := ofBE (slice bs 8 2)
    last := (bs.getD 10 0).getLsbD 0, number := (bs.getD 11 0).toNat }

/-- R4: the 10-byte chunk header. -/
def chunkHeader (orig body : Nat) (packed setend : Bool) (check : Word) : List Byte :=
  beBytes 2 orig ++ beBytes 2 body ++ [if packed then 1 else 0, if setend then 1 else 0] ++ beBytes 4 check.toNat

/-- The fields of a chunk header (R4). -/
structure ChunkFields where
  orig : Nat
  body : Nat
  form : Byte
  setend : Bool
  check : Word
  deriving DecidableEq, Repr

/-- The fields read from the 10 bytes of a chunk header; bits 1 to 7 of the flags are ignored (R4). -/
def parseChunk (bs : List Byte) : ChunkFields :=
  { orig := ofBE (slice bs 0 2), body := ofBE (slice bs 2 2), form := bs.getD 4 0
    setend := (bs.getD 5 0).getLsbD 0, check := w32 (ofBE (slice bs 6 4)) }

/-! ## The encoder (R15 to R18) -/

/-- R15: the hash of three bytes. -/
def hash3 (x y z : Byte) : Nat := (16 * x.toNat + 4 * y.toNat + z.toNat) % 512

/-- The entry of the hash table at `k`. -/
def hashGet (h : List (Nat × Nat)) (k : Nat) : Option Nat := (h.find? (·.1 == k)).map (·.2)

/-- The hash table with `p` stored at `k`, entries in rising order. -/
def hashPut (k p : Nat) : List (Nat × Nat) → List (Nat × Nat)
  | [] => [(k, p)]
  | e :: es => if e.1 < k then e :: hashPut k p es else if e.1 = k then (k, p) :: es else (k, p) :: e :: es

/-- R16: how many bytes agree, at most `n`. -/
def matchLen : Nat → List Byte → List Byte → Nat
  | n + 1, x :: xs, y :: ys => if x = y then matchLen n xs ys + 1 else 0
  | _, _, _ => 0

/-- What the encoder takes at a position: a literal, or a match of a length at a distance. -/
inductive Item where
  | lit (b : Byte)
  | copy (len dist : Nat)
  deriving DecidableEq, Repr

/-- R15, R16: the length of the match that an entry of the hash table gives for `rest`, 0 where it is empty; `b` is the
input. -/
def candidateLen (b rest : List Byte) : Option Nat → Nat
  | some c => matchLen 130 (b.drop c) rest
  | none => 0

/-- R15, R16: the items of an input from position `p` on, where `rest` is the input from `p`. The first argument bounds the
number of items. -/
def scan (b : List Byte) : Nat → Nat → List Byte → List (Nat × Nat) → List Item
  | k + 1, p, x :: y :: z :: xs, h =>
    let rest := x :: y :: z :: xs
    let key := hash3 x y z
    let len := candidateLen b rest (hashGet h key)
    if 3 ≤ len then .copy len (p - (hashGet h key).getD 0) :: scan b k (p + len) (rest.drop len) (hashPut key p h)
    else .lit x :: scan b k (p + 1) (y :: z :: xs) (hashPut key p h)
  | k + 1, p, x :: xs, h => .lit x :: scan b k (p + 1) xs h
  | _, _, _, _ => []

/-- A token of the token stream (R17). -/
inductive Token where
  | run (lits : List Byte)
  | copy (len dist : Nat)
  deriving DecidableEq, Repr

/-- R17: the run that stands open becomes a token, if it holds anything. -/
def closeRun (acc : List Byte) : List Token := if acc.isEmpty then [] else [.run acc]

/-- R17: literals gather into runs of at most 128; `acc` is the run that is open. -/
def gather : List Item → List Byte → List Token
  | [], acc => closeRun acc
  | .copy l d :: is, acc => closeRun acc ++ (.copy l d :: gather is [])
  | .lit b :: is, acc => if acc.length = 128 then .run acc :: gather is [b] else gather is (acc ++ [b])

/-- R17: the bytes of a token. -/
def Token.bytes : Token → List Byte
  | .run lits => BitVec.ofNat 8 (lits.length - 1) :: lits
  | .copy len dist => BitVec.ofNat 8 (128 + (len - 3)) :: beBytes 2 dist

/-- R15 to R17: the token stream of an input. -/
def tokenStream (b : List Byte) : List Byte := ((gather (scan b b.length 0 b []) []).map Token.bytes).flatten

/-- R15, R17: the hash table that an ENCODE job leaves behind. The engine stops once the token stream written so far, `out`
bytes, reaches the length of the input; `run` literals stand in the open run, which is written at a match and at its 128th
literal. Fewer than three bytes do not touch the table. The first argument bounds the number of items. -/
def hashUntil (b : List Byte) : Nat → Nat → List Byte → List (Nat × Nat) → Nat → Nat → List (Nat × Nat)
  | k + 1, p, x :: y :: z :: xs, h, run, out =>
    let rest := x :: y :: z :: xs
    let key := hash3 x y z
    let len := candidateLen b rest (hashGet h key)
    let h' := hashPut key p h
    if 3 ≤ len then
      let out' := out + (if run = 0 then 0 else run + 1) + 3
      if b.length ≤ out' then h' else hashUntil b k (p + len) (rest.drop len) h' 0 out'
    else if run = 127 then
      if b.length ≤ out + 129 then h' else hashUntil b k (p + 1) (y :: z :: xs) h' 0 (out + 129)
    else hashUntil b k (p + 1) (y :: z :: xs) h' (run + 1) out
  | _, _, _, h, _, _ => h

/-- The hash table after an ENCODE job. -/
def hashAfter (b : List Byte) : List (Nat × Nat) := hashUntil b b.length 0 b [] 0 0

/-- R18: a job's result: whether the chunk is PACKED, and its body. -/
def packBody (mode : JobMode) (b : List Byte) : Bool × List Byte :=
  match mode with
  | .encode => let t := tokenStream b; if t.length < b.length then (true, t) else (false, b)
  | .copy => (false, b)

/-- R18: the stored chunk of an input. -/
def storedChunk (mode : JobMode) (setend : Bool) (b : List Byte) : List Byte :=
  let r := packBody mode b
  chunkHeader b.length r.2.length r.1 setend (crc32 b) ++ r.2

/-! ## The decoder (R22 to R24, R39) -/

/-- R22: the header check of the unpack engine. -/
def ChunkFields.bad (h : ChunkFields) : Bool :=
  4096 < h.orig || 4096 < h.body || (h.form != 0 && h.form != 1)
    || (h.form == 0 && h.body != h.orig) || (h.form == 1 && h.orig ≤ h.body)

/-- R23: a match copies `len` bytes one at a time from `d` places back; the output stands newest first. -/
def copyBack (d : Nat) : Nat → List Byte → List Byte
  | 0, out => out
  | n + 1, out => copyBack d n (out.getD (d - 1) 0 :: out)

/-- R23: the tokens of a body, with the output so far newest first; `m` is the original length. The first argument
bounds the number of tokens. -/
def decodeTokens (m : Nat) : Nat → List Byte → List Byte → DecodeOutcome × List Byte
  | k + 1, v :: body, out =>
    if v.toNat < 128 then
      let n := v.toNat + 1
      if body.length < n then (.truncated, out)
      else if m < out.length + n then (.overrun, out)
      else decodeTokens m k (body.drop n) ((body.take n).reverse ++ out)
    else
      let len := v.toNat - 125
      match body with
      | hi :: lo :: body' =>
        let d := 256 * hi.toNat + lo.toNat
        if d = 0 ∨ out.length < d then (.distanceBad, out)
        else if m < out.length + len then (.overrun, out)
        else decodeTokens m k body' (copyBack d len out)
      | _ => (.truncated, out)
  | _, _, out => (if out.length < m then .short else .good, out)

/-- R22 to R24, R39: the decode of the stored bytes of a chunk: outcome and output. -/
def decodeStored (bs : List Byte) : DecodeOutcome × List Byte :=
  if bs.length < Config.chunkHeaderSize then (.headerBad, [])
  else
    let h := parseChunk bs
    if h.bad then (.headerBad, [])
    else
      let body := slice bs Config.chunkHeaderSize h.body
      let r := if h.form = 0 then (if body.length < h.orig then .short else .good, body)
        else let t := decodeTokens h.orig body.length body []; (t.1, t.2.reverse)
      if r.1 = .good ∧ crc32 r.2 ≠ h.check then (.checkBad, r.2) else r

end Sys2Proof.Machine
end

