-- ==== Sys2Proof/Machine/Pool.lean ====
section
/-! DEFINITION. The chunk pool (chapter 2): pages, chunk records, reservations, give-ups and the POOL hold. -/

namespace Sys2Proof.Machine

/-- R26: where a page lies. -/
def State.pageAddr (s : State) (k : Nat) : Nat := s.path.poolBase * 4096 + Config.pageSize * k

/-- R42: the test of the POOL hold; a transition writes POOL_HOLD. -/
def State.holdTest (s : State) : State :=
  let rec_ (on : Bool) : Record :=
    { kind := .poolHold, byte1 := if on then 1 else 0, e0 := w32 s.usable, e1 := w32 s.freePages
      e2 := w32 s.params.restoreReserve }
  if s.pool.hold then
    if s.params.poolHoldOff ≤ s.usable then (s.modPool fun p => { p with hold := false }).emit (rec_ false) else s
  else if s.usable < s.params.poolHoldOn then
    (s.modPool fun p => { p with hold := true, holdTransitions := p.holdTransitions.add 1 }).emit (rec_ true)
  else s

/-- The free list changes: the low mark follows (R43) and the POOL hold is tested (R42). -/
def State.setFree (s : State) (free : List Nat) : State :=
  (s.modPool fun p => { p with free := free, lowMark := min p.lowMark free.length }).holdTest

/-- R27: pages returned together by one event join the tail of the free list. -/
def State.returnPages (s : State) (pages : List Nat) : State :=
  if pages.isEmpty then s else s.setFree (s.pool.free ++ pages)

/-! ## Chunk records (R28) -/

def State.findRec (s : State) (id : Nat) : Option ChunkRec := s.pool.records.find? (·.id == id)

def State.modRec (s : State) (id : Nat) (f : ChunkRec → ChunkRec) : State :=
  s.modPool fun p => { p with records := p.records.map fun r => if r.id = id then f r else r }

/-- R28: the lowest-numbered FREE record; the records in use stand in rising order. -/
def lowestFree (n : Nat) : List ChunkRec → Nat
  | [] => n
  | r :: rs => if r.id = n then lowestFree (n + 1) rs else n

/-- A record takes its place in the chunk table. -/
def insertRec (x : ChunkRec) : List ChunkRec → List ChunkRec
  | [] => [x]
  | r :: rs => if x.id < r.id then x :: r :: rs else r :: insertRec x rs

/-- R28: a record is freed, and its pages return in page-list order. The POOL hold is tested after each record that an event
frees (DESIGN CHOICE, log entry 61). -/
def State.freeRec (s : State) (id : Nat) : State :=
  match s.findRec id with
  | none => s
  | some r => (s.modPool fun p => { p with records := p.records.filter (·.id ≠ id) }).returnPages r.pages

/-- R34: a target channel gives up its placement of a record; with none outstanding the record is freed. -/
def State.giveUp (s : State) (id : Nat) : State :=
  match s.findRec id with
  | none => s
  | some r =>
    let t := s.modRec id fun x => { x with outstanding := x.outstanding - 1 }
    if r.outstanding ≤ 1 then t.freeRec id else t

/-- Records given up in order. -/
def State.giveUpAll (s : State) (ids : List Nat) : State := forEach ids (fun id t => t.giveUp id) s

/-! ## Stored chunks in pages (R21) -/

/-- The stored-chunk bytes that a record's pages hold. -/
def State.pageBytes (s : State) (pages : List Nat) : List Byte :=
  (pages.map fun k => s.peek (s.pageAddr k) Config.pageSize).flatten

/-- `len` stored-chunk bytes of a page list from offset `start`. -/
def State.chunkBytes (s : State) (pages : List Nat) (start len : Nat) : List Byte := slice (s.pageBytes pages) start len

/-- A stored chunk written into its pages from stored-chunk offset 0. -/
def State.writePages : State → List Nat → List Byte → State
  | s, [], _ => s
  | s, k :: ks, bs => if bs.isEmpty then s else (s.poke (s.pageAddr k) (bs.take 512)).writePages ks (bs.drop 512)

/-- One byte at a stored-chunk offset of a page list; offsets beyond the list are not written (R39). -/
def State.pokeChunk (s : State) (pages : List Nat) (off : Nat) (b : Byte) : State :=
  match pages[off / 512]? with
  | some k => s.poke (s.pageAddr k + off % 512) [b]
  | none => s

/-! ## Reservations (R31 to R33) -/

/-- R31: pages that an input of `n` bytes needs. -/
def pagesFor (n : Nat) : Nat := ceilDiv (10 + n) 512

/-- R31: both conditions of a grant hold for a request of `r` pages. -/
def State.grantable (s : State) (r : Nat) : Bool := r ≤ s.usable && Config.recordReserve < s.freeRecords

/-- R33: the reservation returns to the tail of the free list. -/
def State.returnReservation (s : State) : State :=
  (s.modPool fun p => { p with reservation := [] }).returnPages s.pool.reservation

end Sys2Proof.Machine
end

