-- ==== Sys2Proof/Machine/Streams.lean ====
section
/-! DEFINITION. Backup streams (chapter 3): fill buffers, suspension, abort, the pack arbitration, and the stream
commands. -/

namespace Sys2Proof.Machine

/-! ## Fill buffers (R46) -/

def Stream.buf (x : Stream) : BufId → FillBuf
  | .a => x.bufA
  | .b => x.bufB

def Stream.setBuf (x : Stream) (k : BufId) (f : FillBuf) : Stream :=
  match k with
  | .a => { x with bufA := f }
  | .b => { x with bufB := f }

def BufId.other : BufId → BufId
  | .a => .b
  | .b => .a

/-- The buffer in a state, A before B. -/
def Stream.bufIn (x : Stream) (st : BufState) : Option BufId :=
  if x.bufA.state = st then some .a else if x.bufB.state = st then some .b else none

/-- R46: without a FILLING buffer, an EMPTY one becomes FILLING with 0 bytes; not in CLOSED or ENDING. -/
def Stream.refill (x : Stream) : Stream :=
  if x.state = .closed ∨ x.state = .ending ∨ (x.bufIn .filling).isSome then x
  else match x.bufIn .empty with
    | some k => x.setBuf k { state := .filling }
    | none => x

/-- R46: a buffer is closed as a chunk: it takes the next chunk sequence and becomes READY. -/
def Stream.closeBuf (x : Stream) (k : BufId) (setend : Bool) : Stream :=
  { x.setBuf k { x.buf k with state := .ready, seq := x.nextSeq, setend := setend } with nextSeq := x.nextSeq + 1 }

/-- R46, R55: a buffer is emptied. In ENDING with the final close pending it is closed at once as the empty final
chunk; otherwise it may become FILLING. -/
def Stream.emptied (x : Stream) (k : BufId) : Stream :=
  let y := x.setBuf k {}
  if y.state = .ending ∧ y.finalClose then { (y.closeBuf k true) with finalClose := false } else y.refill

/-- R48: a write that R47 takes goes whole into the FILLING buffer `k`, or fills it and runs on into the other. The ingest byte
count wraps at 2^64 (DESIGN CHOICE, log entry 104). -/
def Stream.take (x : Stream) (k : BufId) (data : List Byte) : Stream :=
  let f := x.buf k
  let room := Config.bufferSize - f.bytes.length
  let y := x.setBuf k { f with bytes := f.bytes ++ data.take room }
  let y :=
    if data.length < room then y
    else
      let z := y.closeBuf k false
      if data.length = room then z.refill
      else z.setBuf k.other { state := .filling, bytes := data.drop room }
  { y with ingest := y.ingest + BitVec.ofNat 64 data.length, ingested := y.ingested.add data.length }

/-! ## Suspension (R52) -/

/-- A chunk of the stream stands in a placement queue. -/
def State.queued (s : State) (t : Tag) : Bool :=
  allDrives.any fun d => (s.chan d).placeQueue.any fun id =>
    match s.findRec id with
    | some r => r.role == .backup t
    | none => false

/-- The suspend causes as STREAM_SUSPENDED reports them (R52). -/
def Stream.causeBits (x : Stream) : Nat := x.causeCommand.toNat + 2 * x.causePreempt.toNat

/-- R52: the test of a SUSPENDING stream for its chunk boundary. -/
def State.suspendTest (s : State) (t : Tag) : State :=
  let x := s.stream t
  let busy (k : BufId) : Bool := (x.buf k).state == .ready || (x.buf k).state == .packing
  if x.state = .suspending ∧ !busy .a ∧ !busy .b ∧ !s.queued t then
    (s.setStream t { x with state := .suspended }).emit
      { kind := .streamSuspended, subject := BitVec.ofNat 16 t.val, e0 := w32 x.causeBits
        e1 := w32 (match x.bufIn .filling with | some k => (x.buf k).bytes.length | none => 0), e2 := x.nextSeq }
  else s

/-- R51: the state follows a change of the suspend causes. -/
def State.causesChanged (s : State) (t : Tag) : State :=
  let x := s.stream t
  let any := x.causeCommand || x.causePreempt
  match x.state with
  | .opened => if any then (s.setStream t { x with state := .suspending }).suspendTest t else s
  | .suspending | .suspended => if any then s else s.setStream t (Stream.refill { x with state := .opened })
  | _ => s

/-- R51: PREEMPT is added to or removed from a stream's causes; a CLOSED stream takes none. -/
def State.setPreempt (s : State) (on : Bool) (t : Tag) : State :=
  if (s.stream t).state = .closed ∨ (s.stream t).causePreempt = on then s
  else (s.modStream t fun x => { x with causePreempt := on }).causesChanged t

/-! ## Pack arbitration (R60 to R62) -/

/-- The READY buffer of a stream that is packed next: the one with the earlier chunk sequence (R60). -/
def Stream.readyBuf (x : Stream) : Option BufId :=
  if x.state = .closed then none
  else match x.bufA.state, x.bufB.state with
    | .ready, .ready => if precedes x.bufB.seq x.bufA.seq then some .b else some .a
    | .ready, _ => some .a
    | _, .ready => some .b
    | _, _ => none

/-- R60, R61: the search of the arbitration table, from the phase after `from_`. A step from phase 15 to phase 0
installs the pending table. The first argument bounds the phases examined: a pending table installed on the way can
hide a tag from the first 16 (log entry 9). -/
def State.search (s : State) : Nat → Fin 16 → Vector Tag 16 → Option (Vector Tag 16) →
    Option (Tag × BufId × Fin 16 × Vector Tag 16 × Option (Vector Tag 16))
  | 0, _, _, _ => none
  | n + 1, from_, table, pend =>
    let phase := from_ + 1
    let wraps := phase = 0 ∧ pend.isSome
    let tab := if wraps then pend.getD table else table
    let pend' := if wraps then none else pend
    match (s.stream tab[phase]).readyBuf with
    | some k => some (tab[phase], k, phase, tab, pend')
    | none => s.search n phase tab pend'

/-- The input of a chosen buffer, in bytes. -/
def State.chosenLen (s : State) : Option Nat := s.pack.chosen.map fun c => (((s.stream c.1).buf c.2).bytes.length)

/-- R31: a request that cannot be granted enters a pool wait, counted once. -/
def State.waitTest (s : State) : State :=
  match s.chosenLen with
  | none => s
  | some n =>
    if s.pack.waiting ∨ s.grantable (pagesFor n) then s
    else (s.modPack fun p => { p with waiting := true }).modPool fun p => { p with waits := p.waits.add 1 }

/-- R60: the choice, made when the engine is IDLE, nothing is chosen, and a READY buffer exists. -/
def State.packChoose (s : State) : State :=
  if s.pack.job.isSome ∨ s.pack.chosen.isSome ∨ !(allTags.any fun t => (s.stream t).readyBuf.isSome) then s
  else match s.search 32 s.pack.lastServed s.pack.table s.pack.pendingTable with
    | none => s
    | some (t, k, phase, tab, pend) =>
      (s.modPack fun p =>
        { p with chosen := some (t, k), lastServed := phase, table := tab, pendingTable := pend }).waitTest

/-! ## Aborting (R57) and ending (R56) a stream -/

/-- The chunk records of a stream that stand in a channel's placement queue leave it; each removal is a give-up (R35). -/
def State.dropQueued (s : State) (t : Tag) (d : Drive) : State :=
  let mine (id : Nat) : Bool :=
    match s.findRec id with
    | some r => r.role == .backup t
    | none => false
  let gone := (s.chan d).placeQueue.filter mine
  (s.modChan d fun c => { c with placeQueue := c.placeQueue.filter fun id => !mine id }).giveUpAll gone

/-- R57: what an abort makes of a fill buffer. -/
def FillBuf.aborted (f : FillBuf) : FillBuf :=
  match f.state with
  | .packing => { f with discarded := true, bytes := [] }
  | _ => {}

/-- The common words of STREAM_ABORTED (R57). -/
def abortRecord (t : Tag) (x : Stream) (cause : Cause) (chan : Option Drive) : Record :=
  { kind := .streamAborted, byte1 := cause.byte, subject := BitVec.ofNat 16 t.val, e0 := x.setId, e1 := x.nextSeq
    e2 := lowWord x.ingest, e3 := highWord x.ingest
    e4 := match chan with | some d => w32 d.val | none => 0xFFFFFFFF }

/-- R57: the abort of a stream, without the search that may follow it; a CLOSED stream is left as it is. The steps of the abort
make no test for a chunk boundary (R52), though they empty buffers and take chunks out of queues (DESIGN CHOICE, log entry
70). -/
def State.abortCore (s : State) (t : Tag) (cause : Cause) (chan : Option Drive) : State :=
  let x := s.stream t
  if x.state = .closed then s
  else
    let s1 := s.setStream t { x with bufA := x.bufA.aborted, bufB := x.bufB.aborted }
    let s2 := s1.modPack fun p =>
      { p with
        job := p.job.map fun j => if j.tag = t then { j with discarded := true } else j
        chosen := p.chosen.filter fun c => c.1 ≠ t
        waiting := p.waiting && (match p.chosen with | some c => c.1 != t | none => false) }
    let s3 := forEach allDrives (fun d u => u.dropQueued t d) s2
    let s4 := s3.modPool fun p =>
      { p with records := p.records.map fun r => if r.role = .backup t then { r with orphan := true } else r }
    let s5 := if x.state = .ending then
        s4.emit { kind := .streamEnded, byte1 := CmdOutcome.cancelled.code, tag := x.endTag.getD 0
                  subject := BitVec.ofNat 16 t.val }
      else s4
    let s6 := s5.emit (abortRecord t x cause chan)
    s6.modStream t fun y =>
      { y with state := .closed, causeCommand := false, causePreempt := false, admin := false, endTag := none
               finalClose := false }

/-- R57, R62: an abort; a chosen buffer it drops is searched for again. -/
def State.abortStream (s : State) (t : Tag) (cause : Cause) (chan : Option Drive) : State :=
  (s.abortCore t cause chan).packChoose

/-- R57, R62: some streams are aborted in ascending tag order; a chosen buffer that they drop is searched for again after
the last of them (log entry 24). -/
def State.abortWhere (s : State) (sel : Stream → Bool) (cause : Cause) (chan : Option Drive) : State :=
  (forEach allTags (fun t u => if sel (u.stream t) then u.abortCore t cause chan else u) s).packChoose

/-- R59: every stream not CLOSED that targets a channel is aborted, in ascending tag order (DESIGN CHOICE, log entry 74). -/
def State.abortTargeting (s : State) (d : Drive) (cause : Cause) : State :=
  s.abortWhere (fun x => x.targets.has d) cause (some d)

/-- R56: STREAM_ENDED with DONE. -/
def endedRecord (t : Tag) (x : Stream) : Record :=
  { kind := .streamEnded, byte1 := CmdOutcome.done.code, tag := x.endTag.getD 0, subject := BitVec.ofNat 16 t.val
    e0 := x.setId, e1 := x.nextSeq, e2 := lowWord x.ingest, e3 := highWord x.ingest }

/-- R56: the last target has placed the SETEND chunk `r`: its stream ends, unless the record outlived an abort. -/
def State.endTest (s : State) (r : ChunkRec) : State :=
  match r.role with
  | .backup t =>
    let x := s.stream t
    if r.setend = some true ∧ !r.orphan ∧ r.outstanding ≤ 1 ∧ x.state = .ending then
      (s.emit (endedRecord t x)).setStream t
        { x with state := .closed, causeCommand := false, causePreempt := false, admin := false, endTag := none
                 finalClose := false }
    else s
  | _ => s

/-! ## The stream commands -/

/-- The targets of P2 of OPEN_STREAM and P1 of SET_TARGETS (R45, R54). -/
def targetsOf (w : Word) : Option Targets :=
  if w = 1 then some ⟨true, false⟩ else if w = 2 then some ⟨false, true⟩ else if w = 3 then some ⟨true, true⟩ else none

def policyOf (w : Word) : Option Policy := if w = 0 then some .pack else if w = 1 then some .store else none

/-- Some target channel is FAILED. -/
def State.targetFailed (s : State) (t : Targets) : Bool := t.list.any fun d => (s.chan d).state == .failed

/-- R45: the record of a stream that is opened. -/
def Stream.opening (x : Stream) (setId : Word) (targets : Targets) (policy : Policy) : Stream :=
  Stream.refill
    { x with state := .opened, setId := setId, targets := targets, policy := policy, ingest := 0, nextSeq := 0
             rawRun := 0, skip := 0, ingested := 0, chunks := 0, rawChunks := 0, heldMs := 0, heldMicros := 0
             causeCommand := false, causePreempt := false, admin := false, endTag := none, finalClose := false }

/-- R45. -/
def openStreamRule (p0 p1 p2 p3 : Word) (s : State) : Effect :=
  match tagOf p0, targetsOf p2, policyOf p3 with
  | some t, some tg, some pol =>
    if allTags.any fun o => o != t && (s.stream o).state != .closed && (s.stream o).setId == p1 then s.turnAway .badParam
    else if (s.stream t).state ≠ .closed then s.turnAway .refusedState
    else if s.targetFailed tg then s.turnAway .refusedState
    else (s.modStream t fun x => x.opening p1 tg pol).ok
  | _, _, _ => s.turnAway .badParam

/-- OPEN_STREAM (R45). -/
def execOpenStream (tag : Half) (p0 p1 p2 p3 : Word) (s : State) : Host.Outcome State Fault Refusal :=
  .next (s.command (.openStream tag p0 p1 p2 p3) 0x10 tag (openStreamRule p0 p1 p2 p3))

/-- R51: SUSPEND_STREAM and RESUME_STREAM. -/
def suspendRule (on : Bool) (p0 : Word) (s : State) : Effect :=
  match tagOf p0 with
  | none => s.turnAway .badParam
  | some t =>
    match (s.stream t).state with
    | .closed | .ending => s.turnAway .refusedState
    | _ =>
      if (s.stream t).causeCommand = on then s.ok
      else ((s.modStream t fun x => { x with causeCommand := on }).causesChanged t).ok

/-- R53: HOLD_STREAM and RELEASE_STREAM. -/
def adminRule (on : Bool) (p0 : Word) (s : State) : Effect :=
  match tagOf p0 with
  | none => s.turnAway .badParam
  | some t =>
    if (s.stream t).state = .closed then s.turnAway .refusedState
    else (s.modStream t fun x => { x with admin := on }).ok

/-- HOLD_STREAM (R53). -/
def execHoldStream (tag : Half) (p0 : Word) (s : State) : Host.Outcome State Fault Refusal :=
  .next (s.command (.holdStream tag p0) 0x15 tag (adminRule true p0))

/-- RELEASE_STREAM (R53). -/
def execReleaseStream (tag : Half) (p0 : Word) (s : State) : Host.Outcome State Fault Refusal :=
  .next (s.command (.releaseStream tag p0) 0x16 tag (adminRule false p0))

/-- R54: SET_TARGETS. -/
def setTargetsRule (p0 p1 : Word) (s : State) : Effect :=
  match tagOf p0, targetsOf p1 with
  | some t, some tg =>
    if (s.stream t).state ≠ .suspended ∨ s.targetFailed tg then s.turnAway .refusedState
    else (s.modStream t fun x => { x with targets := tg }).ok
  | _, _ => s.turnAway .badParam

/-- SET_TARGETS (R54). -/
def execSetTargets (tag : Half) (p0 p1 : Word) (s : State) : Host.Outcome State Fault Refusal :=
  .next (s.command (.setTargets tag p0 p1) 0x17 tag (setTargetsRule p0 p1))

/-- R55: the record of a stream that END_STREAM takes to ENDING. -/
def Stream.finishing (x : Stream) (tag : Half) : Stream :=
  let y := { x with state := .ending, endTag := some tag }
  match y.bufIn .filling with
  | some k => y.closeBuf k true
  | none => { y with finalClose := true }

/-- R55: END_STREAM. -/
def endStreamRule (tag : Half) (p0 : Word) (s : State) : Effect :=
  match tagOf p0 with
  | none => s.turnAway .badParam
  | some t =>
    match (s.stream t).state with
    | .opened | .suspended =>
      { state := (s.modStream t fun x => x.finishing tag).packChoose, outcome := .accepted }
    | _ => s.turnAway .refusedState

/-- R61: the table of four parameter words, phase 4k + j in byte j of word k. -/
def arbTable (p0 p1 p2 p3 : Word) : List Nat :=
  [p0, p1, p2, p3].flatMap fun w => (leBytes 4 w.toNat).map BitVec.toNat

/-- R61: the table as tags, when every phase names a tag and every tag is named. -/
def arbTags (l : List Nat) : Option (Vector Tag 16) :=
  if l.all (· < 8) ∧ allTags.all fun t => l.contains t.val then
    some (Vector.ofFn fun i => ⟨l.getD i.val 0 % 8, by omega⟩)
  else none

/-- R61: SET_ARB_TABLE. -/
def setArbTableRule (p0 p1 p2 p3 : Word) (s : State) : Effect :=
  match arbTags (arbTable p0 p1 p2 p3) with
  | none => s.turnAway .badParam
  | some v => (s.modPack fun p => { p with pendingTable := some v }).ok

/-- SET_ARB_TABLE (R61). -/
def execSetArbTable (tag : Half) (p0 p1 p2 p3 : Word) (s : State) : Host.Outcome State Fault Refusal :=
  .next (s.command (.setArbTable tag p0 p1 p2 p3) 0x19 tag (setArbTableRule p0 p1 p2 p3))

end Sys2Proof.Machine
end

