-- ==== Sys2Proof/Machine/Path.lean ====
section
/-! DEFINITION. The path unit (chapter 9): accesses at the system port, the answers of memory to the forwarded ones, the
watched index words (R175, R183), stray accesses (R179), and INGEST accesses (R47). -/

namespace Sys2Proof.Machine

/-! ## Index words (R183) -/

/-- RING_FAULT (R183). -/
def State.ringFault (s : State) (word : Byte) (value own other : Half) : State :=
  (s.countRing fun c => { c with ringFaults := c.ringFaults.add 1 }).emit
    { kind := .ringFault, byte1 := word, e0 := value.setWidth 32, e1 := own.setWidth 32, e2 := other.setWidth 32 }

/-- R183: a value of the command producer word. -/
def State.takeProducer (s : State) (v : Half) : State :=
  if (v - s.ring.c).toNat ≤ 64 then (s.modRing fun g => { g with p := v }).intakeTest
  else s.ringFault 0 v s.ring.c s.ring.p

/-- R183, R188: a value of the status consumer word; the interrupt line follows. -/
def State.takeConsumer (s : State) (v : Half) : State :=
  if (s.ring.s - v).toNat ≤ 256 then (s.modRing fun g => { g with u := v, irq := g.s != v }).intakeTest
  else s.ringFault 1 v s.ring.s s.ring.u

/-! ## Forwarded accesses (R174 to R177) -/

/-- What memory makes of a forwarded access: a write's bytes, or the bytes read. -/
def State.memoryAccess (s : State) : Access → State × List Byte
  | .read a n => (s, s.peek a.toNat n)
  | .write a ds => (s.poke a.toNat ds, [])

/-- R177, R183: memory has answered a forwarded access, which has left the port. The ring unit takes the producer value of a write
that covers both watched words before the consumer value (DESIGN CHOICE, log entry 94). -/
def State.forwardedDone (s : State) (f : Forwarded) (ok : Bool) : State :=
  if ok then
    let r := s.memoryAccess f.acc
    let s1 := r.1.answer [.done r.2]
    let s2 := match f.producer with | some v => s1.takeProducer v | none => s1
    match f.consumer with | some v => s2.takeConsumer v | none => s2
  else (s.answer [.fault]).countPath fun c => { c with fwdFaults := c.fwdFaults.add 1 }

/-- Memory answers the next access, where it is a forwarded one and a test of it holds (R176). -/
def State.answerForwarded (s : State) (want : Forwarded → Bool) (ok : Bool) : State :=
  let p := s.path.port.upTo Issued.isForwarded
  match p.issued with
  | some (.forwarded f) => if want f then (s.modPort fun _ => p.answered).forwardedDone f ok else s
  | _ => s

/-- FORWARDED_ACCESS (R174, R175). -/
def execForwardedAccess (acc : Access) (s : State) : Host.Outcome State Fault Refusal :=
  if !acc.shaped || !s.forwards acc then .next s
  else
    let w := s.watch acc
    let t := s.modPort fun p => p.joinForwarded w.1
    .next (t.countPath fun c =>
      { c with
        fwdReads := c.fwdReads.add (match acc with | .read _ _ => 1 | .write _ _ => 0)
        fwdWrites := c.fwdWrites.add (match acc with | .read _ _ => 0 | .write _ _ => 1)
        partialIndex := c.partialIndex.add w.2.toNat })

/-- FORWARDED_ANSWER (R177). -/
def execForwardedAnswer (ok : Bool) (s : State) : Host.Outcome State Fault Refusal :=
  .next (s.answerForwarded (fun _ => true) ok)

/-- COMMAND_PRODUCER_WRITE (R183): the DONE answer to a forwarded write of the command producer word. -/
def execCommandProducerWrite (s : State) : Host.Outcome State Fault Refusal :=
  .next (s.answerForwarded (fun f => f.producer.isSome) true)

/-- STATUS_CONSUMER_WRITE (R183): the DONE answer to a forwarded write of the status consumer word. -/
def execStatusConsumerWrite (s : State) : Host.Outcome State Fault Refusal :=
  .next (s.answerForwarded (fun f => f.consumer.isSome) true)

/-! ## Accesses answered FAULT (R172, R173) -/

/-- MALFORMED_ACCESS (R172). -/
def execMalformedAccess (acc : Access) (s : State) : Host.Outcome State Fault Refusal :=
  if acc.shaped then .next s
  else .next ((s.answer [.fault]).countPath fun c => { c with malformed := c.malformed.add 1 })

/-- REFUSED_ACCESS (R173). -/
def execRefusedAccess (acc : Access) (s : State) : Host.Outcome State Fault Refusal :=
  if acc.shaped && s.refuses acc then
    .next ((s.answer [.fault]).countPath fun c => { c with refused := c.refused.add 1 })
  else .next s

/-! ## Stray accesses (R179) -/

/-- STRAY_ACCESS (R179). -/
def strayRecord (ingest : Bool) (arg : Nat) (acc : Access) : Record :=
  { kind := .strayAccess, subject := if ingest then 3 else 6, e0 := w32 arg, e1 := acc.addr.setWidth 32
    e2 := (acc.addr >>> 32).setWidth 32, e3 := (match acc with | .read _ _ => 0 | .write _ _ => 1), e4 := w32 acc.len }

/-- R179: a stray access is counted, and reported if its kind's flag is armed. -/
def State.stray (s : State) (ingest : Bool) (arg : Nat) (acc : Access) : State :=
  if ingest then
    let t := s.countPath fun c => { c with strayIngest := c.strayIngest.add 1 }
    if s.path.armedIngest then (t.modPath fun p => { p with armedIngest := false }).emit (strayRecord true arg acc) else t
  else
    let t := s.countPath fun c => { c with strayRestore := c.strayRestore.add 1 }
    if s.path.armedRestore then (t.modPath fun p => { p with armedRestore := false }).emit (strayRecord false arg acc) else t

/-! ## INGEST accesses (R47, R48) -/

/-- R47: the FILLING buffer that takes a write of `n` bytes, if the stream takes it. -/
def State.takesWrite (s : State) (t : Tag) (n : Nat) : Option BufId :=
  let x := s.stream t
  if x.state ≠ .opened ∨ (s.holdActive t).any then none
  else match x.bufIn .filling with
    | none => none
    | some k =>
      if Config.bufferSize - (x.buf k).bytes.length < n ∧ (x.buf k.other).state ≠ .empty then none else some k

/-- INGEST_WRITE (R47). -/
def execIngestWrite (a : Addr) (data : List Byte) (s : State) : Host.Outcome State Fault Refusal :=
  match s.ingestTag a with
  | none => .next s
  | some t =>
    if !(Access.write a data).shaped then .next s
    else if (s.stream t).state = .closed then .next ((s.stray true t.val (.write a data)).answer [.done []])
    else match s.takesWrite t data.length with
      | none => .next (s.answer [.retry])
      | some k => .next (((s.modStream t fun x => x.take k data).packChoose).answer [.done []])

/-- INGEST_READ (R179). -/
def execIngestRead (a : Addr) (len : Nat) (s : State) : Host.Outcome State Fault Refusal :=
  match s.ingestTag a with
  | none => .next s
  | some t =>
    if !(Access.read a len).shaped then .next s
    else .next ((s.stray true t.val (.read a len)).answer [.done (List.replicate len 0)])

end Sys2Proof.Machine
end

