-- ==== Sys2Proof/Machine/Sessions.lean ====
section
/-! DEFINITION. What ends restore sessions and readers from other blocks: the ends of a session (R119, R125, R127), the
discard of a block in progress (R38), and the reader stop with its verify summary (R114, R115). -/

namespace Sys2Proof.Machine

/-! ## Reassembly records (R40) -/

/-- Records leave the block in progress of every reader, so that a later commit passes over them (R112). -/
def State.purge (s : State) (ids : List Nat) : State :=
  forEach allDrives (fun d t => t.modChan d fun c =>
    let rx := c.reader.rx
    { c with reader := { c.reader with rx :=
      { rx with
        targets := rx.targets.filter fun i => !ids.contains i
        frags := rx.frags.map fun f => { f with records := f.records.filter fun i => !ids.contains i } } } }) s

/-- An owner whose interest has ended receives no record for the fragment under a walk (R112). -/
def State.dropOwner (s : State) (q : Requester) : State :=
  forEach allDrives (fun d t => t.modChan d fun c =>
    { c with reader := { c.reader with rx := { c.reader.rx with owners := c.reader.rx.owners.filter (· ≠ q) } } }) s

/-- R40: the records that a test selects are freed, lowest number first (DESIGN CHOICE, log entry 62). -/
def State.freeWhere (s : State) (sel : ChunkRec → Bool) : State :=
  let ids := (s.pool.records.filter sel).map (·.id)
  forEach ids (fun id t => t.freeRec id) (s.purge ids)

/-- A reassembly record that is not in the unpack engine. -/
def ChunkRec.waits (r : ChunkRec) : Bool := r.state == .reassembling || r.state == .complete

/-- R25: the decode job of a requester, if it has one, is marked discarded. -/
def State.discardDecode (s : State) (q : Requester) : State :=
  s.modRestore fun r =>
    { r with job := r.job.map fun j => if j.requester = q then { j with discarded := true } else j }

/-! ## Ends of a session (R125, R127) -/

/-- How a session ends. -/
inductive SessionEnd where
  | done
  | failed (c : Cause)
  | cancelled
  deriving DecidableEq, Repr

/-- R125: RESTORE_END. -/
def restoreEndRecord (i : SessionId) (x : Session) (e : SessionEnd) : Record :=
  { kind := .restoreEnd
    byte1 := match e with
      | .done => CmdOutcome.done.code | .failed c => (CmdOutcome.failed c).code | .cancelled => CmdOutcome.cancelled.code
    tag := x.tag, subject := BitVec.ofNat 16 i.val
    e0 := match e with | .failed c => w32 c.code | _ => 0
    e1 := x.setId, e2 := x.nextSeq, e3 := lowWord x.delivered, e4 := highWord x.delivered, e5 := x.damaged }

/-- R125, R127: a session ends: RESTORE_END is written, its records are freed, a decode of its is discarded, and it
becomes FREE, its drive absent and final collected clear (DESIGN CHOICE, log entry 100). What follows for a MOUNT it waited on
is tested by the move queue (R156). -/
def State.endSession (s : State) (i : SessionId) (e : SessionEnd) : State :=
  let x := s.session i
  if x.state = .free then s
  else
    let s1 := s.emit (restoreEndRecord i x e)
    let s2 := ((s1.freeWhere fun r => r.role == .restore i && r.waits).discardDecode (.session i)).dropOwner (.session i)
    let s3 := s2.setSession i
      { x with state := .free, drive := none, pendingRec := none, final := false, queue := [], buffer := {}
               stall := none, mountReq := none, link := none }
    s3.modRestore fun r =>
      match e with
      | .done => { r with endsDone := r.endsDone.add 1 }
      | .failed _ => { r with endsFailed := r.endsFailed.add 1 }
      | .cancelled => { r with endsCancelled := r.endsCancelled.add 1 }

/-- R127: every session attached to a channel fails, in ascending order (DESIGN CHOICE, log entry 74). -/
def State.failAttached (s : State) (d : Drive) (c : Cause) : State :=
  forEach allSessions (fun i t => if (t.session i).drive = some d then t.endSession i (.failed c) else t) s

/-- R119, R40: a session enters AWAIT_NEXT. Its REASSEMBLING records are freed, and a chunk of its in the unpack engine goes on
as a discarded job, whatever R121 says of the order of its bytes (DEDUCED, log entry 63). -/
def State.awaitNext (s : State) (i : SessionId) : State :=
  let x := s.session i
  let s1 := s.emit
    { kind := .restoreAwaitNext, subject := BitVec.ofNat 16 i.val, e0 := x.setId, e1 := x.nextSeq
      e2 := match x.drive with | some d => w32 d.val | none => 0 }
  let s2 := (s1.freeWhere fun r => r.role == .restore i && r.state == .reassembling).discardDecode (.session i)
  (s2.modSession i fun y => { y with state := .awaitNext, pendingRec := none, stall := none }).modRestore fun r =>
    { r with awaitNexts := r.awaitNexts.add 1 }

/-- R119: the sessions attached to a channel in one state enter AWAIT_NEXT, in ascending order (DESIGN CHOICE, log entry 74). -/
def State.awaitAttached (s : State) (d : Drive) (st : SessionState) : State :=
  forEach allSessions (fun i t =>
    if (t.session i).drive = some d ∧ (t.session i).state = st ∧ !(t.session i).final then t.awaitNext i else t) s

/-! ## The block in progress (R38) -/

/-- The records that the block in progress of a channel touched, in block order. -/
def BlockRx.touched (rx : BlockRx) : List Nat := (rx.frags.flatMap (·.records)).dedup

/-- R38: one record loses what the block in progress gave it. -/
def State.discardRec (s : State) (id : Nat) : State :=
  match s.findRec id with
  | none => s
  | some r =>
    if r.created then s.freeRec id
    else
      let keep := r.pages.length - r.provPages
      (s.modRec id fun x =>
        { x with pages := x.pages.take keep, provisional := 0, provPages := 0, lastIn := false }).returnPages
          (r.pages.drop keep)

/-- R38: the provisional changes of the block in progress are discarded, in block order (DESIGN CHOICE, log entry 62); the
reception returns to byte count 0. -/
def State.discardBlock (s : State) (d : Drive) : State :=
  let touched := (s.chan d).reader.rx.touched
  (forEach touched (fun id t => t.discardRec id) s).modChan d fun c =>
    { c with reader := { c.reader with rx := {}, staleWrites := c.reader.staleWrites + c.reader.rx.writes } }

/-! ## The reader stop (R114, R115) -/

/-- R115: a verify pass is clean. Whether a block was accepted and whether a gap was declared are read from the tallies, which
a CLEAR_COUNTERS during the pass has cleared (DESIGN CHOICE, log entry 64). -/
def Reader.clean (r : Reader) (normal : Bool) : Bool :=
  normal && r.tallies.accepted != 0 && r.tallies.gaps == 0 && r.tallies.chunksBad == 0 && r.tallies.unchecked == 0
    && !r.recovering

/-- R115: VERIFY_SUMMARY. -/
def summaryRecord (d : Drive) (r : Reader) (normal : Bool) : Record :=
  let cap (c : Counter) : Nat := min c.toNat 65535
  { kind := .verifySummary
    byte1 := BitVec.ofNat 8 ((r.clean normal).toNat + 2 * (!normal).toNat + 4 * r.firstBad.isSome.toNat)
    subject := BitVec.ofNat 16 d.val, e0 := r.tallies.blocksRead, e1 := r.tallies.chunksGood, e2 := r.tallies.chunksBad
    e3 := w32 (cap r.tallies.bad + 65536 * cap r.tallies.gaps), e4 := r.tallies.missed, e5 := r.firstBad.getD 0 }

/-- The cartridge record in a bay, if any, changes. -/
def State.modBayCart (s : State) (d : Drive) (f : Cart → Cart) : State :=
  s.modLoc (bayLoc d) fun l => { l with cart := l.cart.map f }

/-- R115: the end of a verify pass: the summary, and SUSPECT cleared by a clean pass. -/
def State.endPass (s : State) (d : Drive) (normal : Bool) : State :=
  let r := (s.chan d).reader
  let t := s.emit (summaryRecord d r normal)
  if r.clean normal then t.modBayCart d fun c => { c with suspect := false } else t

/-- R114: the reader of a channel stops. The sessions of a cut stop are failed by the rule that cuts it (R86, R88). -/
def State.stopReader (s : State) (d : Drive) (normal : Bool) : State :=
  if !(s.chan d).reader.running then s
  else
    let s1 := s.discardBlock d
    let unchecked := (s1.pool.records.filter fun r =>
      r.role == .verify d && ((r.state == .reassembling && 0 < r.committed) || r.state == .complete
        || r.state == .decoding)).length
    let verify := (s1.chan d).reader.verify
    let s2 := if verify then
        s1.modChan d fun c => { c with reader := { c.reader with tallies :=
          { c.reader.tallies with unchecked := c.reader.tallies.unchecked.add unchecked } } }
      else s1
    let s3 := (s2.freeWhere fun r => r.role == .verify d && r.waits).discardDecode (.verify d)
    let s4 := s3.modChan d fun c => { c with reader := { c.reader with pendingVerify := none, verifyQueue := [] } }
    let s5 := if verify then s4.endPass d normal else s4
    let s6 := s5.modChan d fun c => { c with reader := { c.reader with running := false, verify := false } }
    if normal then s6.awaitAttached d .active else s6

end Sys2Proof.Machine
end

