-- ==== Sys2Proof/Machine/Channel.lean ====
section
/-! DEFINITION. What the write side of a drive channel does (chapter 4) and how a channel changes state: regulator,
closes, FULL, EJECT_WAIT, failure. -/

namespace Sys2Proof.Machine

/-- R70: where an image slot lies. -/
def State.slotAddr (s : State) (d : Drive) (k : Nat) : Nat := s.path.imageBase[d] * 4096 + Config.slotSize * k

/-- The size code of the mount (0 without mount values, when no image exists). -/
def Channel.size (c : Channel) : Fin 4 := match c.mount with | some m => m.size | none => 0

/-- The write session of the mount. -/
def Channel.writeSession (c : Channel) : Word := match c.mount with | some m => m.session | none => 0

/-- The header that a close of an image writes (R1, R75). -/
def Channel.imageHeader (c : Channel) (i : Image) : List Byte :=
  blockHeader c.size i.frags i.seq c.writeSession i.payload

/-! ## Closes (R74) -/

/-- R74: a close of the ASSEMBLING image is asked. It is dropped without such an image, joins a close in progress or
already asked, starts at once if the assembler is idle, and waits for a placement's end otherwise. -/
def State.askClose (s : State) (d : Drive) (r : CloseReason) : State :=
  let c := s.chan d
  if c.assembling.isNone then s
  else match c.activity with
    | .closing _ => s
    | .idle =>
      (s.setChan d { c with activity := .closing (c.closeAsked.getD r), closeAsked := none }).startJob (.assembler d)
    | .placing _ => if c.closeAsked.isSome then s else s.setChan d { c with closeAsked := some r }

/-! ## The streaming regulator (4.7) -/

/-- The regulator of a channel outside WRITE and UNMOUNTING: STOPPED, E = 0, the drain timer stopped. -/
def Channel.regulatorOff (c : Channel) : Channel := { c with running := false, occupancy := 0, drainTimer := none }

/-- R83: a forced restart. -/
def State.forceRestart (s : State) (d : Drive) : State :=
  let c := s.chan d
  if c.running then s
  else s.setChan d
    { c with running := true, counters := { c.counters with forcedRestarts := c.counters.forcedRestarts.add 1 } }

/-- R83: the regulator is released by age. -/
def State.ageRelease (s : State) (d : Drive) : State :=
  let t := s.modChan d fun c =>
    { c with running := true, counters := { c.counters with ageReleases := c.counters.ageReleases.add 1 } }
  if ((s.chan d).assembling.filter (0 < ·.frags)).isSome then t.askClose d .age else t

/-- R83: when the oldest unsent image reaches its age, in microseconds of the timebase. -/
def State.ageDue (s : State) (d : Drive) : Option Nat :=
  (s.chan d).oldestUnsent.map fun i => i.openTime + 1000 * s.params.maxHold[d]

/-- R83: the test of the restart mark, for a STOPPED regulator in WRITE. -/
def State.markTest (s : State) (d : Drive) : State :=
  let c := s.chan d
  if c.state = .write ∧ !c.running ∧ s.params.restartMark[d] ≤ c.count .queued then
    s.setChan d
      { c with running := true, counters := { c.counters with markRestarts := c.counters.markRestarts.add 1 } }
  else s

/-- R83: the test of the age, for a STOPPED regulator in WRITE. -/
def State.ageTest (s : State) (d : Drive) : State :=
  let c := s.chan d
  if c.state = .write ∧ !c.running then
    match s.ageDue d with
    | some due => if due ≤ s.timebase then s.ageRelease d else s
    | none => s
  else s

/-- R83: the tests that are made when the regulator stops. -/
def State.restartTest (s : State) (d : Drive) : State := (s.markTest d).ageTest d

/-- R84: the test of an early close. -/
def State.earlyTest (s : State) (d : Drive) : State :=
  let c := s.chan d
  if c.state = .write ∧ c.running ∧ c.occupancy ≤ s.params.lowMark[d] ∧ c.oldestQueued.isNone
      ∧ (c.assembling.filter (0 < ·.frags)).isSome then
    (s.countChan d fun k => { k with earlyCloses := k.earlyCloses.add 1 }).askClose d .early
  else s

/-- R82, R83: E has reached 0 at a drain expiry. -/
def State.stopTest (s : State) (d : Drive) : State :=
  let c := s.chan d
  if c.state = .write ∧ c.running ∧ c.occupancy = 0 then
    (s.setChan d { c with running := false, counters := { c.counters with stops := c.counters.stops.add 1 } }).restartTest d
  else s

/-- R81: E rises at a send completion. -/
def State.raiseOccupancy (s : State) (d : Drive) : State :=
  let c := s.chan d
  if c.occupancy ≥ s.params.regulatorBuffer[d] then
    s.countChan d fun k => { k with saturations := k.saturations.add 1 }
  else s.setChan d
    { c with
      occupancy := c.occupancy + 1
      drainTimer := if c.occupancy = 0 then some (s.timebase + s.params.drainInterval[d]) else c.drainTimer }

/-! ## FULL (R79) -/

def FullReason.code : FullReason → Nat
  | .capacity => 0
  | .warning => 1

/-- R79: FULL becomes set. -/
def State.setFull (s : State) (d : Drive) (r : FullReason) : State :=
  let c := s.chan d
  let m := c.mount.getD { size := 0, nextSeq := 0, capacity := 0, session := 0 }
  (((s.setChan d { c with full := some r }).emit
    { kind := .channelFull, subject := BitVec.ofNat 16 d.val, e0 := m.capacity, e1 := m.nextSeq
      e2 := w32 r.code }).askClose d .fullOrUnmount).forceRestart d

/-- R79: the test of the capacity counter. -/
def State.fullTest (s : State) (d : Drive) : State :=
  let c := s.chan d
  match c.mount with
  | some m =>
    if c.state = .write ∧ c.full.isNone ∧ m.capacity.toNat ≤ s.params.ewReserve[d] then s.setFull d .capacity else s
  | none => s

/-! ## Changes of state (R66) -/

/-- R66: a change of state writes CHANNEL_STATE. The cleaning mark clears when the channel leaves MOUNTING (R160). -/
def State.enter (s : State) (d : Drive) (st : ChanState) : State :=
  let c := s.chan d
  if c.state = st then s
  else (s.setChan d { c with state := st, cleaningMark := false }).emit
    { kind := .channelState, subject := BitVec.ofNat 16 d.val, e0 := w32 st.code, e1 := w32 c.state.code }

/-- R94: a readback in progress is dropped, and counted if it had received a byte. -/
def Channel.dropReadback (c : Channel) : Channel :=
  { c with
    readback := {}
    counters := if 0 < c.readback.count then { c.counters with cutShort := c.counters.cutShort.add 1 } else c.counters }

/-- R69, R94, R99, R103: the exit from WRITE or UNMOUNTING to a state other than UNMOUNTING. The check mode of the
period ends with it (R91). -/
def Channel.leaveWrite (c : Channel) : Channel :=
  { c.dropReadback.regulatorOff with
    full := none, changeoverAsked := false, stale := none, readbackTimer := false }

/-- R69, R91, R94: what the entry to WRITE makes of the channel record. -/
def Channel.startWrite (c : Channel) (check : Bool) : Channel :=
  { c.regulatorOff with changeoverAsked := false, checkPeriod := check, readback := {} }

/-- R69: the entry to WRITE. -/
def State.enterWrite (s : State) (d : Drive) : State :=
  ((s.modChan d fun c => c.startWrite (s.params.checkMode[d] == 1)).enter d .write).fullTest d

/-- R65, R159: the entry to UNMOUNTED; the mount values become absent. -/
def State.enterUnmounted (s : State) (d : Drive) : State :=
  (s.modChan d fun c => { c with mount := none, ejectTimer := none }).enter d .unmounted

/-- R159: the entry to EJECT_WAIT, with EJECT_READY; a bay whose cartridge is not LOADED makes the channel UNMOUNTED in the
same event. A session WAIT_READ on the channel enters AWAIT_NEXT (R119). The records come in this order: CHANNEL_STATE,
EJECT_READY, RESTORE_AWAIT_NEXT, and the CHANNEL_STATE of UNMOUNTED (DESIGN CHOICE, log entry 86). -/
def State.enterEject (s : State) (d : Drive) (forced : Bool) : State :=
  let left := (s.chan d).state
  let s1 := (s.modChan d fun c =>
    { c with mountTimer := none, cleanTimer := none
             ejectTimer := some (s.timebase + timeoutMicros s.params.mountTimeout) }).enter d .ejectWait
  let suspect := match s1.bayCart d with | some k => k.suspect | none => false
  let s2 := s1.emit
    { kind := .ejectReady, subject := BitVec.ofNat 16 d.val, e0 := if forced then 1 else 0
      e1 := if suspect then 1 else 0, e2 := w32 left.code }
  let s3 := s2.awaitAttached d .waitRead
  if s3.bayPos d = .on then s3 else s3.enterUnmounted d

/-- R158: the drain of an UNMOUNTING channel completes. -/
def State.drainTest (s : State) (d : Drive) : State :=
  let c := s.chan d
  if c.state = .unmounting ∧ c.drained then (s.modChan d Channel.leaveWrite).enterEject d false else s

/-! ## Giving up the write side (R86, R88, R158) -/

/-- R34: the assembler drops what it holds. A placement in progress owes its give-up until memory has answered its reads;
the held chunk, unless it is the one being placed, and then the placement queue in its order are given up at once (DESIGN
CHOICE, log entry 62). Each stream whose chunks leave the queue is then tested for its chunk boundary (R52), in ascending tag
order (DESIGN CHOICE, log entry 60). -/
def State.dropAssembler (s : State) (d : Drive) : State :=
  let c := s.chan d
  let owed : List (Option Nat) := match c.activity with
    | .placing p => [some p.record]
    | .closing _ => [none]
    | .idle => []
  let held : List Nat := match c.held with
    | some (r, _) => if owed.contains (some r) then [] else [r]
    | none => []
  let left (t : Tag) : Bool := c.placeQueue.any fun id => match s.findRec id with
    | some r => r.role == .backup t
    | none => false
  let s1 := (s.setChan d
    { c with activity := .idle, closeAsked := none, held := none, placeQueue := []
             abandoned := c.abandoned ++ owed }).giveUpAll (held ++ c.placeQueue)
  forEach (allTags.filter left) (fun t u => u.suspendTest t) s1

/-- The send cursor becomes absent; a read that memory still owes is answered without a send. -/
def Channel.dropSend (c : Channel) : Channel :=
  { c with cursor := none, read := c.read.map fun r => { r with live := false } }

/-- Every timer of the channel stops. -/
def Channel.stopTimers (c : Channel) : Channel :=
  { c with drainTimer := none, readbackTimer := false, mountTimer := none, ejectTimer := none, cleanTimer := none }

/-- R87: the first-fault record of a failure at a time. -/
def Channel.faultRecord (c : Channel) (cause : Cause) (time : Nat) (named : Option Image) : FirstFault :=
  match named with
  | some i => { cause := cause, time := time, seq := i.seq, named := true, header := c.imageHeader i }
  | none =>
    { cause := cause, time := time, seq := match c.mount with | some m => m.nextSeq | none => 0
      named := false, header := List.replicate 16 0 }

/-- R86: CHANNEL_FAILED. -/
def failedRecord (d : Drive) (cause : Cause) (left : ChanState) (f : FirstFault) : Record :=
  let word (k : Nat) : Word := w32 (ofLE (slice f.header (4 * k) 4))
  { kind := .channelFailed, byte1 := cause.byte, subject := BitVec.ofNat 16 d.val, e0 := f.seq
    e1 := w32 (left.code + 256 * f.named.toNat), e2 := word 0, e3 := word 1, e4 := word 2, e5 := word 3 }

/-- R86: the channel record at the entry to FAILED: the images, the verify list and the stale window are kept. -/
def Channel.failing (c : Channel) (f : FirstFault) : Channel :=
  { (c.dropSend.dropReadback.regulatorOff.stopTimers) with
    state := .failed, cleaningMark := false, full := none, changeoverAsked := false, firstFault := some f }

/-- R86: a channel becomes FAILED, with the aborts (R59), the reader stop (R114) and the session failures (R127) that
follow. A channel already FAILED is left as it is. -/
def State.failChannel (s : State) (d : Drive) (cause : Cause) (named : Option Image) : State :=
  let c := s.chan d
  if c.state = .failed then s
  else
    let f := c.firstFault.getD (c.faultRecord cause s.timebase named)
    let s1 := (s.dropAssembler d).modChan d fun x => x.failing f
    let s2 := s1.emit (failedRecord d cause c.state f)
    let s3 := s2.abortTargeting d .drive
    (s3.stopReader d false).failAttached d .drive

/-! ## Cleaning (R162) -/

/-- R65, R162: the blocks-moved count rises by 1; at cleaning_interval[d] the cleaning-due flag is set and the count returns to 0.
A count of 4,294,967,295, which it comes to with cleaning off alone, does not rise any further (DESIGN CHOICE, log entry 103). -/
def State.blockMoved (s : State) (d : Drive) : State :=
  let n := Counter.add (s.chan d).blocksMoved 1
  let due := s.params.cleaningInterval[d] ≠ 0 ∧ s.params.cleaningInterval[d] ≤ n.toNat
  let t := s.modChan d fun c => { c with blocksMoved := if due then 0 else n }
  if due then t.modLoader fun l => { l with cleaningDue := l.cleaningDue.set d true } else t

/-! ## Unmounting (R157, R158) -/

/-- R158: the forced unmount of a channel in WRITE or UNMOUNTING. -/
def State.forcedUnmount (s : State) (d : Drive) : State :=
  let c := s.chan d
  let dirty := !c.images.isEmpty || c.held.isSome
  let s1 := (s.dropAssembler d).modChan d fun x =>
    { x.leaveWrite.dropSend with
      images := [], verifyList := []
      counters := { x.dropReadback.counters with forcedUnmounts := x.counters.forcedUnmounts.add 1 } }
  let s2 := if dirty then s1.modBayCart d fun k => { k with suspect := true } else s1
  (s2.abortTargeting d .forced).enterEject d true

/-- R158: the entry to UNMOUNTING. -/
def State.enterUnmounting (s : State) (d : Drive) : State :=
  let s1 := (s.enter d .unmounting).modChan d fun c => { c with full := none, changeoverAsked := false }
  ((s1.askClose d .fullOrUnmount).forceRestart d).drainTest d

/-- R157: UNMOUNT, as a command or taken by the loader. -/
def unmountRule (force : Bool) (d : Drive) (s : State) : Effect :=
  let c := s.chan d
  match c.state with
  | .unmounted =>
    if s.bayPos d = .on ∧ (s.bayCart d).isSome then (s.enterEject d false).ok else s.turnAway .refusedState
  | .mounting => if c.cleaningMark then s.turnAway .refusedState else (s.enterEject d false).ok
  | .idle => (s.enterEject d false).ok
  | .read => ((s.stopReader d true).enterEject d false).ok
  | .write => if force then (s.forcedUnmount d).ok else (s.enterUnmounting d).ok
  | .unmounting => if force then (s.forcedUnmount d).ok else s.ok
  | .ejectWait => s.ok
  | .failed => s.turnAway .refusedState

end Sys2Proof.Machine
end

