-- ==== Sys2Proof/Machine/Moves.lean ====
section
/-! DEFINITION. The move queue (8.1, 8.3): joining, reservations, the ends of requests and what follows from them, the
door lock output (R135), and the preempt record (R164, R165). -/

namespace Sys2Proof.Machine

/-! ## Cartridge records by name -/

/-- The location that holds a cartridge record. -/
def State.cartLoc (s : State) (uid : Nat) : Option Loc :=
  allLocs.find? fun l => match (s.loc l).cart with | some c => c.uid == uid | none => false

/-- A cartridge record, at a location or on the picker. -/
def State.findCart (s : State) (uid : Nat) : Option Cart :=
  match s.picker.cart with
  | some c => if c.uid = uid then some c else (s.cartLoc uid).bind fun l => (s.loc l).cart
  | none => (s.cartLoc uid).bind fun l => (s.loc l).cart

/-- A fresh cartridge record (R129), with the next name. -/
def State.newCart (s : State) : Cart × State :=
  (freshCart s.loader.nextUid, s.modLoader fun l => { l with nextUid := l.nextUid + 1 })

/-! ## The door lock (R135, R136) -/

/-- A DOOR_EVENT record (R136). -/
def State.doorEvent (s : State) (code : Nat) : State :=
  s.emit { kind := .doorEvent, e0 := w32 code, e1 := w32 s.picker.state.code }

/-- R135: the lock output follows its condition; each change writes the panel event, also where one event parks the picker
and the selection at its end starts the next leg (DESIGN CHOICE, log entry 84). -/
def State.syncLock (s : State) : State :=
  if s.lockWanted = s.loader.lockOutput then s
  else (s.modLoader fun l => { l with lockOutput := s.lockWanted }).doorEvent (if s.lockWanted then 2 else 3)

/-- The picker changes its state, and the lock output follows. -/
def State.setPicker (s : State) (st : PickState) : State := (s.modPicker fun p => { p with state := st }).syncLock

/-! ## Reservations (R150) -/

/-- The request reservations of a request are released. -/
def State.releaseReserved (s : State) (r : Reservation) : State :=
  s.modLoader fun l => { l with locs := l.locs.map fun x => if x.reserved = some r then { x with reserved := none } else x }

/-- R150: a destination is reserved for another request than one that carries the record `cart`. -/
def State.reservedForOther (s : State) (l : Loc) (stamp : Nat) (cart : Option Nat) : Bool :=
  match (s.loc l).reserved with
  | none => false
  | some (.request x) => x != stamp
  | some (.homeOf u) => some u != cart

/-! ## Requests (R148, R149) -/

def State.findReq (s : State) (stamp : Nat) : Option Req := s.loader.queue.find? (·.stamp == stamp)

def State.modReq (s : State) (stamp : Nat) (f : Req → Req) : State :=
  s.modLoader fun l => { l with queue := l.queue.map fun r => if r.stamp = stamp then f r else r }

/-- The requests in the queue that come from commands. -/
def State.commandReqs (s : State) : Nat := (s.loader.queue.filter (!·.internal)).length

/-- R149: a request joins the queue at its back, QUEUED, with the next age stamp. -/
def State.joinQueue (s : State) (r : Req) : State :=
  s.modLoader fun l => { l with queue := l.queue ++ [{ r with stamp := l.nextStamp }], nextStamp := l.nextStamp + 1 }

/-- R148: the internal id after one. -/
def nextInternal (n : Nat) : Nat := if n = 65535 then 1 else n + 1

/-- R148: an internal request joins the queue with the next internal id. -/
def State.joinInternal (s : State) (r : Req) : State :=
  (s.joinQueue { r with id := BitVec.ofNat 16 s.loader.nextId, internal := true }).modLoader fun l =>
    { l with nextId := nextInternal l.nextId }

/-- The queue holds as many requests as it can. -/
def State.queueFull (s : State) : Bool := Config.queueMax ≤ s.loader.queue.length

/-- R149: an internal request other than a RETURN is queued, or dropped and counted when the queue is full; a
dropped one takes no internal id (DESIGN CHOICE, log entry 101). -/
def State.raiseInternal (s : State) (r : Req) : State :=
  if s.queueFull then s.countLoader fun c => { c with droppedReqs := c.droppedReqs.add 1 } else s.joinInternal r

/-- A request with every field that does not depend on its kind at its first value. -/
def newReq (kind : MoveKind) (src : Option Loc) (dst : Loc) : Req :=
  { stamp := 0, id := 0, internal := false, kind := kind, src := src, dst := dst }

/-- A CLEAN for a drive is in the queue. -/
def State.cleanQueued (s : State) (d : Drive) : Bool := s.loader.queue.any fun r => r.kind == .clean && r.drive == some d

/-- Where a record goes home: its home slot, or the mail slot. -/
def homeOr (c : Option Cart) : Loc :=
  match c.bind (·.home) with
  | some h => slotLoc h
  | none => mailLoc

/-! ## The preempt record (R164, R165) -/

def State.setPreemptRec (s : State) (p : Option Preempt) : State := s.modLoader fun l => { l with preempt := p }

/-- R165: a preempt ends: PREEMPT leaves every stream, the links clear, and the record becomes absent. -/
def State.endPreempt (s : State) : State :=
  let s1 := s.setPreemptRec none
  let s2 := forEach allSessions (fun i t => t.modSession i fun x => { x with link := none }) s1
  forEach allTags (fun t u => u.setPreempt false t) s2

/-- R164: some stream that holds PREEMPT is neither SUSPENDED nor CLOSED. -/
def State.preemptBusy (s : State) : Bool :=
  allTags.any fun t =>
    (s.stream t).causePreempt && (s.stream t).state != .suspended && (s.stream t).state != .closed

/-! ## The end of a request (R153) -/

/-- How a request ends. -/
inductive ReqEnd where
  | done
  | failed (c : Cause)
  | cancelled
  deriving DecidableEq, Repr

def ReqEnd.outcome : ReqEnd → CmdOutcome
  | .done => .done
  | .failed c => .failed c
  | .cancelled => .cancelled

/-- The source of a request's first leg, as E2 of MOVE_END gives it: 27 for the picker (DEDUCED, log entry 21); an
INVENTORY gives its first location. -/
def Req.firstSource (r : Req) : Option Nat :=
  match r.kind with
  | .inventory => some r.first
  | .returnCart => some 27
  | _ => (if r.legsDone = 0 then r.src else r.firstSrc).map (·.val)

/-- The destination of a request's last leg, as E3 of MOVE_END gives it. -/
def Req.lastDest (r : Req) : Nat :=
  match r.kind, r.second with
  | .inventory, _ => r.last
  | _, some (_, t) => t.val
  | _, none => r.dst.val

/-- The request's destination is not chosen yet: a MOUNT whose preference is ANY, before its first judgement (R160). -/
def Req.destOpen (r : Req) : Bool := r.kind == .mount && r.pref.isNone && r.judged.isNone

/-- MOVE_END (R153). The subject of a request that ends before it was ever judged is its leg's destination (DESIGN CHOICE, log
entry 92). A CLEAN whose cleaner was never chosen has no first source, and a MOUNT that was never judged may
have no destination: these are free values. -/
def State.moveEnd (s : State) (r : Req) (e : ReqEnd) : State :=
  let open_ := r.destOpen
  let subject : Nat := match r.kind with | .inventory => r.last | _ => (r.judged.getD r.dst).val
  let s1 := s.emit
    { kind := .moveEnd, byte1 := e.outcome.code, tag := if r.internal then 0 else r.id
      subject := if open_ then s.freeWord.setWidth 16 else BitVec.ofNat 16 subject
      e0 := e.outcome.cause, e1 := w32 r.kind.code
      e2 := match r.firstSource with | some n => w32 n | none => s.freeWord
      e3 := if open_ then s.freeWord else w32 r.lastDest, e4 := r.id.setWidth 32, e5 := w32 r.legsDone }
  if r.firstSource.isNone || open_ then s1.draw else s1

/-- CLEAN_END (R163): the cleaner's slot and its uses; where the CLEAN has no cleaner, or its record is gone, they are
free values. -/
def State.cleanEnd (s : State) (r : Req) (e : ReqEnd) : State :=
  let slot := r.firstSource
  let uses := (r.cart.bind s.findCart).map (·.uses)
  let s1 := s.emit
    { kind := .cleanEnd, byte1 := e.outcome.code
      subject := BitVec.ofNat 16 (match r.drive with | some d => d.val | none => 0)
      e0 := e.outcome.cause
      e1 := match slot with | some n => w32 n | none => s.freeWord
      e2 := match uses with | some n => w32 n | none => s.draw.freeWord }
  if slot.isNone ∨ uses.isNone then s1.draw.draw else s1

/-- INVENTORY_END (R154). -/
def inventoryEnd (r : Req) (e : ReqEnd) : Record :=
  { kind := .inventoryEnd, byte1 := e.outcome.code, subject := BitVec.ofNat 16 r.first
    e0 := w32 r.visits, e1 := w32 r.labels, e2 := w32 r.unlabelled, e3 := w32 r.cursor }

/-- R119: the sessions that wait on a MOUNT end with it, in ascending order (DESIGN CHOICE, log entry 74). -/
def State.endWaiting (s : State) (stamp : Nat) (e : ReqEnd) : State :=
  forEach allSessions (fun i t =>
    if (t.session i).mountReq = some stamp then
      match e with
      | .done => t
      | .failed c => t.endSession i (.failed c)
      | .cancelled => t.endSession i .cancelled
    else t) s

/-- R153: a request ends: it leaves the queue and the picker, its reservation is released, its records are written, and
the sessions that wait on it end. What a preempt makes of it follows in `endReq`. -/
def State.closeReq (s : State) (r : Req) (e : ReqEnd) : State :=
  let s1 := s.modLoader fun l =>
    { l with
      queue := l.queue.filter (·.stamp ≠ r.stamp)
      picker := if l.picker.active = some r.stamp then { l.picker with active := none, cut := false } else l.picker
      counters := match e with
        | .done => { l.counters with endedDone := l.counters.endedDone.add 1 }
        | .failed _ => { l.counters with endedFailed := l.counters.endedFailed.add 1 }
        | .cancelled => { l.counters with endedCancelled := l.counters.endedCancelled.add 1 } }
  let s2 := s1.releaseReserved (.request r.stamp)
  let s3 := match r.kind with
    | .clean => s2.cleanEnd r e
    | .inventory => s2.emit (inventoryEnd r e)
    | _ => s2
  (s3.moveEnd r e).endWaiting r.stamp e

/-- R165: the REMOUNT of a preempt: its legs, as far as they are there. -/
def State.remountReq (s : State) (p : Preempt) : Req :=
  let bay := bayLoc p.victim
  let first := if s.presence bay = .empty then none else some (bay, homeOr (s.bayCart p.victim))
  let second := (p.cart.bind s.cartLoc).map fun l => (l, bay)
  match first, second with
  | some (a, b), sec =>
    { newReq .remount (some a) b with
      second := sec, drive := some p.victim, recorded := if sec.isSome then none else some .sourceEmpty }
  | none, some (a, b) => { newReq .remount (some a) b with drive := some p.victim }
  | none, none => { newReq .remount (some bay) bay with drive := some p.victim, recorded := some .sourceEmpty }

/-- R165: phase REMOUNTING begins, and the REMOUNT is queued; or the preempt ends, where the victim's cartridge is still
in the bay or the REMOUNT is dropped. A REMOUNT that neither leg is left of ends at once (log entry 22). -/
def State.beginRemount (s : State) (p : Preempt) : State :=
  let s1 := forEach allSessions (fun i t => t.modSession i fun x => { x with link := none }) s
  let still := match s1.bayCart p.victim with | some c => p.cart == some c.uid | none => false
  if still then s1.endPreempt
  else
    let r := s1.remountReq p
    if s1.queueFull then (s1.raiseInternal r).endPreempt
    else
      let s2 := (s1.setPreemptRec (some { p with phase := .remounting, remount := some s1.loader.nextStamp })).joinInternal r
      if r.src = some r.dst then
        match s2.loader.queue.getLast? with
        | some q => (s2.closeReq q (.failed .sourceEmpty)).endPreempt
        | none => s2
      else s2

/-- R153, R165: the end of a request, with what the preempt that it belongs to makes of it. A REMOUNT that an earlier preempt
left in the queue ends without an effect on a later one. -/
def State.endReq (s : State) (r : Req) (e : ReqEnd) : State :=
  let t := s.closeReq r e
  match t.loader.preempt with
  | none => t
  | some p =>
    if e = .done then t
    else if p.remount = some r.stamp then t.endPreempt
    else if p.mount = r.stamp then (if p.unmountTaken then t.beginRemount p else t.endPreempt)
    else t

/-- The end of the request of an age stamp. -/
def State.endStamp (s : State) (stamp : Nat) (e : ReqEnd) : State :=
  match s.findReq stamp with
  | some r => s.endReq r e
  | none => s

/-! ## RETURN requests (R149, R155) -/

/-- The newest request of a class that is not ACTIVE. -/
def State.newestOf (s : State) (cls : Nat) : Option Req :=
  (s.loader.queue.filter fun r => r.kind.cls = cls ∧ r.state ≠ .active).getLast?

/-- R149: the request that a RETURN displaces. -/
def State.displaceable (s : State) : Option Req :=
  match s.newestOf 7 with
  | some r => some r
  | none => match s.newestOf 6 with
    | some r => some r
    | none => s.newestOf 5

/-- R149, R155: a RETURN of the record that the picker holds is queued. A bay gives way to the record's home. -/
def State.queueReturn (s : State) (dst : Loc) : State :=
  let t := match bayOf dst with | some _ => homeOr s.picker.cart | none => dst
  let r := { newReq .returnCart none t with cart := s.picker.cart.map (·.uid) }
  if s.queueFull then
    match s.displaceable with
    | some q =>
      ((s.endReq q .cancelled).countLoader fun c => { c with displaced := c.displaced.add 1 }).joinInternal r
    | none => s.countLoader fun c => { c with droppedReqs := c.droppedReqs.add 1 }
  else s.joinInternal r

/-- R133, R143: a RETURN to the leg source is queued. -/
def State.queueReturnToSource (s : State) : State := s.queueReturn (s.picker.legSource.getD mailLoc)

end Sys2Proof.Machine
end

