-- ==== Sys2Proof/Machine/Picker.lean ====
section
/-! DEFINITION. The picker (7.7, 7.8): orders, the steps of a leg, failures, labels, homing; and what the end of a leg
means for its request (R153, R154, R160, R161, R163). -/

namespace Sys2Proof.Machine

/-! ## Orders (R141, R142) -/

/-- R140: the picker's state while an order is in flight. -/
def Stage.pickState : Stage → PickState
  | .toSource | .toDest | .visit => .travel
  | .grip => .grip
  | .release => .release
  | .readLabel | .visitRead => .scan
  | .home => .homing

/-- R142: the presence a location awaits once an order is sent. -/
def Stage.expects : Stage → Option Bool
  | .grip => some false
  | .release => some true
  | _ => none

/-- R141: the order number after one. -/
def nextOrder (n : Nat) : Nat := if n = 255 then 1 else n + 1

/-- R141, R142: an order is sent. -/
def State.sendOrder (s : State) (st : Stage) (l : Option Loc) : State :=
  let s1 := match st.expects, l with
    | some e, some x => s.modLoc x fun y => { y with expected := some e }
    | _, _ => s
  let s2 := s1.modPicker fun p =>
    { p with
      order := some { number := p.nextNumber, stage := st, loc := l
                      deadline := s.timebase + timeoutMicros s.params.motionTimeout }
      inFlight := true, nextNumber := nextOrder p.nextNumber }
  (s2.countLoader fun c => { c with orders := c.orders.add 1 }).setPicker st.pickState

/-- The request that the picker serves. -/
def State.activeReq (s : State) : Option Req := s.picker.active.bind s.findReq

/-- A request goes back into the queue, and the picker serves none. Its reservation is released (R150). -/
def State.requeue (s : State) (r : Req) (st : ReqState) (blocked : Option Loc) : State :=
  ((s.modPicker fun p => { p with active := none, cut := false }).releaseReserved (.request r.stamp)).modReq r.stamp
    fun x => { x with state := st, blocked := blocked }

/-- R133: a cut leg ends. -/
def State.cutEnd (s : State) : State :=
  match s.activeReq with
  | none => s
  | some r =>
    if s.picker.cart.isSome then
      let t := (s.modPicker fun p => { p with cut := false }).setPicker .holding
      if r.kind = .returnCart then t.requeue r (.waiting .magazine) none
      else (t.endReq r (.failed .magazineOpen)).queueReturnToSource
    else
      let t := (s.modPicker fun p => { p with cut := false }).setPicker .parked
      if r.marked then t.endReq r .cancelled
      else if r.kind = .inventory then t.requeue r .queued none
      else t.endReq r (.failed .magazineOpen)

/-- R133, R142: the next order of a leg is sent, or the leg is cut where it would name a slot of an OPEN magazine. -/
def State.sendLeg (s : State) (st : Stage) (l : Loc) : State :=
  if s.inOpenMagazine l then s.cutEnd else s.sendOrder st (some l)

/-! ## Homing (R145) -/

/-- The HOME order is sent once no order is outstanding and the door is closed. -/
def State.homeTest (s : State) : State :=
  if s.picker.state = .homing ∧ s.picker.order.isNone ∧ !s.doorOpen then s.sendOrder .home none else s

/-- Homing starts. -/
def State.startHoming (s : State) (goal : HomeTo) : State :=
  ((s.modPicker fun p => { p with homeTo := goal }).setPicker .homing).homeTest

/-- The PICKER_FAULT record that ends a RECOVER_PICKER in progress; the recovery tag becomes absent. -/
def State.endRecovery (s : State) (o : CmdOutcome) (e0 : Word) : State :=
  match s.picker.recovery with
  | none => s
  | some tag =>
    (s.emit { kind := .pickerFault, byte1 := o.code, tag := tag, e0 := e0 }).modPicker fun p => { p with recovery := none }

/-- R145: the DONE of HOME. The order of its records is the model's (DESIGN CHOICE, log entry 106): LOCATION_CHANGED of the
dropped record, the lock's DOOR_EVENT, the PICKER_FAULT of a recovery; and that PICKER_FAULT before the MOVE_END of a request
that the RETURN takes the place of. -/
def State.homeDone (s : State) : State :=
  let s1 := s.modPicker fun p => { p with pos := some .home, fault := none }
  if (s1.filter .gripper).debounced = .on then
    let (fresh, s2) := if s1.picker.cart.isSome then (freshCart 0, s1) else s1.newCart
    let s3 := s2.modPicker fun p => { p with cart := some (p.cart.getD fresh) }
    let s4 := (s3.setPicker .holding).endRecovery .done (w32 PickState.holding.code)
    match s4.picker.homeTo with
    | .mail => s4.queueReturn mailLoc
    | .legSource => s4.queueReturnToSource
  else
    let s2 := match s1.picker.cart with
      | none => s1
      | some c =>
        ((s1.modPicker fun p => { p with cart := none }).releaseReserved (.homeOf c.uid)).emit
          { kind := .locationChanged, subject := 27, e0 := 0, e1 := 2 }
    (s2.setPicker .parked).endRecovery .done (w32 PickState.parked.code)

/-! ## Failures (R143) -/

/-- The expectation of an order is cleared. -/
def State.clearExpectation (s : State) (o : Order) : State :=
  match o.stage.expects, o.loc with
  | some _, some l => s.modLoc l fun x => { x with expected := none }
  | _, _ => s

/-- R143: the counter of a fault; DOOR_OPEN has none. -/
def LoaderCounters.countFault (c : LoaderCounters) : Cause → LoaderCounters
  | .jam => { c with jams := c.jams.add 1 }
  | .timeout => { c with timeouts := c.timeouts.add 1 }
  | .picker => { c with protocolErrors := c.protocolErrors.add 1 }
  | _ => c

/-- R143, R145: the PICKER_FAULT record of a fault; one that ends a RECOVER_PICKER carries its tag. -/
def faultedRecord (left : PickState) (o : Order) (cause : Cause) (req : Nat) (holds : Bool) (recovery : Option Half) :
    Record :=
  match recovery with
  | some tag =>
    { kind := .pickerFault, byte1 := (CmdOutcome.failed cause).code, tag := tag, subject := 0xFFFF
      e0 := w32 cause.code, e1 := 4, e2 := 0, e3 := w32 holds.toNat }
  | none =>
    { kind := .pickerFault, byte1 := cause.byte
      subject := match o.loc with | some l => BitVec.ofNat 16 l.val | none => 0xFFFF
      e0 := w32 left.code, e1 := w32 o.stage.kindCode, e2 := w32 req, e3 := w32 holds.toNat }

/-- R143: the picker becomes FAULTED. The order has left its flight; whether it is still outstanding is the caller's. The
records of the request that ends come first, then the lock's DOOR_EVENT, then PICKER_FAULT (DESIGN CHOICE, log entry 77). -/
def State.faultPicker (s : State) (cause : Cause) (o : Order) : State :=
  let left := s.picker.state
  let req := match s.activeReq with | some r => r.id.toNat | none => 0
  let s1 := (s.clearExpectation o).modPicker fun p =>
    { p with inFlight := false, pos := none, cut := false, fault := some cause }
  let s2 := match s1.activeReq with
    | some r => s1.endReq r (.failed cause)
    | none => s1
  let s3 := (s2.countLoader fun c => c.countFault cause).setPicker .faulted
  let recovery := s3.picker.recovery
  (s3.emit (faultedRecord left o cause req s3.picker.cart.isSome recovery)).modPicker fun p => { p with recovery := none }

/-! ## Labels (R144) -/

/-- The cartridge record at a location, or the picker's. -/
def State.cartAt (s : State) : Option Loc → Option Cart
  | some l => (s.loc l).cart
  | none => s.picker.cart

def State.modCartAt (s : State) (l : Option Loc) (f : Cart → Cart) : State :=
  match l with
  | some l => s.modLoc l fun x => { x with cart := x.cart.map f }
  | none => s.modPicker fun p => { p with cart := p.cart.map f }

/-- The number of a place in the label records: 27 for the picker. -/
def placeCode : Option Loc → Nat
  | some l => l.val
  | none => 27

/-- Where another record than `uid` holds a label. -/
def State.labelHolder (s : State) (t : List Byte) (uid : Nat) : Option (Option Loc) :=
  (allLocs.map some ++ [none]).find? fun l =>
    match s.cartAt l with
    | some c => c.uid != uid && c.label == some t
    | none => false

/-- R162: a record has taken the media kind CLEANING, and the no-cleaner marks clear. -/
def State.cleanerTest (s : State) (before after : Media) : State :=
  if after = .cleaning ∧ before ≠ .cleaning then s.modLoader fun l => { l with noCleaner := Vector.replicate 2 false } else s

/-- R144: a label is read into the record at a place that holds one. -/
def State.takeLabel (s : State) (l : Option Loc) (t : List Byte) : State :=
  match s.cartAt l with
  | none => s
  | some x =>
    if x.label = some t then s
    else
      let (lo, hi) := labelWords (some t)
      let holder := s.labelHolder t x.uid
      let y := holder.bind s.cartAt
      let s1 := match holder with
        | none => s
        | some h =>
          let u := s.modCartAt h fun c => { c with label := none, suspect := false }
          (u.emit { kind := .duplicateLabel, subject := BitVec.ofNat 16 (placeCode h), e0 := w32 (placeCode l)
                    e1 := lo, e2 := hi }).countLoader fun c => { c with duplicateLabels := c.duplicateLabels.add 1 }
      let uses := match y with
        | some c => c.uses
        | none => if t.getLast? = some 0x43 then s.params.cleanUsesNew else x.uses
      let suspect := x.suspect || (match y with | some c => c.suspect | none => false)
      let x' := { x with label := some t, uses := uses, suspect := suspect }
      (s1.modCartAt l fun _ => x').cleanerTest x.media x'.media

/-- R144: the text of a LABEL reply, if it is a label. -/
def labelOf : Reply → Option (List Byte)
  | .label t => if 1 ≤ t.length ∧ t.length ≤ 8 ∧ t.all labelChar then some t else none
  | _ => none

/-- R144: a LABEL reply whose text is no label is counted. -/
def badLabel : Reply → Bool
  | .label t => (labelOf (.label t)).isNone
  | _ => false

/-- R144: a reply to READ_LABEL acts on the record at a place, and LABEL_READ is written. Where the place holds no record, the
manual states no media kind for E2: a free value (DESIGN CHOICE, log entry 10); the other words follow the text that was read
(log entry 29). -/
def State.labelReply (s : State) (l : Option Loc) (r : Reply) : State :=
  let s1 := if badLabel r then s.countLoader fun c => { c with badLabels := c.badLabels.add 1 } else s
  let s2 := match labelOf r with
    | some t => s1.takeLabel l t
    | none => s1.modCartAt l fun c => { c with label := none }
  let code : Nat := if (s.cartAt l).isNone then 2 else if (labelOf r).isSome then 0 else 1
  let (lo, hi) := labelWords (labelOf r)
  let s3 := s2.emit
    { kind := .labelRead, byte1 := BitVec.ofNat 8 code, subject := BitVec.ofNat 16 (placeCode l), e0 := lo, e1 := hi
      e2 := match s2.cartAt l with | some c => w32 c.media.code | none => s2.freeWord }
  if (s2.cartAt l).isNone then s3.draw else s3

/-! ## A bay is loaded (R160) -/

/-- R160: the channel takes the cartridge released into its bay, in whatever state it is by then: it enters MOUNTING, and its
timer starts. A channel that became FAILED during the leg keeps its first-fault record (R87); its TAPE_OUT reads then go by the
table of R76 again (DEDUCED, log entry 23). -/
def State.startMounting (s : State) (d : Drive) (cleaning : Bool) : State :=
  (s.enter d .mounting).modChan d fun c =>
    if cleaning then { c with cleaningMark := true, cleanTimer := some (s.timebase + timeoutMicros s.params.cleanTimeout) }
    else { c with mountTimer := some (s.timebase + timeoutMicros s.params.mountTimeout) }

/-- R150, R160: the RELEASE DONE that moves a record into a bay. -/
def State.bayLoad (s : State) (d : Drive) : State :=
  match s.bayCart d with
  | none => s
  | some c =>
    let cleaning := c.media == .cleaning
    let s1 := if cleaning then s.modBayCart d fun x => { x with uses := x.uses - 1 } else s
    let s2 := match c.home with
      | some h => s1.modLoc (slotLoc h) fun x => { x with reserved := some (.homeOf c.uid) }
      | none => s1
    s2.startMounting d cleaning

/-! ## The ends of legs and visits (R153, R154) -/

/-- R161: the slot that a CHANGEOVER loads next. -/
def State.scratchSlot (s : State) : Option (Fin 24) :=
  s.loader.scratch.find? fun k =>
    let l := s.loc (slotLoc k)
    s.presence (slotLoc k) == .full && l.reserved.isNone && !s.inOpenMagazine (slotLoc k)
      && (match l.cart with | some c => c.media == .data && !c.suspect | none => false)

/-- R161: the second leg of a CHANGEOVER is chosen, or SCRATCH_EMPTY is written. -/
def State.chooseScratch (s : State) (r : Req) (d : Drive) : State :=
  match s.scratchSlot with
  | some k =>
    (s.modLoader fun l => { l with scratch := l.scratch.filter (· ≠ k) }).modReq r.stamp fun x =>
      { x with second := some (slotLoc k, bayLoc d) }
  | none =>
    s.emit { kind := .scratchEmpty, subject := BitVec.ofNat 16 d.val, e0 := w32 s.loader.scratch.length }

/-- R119, R164: the sessions that wait on a MOUNT attach to a channel. -/
def State.attachWaiting (s : State) (stamp : Nat) (d : Drive) (link : Option (Drive × Option Nat)) : State :=
  forEach allSessions (fun i t =>
    if (t.session i).mountReq = some stamp then
      t.modSession i fun x => { x with state := .waitRead, drive := some d, mountReq := none, link := link }
    else t) s

/-- R164: the legs of the MOUNT of a preempt end: phase LOADING, then RESTORING with the links of its sessions. A victim whose bay
held no cartridge record gives a link of the drive alone (DESIGN CHOICE, log entry 93). -/
def State.mountLegEnd (s : State) (r : Req) : State :=
  let mine := s.loader.preempt.filter (·.mount == r.stamp)
  if r.second.isSome then
    match mine with
    | some p => s.setPreemptRec (some { p with phase := .loading })
    | none => s
  else match bayOf r.dst, mine with
    | some d, some p =>
      (s.setPreemptRec (some { p with phase := .restoring })).attachWaiting r.stamp d (some (p.victim, p.cart))
    | some d, none => s.attachWaiting r.stamp d none
    | none, _ => s

/-- R153: what the kind of a request adds at the end of a leg. -/
def State.legKind (s : State) (r : Req) : State :=
  match r.kind with
  | .exportCart => s.modLoader fun l => { l with exportWaiting := true }
  | .mount => s.mountLegEnd r
  | .changeover =>
    match r.legsDone, r.drive with
    | 0, some d => s.chooseScratch r d
    | _, _ => s
  | .clean =>
    match r.legsDone, r.drive with
    | 0, some d =>
      s.modReq r.stamp fun x => { x with second := some (bayLoc d, homeOr (s.bayCart d)) }
    | _, _ => s
  | .remount =>
    match s.loader.preempt with
    | some p =>
      if p.remount = some r.stamp ∧ r.dst = bayLoc p.victim ∧ r.second.isNone then
        s.setPreemptRec (some { p with released := true })
      else s
    | none => s
  | _ => s

/-- R153: the picker hands the end of a leg to its request. -/
def State.legEnd (s : State) : State :=
  match s.activeReq with
  | none => s
  | some r =>
    let s1 := ((s.modPicker fun p => { p with active := none, cut := false }).releaseReserved (.request r.stamp)).legKind r
    let s2 := s1.modReq r.stamp fun x =>
      { x with legsDone := x.legsDone + 1, firstSrc := if x.legsDone = 0 then x.src else x.firstSrc, state := .queued }
    match s2.findReq r.stamp with
    | none => s2
    | some x =>
      match x.second with
      | some (a, b) => s2.modReq r.stamp fun y => { y with src := some a, dst := b, second := none }
      | none => s2.endReq x (match x.recorded with | some c => .failed c | none => .done)

/-- R154, R156: the end of a visit of an INVENTORY. -/
def State.visitEnd (s : State) (labelled : Bool) : State :=
  match s.activeReq with
  | none => s
  | some r =>
    let x := { r with
      labels := r.labels + labelled.toNat, unlabelled := r.unlabelled + (!labelled).toNat, cursor := r.cursor + 1
      state := .queued }
    let s1 := (s.modPicker fun p => { p with active := none, cut := false }).modReq r.stamp fun _ => x
    if r.marked then s1.endReq x .cancelled
    else if r.last < x.cursor then s1.endReq x .done
    else s1

/-! ## Replies (R142, R143) -/

/-- R142: GRIP DONE: the record moves to the picker. The request carries it, but for the first leg of a MOUNT that a preempt
has rewritten: it takes the victim's cartridge away, and the MOUNT stays one for its own (R118, R164). -/
def State.gripDone (s : State) (l : Loc) : State :=
  let (fresh, s1) := if (s.loc l).cart.isSome then (freshCart 0, s) else s.newCart
  let c := ((s1.loc l).cart).getD fresh
  let c := match slotOf l with | some k => { c with home := some k } | none => c
  let s2 := (s1.modLoc l fun x => { x with cart := none }).modPicker fun p =>
    { p with cart := some c, legSource := some l }
  match s2.picker.active with
  | some r => s2.modReq r fun x => if x.kind = .mount ∧ x.second.isSome then x else { x with cart := some c.uid }
  | none => s2

/-- R69, R114: what a load ends of the use of its bay's drive, where a manual change and commands during the leg have brought
the channel to WRITE, UNMOUNTING or READ by then. The stop of the reader is a normal one, and what the rules name for no exit
to MOUNTING stays (DESIGN CHOICE, log entry 109). -/
def State.leaveForLoad (s : State) (d : Drive) : State :=
  match (s.chan d).state with
  | .write | .unmounting => s.modChan d Channel.leaveWrite
  | .read => s.stopReader d true
  | _ => s

/-- R142: the picker's cartridge record moves to a location. A record that stands there by then, from a manual change during the
leg, is replaced without a record of its own (DESIGN CHOICE, log entry 85). -/
def State.setDown (s : State) (l : Loc) : State :=
  (s.modLoc l fun x => { x with cart := s.picker.cart }).modPicker fun p => { p with cart := none, legSource := none }

/-- R142, R150, R160: RELEASE DONE: the record moves to the location; a bay's channel takes it. -/
def State.releaseDone (s : State) (l : Loc) : State :=
  match bayOf l, s.picker.cart with
  | some d, some _ => ((s.leaveForLoad d).setDown l).bayLoad d
  | none, some k => (s.setDown l).releaseReserved (.homeOf k.uid)
  | _, none => s.setDown l

/-- The picker stands at a location. -/
def State.arrive (s : State) (l : Loc) : State := s.modPicker fun p => { p with pos := some (.loc l) }

/-- The next step of a leg, or the end of a cut one. -/
def State.nextStep (s : State) (st : Stage) (l : Loc) : State := if s.picker.cut then s.cutEnd else s.sendLeg st l

/-- The destination of the leg that runs. -/
def State.legDest (s : State) : Loc := match s.activeReq with | some r => r.dst | none => mailLoc

/-- R142 to R145: a reply acts on the order that was in flight, which is no longer outstanding. In a cut leg the label that
READ_LABEL gives the held cartridge is taken (DEDUCED, log entry 98). A RETURN that meets BLOCKED waits with the reason UNSURE
(DESIGN CHOICE, log entry 97). -/
def State.act (s : State) (o : Order) (reply : Reply) : State :=
  match o.stage, o.loc, reply with
  | .toSource, some l, .done =>
    let t := s.arrive l
    if t.picker.cut then t.cutEnd
    else match t.activeReq with
      | some r => if r.marked then (t.setPicker .parked).endReq r .cancelled else t.sendLeg .grip l
      | none => t
  | .grip, some l, .done =>
    let t := s.gripDone l
    match t.picker.cart with
    | some c => if c.label.isNone then t.nextStep .readLabel l else t.nextStep .toDest t.legDest
    | none => t
  | .readLabel, _, .label x => let t := s.labelReply none (.label x); t.nextStep .toDest t.legDest
  | .readLabel, _, .noLabel => let t := s.labelReply none .noLabel; t.nextStep .toDest t.legDest
  | .toDest, some l, .done => (s.arrive l).nextStep .release l
  | .release, some l, .done => ((s.releaseDone l).setPicker .parked).legEnd
  | .visit, some l, .done => (s.arrive l).nextStep .visitRead l
  | .visitRead, some l, .label x =>
    if s.picker.cut then s.cutEnd
    else ((s.labelReply (some l) (.label x)).setPicker .parked).visitEnd (labelOf (.label x)).isSome
  | .visitRead, some l, .noLabel =>
    if s.picker.cut then s.cutEnd else ((s.labelReply (some l) .noLabel).setPicker .parked).visitEnd false
  | .home, _, .done => s.homeDone
  | .grip, _, .noCartridge =>
    let t := (s.clearExpectation o).setPicker .parked
    match t.activeReq with
    | some r => t.endReq r (.failed .noCartridge)
    | none => t
  | .release, l, .blocked =>
    let t := (s.clearExpectation o).setPicker .holding
    match t.activeReq with
    | some r =>
      if r.kind = .returnCart then t.requeue r (.waiting .unsure) l
      else (t.endReq r (.failed .blocked)).queueReturnToSource
    | none => t
  | _, _, .jam => s.faultPicker .jam o
  | _, _, _ => s.faultPicker .picker o

end Sys2Proof.Machine
end

