-- ==== Sys2Proof/Machine/Select.lean ====
section
/-! DEFINITION. What the move queue and the preempt do at the end of an event: selection (R151, R152), the changeover and
cleaning tests (R80, R162), the cancellation of a MOUNT that its sessions have left (R156), and the phases of a preempt (R164,
R165). `State.settle` gathers them; every command that can change one of their conditions ends with it. -/

namespace Sys2Proof.Machine

/-! ## UNMOUNT and the preempt (R157, R164) -/

/-- The victim's UNMOUNT has been taken, by the selection or by a command. -/
def State.noteUnmount (s : State) (d : Drive) : State :=
  match s.loader.preempt with
  | some p => if p.victim = d ∧ p.phase = .draining then s.setPreemptRec (some { p with unmountTaken := true }) else s
  | none => s

/-- R157: UNMOUNT of a channel. -/
def State.takeUnmount (s : State) (force : Bool) (d : Drive) : Effect :=
  let e := unmountRule force d s
  if e.outcome = .done then { e with state := e.state.noteUnmount d } else e

/-! ## Beginning a preempt (R164) -/

/-- The drives of a MOUNT's preference. -/
def Req.prefers (r : Req) : List Drive := match r.pref with | some d => [d] | none => allDrives

/-- R164: images QUEUED, SENDING or VERIFY_WAIT. -/
def Channel.backlog (c : Channel) : Nat := c.count .queued + c.count .sending + c.count .verifyWait

/-- R164: the victim among the drives of a preference. -/
def State.chooseVictim (s : State) (ds : List Drive) : Option Drive :=
  let able := ds.filter fun d => (s.chan d).state == .idle || (s.chan d).state == .write
  match able with
  | [a, b] => if (s.chan b).backlog < (s.chan a).backlog then some b else some a
  | a :: _ => some a
  | [] => none

/-- A bay of a preference is free to load: its channel UNMOUNTED and the bay EMPTY. -/
def State.bayFree (s : State) (d : Drive) : Bool := (s.chan d).state == .unmounted && s.presence (bayLoc d) == .empty

/-- R164: a preempt begins. -/
def State.beginPreempt (s : State) (r : Req) (v : Drive) : State :=
  let cart := s.bayCart v
  let s1 := s.setPreemptRec (some { victim := v, cart := cart.map (·.uid), mount := r.stamp, phase := .draining })
  let s2 := s1.countLoader fun c => { c with preempts := c.preempts.add 1 }
  let s3 := forEach allTags (fun t u => if (u.stream t).targets.has v then u.setPreempt true t else u) s2
  let s4 := s3.failAttached v .preempted
  s4.modReq r.stamp fun x =>
    { x with
      src := some (bayLoc v), dst := homeOr cart
      second := x.src.map fun l => (l, bayLoc v)
      rewritten := true, state := .waiting .preempt }

/-- R152, row 8, for a MOUNT that no bay qualifies for; with PREEMPT, and while a preempt is in progress, its own included,
it waits with reason PREEMPT (R164). -/
def State.mountBlocked (s : State) (r : Req) : State :=
  let wait (w : WaitReason) : State := s.modReq r.stamp fun x => { x with state := .waiting w }
  if r.preempt then
    if s.loader.preempt.isSome then wait .preempt
    else if r.prefers.any s.bayFree then wait .channel
    else match s.chooseVictim r.prefers with
      | some v => s.beginPreempt r v
      | none => wait .channel
  else wait .channel

/-! ## Judging a request (R152) -/

/-- The cartridge record that a leg carries. -/
def State.carried (s : State) (r : Req) : Option Nat :=
  match r.src with
  | some l => (s.loc l).cart.map (·.uid)
  | none => s.picker.cart.map (·.uid)

/-- R152, row 10: a location is taken for a request. -/
def State.destTaken (s : State) (r : Req) (l : Loc) : Bool :=
  s.presence l == .full || (s.loc l).cart.isSome || s.reservedForOther l r.stamp (s.carried r)

/-- R160: a bay qualifies for a MOUNT under rows 8 to 10. -/
def State.bayQualifies (s : State) (r : Req) (d : Drive) : Bool :=
  (s.chan d).state == .unmounted && !s.cleanQueued d && !s.destTaken r (bayLoc d)

/-- R160: the bay of a MOUNT whose preference is ANY. -/
def State.anyBay (s : State) (r : Req) : Drive := if s.bayQualifies r 0 then 0 else 1

/-- R162: the cleaner that a CLEAN uses. -/
def State.cleanerSlot (s : State) : Option (Fin 24) :=
  allSlots.find? fun k =>
    let l := s.loc (slotLoc k)
    l.reserved.isNone && !s.inOpenMagazine (slotLoc k)
      && (match l.cart with | some c => c.media == .cleaning | none => false)

/-- R154: the cursor passes by EMPTY locations. The first argument bounds the locations. -/
def State.passEmpty (s : State) (last : Nat) : Nat → Nat → Nat
  | 0, c => c
  | n + 1, c =>
    if h : c < 27 then
      if c ≤ last ∧ s.presence ⟨c, h⟩ = .empty then s.passEmpty last n (c + 1) else c
    else c

/-- R155: a place that a RETURN can take instead, other than the one it was blocked at. -/
def State.returnPlace (s : State) (r : Req) : Option Loc :=
  let free (l : Loc) : Bool := s.presence l == .empty && (s.loc l).cart.isNone && r.blocked != some l
  if free mailLoc && !s.reservedForOther mailLoc r.stamp (s.carried r) then some mailLoc
  else (allSlots.find? fun k =>
    free (slotLoc k) && (s.loc (slotLoc k)).reserved.isNone && !s.inOpenMagazine (slotLoc k)).map slotLoc

/-- What a judgement gives. -/
inductive Verdict where
  | wait (w : WaitReason)
  | fail (c : Cause)
  | finish
  | unmount (d : Drive)
  | force (d : Drive)
  | noBay
  | redirect
  | run
  deriving DecidableEq, Repr

/-- The locations that a request involves (R152). -/
def Req.places (r : Req) : List Loc :=
  match r.kind with
  | .inventory => if h : r.cursor < 27 then [⟨r.cursor, h⟩] else []
  | _ => (match r.src with | some l => [l] | none => []) ++ [r.dst]

/-- R152, rows 3 to 6: what a bay as source asks for. -/
def State.judgeSource (s : State) (r : Req) (d : Drive) : Option Verdict :=
  let c := s.chan d
  if r.kind == .mount && s.loader.preempt.any (·.mount == r.stamp) && s.preemptBusy then some (.wait .preempt)
  else match c.state with
    | .idle | .write | .read => some (.unmount d)
    | .unmounted => if s.bayPos d = .on then some (.unmount d) else none
    | .unmounting => if r.force then some (.force d) else some (.wait .channel)
    | _ => some (.wait .channel)

/-- R152, row 7. -/
def State.sourceGone (s : State) (r : Req) : Bool :=
  match r.kind, r.src with
  | .returnCart, _ => r.cart.isNone || s.picker.cart.map (·.uid) != r.cart
  | _, some l => s.presence l == .empty
  | _, none => false

/-- R152, rows 8 to 10, for the destination. -/
def State.judgeDest (s : State) (r : Req) : Verdict :=
  let taken : Verdict := if s.destTaken r r.dst then (if r.kind = .returnCart then .redirect else .fail .destFull) else .run
  match bayOf r.dst with
  | none => taken
  | some d =>
    if (s.chan d).state ≠ .unmounted
        ∨ (r.kind = .mount ∧ !r.rewritten ∧ r.pref.isNone ∧ !s.bayQualifies r d) then
      if r.kind = .mount then .noBay else .wait .channel
    else if s.cleanQueued d ∧ r.kind ≠ .clean then .wait .cleaning
    else taken

/-- R152: the first row that applies to a request whose leg is settled; a RETURN that met BLOCKED takes a new destination
first (R155), and an INVENTORY whose cursor has passed its last location has none to visit (R154). -/
def State.verdict (s : State) (r : Req) : Verdict :=
  if r.kind = .returnCart ∧ r.blocked = some r.dst ∧ !s.sourceGone r then .redirect
  else if r.kind = .inventory ∧ r.last < r.cursor then .finish
  else if r.places.any fun l => s.presence l == .unsure then .wait .unsure
  else if r.places.any s.inOpenMagazine then .wait .magazine
  else if r.kind = .inventory then .run
  else match (r.src.bind bayOf).bind (s.judgeSource r) with
    | some v => v
    | none =>
      if s.sourceGone r then .fail .sourceEmpty else s.judgeDest r

/-- The leg on which a request is judged: an INVENTORY passes by EMPTY locations (R154), a MOUNT chooses its bay (R160),
a CLEAN its cleaner (R162). -/
def State.prepare (s : State) (r : Req) : Req :=
  match r.kind with
  | .inventory => { r with cursor := s.passEmpty r.last 27 r.cursor }
  | .mount =>
    if r.rewritten then { r with judged := some r.dst }
    else
      let dst := match r.pref with | some d => bayLoc d | none => bayLoc (s.anyBay r)
      { r with dst := dst, judged := some dst }
  | .clean =>
    if r.legsDone = 0 then
      { r with src := s.cleanerSlot.map slotLoc, judged := some r.dst
               cart := s.cleanerSlot.bind fun k => (s.loc (slotLoc k)).cart.map (·.uid) }
    else { r with judged := some r.dst }
  | _ => { r with judged := some r.dst }

/-- R142, R150, R152: a request becomes ACTIVE, its destination is reserved, and the picker starts its leg. -/
def State.activate (s : State) (r : Req) : State :=
  let cart := s.carried r
  let keep (x : Location) : Bool := match x.reserved with | some (.homeOf u) => some u == cart | _ => false
  let s1 := s.modReq r.stamp fun x => { x with state := .active, blocked := none }
  let s2 := s1.modPicker fun p => { p with active := some r.stamp, cut := false }
  match r.kind with
  | .inventory =>
    let s3 := s2.modReq r.stamp fun x => { x with visits := x.visits + 1 }
    if h : r.cursor < 27 then s3.sendLeg .visit ⟨r.cursor, h⟩ else s3
  | _ =>
    let s3 := s2.modLoc r.dst fun x => if keep x then x else { x with reserved := some (.request r.stamp) }
    match r.src with
    | some l => s3.sendLeg .toSource l
    | none => s3.sendLeg .toDest r.dst

/-- R152: a request is judged. -/
def State.judge (s : State) (q : Req) : State :=
  let r := s.prepare q
  let s := s.modReq r.stamp fun _ => r
  let wait (w : WaitReason) (t : State) : State := t.modReq r.stamp fun x => { x with state := .waiting w }
  if r.kind = .clean ∧ r.src.isNone then
    match r.drive with
    | some d => (s.modLoader fun l => { l with noCleaner := l.noCleaner.set d true }).endReq r (.failed .noCleaner)
    | none => s
  else match s.verdict r with
    | .wait w => wait w s
    | .fail c => s.endReq r (.failed c)
    | .finish => s.endReq r .done
    | .unmount d => wait .channel (s.takeUnmount r.force d).state
    | .force d => wait .channel (s.takeUnmount true d).state
    | .noBay => s.mountBlocked r
    | .redirect =>
      match s.returnPlace r with
      | some l =>
        let x := { r with dst := l, judged := some l, blocked := none }
        (s.modReq r.stamp fun _ => x).activate x
      | none => wait .unsure s
    | .run => s.activate r

/-! ## Selection (R151) -/

/-- R151: a selection can be made. -/
def State.canSelect (s : State) : Bool :=
  s.running && (s.picker.state == .parked || s.picker.state == .holding) && s.picker.order.isNone && !s.doorOpen
    && s.picker.active.isNone

/-- R151: in HOLDING only a RETURN of the record held is considered. -/
def State.considered (s : State) (r : Req) : Bool :=
  s.picker.state != .holding || (r.kind == .returnCart && r.cart.isSome && r.cart == s.picker.cart.map (·.uid))

/-- R151: the age stamps of the requests by class, and within a class by age. -/
def State.selectionOrder (s : State) : List Nat :=
  [1, 2, 3, 4, 5, 6, 7].flatMap fun k => (s.loader.queue.filter fun r => r.kind.cls == k).map (·.stamp)

/-- R151: the requests are judged in order until one becomes ACTIVE. -/
def State.selectFrom : List Nat → State → State
  | [], s => s
  | x :: xs, s =>
    if !s.canSelect then s
    else match s.findReq x with
      | some r => State.selectFrom xs (if s.considered r then s.judge r else s)
      | none => State.selectFrom xs s

/-- R151: a selection, where its conditions hold. -/
def State.selection (s : State) : State := if s.canSelect then State.selectFrom s.selectionOrder s else s

/-! ## Tests that events bring about -/

/-- A request of an earlier state has left the queue. -/
def State.someLeft (ref s : State) : Bool := ref.loader.queue.any fun r => (s.findReq r.stamp).isNone

/-- R80: the conditions of a changeover. -/
def State.wantsChangeover (s : State) (d : Drive) : Bool :=
  let c := s.chan d
  c.full.isSome && s.params.autoChangeover == 1 && c.drained && !c.changeoverAsked

/-- R80: an event that makes the test: FULL set, an image FREE, auto_changeover turned on, a request gone. -/
def State.changeoverDue (ref s : State) (d : Drive) : Bool :=
  let a := ref.chan d
  let b := s.chan d
  (a.full.isNone && b.full.isSome) || (a.images.any fun i => !b.images.any fun j => j.slot == i.slot)
    || (ref.params.autoChangeover == 0 && s.params.autoChangeover == 1) || ref.someLeft s

/-- R80, R161: a changeover is asked, and the CHANGEOVER queued. -/
def State.changeoverTest (ref : State) (d : Drive) (s : State) : State :=
  if ref.changeoverDue s d ∧ s.wantsChangeover d then
    if s.queueFull then s.raiseInternal (newReq .changeover (some (bayLoc d)) (homeOr (s.bayCart d)))
    else
      let t := s.modChan d fun c => { c with changeoverAsked := true }
      (t.joinInternal { newReq .changeover (some (bayLoc d)) (homeOr (s.bayCart d)) with drive := some d }).countLoader
        fun c => { c with changeovers := c.changeovers.add 1 }
  else s

/-- R162: the conditions that a CLEAN request depends on. -/
def State.cleanInputs (s : State) (d : Drive) : List Bool :=
  [s.loader.cleaningDue[d], s.loader.noCleaner[d], (s.chan d).state == .unmounted, s.presence (bayLoc d) == .empty,
   s.cleanQueued d]

/-- R162: a CLEAN is queued for a drive that is due. -/
def State.cleanTest (ref : State) (d : Drive) (s : State) : State :=
  if s.cleanInputs d = [true, false, true, true, false] ∧ (ref.cleanInputs d ≠ s.cleanInputs d ∨ ref.someLeft s) then
    let r := { newReq .clean none (bayLoc d) with drive := some d }
    if s.queueFull then s.raiseInternal r
    else (s.joinInternal r).countLoader fun c => { c with cleanings := c.cleanings.add 1 }
  else s

/-- A session waits on the MOUNT of an age stamp. -/
def State.awaited (s : State) (stamp : Nat) : Bool := allSessions.any fun i => (s.session i).mountReq == some stamp

/-- R156: the last session that waited on a MOUNT has left it since the state `ref`, and the MOUNT is to be cancelled: it is not
ACTIVE, and its preempt has not taken the victim's UNMOUNT. A MOUNT that was ACTIVE when its last session left runs on to its
end, also between its legs. -/
def State.orphaned (ref s : State) (r : Req) : Bool :=
  r.kind == .mount && r.state != .active && ref.awaited r.stamp && !s.awaited r.stamp
    && !(s.loader.preempt.any fun p => p.mount == r.stamp && p.unmountTaken)

/-- R156: the MOUNTs that their last session has left are cancelled. -/
def State.orphanTest (ref s : State) : State :=
  forEach (s.loader.queue.map (·.stamp)) (fun x t =>
    match t.findReq x with
    | some r => if ref.orphaned t r then t.endReq r .cancelled else t
    | none => t) s

/-- R165: the use that the restore makes of the victim's drive has ended. -/
def State.restoreOver (s : State) : Bool :=
  allSessions.all fun i =>
    let x := s.session i
    x.link.isNone || x.state == .free || x.state == .awaitNext || x.final

/-- R165: the victim's channel has become FAILED in phase REMOUNTING, since the state `ref`. -/
def State.victimFailed (ref s : State) (p : Preempt) : Bool :=
  (s.chan p.victim).state == .failed && (ref.chan p.victim).state != .failed
    && (ref.loader.preempt.map (·.phase)) == some .remounting

/-- R165: the tests of a preempt in its phases RESTORING and REMOUNTING. -/
def State.preemptTest (ref s : State) : State :=
  match s.loader.preempt with
  | none => s
  | some p =>
    match p.phase with
    | .restoring => if s.restoreOver then s.beginRemount p else s
    | .remounting =>
      if ref.victimFailed s p ∨ (p.released ∧ (s.chan p.victim).state ≠ .mounting) then s.endPreempt else s
    | _ => s

/-- What a round of the tests can change. -/
structure Signature where
  stamps : List Nat
  next : Nat
  chans : List ChanState
  phase : Option Phase
  sessions : List SessionState
  deriving DecidableEq

def State.signature (s : State) : Signature :=
  { stamps := s.loader.queue.map (·.stamp), next := s.loader.nextStamp, chans := allDrives.map fun d => (s.chan d).state
    phase := s.loader.preempt.map (·.phase), sessions := allSessions.map fun i => (s.session i).state }

/-- The tests, each round over what the round before left, until a round changes nothing. `ref` is the state that the
tests were last made on. The first argument bounds the rounds (log entry 9). The order is: the preempt with its REMOUNT, the
cancelling of a MOUNT, the CHANGEOVERs, the CLEANs, the selection (DESIGN CHOICE, log entry 87). -/
def State.settleLoop : Nat → State → State → State
  | 0, _, s => s
  | n + 1, ref, s =>
    let s1 := ref.orphanTest (ref.preemptTest s)
    let s2 := forEach allDrives (State.cleanTest ref) (forEach allDrives (State.changeoverTest ref) s1)
    let s3 := s2.selection
    if s3.signature = s.signature then s3 else State.settleLoop n s2 s3

/-- The end of an event that began in `ref`. -/
def State.settle (ref s : State) : State := if s.running then State.settleLoop 64 ref s else s

/-- A command's own rule, followed by the tests that its changes bring about; a command turned away changes nothing. -/
def settled (rule : State → Effect) (s : State) : Effect :=
  let e := rule s
  if e.outcome.refused then e else { e with state := s.settle e.state }

end Sys2Proof.Machine
end

