-- ==== Sys2Proof/Machine/Assembler.lean ====
section
/-! DEFINITION. The assembler of a drive channel (4.4) and its regulator's timers (4.7): placements, closes, memory faults,
drain expiries and age releases. -/

namespace Sys2Proof.Machine

/-! ## Starting a placement (R71 to R73) -/

/-- The chunk at the head of the assembler's work, and whether it is the held chunk (R71). -/
def Channel.nextChunk (c : Channel) : Option (Nat × Bool) :=
  match c.held with
  | some (r, _) => if c.state = .write ∨ c.state = .unmounting then some (r, true) else none
  | none =>
    if c.state = .write ∧ c.full.isNone then c.placeQueue.head?.map fun r => (r, false) else none

/-- R73: the payload bytes left in an image. -/
def Channel.space (c : Channel) (i : Image) : Nat := capacityOf c.size - i.payload

/-- The size of a stored chunk, S of R73. -/
def ChunkRec.storedSize (r : ChunkRec) : Nat := 10 + r.bodyLen.getD 0

/-- R72: the slot at the next slot is FREE. -/
def Channel.slotFree (c : Channel) : Bool := !(c.images.any fun i => i.slot == c.nextSlot)

/-- R72: an image opens; the slot and the block sequence advance. -/
def State.openImage (s : State) (d : Drive) : State :=
  s.modChan d fun c =>
    { c with
      images := c.images ++ [{ slot := c.nextSlot, state := .assembling
                               seq := match c.mount with | some m => m.nextSeq | none => 0
                               openTime := s.timebase, frags := 0, payload := 0, marks := [], sends := 0, trailer := 0 }]
      nextSlot := if c.nextSlot + 1 < s.params.imageCapacity[d] then c.nextSlot + 1 else 0
      mount := c.mount.map fun m => { m with nextSeq := m.nextSeq + 1 } }

/-- R73: the fragment of a chunk that an image with `space` payload bytes left takes. -/
def placementOf (id : Nat) (held : Option Nat) (size space : Nat) : Placement :=
  match held with
  | some start => { record := id, number := 1, last := true, start := start, len := size - start }
  | none =>
    if 12 + size ≤ space then { record := id, number := 0, last := true, start := 0, len := size }
    else { record := id, number := 0, last := false, start := 0, len := space - 12 }

/-- R71, R73: the placement of a chunk into the ASSEMBLING image starts; the chunk leaves the placement queue. -/
def State.startPlacement (s : State) (d : Drive) (r : ChunkRec) (held : Option Nat) (i : Image) : State :=
  let p := placementOf r.id held r.storedSize ((s.chan d).space i)
  let s1 := s.modChan d fun c =>
    { c with activity := .placing p, placeQueue := if held.isSome then c.placeQueue else c.placeQueue.tail }
  let s2 := s1.startJob (.assembler d)
  match held, r.role with
  | none, .backup t => s2.suspendTest t
  | _, _ => s2

/-- R71 to R73: what the idle assembler does with the chunk at the head of its work. -/
def State.assemble (s : State) (d : Drive) : State :=
  let c := s.chan d
  match c.activity, c.nextChunk with
  | .idle, some (id, isHeld) =>
    match s.findRec id with
    | none => s
    | some r =>
      let held := if isHeld then c.held.map (·.2) else none
      match c.assembling with
      | some i =>
        if r.setend = some true ∧ i.marks.length = 8 then s.askClose d .setEndLimit else s.startPlacement d r held i
      | none =>
        if c.slotFree then
          let t := s.openImage d
          match (t.chan d).assembling with
          | some i => t.startPlacement d r held i
          | none => t
        else s
  | _, _ => s

/-- R72: an image has become FREE. An assembler that waited for its slot, the next one, tries again. -/
def State.imageFreed (s : State) (d : Drive) (slot : Nat) : State :=
  if (s.chan d).nextSlot = slot ∧ (s.chan d).assembling.isNone then s.assemble d else s

/-- PLACEMENT_START (R71). But for an assembler that waited for a slot (R72), a placement starts at this command alone, and not
within the event that leaves the assembler idle with a chunk waiting (DESIGN CHOICE, log entry 108). -/
def execPlacementStart (d : Drive) (s : State) : Host.Outcome State Fault Refusal :=
  .next (s.settle (s.assemble d))

/-! ## The end of a placement (R73) -/

/-- R73: the bytes of a fragment, written into the image. -/
def State.writeFragment (s : State) (d : Drive) (i : Image) (r : ChunkRec) (p : Placement) : State :=
  let data := s.chunkBytes r.pages p.start p.len
  s.poke (s.slotAddr d i.slot + 16 + i.payload) (fragHeader r.setId r.seq p.len p.last p.number ++ data)

/-- R73: the image after a fragment. -/
def Image.afterFragment (i : Image) (r : ChunkRec) (p : Placement) : Image :=
  { i with
    frags := i.frags + 1, payload := i.payload + 12 + p.len
    marks := if p.last ∧ r.setend = some true then i.marks ++ [r.setId] else i.marks }

/-- R73: the channel after a fragment; fragment 0 without LAST makes the chunk the held chunk. -/
def Channel.afterFragment (c : Channel) (slot : Nat) (r : ChunkRec) (p : Placement) : Channel :=
  { (c.modImage slot fun i => i.afterFragment r p) with
    activity := .idle
    held := if p.last then none else some (r.id, p.len)
    counters := if p.last then { c.counters with placed := c.counters.placed.add 1 }
      else { c.counters with split := c.counters.split.add 1 } }

/-- R74: the closes that the end of a placement asks: one asked during it, one for want of space or fragments, and one
for FULL or UNMOUNTING. -/
def State.closeAfter (s : State) (d : Drive) : State :=
  let c := s.chan d
  match c.assembling with
  | none => s
  | some i =>
    let s1 := match c.closeAsked with
      | some r => s.askClose d r
      | none => s
    let s2 := if c.space i < 13 ∨ i.frags = 255 then s1.askClose d .space else s1
    if c.full.isSome ∨ c.state = .unmounting then s2.askClose d .fullOrUnmount else s2

/-- R73: the end of a placement: the bytes lie in the image, and a LAST fragment is given up (R34) after the test for the
end of its stream (R56), so that STREAM_ENDED comes before a POOL_HOLD of that give-up (DESIGN CHOICE, log entry 79). The
closes that R74 names for it are asked before the test for an early close (R84), which joins them (DESIGN CHOICE, log entry
73). -/
def State.endPlacement (s : State) (d : Drive) (p : Placement) : State :=
  match (s.chan d).assembling, s.findRec p.record with
  | some i, some r =>
    let s1 := s.writeFragment d i r p
    let s2 := s1.modChan d fun c => c.afterFragment i.slot r p
    let s3 := s2.modRec p.record fun x => { x with state := .placing }
    let s4 := if p.last then (s3.endTest r).giveUp p.record else s3
    ((s4.closeAfter d).earlyTest d).drainTest d
  | _, _ => s

/-- PLACEMENT_END (R73), at the answer to the last access of the placement (R71, R176). Memory answers an abandoned placement's
accesses before those of a later one; its end is the give-up that the channel owes (R34). -/
def execPlacementEnd (d : Drive) (s : State) : Host.Outcome State Fault Refusal :=
  let c := s.chan d
  if !s.hasJob (.assembler d) then .next s
  else match c.abandoned with
    | some id :: rest =>
      let t := (s.endJob (.assembler d)).modChan d fun x => { x with abandoned := rest }
      .next (s.settle (t.giveUp id))
    | none :: _ => .next s
    | [] =>
      match c.activity with
      | .placing p => .next (s.settle ((s.endJob (.assembler d)).endPlacement d p))
      | _ => .next s

/-! ## The end of a close (R75) -/

/-- R89: the counter of a close's reason. -/
def ChanCounters.countClose (k : ChanCounters) : CloseReason → ChanCounters
  | .space => { k with closedSpace := k.closedSpace.add 1 }
  | .setEndLimit => { k with closedSetEnd := k.closedSetEnd.add 1 }
  | .flush => { k with closedFlush := k.closedFlush.add 1 }
  | .early => { k with closedEarly := k.closedEarly.add 1 }
  | .age => { k with closedAge := k.closedAge.add 1 }
  | .fullOrUnmount => { k with closedFull := k.closedFull.add 1 }

/-- R75: the block that a close makes of the ASSEMBLING image: header, padding and trailer written. -/
def State.writeBlock (s : State) (d : Drive) (i : Image) : State × Word :=
  let c := s.chan d
  let base := s.slotAddr d i.slot
  let size := blockSize c.size
  let s1 := s.poke base (c.imageHeader i)
  let s2 := s1.poke (base + 16 + i.payload) (List.replicate (size - 4 - (16 + i.payload)) 0)
  let crc := crc32 (s2.peek base (size - 4))
  (s2.poke (base + size - 4) (beBytes 4 crc.toNat), crc)

/-- R75: the end of a close. -/
def State.endClose (s : State) (d : Drive) (r : CloseReason) : State :=
  match (s.chan d).assembling with
  | none => s
  | some i =>
    let (s1, crc) := s.writeBlock d i
    let s2 := s1.modChan d fun c =>
      { (c.modImage i.slot fun x => { x with state := .queued, trailer := crc }) with
        activity := .idle, counters := c.counters.countClose r }
    (s2.markTest d).drainTest d

/-- CLOSE_END (R75), at the answers to its writes (R176). The end of an abandoned close changes nothing. -/
def execCloseEnd (d : Drive) (s : State) : Host.Outcome State Fault Refusal :=
  let c := s.chan d
  if !s.hasJob (.assembler d) then .next s
  else match c.abandoned with
    | none :: rest => .next ((s.endJob (.assembler d)).modChan d fun x => { x with abandoned := rest })
    | some _ :: _ => .next s
    | [] =>
      match c.activity with
      | .closing r => .next (s.settle ((s.endJob (.assembler d)).endClose d r))
      | _ => .next s

/-! ## Memory faults (R41, R86) -/

/-- Whether an activity makes accesses of a kind: a close makes no read of chunk pages. -/
def makesAccess (placing : Bool) : AsmAccess → Bool
  | .chunkRead => placing
  | .imageWrite => true

/-- A FAULT answer on an assembler's access, counted (R41, R177). -/
def State.asmFault (s : State) : AsmAccess → State
  | .chunkRead => s.poolFault
  | .imageWrite => s.ownFault

/-- ASSEMBLER_MEMORY_FAULT (R86), the answer to an access of a job that is at the memory port (R176). A FAULT answer
to an abandoned activity is counted and changes nothing more. -/
def execAssemblerMemoryFault (d : Drive) (acc : AsmAccess) (s : State) : Host.Outcome State Fault Refusal :=
  let c := s.chan d
  let t := (s.passJob (.assembler d)).asmFault acc
  if !s.hasJob (.assembler d) then .next s
  else match c.abandoned, c.activity with
    | a :: _, _ => .next (if makesAccess a.isSome acc then t else s)
    | [], .idle => .next s
    | [], .placing _ => .next (s.settle (t.failChannel d .memory c.assembling))
    | [], .closing _ => .next (if makesAccess false acc then s.settle (t.failChannel d .memory c.assembling) else s)

/-! ## The regulator's timers (R81 to R84) -/

/-- R81: E falls by 1 at a drain expiry at `t`. The stop of R82, with its tests of R83, comes before the test for an early
close (R84; DESIGN CHOICE, log entry 80). -/
def State.drainStep (s : State) (d : Drive) (t : Nat) : State :=
  let s1 := s.modChan d fun c =>
    { c with
      occupancy := c.occupancy - 1
      drainTimer := if 1 < c.occupancy then some (t + s.params.drainInterval[d]) else none }
  (s1.stopTest d).earlyTest d

/-- DRAIN_TIMER_EXPIRY (R81). -/
def execDrainTimerExpiry (d : Drive) (s : State) : Host.Outcome State Fault Refusal :=
  match (s.chan d).drainTimer with
  | none => .next s
  | some t => .next (s.settle ((s.elapseTo t).drainStep d (max t s.timebase)))

/-- AGE_RELEASE (R83). -/
def execAgeRelease (d : Drive) (s : State) : Host.Outcome State Fault Refusal :=
  if (s.chan d).state = .write ∧ !(s.chan d).running then
    match s.ageDue d with
    | some t => .next (s.settle ((s.elapseTo t).ageRelease d))
    | none => .next s
  else .next s

end Sys2Proof.Machine
end

