-- ==== Sys2Proof/Machine/Send.lean ====
section
/-! DEFINITION. Sending (4.5): TAPE_OUT reads, the answers of memory to them, and send completions. -/

namespace Sys2Proof.Machine

/-! ## Taking a read (R76, R77) -/

/-- A TAPE_OUT read under the send cursor: its image bytes are read through the memory port (R77). -/
def State.readUnderCursor (s : State) (d : Drive) (len : Nat) : State :=
  match (s.chan d).cursor with
  | none => s
  | some k =>
    (s.modChan d fun c => { c with read := some { len := len, slot := k.slot, offset := k.offset, live := true } }).issue
      (.imageRead d)

/-- R77: a send of an image starts; the test of R84 is made at each send start. -/
def State.startSend (s : State) (d : Drive) (i : Image) : State :=
  (s.modChan d fun c =>
    { (c.modImage i.slot fun x => { x with state := .sending }) with
      cursor := some { slot := i.slot, offset := 0, ghost := false } }).earlyTest d

/-- R76: a TAPE_OUT read is judged. The answer is absent while memory owes the image bytes. -/
def State.judgeRead (s : State) (d : Drive) (len : Nat) : State × Option Answer :=
  let c := s.chan d
  match c.state with
  | .unmounted | .ejectWait | .failed => (s, some .fault)
  | .mounting | .idle | .read => (s, some .retry)
  | .write | .unmounting =>
    if c.cursor.isSome then (s.readUnderCursor d len, none)
    else if !c.running then (s, some .retry)
    else match c.oldestQueued with
      | none => (s, some .retry)
      | some i => ((s.startSend d i).readUnderCursor d len, none)

/-- TAPE_OUT_READ (R76). A read taken while memory still owes an earlier one its bytes waits for that answer (R174, log
entry 12). -/
def execTapeOutRead (a : Addr) (len : Nat) (s : State) : Host.Outcome State Fault Refusal :=
  match s.tapeOutDrive a with
  | none => .next s
  | some d =>
    if !(Access.read a len).shaped then .next s
    else if (s.chan d).read.isSome then .next (s.modChan d fun c => { c with waitingReads := c.waitingReads ++ [len] })
    else match s.judgeRead d len with
      | (t, some x) => .next (t.answer [x])
      | (t, none) => .next (s.settle t)

/-! ## Send completion (R78, R91, R92) -/

/-- SET_VERIFIED (R98). -/
def setVerified (d : Drive) (code : Byte) (seq : Word) (sends : Nat) (session : Word) (mark : Word) : Record :=
  { kind := .setVerified, byte1 := code, subject := BitVec.ofNat 16 d.val, e0 := mark, e1 := seq, e2 := w32 sends
    e3 := session }

/-- SET_VERIFIED for each set-end mark, in mark order. -/
def State.emitMarks (s : State) (d : Drive) (code : Byte) (seq : Word) (sends : Nat) (marks : List Word) : State :=
  let session := (s.chan d).writeSession
  forEach marks (fun m t => t.emit (setVerified d code seq sends session m)) s

/-- R78, R91, R92: a completion without the ghost mark. -/
def State.completeFirst (s : State) (d : Drive) (i : Image) : State :=
  let n := i.sends + 1
  let s1 := s.countChan d fun k =>
    { k with sent := k.sent.add 1, resends := k.resends.add (if 2 ≤ n then 1 else 0) }
  if (s.chan d).checkPeriod then
    s1.modChan d fun c =>
      { (c.modImage i.slot fun x => { x with state := .verifyWait, sends := n }) with
        verifyList := c.verifyList ++
          [{ slot := i.slot, seq := i.seq, crc := i.trailer, marks := i.marks, sends := n, time := s.timebase }]
        readbackTimer := true }
  else
    (((s1.modChan d fun c => c.freeImage i.slot).emitMarks d 1 i.seq n i.marks).countChan d fun k =>
      { k with uncheckedSends := k.uncheckedSends.add 1 }).imageFreed d i.slot

/-- R78: the completion of a send. An assembler that waited for the image that it frees acts before the tests for FULL and for
an early close (DESIGN CHOICE, log entry 71). -/
def State.completeSend (s : State) (d : Drive) (k : Cursor) : State :=
  let s1 := s.modChan d fun c =>
    { c with cursor := none
             mount := c.mount.map fun m => { m with capacity := if m.capacity = 0 then 0 else m.capacity - 1 } }
  let s2 := (s1.blockMoved d).raiseOccupancy d
  let s3 := if k.ghost then s2.countChan d fun x => { x with ghosts := x.ghosts.add 1 }
    else match (s2.chan d).images.find? (·.slot == k.slot) with
      | some i => s2.completeFirst d i
      | none => s2
  ((s3.fullTest d).earlyTest d).drainTest d

/-! ## The answer of memory (R77, R78) -/

/-- R77: the bytes a read returns: those of the block from the cursor's offset on, then zero bytes. For a read whose send
was dropped the block ends where the size code of the mount in force at the answer puts it, code 0 without mount values
(DESIGN CHOICE, log entry 39). -/
def State.sendBytes (s : State) (d : Drive) (r : SendRead) : List Byte :=
  padTo r.len (s.peek (s.slotAddr d r.slot + r.offset) (min r.len (blockSize (s.chan d).size - r.offset)))

/-- R77, R78: memory has answered DONE to the read of image bytes: the cursor advances, and the last byte completes the
send. A read whose send has gone changes nothing more. -/
def State.readDone (s : State) (d : Drive) (r : SendRead) : State :=
  match (s.chan d).cursor with
  | none => s
  | some k =>
    if !r.live then s
    else
      let left := blockSize (s.chan d).size - k.offset
      let s1 := if left < r.len then s.countChan d fun x => { x with shortReads := x.shortReads.add 1 } else s
      if left ≤ r.len then s1.completeSend d k
      else s1.modChan d fun c => { c with cursor := some { k with offset := k.offset + r.len } }

/-- R78, R86: memory has answered FAULT to the read of image bytes. The channel fails where the read's send still stands; one
whose send was dropped meanwhile is answered FAULT and counted alone (DESIGN CHOICE, log entry 88). -/
def State.readFault (s : State) (d : Drive) (r : SendRead) : State :=
  if r.live then s.ownFault.failChannel d .memory ((s.chan d).images.find? (·.slot == r.slot)) else s.ownFault

/-- The reads that waited are judged in turn, until one waits for memory; the answers they get. -/
def State.judgeWaiting (d : Drive) : List Nat → State → State × List Answer
  | [], s => (s.modChan d fun c => { c with waitingReads := [] }, [])
  | n :: ns, s =>
    match s.judgeRead d n with
    | (t, some x) => let r := State.judgeWaiting d ns t; (r.1, x :: r.2)
    | (t, none) => (t.modChan d fun c => { c with waitingReads := ns }, [])

/-- IMAGE_READ_ANSWER (R77, R78). -/
def execImageReadAnswer (d : Drive) (ok : Bool) (s : State) : Host.Outcome State Fault Refusal :=
  match (s.chan d).read with
  | none => .next s
  | some r =>
    if s.owes (.imageRead d) then
      let t := (s.answered (.imageRead d)).modChan d fun c => { c with read := none }
      let first := if ok then Answer.done (t.sendBytes d r) else Answer.fault
      let u := if ok then t.readDone d r else t.readFault d r
      let w := State.judgeWaiting d (u.chan d).waitingReads u
      .next (s.settle (w.1.answer (first :: w.2)))
    else .next s

end Sys2Proof.Machine
end

