-- ==== Sys2Proof/Machine/Verify.lean ====
section
/-! DEFINITION. Read-after-write checking (chapter 5): readbacks, verification, the readback timer and the go-back. -/

namespace Sys2Proof.Machine

/-! ## The go-back (R100 to R103) -/

/-- R103: the stale window of a go-back: from the head's sequence + 1 to the highest sequence sent. -/
def staleRange (head highest : Word) : Option (Word × Word) := if precedes head highest then some (head + 1, highest) else none

/-- R101: the images that a go-back returns to the send queue. -/
def Image.returned (i : Image) : Image :=
  match i.state with
  | .verifyWait | .sending => { i with state := .queued }
  | _ => i

/-- R103: the highest sequence already sent, by the rule's formula, also at a second go-back that has sent fewer blocks than the
window in force spans (DESIGN CHOICE, log entry 91). -/
def Channel.highestSent (c : Channel) (last : Word) : Word :=
  match c.cursor.bind fun k => c.images.find? (·.slot == k.slot) with
  | some i => i.seq
  | none => last

/-- R101 to R103: the go-back. -/
def State.goBack (s : State) (d : Drive) (head : VerifyEntry) (cause : Cause) : State :=
  let c := s.chan d
  let entries := c.verifyList
  let last := match entries.getLast? with | some e => e.seq | none => head.seq
  let window := staleRange head.seq (c.highestSent last)
  let marked := match c.cursor with | some k => !k.ghost | none => false
  let s1 := s.setChan d
    { c with
      images := c.images.map Image.returned, verifyList := [], readbackTimer := false, stale := window
      cursor := c.cursor.map fun k => { k with ghost := true }
      counters := { c.counters with goBacks := c.counters.goBacks.add 1 } }
  (s1.forceRestart d).emit
    { kind := .goBack, byte1 := cause.byte, subject := BitVec.ofNat 16 d.val, e0 := head.seq, e1 := w32 head.sends
      e2 := w32 entries.length, e3 := w32 (marked.toNat + 2 * window.isSome.toNat)
      e4 := (window.map (·.1)).getD 0, e5 := (window.map (·.2)).getD 0 }

/-- R100: a failure of the head. -/
def State.failHead (s : State) (d : Drive) (cause : Cause) : State :=
  match (s.chan d).verifyList with
  | [] => s
  | head :: _ =>
    if s.params.rewriteLimit[d] < head.sends then
      (s.countChan d fun k => { k with writeErrors := k.writeErrors.add 1 }).failChannel d .writeError
        ((s.chan d).images.find? (·.slot == head.slot))
    else s.goBack d head cause

/-! ## The readback timer (R99) -/

/-- R99: the deadline of the head, while the timer runs. -/
def State.readbackDeadline (s : State) (d : Drive) : Option Nat :=
  let c := s.chan d
  match c.readbackTimer, c.verifyList with
  | true, head :: _ => some (head.time + timeoutMicros s.params.readbackTimeout)
  | _, _ => none

/-- R99: the timer expires. -/
def State.readbackExpiry (s : State) (d : Drive) : State :=
  (s.countChan d fun k => { k with timeouts := k.timeouts.add 1 }).failHead d .timeout

/-- R99: a deadline that has already passed expires in the same event. -/
def State.overdueTest (s : State) (d : Drive) : State :=
  match s.readbackDeadline d with
  | some t => if t ≤ s.timebase then s.readbackExpiry d else s
  | none => s

/-- READBACK_TIMEOUT (R99). -/
def execReadbackTimeout (d : Drive) (s : State) : Host.Outcome State Fault Refusal :=
  match s.readbackDeadline d with
  | none => .next s
  | some t => .next (s.settle ((s.elapseTo t).readbackExpiry d))

/-! ## Readbacks (R94 to R97) -/

/-- R94: one byte joins the readback. -/
def Readback.push (size : Nat) (r : Readback) (b : Byte) : Readback :=
  { count := r.count + 1
    crc := if r.count < size - 4 then crcByte r.crc b else r.crc
    header := if r.count < 16 then r.header ++ [b] else r.header
    trailer := if r.count < size - 4 then r.trailer else r.trailer ++ [b] }

/-- R95: the block sequence in a header. -/
def headerSeq (h : List Byte) : Word := w32 (ofBE (slice h 4 4))

/-- R95: a readback is sound. -/
def Readback.sound (r : Readback) (size : Fin 4) (session : Word) : Bool :=
  r.header.take 2 == [0x4A, 0x54] && r.header.getD 2 0 == BitVec.ofNat 8 size.val
    && ofBE (slice r.header 8 4) == session.toNat && ofBE r.trailer == (~~~ r.crc).toNat

/-- R97: a readback verifies the head. An assembler that waited for the image that it frees (R72) acts before the expiry of a new
head that is already overdue (R99; DESIGN CHOICE, log entry 72). -/
def State.verifyHead (s : State) (d : Drive) : State :=
  match (s.chan d).verifyList with
  | [] => s
  | head :: rest =>
    let s1 := s.modChan d fun c =>
      { (c.freeImage head.slot) with
        verifyList := rest, stale := none, readbackTimer := !rest.isEmpty
        counters := { c.counters with verified := c.counters.verified.add 1
                                      setsVerified := c.counters.setsVerified.add head.marks.length } }
    (((s1.emitMarks d 0 head.seq head.sends head.marks).imageFreed d head.slot).overdueTest d).drainTest d

/-- R96: a sequence lies in the stale window. -/
def inWindow (w : Word × Word) (x : Word) : Bool := x == w.1 || (precedes w.1 x && !precedes w.2 x)

/-- R96: the arrival of a readback. -/
def State.readbackArrival (s : State) (d : Drive) (r : Readback) : State :=
  let c := s.chan d
  let sound := r.sound c.size c.writeSession
  let seq := headerSeq r.header
  let s1 := if sound then s else s.countChan d fun k => { k with damaged := k.damaged.add 1 }
  match c.verifyList with
  | [] => s1.countChan d fun k => { k with staleEmpty := k.staleEmpty.add 1 }
  | head :: _ =>
    if sound ∧ seq = head.seq ∧ ~~~ r.crc = head.crc then s1.verifyHead d
    else if sound ∧ precedes seq head.seq then
      s1.countChan d fun k => { k with staleDuplicate := k.staleDuplicate.add 1 }
    else if c.stale.any fun w => !sound || inWindow w seq then
      s1.countChan d fun k => { k with staleWindow := k.staleWindow.add 1 }
    else (s1.countChan d fun k => { k with mismatches := k.mismatches.add 1 }).failHead d .mismatch

/-- R94: one byte of a TAPE_IN write in WRITE or UNMOUNTING; bytes behind an arrival that ended the period are lost. -/
def State.readbackByte (d : Drive) (s : State) (b : Byte) : State :=
  let c := s.chan d
  match c.state with
  | .write | .unmounting =>
    let size := blockSize c.size
    let r := c.readback.push size b
    if r.count = size then (s.setChan d { c with readback := {} }).readbackArrival d r
    else s.setChan d { c with readback := r }
  | _ => s

/-- R94: the bytes of a TAPE_IN write join the readback. -/
def State.takeReadback (s : State) (d : Drive) (data : List Byte) : State := data.foldl (State.readbackByte d) s

end Sys2Proof.Machine
end

