-- ==== Sys2Proof/Machine/Reader.lean ====
section
/-! DEFINITION. The reader of a channel in READ (6.1, 2.5): the fragment walk (R3), reassembly (R36), the classification of
blocks (R111), and TAPE_IN writes in every state (R93, R108). -/

namespace Sys2Proof.Machine

/-! ## The fragment walk (R3, R109) -/

/-- One byte joins the block (R109): count, CRC, header and trailer, and the bad mark of header bytes 0 to 2. -/
def BlockRx.push (size : Fin 4) (rx : BlockRx) (b : Byte) : BlockRx :=
  let n := blockSize size
  { rx with
    count := rx.count + 1
    crc := if rx.count < n - 4 then crcByte rx.crc b else rx.crc
    header := if rx.count < 16 then rx.header ++ [b] else rx.header
    trailer := if rx.count < n - 4 then rx.trailer else rx.trailer ++ [b]
    bad := rx.bad || (rx.count == 0 && b != 0x4A) || (rx.count == 1 && b != 0x54)
      || (rx.count == 2 && b != BitVec.ofNat 8 size.val) }

/-- Where the payload ends (R1). -/
def BlockRx.payloadEnd (rx : BlockRx) : Nat := 16 + ofBE (slice rx.header 12 4)

/-- R3: a malformation is found: the block takes the bad mark, and the walk ends. -/
def BlockRx.spoil (rx : BlockRx) : BlockRx := { rx with bad := true, walk := .finished, owners := [], targets := [] }

/-- R3: the walk stands at a fragment header, or at its end. -/
def BlockRx.nextFragment (rx : BlockRx) : BlockRx :=
  if rx.fragsLeft = 0 then
    if rx.count = rx.payloadEnd then { rx with walk := .finished, owners := [], targets := [] } else rx.spoil
  else if rx.payloadEnd < rx.count + 12 then rx.spoil
  else { rx with walk := .fragHeader [], owners := [], targets := [] }

/-- R3: the walk begins when the header is complete. -/
def BlockRx.beginWalk (size : Fin 4) (rx : BlockRx) : BlockRx :=
  if rx.bad then { rx with walk := .finished }
  else if 16 + capacityOf size < rx.payloadEnd then rx.spoil
  else BlockRx.nextFragment { rx with fragsLeft := (rx.header.getD 3 0).toNat }

/-- R3: the malformations of a fragment header; the walk stands behind it. -/
def BlockRx.fragBad (rx : BlockRx) (f : FragFields) : Bool :=
  f.len == 0 || 1 < f.number || (f.number == 1 && !f.last) || rx.payloadEnd < rx.count + f.len

/-! ## Interest (R110) -/

/-- R110: a session has an interest in a fragment; for fragment 1 the record that its bytes go to. -/
def State.sessionInterest (s : State) (d : Drive) (f : FragFields) (i : SessionId) : Bool :=
  let x := s.session i
  x.state == .active && x.drive == some d && !x.final && f.setId == x.setId &&
    (if f.number = 0 then !precedes f.seq x.nextSeq && !(x.lastSeq.any fun l => precedes l f.seq)
     else (x.pendingRec.bind s.findRec).any fun r => r.seq == f.seq)

/-- R110: the verify pass has an interest in a fragment. -/
def State.verifyInterest (s : State) (d : Drive) (f : FragFields) : Bool :=
  let r := (s.chan d).reader
  r.verify && (f.number == 0 || (r.pendingVerify.bind s.findRec).any fun x => x.setId == f.setId && x.seq == f.seq)

/-- R110: the owners of interest, sessions first (log entry 15). -/
def State.interested (s : State) (d : Drive) (f : FragFields) : List Requester :=
  (allSessions.filter (s.sessionInterest d f)).map .session ++ if s.verifyInterest d f then [.verify d] else []

/-- The pending record of an owner. -/
def State.pendingOf (s : State) : Requester → Option Nat
  | .session i => (s.session i).pendingRec
  | .verify d => (s.chan d).reader.pendingVerify

/-! ## Reassembly (R36, R39) -/

def Requester.role : Requester → Role
  | .session i => .restore i
  | .verify d => .verify d

/-- R36: a record for an owner, lowest-numbered first; none when no record is FREE. -/
def State.createRec (s : State) (f : Frag) (q : Requester) : Option (Nat × State) :=
  if Config.chunkRecords ≤ s.pool.records.length then none
  else
    let id := lowestFree 0 s.pool.records
    let r : ChunkRec :=
      { id := id, role := q.role, setId := f.setId, seq := f.seq, state := .reassembling, created := true, lastIn := f.last }
    some (id, s.modPool fun p => { p with records := insertRec r p.records })

/-- R36: the records of the fragment under the walk are created. -/
def State.createRecs (f : Frag) : List Requester → State → Option (List Nat × State)
  | [], s => some ([], s)
  | q :: qs, s =>
    match s.createRec f q with
    | none => none
    | some (id, t) =>
      match State.createRecs f qs t with
      | none => none
      | some (ids, u) => some (id :: ids, u)

/-- R36, R39: one byte joins a record provisionally; a page is taken where it reaches one that is not covered. -/
def State.copyByte (s : State) (b : Byte) (id : Nat) : Option State :=
  match s.findRec id with
  | none => some s
  | some r =>
    let off := r.committed + r.provisional
    let need := decide (off < Config.maxStored) && decide (r.pages.length ≤ off / 512)
    match need, s.pool.free with
    | true, [] => none
    | true, k :: ks =>
      let t := (s.modPool fun p => { p with free := ks }).modRec id fun x =>
        { x with pages := x.pages ++ [k], provPages := x.provPages + 1, provisional := x.provisional + 1 }
      some (t.pokeChunk (r.pages ++ [k]) off b)
    | false, _ =>
      let t := s.modRec id fun x => { x with provisional := x.provisional + 1 }
      some (if off < Config.maxStored then t.pokeChunk r.pages off b else t)

/-- One byte joins several records. -/
def State.copyAll (b : Byte) : List Nat → State → Option State
  | [], s => some s
  | id :: ids, s =>
    match s.copyByte b id with
    | none => none
    | some t => State.copyAll b ids t

def State.setRx (s : State) (d : Drive) (rx : BlockRx) : State :=
  s.modChan d fun c => { c with reader := { c.reader with rx := rx } }

/-- The fragment under the walk takes the records made for it. -/
def BlockRx.withRecords (rx : BlockRx) (ids : List Nat) : BlockRx :=
  { rx with
    owners := [], targets := ids
    frags := match rx.frags.getLast? with
      | some f => rx.frags.dropLast ++ [{ f with records := ids }]
      | none => rx.frags }

/-- R109, R110: a fragment header is complete. -/
def State.fragHeaderDone (s : State) (d : Drive) (rx : BlockRx) (f : FragFields) : State :=
  if rx.fragBad f then s.setRx d rx.spoil
  else
    let owners := if rx.bad then [] else s.interested d f
    let pend := if f.number = 1 then owners.filterMap s.pendingOf else []
    let rec_ : Frag := { setId := f.setId, seq := f.seq, last := f.last, number := f.number, index := rx.frags.length
                         records := pend }
    let t := forEach pend (fun id u => u.modRec id fun x => { x with lastIn := true }) s
    t.setRx d { rx with
      walk := .data f.len, fragsLeft := rx.fragsLeft - 1, frags := rx.frags ++ [rec_]
      owners := if f.number = 0 then owners else [], targets := pend }

/-- R109: one data byte under the walk; whether it is written into a record, which it is below offset 4,106
(R39). None when the pool cannot grant what it needs (R36). -/
def State.fragData (s : State) (d : Drive) (rx : BlockRx) (left : Nat) (b : Byte) : Option (State × Bool) :=
  let made : Option (List Nat × State) := match rx.owners, rx.frags.getLast? with
    | [], _ => some (rx.targets, s)
    | qs, some f => State.createRecs f qs s
    | _, none => some ([], s)
  match made with
  | none => none
  | some (ids, t) =>
    let rx := if rx.owners.isEmpty then rx else rx.withRecords ids
    match State.copyAll b ids t with
    | none => none
    | some u =>
      let rx := if left = 1 then rx.nextFragment else { rx with walk := .data (left - 1) }
      some (u.setRx d rx, ids.any fun id => (t.findRec id).any fun r => r.committed + r.provisional < Config.maxStored)

/-! ## The arrival of a block (R111) -/

/-- The block is good (R111). -/
def BlockRx.good (rx : BlockRx) : Bool := !rx.bad && ofBE rx.trailer == (~~~ rx.crc).toNat

/-- R111: the rows of the classification. -/
inductive BlockRow where
  | bad | first | expected | duplicate | skipped | gap (missed : Nat)
  deriving DecidableEq, Repr

/-- R111: the row that applies. A good block whose sequence lies exactly 2^31 from the expected one neither precedes nor
follows it (R5): it is taken under rows 5 and 6 (DESIGN CHOICE, log entry 66). -/
def Reader.classify (r : Reader) (window : Nat) (good : Bool) (seq : Word) : BlockRow :=
  if !good then .bad
  else match r.expected with
    | none => .first
    | some e =>
      if seq = e then .expected
      else if precedes seq e then .duplicate
      else if r.recovering ∧ r.recoveryCount < window then .skipped
      else .gap (seq - e).toNat

/-- R111: the reader after a row, with the decision. -/
def Reader.judged (r : Reader) (row : BlockRow) (seq : Word) : Reader :=
  let t := { r.tallies with blocksRead := r.tallies.blocksRead.add 1 }
  let decide_ (ok : Bool) : BlockRx := { r.rx with decision := some ok }
  let accept (t : Tallies) : Reader :=
    { r with rx := decide_ true, expected := some (seq + 1), recovering := false
             tallies := { t with accepted := t.accepted.add 1 } }
  match row with
  | .bad =>
    { r with rx := decide_ false, tallies := { t with bad := t.bad.add 1 }, recovering := true
             recoveryCount := if r.recovering then r.recoveryCount else 0 }
  | .first | .expected => accept t
  | .duplicate => { r with rx := decide_ false, tallies := { t with duplicates := t.duplicates.add 1 } }
  | .skipped =>
    { r with rx := decide_ false, tallies := { t with skipped := t.skipped.add 1 }, recoveryCount := r.recoveryCount + 1 }
  | .gap n =>
    { accept { t with gaps := t.gaps.add 1, missed := t.missed.add n } with
      firstBad := match r.firstBad with | some x => some x | none => r.expected }

/-- R109, R111: the arrival of a block. -/
def State.blockArrival (s : State) (d : Drive) : State :=
  let r := (s.chan d).reader
  let seq := headerSeq r.rx.header
  let row := r.classify s.params.recoveryWindow r.rx.good seq
  (s.blockMoved d).modChan d fun c => { c with reader := c.reader.judged row seq }

/-! ## The bytes of a write -/

/-- R109: one byte of a TAPE_IN write in READ. A byte beyond the block's end is discarded and counted. -/
def State.rxByte (d : Drive) (acc : Option (State × Bool)) (b : Byte) : Option (State × Bool) :=
  match acc with
  | none => none
  | some (s, copied) =>
    let size := (s.chan d).size
    let old := (s.chan d).reader.rx
    if old.decision.isSome then some (s.countChan d fun k => { k with unclaimed := k.unclaimed.add 1 }, copied)
    else
      let rx := old.push size b
      let next : Option (State × Bool) := match old.walk with
        | .blockHeader => some (s.setRx d (if rx.count = 16 then rx.beginWalk size else rx), false)
        | .fragHeader got =>
          if got.length = 11 then some (s.fragHeaderDone d rx (parseFrag (got ++ [b])), false)
          else some (s.setRx d { rx with walk := .fragHeader (got ++ [b]) }, false)
        | .data left => s.fragData d rx left b
        | .finished => some (s.setRx d rx, false)
      match next with
      | none => none
      | some (t, c) => some (if rx.count = blockSize size then t.blockArrival d else t, copied || c)

/-- R36, R108, R109: the write is taken: its bytes, one burst of reassembly writes, and the change of the free list. R42's test
of the POOL hold is made once for the write, however many pages it took (DESIGN CHOICE, log entry 89). -/
def State.takeBlockBytes (s : State) (d : Drive) (data : List Byte) : Option State :=
  match data.foldl (State.rxByte d) (some (s, false)) with
  | none => none
  | some (t, copied) =>
    let u := if t.pool.free.length = s.pool.free.length then t else t.setFree t.pool.free
    some (if copied then
        (u.modChan d fun c => { c with reader := { c.reader with rx := { c.reader.rx with writes := c.reader.rx.writes + 1 } } }).issue
          (.reassembly d)
      else u)

/-- R108: a new block must wait: an ACTIVE session on the channel holds 8 entries, or the pass 16 COMPLETE records. -/
def State.blockHeldBack (s : State) (d : Drive) : Bool :=
  (allSessions.any fun i =>
    (s.session i).state == .active && (s.session i).drive == some d && 8 ≤ (s.session i).queue.length)
  || 16 ≤ (s.pool.records.filter fun r => r.role == .verify d && r.state == .complete).length

/-- R108: a TAPE_IN write in READ. A decided block answers RETRY until its BLOCK_COMMIT or BLOCK_DISCARD, also where no
reassembly write of it is outstanding any more (DESIGN CHOICE, log entry 107). -/
def State.readWrite (s : State) (d : Drive) (data : List Byte) : State :=
  let rx := (s.chan d).reader.rx
  if rx.decision.isSome then s.answer [.retry]
  else if rx.count = 0 ∧ s.blockHeldBack d then s.answer [.retry]
  else match s.takeBlockBytes d data with
    | none => (s.answer [.retry]).modPool fun p => { p with retries := p.retries.add 1 }
    | some t => t.answer [.done []]

/-- TAPE_IN_WRITE (R93). -/
def execTapeInWrite (a : Addr) (data : List Byte) (s : State) : Host.Outcome State Fault Refusal :=
  match s.tapeInDrive a with
  | none => .next s
  | some d =>
    if !(Access.write a data).shaped then .next s
    else match (s.chan d).state with
      | .write | .unmounting => .next (s.settle ((s.takeReadback d data).answer [.done []]))
      | .read => .next (s.settle (s.readWrite d data))
      | .mounting | .idle | .ejectWait =>
        .next ((s.countChan d fun k => { k with unclaimed := k.unclaimed.add data.length }).answer [.done []])
      | .unmounted | .failed => .next (s.answer [.fault])

end Sys2Proof.Machine
end

