-- ==== Sys2Proof/Machine/Restore.lean ====
section
/-! DEFINITION. The commit and discard of a block (R37, R38, R112), what the verify pass and the sessions take from it
(R113, R120, R121), the unpack engine's steps (R22 to R25, R122, R123), delivery (R124 to R126), and the commands
OPEN_RESTORE and CANCEL_RESTORE (R118, R127). -/

namespace Sys2Proof.Machine

/-! ## Answers to reassembly writes (R37, R41) -/

/-- R41: a FAULT answer gives the block the bad mark; a block that was decided accepted is rejected (log entry 17).
What the decision did at the arrival stays: the tallies, the expected sequence and RECOVERING; no bad block is counted (DESIGN
CHOICE, log entry 99). -/
def BlockRx.faulted (rx : BlockRx) : BlockRx := { rx with bad := true, decision := rx.decision.map fun _ => false }

/-- REASSEMBLY_WRITE_ANSWER (R41). Answers to the writes of a block that a reader stop discarded come first. -/
def execReassemblyWriteAnswer (d : Drive) (ok : Bool) (s : State) : Host.Outcome State Fault Refusal :=
  if !s.owes (.reassembly d) then .next s
  else
    let t := s.answered (.reassembly d)
    let u := if ok then t else t.poolFault
    .next (u.modChan d fun c =>
      let r := c.reader
      { c with reader :=
        if 0 < r.staleWrites then { r with staleWrites := r.staleWrites - 1 }
        else
          let rx := { r.rx with writes := r.rx.writes - 1 }
          { r with rx := if ok then rx else rx.faulted } })

/-! ## The commit (R37) -/

/-- R28: the header fields of a record whose committed bytes hold them. -/
def ChunkRec.withHeader (r : ChunkRec) (n : Nat) (h : ChunkFields) : ChunkRec :=
  { r with
    origLen := if 2 ≤ n then some h.orig else none, bodyLen := if 4 ≤ n then some h.body else none
    form := if 5 ≤ n then some h.form else none, setend := if 6 ≤ n then some h.setend else none
    check := if 10 ≤ n then some h.check else none }

/-- R37: one record's provisional bytes are committed; its LAST fragment makes it COMPLETE. -/
def State.commitRec (s : State) (id : Nat) : State :=
  match s.findRec id with
  | none => s
  | some r =>
    let n := r.committed + r.provisional
    let h := parseChunk (s.chunkBytes r.pages 0 Config.chunkHeaderSize)
    s.modRec id fun x =>
      { x.withHeader n h with
        committed := n, provisional := 0, provPages := 0, created := false, lastIn := false
        state := if x.lastIn then .complete else x.state }

/-! ## The verify pass (R113) -/

def State.modReader (s : State) (d : Drive) (f : Reader → Reader) : State :=
  s.modChan d fun c => { c with reader := f c.reader }

/-- R113: a chunk of the pass is bad. -/
def Reader.chunkBad (r : Reader) : Reader :=
  { r with tallies := { r.tallies with chunksBad := r.tallies.chunksBad.add 1 }
           firstBad := match r.firstBad with | some x => some x | none => r.expected.map (· - 1) }

/-- The block's first fragment is fragment 1 of a record. -/
def beginsWith (frags : List Frag) (id : Nat) : Bool :=
  match frags with
  | f :: _ => f.number == 1 && f.records.contains id
  | [] => false

/-- R113: a record of the pass that the block created. -/
def State.verifyNew (s : State) (d : Drive) (id : Nat) : State :=
  match s.findRec id with
  | some r =>
    if r.role = .verify d then
      s.modReader d fun x =>
        if r.state = .complete then { x with verifyQueue := x.verifyQueue ++ [id] } else { x with pendingVerify := some id }
    else s
  | none => s

/-- R113: the verify pass takes the fragments of a committed block. -/
def State.verifyTake (s : State) (d : Drive) (frags : List Frag) : State :=
  if !(s.chan d).reader.verify then s
  else
    let s1 := match (s.chan d).reader.pendingVerify with
      | none => s
      | some p =>
        let t := s.modReader d fun x => { x with pendingVerify := none }
        if beginsWith frags p then t.modReader d fun x => { x with verifyQueue := x.verifyQueue ++ [p] }
        else (t.freeRec p).modReader d Reader.chunkBad
    forEach ((frags.filter fun f => f.number == 0).flatMap (·.records)) (fun id t => t.verifyNew d id) s1

/-! ## Collecting (R120, R121) -/

/-- R120: the final chunk is collected: the session detaches and its stall timer stops. -/
def Session.collected (x : Session) : Session := { x with final := true, drive := none, stall := none }

/-- R120: a chunk joins a session's queue. -/
def State.joinChunk (s : State) (i : SessionId) (r : ChunkRec) : State :=
  s.modSession i fun x =>
    let y := { x with queue := x.queue ++ [.chunk r.id], nextSeq := r.seq + 1, pendingRec := none, stall := some s.timebase }
    if r.setend = some true ∨ x.lastSeq = some r.seq then y.collected else y

/-- R121: a run of lost chunks stops at the session's last sequence, where it has one. -/
def Session.runLength (x : Session) (first : Word) (count : Nat) : Nat :=
  match x.lastSeq with
  | some l => min count ((l - first).toNat + 1)
  | none => count

/-- R121: a run of lost chunks: GAP, or one zero entry under CONTINUE. -/
def State.loseChunks (s : State) (i : SessionId) (first : Word) (count len : Nat) (setend : Bool) : State :=
  if (s.session i).cont then
    s.modSession i fun x =>
      let n := x.runLength first count
      let next := first + BitVec.ofNat 32 n
      let y := { x with
        queue := x.queue ++ [.zero first n len setend], nextSeq := next, pendingRec := none
        damaged := x.damaged.add n, stall := some s.timebase }
      if setend ∨ x.lastSeq = some (next - 1) then y.collected else y
  else s.endSession i (.failed .gap)

/-- R121: the length of a lost chunk whose record was given up. -/
def ChunkRec.lostLen (r : ChunkRec) : Nat :=
  match r.origLen with
  | some n => if n ≤ 4096 then n else 4096
  | none => 4096

/-- R120: the session goes on collecting from a channel. -/
def State.collecting (s : State) (d : Drive) (i : SessionId) : Bool :=
  let x := s.session i
  x.state == .active && x.drive == some d && !x.final

/-- R120, step 1: the pending record; the fragments that are left. -/
def State.takePending (s : State) (i : SessionId) (frags : List Frag) : State × List Frag :=
  match (s.session i).pendingRec.bind s.findRec with
  | none => (s, frags)
  | some r =>
    if beginsWith frags r.id then (s.joinChunk i r, frags.tail)
    else
      let t := (s.modSession i fun x => { x with pendingRec := none }).freeRec r.id
      (t.loseChunks i r.seq 1 r.lostLen (r.setend == some true), frags)

/-- The record of a session among a fragment's records. -/
def State.ownRec (s : State) (i : SessionId) (f : Frag) : Option ChunkRec :=
  (f.records.filterMap s.findRec).find? (·.role == .restore i)

/-- R120, steps 2 and 3: one fragment of the session's set. A fragment 0 that no record was made for, since the session's
interest began behind its header, is passed over (log entry 16). -/
def State.collectFrag (d : Drive) (i : SessionId) (f : Frag) (s : State) : State :=
  let x := s.session i
  if !s.collecting d i ∨ f.setId ≠ x.setId ∨ precedes f.seq x.nextSeq ∨ (x.lastSeq.any fun l => precedes l f.seq) then s
  else if f.number = 0 then
    match s.ownRec i f with
    | none => s
    | some r =>
      let t := if precedes x.nextSeq f.seq then s.loseChunks i x.nextSeq (f.seq - x.nextSeq).toNat 4096 false else s
      if !t.collecting d i then t
      else if f.last then t.joinChunk i r
      else t.modSession i fun y => { y with pendingRec := some r.id, nextSeq := f.seq }
  else if x.pendingRec.isSome then s
  else s.loseChunks i x.nextSeq ((f.seq - x.nextSeq).toNat + 1) 4096 false

/-- R120: a session takes the fragments of a committed block. -/
def State.sessionTake (d : Drive) (frags : List Frag) (i : SessionId) (s : State) : State :=
  if !s.collecting d i then s
  else
    let (t, rest) := s.takePending i frags
    forEach rest (State.collectFrag d i) t

/-- BLOCK_COMMIT (R37, R112). The commit is made by this command alone, also where no reassembly write was outstanding at the
decision, and not within the write that decides the block or the last answer (DESIGN CHOICE, log entry 107). The verify pass takes the block's fragments before the sessions, and these in ascending order
(DESIGN CHOICE, log entry 74). -/
def execBlockCommit (d : Drive) (s : State) : Host.Outcome State Fault Refusal :=
  let rx := (s.chan d).reader.rx
  if rx.decision = some true ∧ rx.writes = 0 then
    let s1 := forEach rx.touched (fun id t => t.commitRec id) s
    let s2 := s1.verifyTake d rx.frags
    let s3 := forEach allSessions (State.sessionTake d rx.frags) s2
    .next (s.settle (s3.modReader d fun r => { r with rx := {} }))
  else .next s

/-- BLOCK_DISCARD (R38, R112). The discard is made by this command alone, or by a reader stop, as the commit is by its own
(DESIGN CHOICE, log entry 107). -/
def execBlockDiscard (d : Drive) (s : State) : Host.Outcome State Fault Refusal :=
  let rx := (s.chan d).reader.rx
  if rx.decision = some false ∧ rx.writes = 0 then .next (s.settle (s.discardBlock d)) else .next s

/-! ## Delivery (R124, R125) -/

/-- R124, R125, R126: a chunk is fully read: the session ends, or its stall timer restarts. -/
def State.fullyRead (s : State) (i : SessionId) : State :=
  let x := s.session i
  if x.buffer.setend ∨ x.buffer.lastChunk then s.endSession i .done
  else if x.state = .active ∧ !x.final then s.setSession i { x with stall := some s.timebase }
  else s

/-- R123, R124: the delivery buffer is filled; a chunk of no bytes is fully read at once. -/
def State.fillBuffer (s : State) (i : SessionId) (b : Delivery) : State :=
  let t := s.modSession i fun x => { x with buffer := b }
  if b.bytes.isEmpty then t.fullyRead i else t

/-- R124: the buffer holds unread bytes. -/
def Delivery.unread (b : Delivery) : Bool := b.offset < b.bytes.length

/-- R124: a read is answered from the buffer. The delivered byte count wraps at 2^64 (DESIGN CHOICE, log entry 104). -/
def State.deliver (s : State) (i : SessionId) (len : Nat) : State :=
  let b := (s.session i).buffer
  let data := slice b.bytes b.offset len
  let t := s.modSession i fun x =>
    { x with buffer := { b with offset := b.offset + data.length }
             delivered := x.delivered + BitVec.ofNat 64 data.length
             bytesDelivered := x.bytesDelivered.add data.length }
  let u := t.answer [.done (padTo len data)]
  if b.offset + data.length = b.bytes.length then u.fullyRead i else u

/-- R124: the first chunk of a zero entry fills the buffer; the entry leaves the queue with its last chunk. -/
def Session.takeZero (x : Session) (first : Word) (count len : Nat) (setend : Bool) (rest : List QueueEntry) : Session :=
  let last := decide (count ≤ 1)
  { x with
    queue := if last then rest else .zero (first + 1) (count - 1) len setend :: rest
    buffer := { bytes := List.replicate len 0, setend := last && setend, lastChunk := last && x.lastSeq == some first } }

/-- A chunk of a requester is in the unpack engine, and its job is not discarded. -/
def State.decoding (s : State) (q : Requester) : Bool := s.restore.job.any fun j => j.requester == q && !j.discarded

/-- RESTORE_READ (R124, R179). While the session's chunk is in the unpack engine, a zero entry behind it in the queue is not
served, since the bytes of a session are delivered in order (R121, R124): the read is answered RETRY (DEDUCED, log entry
67). -/
def execRestoreRead (a : Addr) (len : Nat) (s : State) : Host.Outcome State Fault Refusal :=
  match s.restoreSession a with
  | none => .next s
  | some i =>
    let x := s.session i
    if !(Access.read a len).shaped then .next s
    else if x.state = .free then
      .next ((s.stray false i.val (.read a len)).answer [.done (List.replicate len 0)])
    else if x.buffer.unread then .next (s.settle (s.deliver i len))
    else if s.decoding (.session i) then .next (s.answer [.retry])
    else match x.queue with
      | .zero first count n setend :: rest =>
        .next (s.settle ((s.setSession i (x.takeZero first count n setend rest)).deliver i len))
      | _ => .next (s.answer [.retry])

/-- R126: when a session's stall timer expires. -/
def State.stallDeadline (s : State) (i : SessionId) : Option Nat :=
  (s.session i).stall.map fun t => t + timeoutMicros s.params.restoreStallTimeout

/-- RESTORE_STALL_TIMEOUT (R126). -/
def execRestoreStallTimeout (i : SessionId) (s : State) : Host.Outcome State Fault Refusal :=
  match s.stallDeadline i with
  | none => .next s
  | some t => .next (s.settle ((s.elapseTo t).endSession i (.failed .timeout)))

/-! ## The unpack engine (R22 to R25, R122, R123) -/

/-- R122: the requesters in circular order. -/
def allRequesters : List Requester := (allSessions.map .session) ++ (allDrives.map .verify)

/-- R122: a requester requests; the record at the head of its queue. -/
def State.requested (s : State) : Requester → Option Nat
  | .session i =>
    let x := s.session i
    if x.state = .free ∨ x.buffer.unread then none
    else match x.queue with
      | .chunk id :: _ => some id
      | _ => none
  | .verify d => (s.chan d).reader.verifyQueue.head?

/-- R122: the requesters after the last one served, in circular order. -/
def requestersAfter (q : Requester) : List Requester :=
  (allRequesters.dropWhile (· ≠ q)).drop 1 ++ allRequesters.takeWhile (· ≠ q) ++ [q]

/-- R122: the requester that is granted. -/
def State.granted (s : State) : Option (Requester × Nat) :=
  (requestersAfter s.restore.lastServed).findSome? fun q => (s.requested q).map fun id => (q, id)

/-- R22, R39: the stored bytes of a record. -/
def State.storedBytes (s : State) (r : ChunkRec) : List Byte := s.chunkBytes r.pages 0 (min r.committed Config.maxStored)

/-- R22: the head of a requester's queue leaves it. -/
def State.dropHead (s : State) : Requester → State
  | .session i => s.modSession i fun x => { x with queue := x.queue.tail }
  | .verify d => s.modReader d fun r => { r with verifyQueue := r.verifyQueue.tail }

/-- DECODE_START (R22, R122). The requester is chosen here, and no choice is held between the event that makes it request and
this one (DESIGN CHOICE, log entry 82). -/
def execDecodeStart (s : State) : Host.Outcome State Fault Refusal :=
  if s.restore.job.isSome then .next s
  else match s.granted with
    | none => .next s
    | some (q, id) =>
      match s.findRec id with
      | none => .next s
      | some r =>
        let bad := (decodeStored (s.storedBytes r)).1 == .headerBad
        let t := (s.dropHead q).modRec id fun x => { x with state := .decoding }
        let u := t.modRestore fun x =>
          { x with job := some { requester := q, record := id, headerBad := bad, discarded := false }
                   output := [], lastServed := q }
        .next (u.startJob .unpack)

/-- R123: an outcome acts on a session. -/
def State.sessionOutcome (s : State) (i : SessionId) (r : ChunkRec) (o : DecodeOutcome) (out : List Byte) : State :=
  let x := s.session i
  let mk (bs : List Byte) : Delivery :=
    { bytes := bs, setend := r.setend == some true, lastChunk := x.lastSeq == some r.seq }
  if o = .good then s.fillBuffer i (mk out)
  else if x.cont then
    (s.setSession i { x with damaged := x.damaged.add 1 }).fillBuffer i (mk (List.replicate r.lostLen 0))
  else s.endSession i (.failed .check)

/-- R113: an outcome acts on a verify pass. -/
def State.verifyOutcome (s : State) (d : Drive) (o : DecodeOutcome) : State :=
  s.modReader d fun r =>
    if o = .good then { r with tallies := { r.tallies with chunksGood := r.tallies.chunksGood.add 1 } } else r.chunkBad

/-- DECODE_COMPLETION (R24, R25), at the answers to all of the job's reads, or at a FAULT answer to one of them (R176). The
outcome acts first and the record is freed behind it, in the order in which R24 lists them (DEDUCED, log entry 68). The
output buffer keeps what the whole decode makes, after a read FAULT too (DESIGN CHOICE, log entry 69). -/
def execDecodeCompletion (readFault : Bool) (s : State) : Host.Outcome State Fault Refusal :=
  match s.restore.job with
  | none => .next s
  | some j =>
    if !s.hasJob .unpack then .next s
    else
      let t := if readFault then (s.endJob .unpack).poolFault else s.endJob .unpack
      match t.findRec j.record with
      | none => .next (t.modRestore fun x => { x with job := none })
      | some r =>
        let dec := decodeStored (t.storedBytes r)
        let outcome := if readFault then .truncated else if j.headerBad then .headerBad else dec.1
        let u := t.modRestore fun x => { x with job := none, output := dec.2 }
        let v := if j.discarded then u
          else match j.requester with
            | .session i => u.sessionOutcome i r outcome dec.2
            | .verify d => u.verifyOutcome d outcome
        .next (s.settle (v.freeRec j.record))

/-! ## The restore commands (R118, R127) -/

/-- R118: the preference of P5: D0, D1, or either. -/
def prefOf (w : Word) : Option (Option Drive) :=
  if w = 0 then some (some 0) else if w = 1 then some (some 1) else if w = 2 then some none else none

/-- R118: the record of a session that is opened. -/
def openedSession (tag : Half) (cont : Bool) (p1 p2 p3 : Word) : Session :=
  { tag := tag, setId := p1, nextSeq := p2, lastSeq := if p3 = 0 then none else some (p2 + p3 - 1), cont := cont }

/-- R118: a session opened on a bay. -/
def State.openOnBay (s : State) (i : SessionId) (x : Session) (d : Drive) : Effect :=
  if (s.chan d).state = .failed then s.turnAway .refusedState
  else
    let y := if (s.chan d).state = .read then { x with state := .active, drive := some d, stall := some s.timebase }
      else { x with state := .waitRead, drive := some d }
    { state := s.setSession i y, outcome := .accepted }

/-- R118: a session opened on a storage slot waits on a MOUNT of its cartridge. -/
def State.openOnSlot (s : State) (i : SessionId) (x : Session) (l : Loc) (uid : Nat) (pref : Option Drive)
    (preempt : Bool) : Effect :=
  match s.loader.queue.find? fun r => r.kind == .mount && r.cart == some uid with
  | some r => { state := s.setSession i { x with state := .waitMount, mountReq := some r.stamp }, outcome := .accepted }
  | none =>
    if s.queueFull then s.turnAway .refusedBusy
    else
      let t := s.setSession i { x with state := .waitMount, mountReq := some s.loader.nextStamp }
      { state := t.joinInternal { newReq .mount (some l) (bayLoc (pref.getD 0)) with
          pref := pref, preempt := preempt, cart := some uid }
        outcome := .accepted }

/-- R118: OPEN_RESTORE. -/
def openRestoreRule (tag : Half) (preempt cont : Bool) (p0 p1 p2 p3 p4 p5 : Word) (s : State) : Effect :=
  match sessionOf p0, prefOf p5, locOf p4 with
  | some i, some pref, some l =>
    if l = mailLoc then s.turnAway .badParam
    else if (s.session i).state ≠ .free then s.turnAway .refusedState
    else match (s.loc l).cart with
      | none => s.turnAway .refusedState
      | some c =>
        if c.media ≠ .data ∧ c.media ≠ .unknown then s.turnAway .refusedState
        else match bayOf l with
          | some d => s.openOnBay i (openedSession tag cont p1 p2 p3) d
          | none => s.openOnSlot i (openedSession tag cont p1 p2 p3) l c.uid pref preempt
  | _, _, _ => s.turnAway .badParam

/-- OPEN_RESTORE (R118). -/
def execOpenRestore (tag : Half) (preempt cont : Bool) (p0 p1 p2 p3 p4 p5 : Word) (s : State) :
    Host.Outcome State Fault Refusal :=
  .next (s.command (.openRestore tag preempt cont p0 p1 p2 p3 p4 p5) 0x30 tag
    (settled (openRestoreRule tag preempt cont p0 p1 p2 p3 p4 p5)))

/-- R127: CANCEL_RESTORE. -/
def cancelRestoreRule (p0 : Word) (s : State) : Effect :=
  match sessionOf p0 with
  | none => s.turnAway .badParam
  | some i => if (s.session i).state = .free then s.turnAway .refusedState else (s.endSession i .cancelled).ok

/-- CANCEL_RESTORE (R127). -/
def execCancelRestore (tag : Half) (p0 : Word) (s : State) : Host.Outcome State Fault Refusal :=
  .next (s.command (.cancelRestore tag p0) 0x31 tag (settled (cancelRestoreRule p0)))

end Sys2Proof.Machine
end

