-- ==== Sys2Proof/Machine/ChannelCommands.lean ====
section
/-! DEFINITION. The commands of a drive channel: MOUNTED and SET_MODE (R67 to R69, R107), END_OF_DATA (R116), FLUSH (R85),
EARLY_WARNING (R79), UNMOUNT (R157) and RESET_CHANNEL (R88). -/

namespace Sys2Proof.Machine

/-! ## Modes (R67, R68) -/

inductive Mode where
  | idle | write | read
  deriving DecidableEq, Repr

/-- R67, R68: the mode that a parameter word names. -/
def modeOf (w : Word) : Option Mode :=
  if w = 0 then some .idle else if w = 1 then some .write else if w = 2 then some .read else none

/-- R107: the reader at its start. The answers still due for the writes of discarded blocks stay due. -/
def Reader.started (r : Reader) (options first : Word) : Reader :=
  { running := true, verify := options.getLsbD 0, expected := if options.getLsbD 1 then none else some first
    staleWrites := r.staleWrites }

/-- R119, R126: a session attached to a channel that enters READ becomes ACTIVE, and its stall timer starts. -/
def Session.activated (x : Session) (d : Drive) (now : Nat) : Session :=
  if x.drive = some d ∧ (x.state = .waitRead ∨ x.state = .awaitNext) ∧ !x.final then
    { x with state := .active, stall := some now }
  else x

/-- R107: the entry to READ. -/
def State.enterRead (s : State) (d : Drive) (options first : Word) : State :=
  let s1 := s.modReader d fun r => r.started options first
  (forEach allSessions (fun i t => t.modSession i fun x => x.activated d s.timebase) s1).enter d .read

/-- A channel enters a mode. -/
def State.enterMode (s : State) (d : Drive) (m : Mode) (options first : Word) : State :=
  match m with
  | .idle => s.enter d .idle
  | .write => s.enterWrite d
  | .read => s.enterRead d options first

/-- R67: MOUNTED. -/
def mountedRule (p0 p1 p2 p3 p4 p5 p6 p7 : Word) (s : State) : Effect :=
  match driveOf p0, modeOf p5 with
  | some d, some m =>
    if h : p1.toNat < 4 then
      let c := s.chan d
      if (c.state = .mounting ∧ !c.cleaningMark) ∨ c.state = .idle then
        let mount : Mount := { size := ⟨p1.toNat, h⟩, nextSeq := p2, capacity := p3, session := p4 }
        ((s.setChan d { c with mount := some mount, mountTimer := none }).enterMode d m p6 p7).ok
      else s.turnAway .refusedState
    else s.turnAway .badParam
  | _, _ => s.turnAway .badParam

/-- MOUNTED (R67). -/
def execMounted (tag : Half) (p0 p1 p2 p3 p4 p5 p6 p7 : Word) (s : State) : Host.Outcome State Fault Refusal :=
  .next (s.command (.mounted tag p0 p1 p2 p3 p4 p5 p6 p7) 0x20 tag (settled (mountedRule p0 p1 p2 p3 p4 p5 p6 p7)))

/-- R116: a channel in READ ends its reading and becomes IDLE. -/
def State.endReading (s : State) (d : Drive) : State := (s.stopReader d true).enter d .idle

/-- R68: the table of SET_MODE. -/
def setModeRule (p0 p1 p2 p3 : Word) (s : State) : Effect :=
  match driveOf p0, modeOf p1 with
  | some d, some m =>
    let c := s.chan d
    match c.state, m with
    | .idle, .idle | .write, .write | .read, .read => s.ok
    | .idle, _ => if c.mount.isSome then (s.enterMode d m p2 p3).ok else s.turnAway .refusedState
    | .write, .idle =>
      if c.drained then ((s.modChan d Channel.leaveWrite).enter d .idle).ok else s.turnAway .refusedBusy
    | .read, .idle => (s.endReading d).ok
    | _, _ => s.turnAway .refusedState
  | _, _ => s.turnAway .badParam

/-- SET_MODE (R68). -/
def execSetMode (tag : Half) (p0 p1 p2 p3 : Word) (s : State) : Host.Outcome State Fault Refusal :=
  .next (s.command (.setMode tag p0 p1 p2 p3) 0x21 tag (settled (setModeRule p0 p1 p2 p3)))

/-- R116: END_OF_DATA. -/
def endOfDataRule (p0 : Word) (s : State) : Effect :=
  match driveOf p0 with
  | none => s.turnAway .badParam
  | some d => if (s.chan d).state = .read then (s.endReading d).ok else s.turnAway .refusedState

/-- END_OF_DATA (R116). -/
def execEndOfData (tag : Half) (p0 : Word) (s : State) : Host.Outcome State Fault Refusal :=
  .next (s.command (.endOfData tag p0) 0x24 tag (settled (endOfDataRule p0)))

/-! ## FLUSH and EARLY_WARNING (R85, R79) -/

/-- R85: the ASSEMBLING image holds at least one fragment or has a placement in progress. -/
def Channel.flushable (c : Channel) : Bool :=
  (c.assembling.filter (0 < ·.frags)).isSome || (match c.activity with | .placing _ => true | _ => false)

/-- R85: FLUSH. -/
def flushRule (p0 : Word) (s : State) : Effect :=
  match driveOf p0 with
  | none => s.turnAway .badParam
  | some d =>
    match (s.chan d).state with
    | .write => ((if (s.chan d).flushable then s.askClose d .flush else s).forceRestart d).ok
    | .unmounting => s.ok
    | _ => s.turnAway .refusedState

/-- FLUSH (R85). -/
def execFlush (tag : Half) (p0 : Word) (s : State) : Host.Outcome State Fault Refusal :=
  .next (s.command (.flush tag p0) 0x22 tag (settled (flushRule p0)))

/-- R79: EARLY_WARNING. -/
def earlyWarningRule (p0 : Word) (s : State) : Effect :=
  match driveOf p0 with
  | none => s.turnAway .badParam
  | some d =>
    match (s.chan d).state with
    | .write => if (s.chan d).full.isSome then s.ok else (s.setFull d .warning).ok
    | .unmounting => s.ok
    | _ => s.turnAway .refusedState

/-- EARLY_WARNING (R79). -/
def execEarlyWarning (tag : Half) (p0 : Word) (s : State) : Host.Outcome State Fault Refusal :=
  .next (s.command (.earlyWarning tag p0) 0x23 tag (settled (earlyWarningRule p0)))

/-! ## UNMOUNT and RESET_CHANNEL (R157, R88) -/

/-- R157: UNMOUNT, as a command. -/
def unmountCommand (force : Bool) (p0 : Word) (s : State) : Effect :=
  match driveOf p0 with
  | none => s.turnAway .badParam
  | some d => s.takeUnmount force d

/-- UNMOUNT (R157). -/
def execUnmount (tag : Half) (force : Bool) (p0 : Word) (s : State) : Host.Outcome State Fault Refusal :=
  .next (s.command (.unmount tag force p0) 0x25 tag (settled (unmountCommand force p0)))

/-- R88: the write side of a channel returns to a clean state. -/
def Channel.cleared (c : Channel) : Channel :=
  { (c.dropReadback.dropSend.regulatorOff.stopTimers) with
    images := [], nextSlot := 0, verifyList := [], stale := none, full := none, changeoverAsked := false
    firstFault := none }

/-- R88: the state that a channel takes at its reset: IDLE with a cartridge record in the bay, and UNMOUNTED without. -/
def State.resetState (s : State) (d : Drive) : State :=
  if (s.bayCart d).isSome then s.enter d .idle else s.enterUnmounted d

/-- R88: the reset of a channel, with the aborts and failures that follow. -/
def State.resetChannel (s : State) (d : Drive) : State :=
  let c := s.chan d
  let dirty := !c.images.isEmpty || c.held.isSome
  let s1 := (s.dropAssembler d).modChan d Channel.cleared
  let s2 := if dirty then s1.modBayCart d fun k => { k with suspect := true } else s1
  let s3 := s2.abortTargeting d .reset
  ((s3.stopReader d false).failAttached d .reset).resetState d

/-- R165: a RESET_CHANNEL of the victim's channel in phase REMOUNTING ends the preempt. -/
def State.resetVictim (s : State) (d : Drive) : State :=
  if s.loader.preempt.any fun p => p.victim == d && p.phase == .remounting then s.endPreempt else s

/-- R88: RESET_CHANNEL. -/
def resetChannelRule (p0 : Word) (s : State) : Effect :=
  match driveOf p0 with
  | none => s.turnAway .badParam
  | some d => ((s.resetChannel d).resetVictim d).ok

/-- RESET_CHANNEL (R88). -/
def execResetChannel (tag : Half) (p0 : Word) (s : State) : Host.Outcome State Fault Refusal :=
  .next (s.command (.resetChannel tag p0) 0x28 tag (settled (resetChannelRule p0)))

end Sys2Proof.Machine
end

