-- ==== Sys2Proof/Machine/Sensors.lean ====
section
/-! DEFINITION. Sensor inputs (7.2 to 7.6, R159): raw changes, debounced changes, and what each does to the loader and
to the drive channels. -/

namespace Sys2Proof.Machine

/-- R131: the debounce time of an input's group, in milliseconds. -/
def State.debounce (s : State) : Sensor → Nat
  | .presence _ | .gripper => s.params.debounceSlot
  | .door | .latch _ | .button => s.params.debouncePanel
  | .bay _ | .power _ => s.params.debounceBay

/-- R131: a filter takes a raw value. -/
def Filter.take (f : Filter) (v : Level) (deadline : Nat) : Filter :=
  if v = f.debounced then { f with raw := v, candidate := none, deadline := none }
  else if f.candidate = some v then { f with raw := v }
  else { f with raw := v, candidate := some v, deadline := some deadline }

/-- RAW_SENSOR_CHANGE (R131). While the loader is inactive it samples no sensor (R129): only the pin changes. -/
def execRawSensorChange (x : Sensor) (v : Level) (s : State) : Host.Outcome State Fault Refusal :=
  if !x.takes v then .next s
  else if s.running then
    .next (s.settle (s.setFilter x ((s.filter x).take v (s.timebase + 1000 * s.debounce x))))
  else .next (s.setFilter x { s.filter x with raw := v })

/-! ## Presence (R132, R138) -/

/-- LOCATION_CHANGED (R132). -/
def locationChanged (l : Loc) (e0 e1 : Nat) (label : Option (List Byte)) : Record :=
  { kind := .locationChanged, subject := BitVec.ofNat 16 l.val, e0 := w32 e0, e1 := w32 e1
    e2 := (labelWords label).1, e3 := (labelWords label).2 }

/-- R132: a manual change of a location's presence. -/
def State.manualChange (s : State) (l : Loc) (full : Bool) : State :=
  let s1 := s.countLoader fun c => { c with manualChanges := c.manualChanges.add 1 }
  match full, (s.loc l).cart with
  | true, none =>
    let (c, s2) := s1.newCart
    (s2.modLoc l fun x => { x with cart := some c }).emit (locationChanged l 1 1 none)
  | true, some _ => s1.emit (locationChanged l 1 0 none)
  | false, none => s1.emit (locationChanged l 0 0 none)
  | false, some c =>
    ((s1.modLoc l fun x => { x with cart := none }).releaseReserved (.homeOf c.uid)).emit (locationChanged l 0 2 c.label)

/-- R132: a debounced change of a location's presence, expected or manual. -/
def State.presenceChange (s : State) (l : Loc) (full : Bool) : State :=
  let s1 := if (s.loc l).expected = some full then s.modLoc l fun x => { x with expected := none } else s.manualChange l full
  if l = mailLoc ∧ !full then s1.modLoader fun x => { x with exportWaiting := false } else s1

/-- R159: what a debounced change of a bay sensor does to the channel. -/
def State.bayChange (s : State) (d : Drive) (old new : Level) : State :=
  match (s.chan d).state with
  | .ejectWait => if new = .on then s else s.enterUnmounted d
  | .mounting => if new = .off then s.failChannel d .unexpectedEject none else s
  | .idle | .write | .read | .unmounting =>
    if old = .on ∧ new ≠ .on then s.failChannel d .unexpectedEject none else s
  | _ => s

/-- R132: a debounced change of a presence or bay position input. -/
def State.placeChange (s : State) (l : Loc) (old new : Level) : State :=
  let s1 := if (old == .off) != (new == .off) then s.presenceChange l (new != .off) else s
  match bayOf l with
  | some d => s1.bayChange d old new
  | none => s1

/-! ## Magazines (R133, R134) -/

/-- R133: a debounced unlatch. -/
def State.unlatch (s : State) (m : Fin 2) : State :=
  let s1 := (s.modLoader fun l => { l with magOpen := l.magOpen.set m true }).doorEvent (4 + 2 * m.val)
  match s.picker.order with
  | some o =>
    if s.picker.inFlight ∧ o.loc.bind magOf = some m then s1.modPicker fun p => { p with cut := true } else s1
  | none => s1

/-- R134: the record of one slot is replaced by a fresh one. -/
def State.renewSlot (s : State) (l : Loc) : State :=
  match (s.loc l).cart with
  | none => s
  | some c =>
    let (k, s1) := s.newCart
    ((s1.modLoc l fun x => { x with cart := some k }).releaseReserved (.homeOf c.uid)).emit (locationChanged l 1 3 c.label)

/-- R134: the slots of a magazine. -/
def magSlots (m : Fin 2) : List Loc := allLocs.filter fun l => magOf l = some m

/-- R134: a debounced relatch. -/
def State.relatch (s : State) (m : Fin 2) : State :=
  let s1 := s.modLoader fun l => { l with magOpen := l.magOpen.set m false }
  let s2 := (forEach (magSlots m) (fun l t => t.renewSlot l) s1).doorEvent (5 + 2 * m.val)
  if s.params.autoInventory = 1 then
    s2.raiseInternal
      { newReq .inventory none (if m = 0 then 11 else 23) with
        first := 12 * m.val, last := 12 * m.val + 11, cursor := 12 * m.val }
  else s2

/-! ## The door, the button and bay power (R136, R137, R139) -/

/-- R136, R141: an opening of the door abandons an order: its reply is stray. -/
def State.strayOrder (s : State) : State :=
  s.modPicker fun p => { p with order := p.order.map fun o => { o with stray := true } }

/-- R136: a debounced change of the door input. -/
def State.doorChange (s : State) (opened : Bool) : State :=
  if opened then
    let t := s.doorEvent 1
    match t.picker.order with
    | some o => if t.picker.inFlight then (t.faultPicker .doorOpen o).strayOrder else t
    | none => t
  else (s.doorEvent 0).homeTest

/-- R137: the storage slot that an IMPORT takes. -/
def State.importSlot (s : State) : Option (Fin 24) :=
  allSlots.find? fun k =>
    s.presence (slotLoc k) == .empty && (s.loc (slotLoc k)).reserved.isNone && !s.inOpenMagazine (slotLoc k)

/-- R137: a press of the mail slot button. -/
def State.press (s : State) : State :=
  let s1 := s.countLoader fun c => { c with presses := c.presses.add 1 }
  let rec_ (n : Nat) : Record := { kind := .button, subject := 24, e0 := w32 n }
  if s.presence mailLoc ≠ .full then s1.emit (rec_ 1)
  else if s.loader.exportWaiting then s1.emit (rec_ 2)
  else if s.loader.queue.any fun r => r.involves mailLoc then s1.emit (rec_ 3)
  else match s.importSlot with
    | none => s1.emit (rec_ 4)
    | some k =>
      let r := newReq .importCart (some mailLoc) (slotLoc k)
      if s.queueFull then (s1.emit (rec_ 5)).raiseInternal r else (s1.emit (rec_ 0)).joinInternal r

/-- POWER_FAULT (R139). -/
def powerRecord (d : Drive) (e0 : Nat) (st : ChanState) : Record :=
  { kind := .powerFault, byte1 := Cause.power.byte, subject := BitVec.ofNat 16 d.val, e0 := w32 e0, e1 := w32 st.code }

/-- R139: a debounced change of a bay's power fault input. -/
def State.powerChange (s : State) (d : Drive) (fault : Bool) : State :=
  let st := (s.chan d).state
  if fault then
    let s1 := s.modLoader fun l =>
      { l with bayPower := l.bayPower.set d false
               counters := { l.counters with powerFaults := l.counters.powerFaults.add 1 } }
    (s1.failChannel d .power none).emit (powerRecord d 1 st)
  else s.emit (powerRecord d 0 st)

/-! ## A settled input (R131) -/

/-- R131: the loader acts on a debounced change. -/
def State.debounced (s : State) (x : Sensor) (old new : Level) : State :=
  match x with
  | .presence l => s.placeChange ⟨l.val, by omega⟩ old new
  | .bay d => s.placeChange (bayLoc d) old new
  | .gripper => s
  | .door => s.doorChange (new == .on)
  | .latch m => if new = .off then s.unlatch m else s.relatch m
  | .button => if new = .on then s.press else s
  | .power d => s.powerChange d (new == .on)

/-- SENSOR_SETTLE_EXPIRY (R131). -/
def execSensorSettleExpiry (x : Sensor) (s : State) : Host.Outcome State Fault Refusal :=
  let f := s.filter x
  match f.candidate, f.deadline with
  | some v, some t =>
    if s.running then
      let u := s.elapseTo t
      .next (s.settle ((u.setFilter x { f with debounced := v, candidate := none, deadline := none }).debounced
        x f.debounced v))
    else .next s
  | _, _ => .next s

end Sys2Proof.Machine
end

