-- ==== Sys2Proof/Machine/LoaderCommands.lean ====
section
/-! DEFINITION. The motion link's events (R141) and the commands of the loader: moves (R149, R156), the scratch list (R161),
cleaning (R130, R162, R163), the door lock (R135), bay power (R139), recovery and reset (R145, R146). -/

namespace Sys2Proof.Machine

/-! ## The motion link (R141) -/

/-- MOTION_REPLY (R141). The reply of an order that RESET_LOADER abandoned only ends its wait (R146); that of one that an
opening of the door abandoned is stray as well (R136). While the loader is inactive the motion link carries nothing. -/
def execMotionReply (number : Nat) (reply : Reply) (s : State) : Host.Outcome State Fault Refusal :=
  if !s.running then .next s
  else
    let stray := s.countLoader fun c => { c with strayReplies := c.strayReplies.add 1 }
    match s.picker.order with
    | none => .next stray
    | some o =>
      if o.number = number then
        let t := s.modPicker fun p => { p with order := none, inFlight := false }
        .next (s.settle (if s.picker.inFlight then t.act o reply
          else if o.stray then (t.countLoader fun c => { c with strayReplies := c.strayReplies.add 1 }).homeTest
          else t.homeTest))
      else .next stray

/-- MOTION_TIMEOUT (R141). -/
def execMotionTimeout (s : State) : Host.Outcome State Fault Refusal :=
  match s.picker.order with
  | none => .next s
  | some o =>
    let t := (s.elapseTo o.deadline).modPicker fun p => { p with order := none, inFlight := false }
    .next (s.settle (if s.picker.inFlight then t.faultPicker .timeout o else t.homeTest))

/-! ## Requests (R149, R156) -/

/-- R149: the queue takes a command request, or is too full. -/
def State.queueCommand (s : State) (tag : Half) (r : Req) : Effect :=
  if Config.queueCommandMax ≤ s.commandReqs ∨ s.queueFull then s.turnAway .refusedBusy
  else { state := s.joinQueue { r with id := tag, internal := false }, outcome := .accepted }

/-- R149: MOVE. -/
def moveRule (tag : Half) (force : Bool) (p0 p1 : Word) (s : State) : Effect :=
  match locOf p0, locOf p1 with
  | some a, some b =>
    if a = b then s.turnAway .badParam else s.queueCommand tag { newReq .move (some a) b with force := force }
  | _, _ => s.turnAway .badParam

/-- MOVE (R149). -/
def execMove (tag : Half) (force : Bool) (p0 p1 : Word) (s : State) : Host.Outcome State Fault Refusal :=
  .next (s.command (.move tag force p0 p1) 0x40 tag (settled (moveRule tag force p0 p1)))

/-- R149: EXPORT. -/
def exportRule (tag : Half) (force : Bool) (p0 : Word) (s : State) : Effect :=
  match locOf p0 with
  | some a =>
    if a = mailLoc then s.turnAway .badParam
    else s.queueCommand tag { newReq .exportCart (some a) mailLoc with force := force }
  | none => s.turnAway .badParam

/-- EXPORT (R149). -/
def execExportCart (tag : Half) (force : Bool) (p0 : Word) (s : State) : Host.Outcome State Fault Refusal :=
  .next (s.command (.exportCart tag force p0) 0x41 tag (settled (exportRule tag force p0)))

/-- R149: INVENTORY. -/
def inventoryRule (tag : Half) (p0 p1 : Word) (s : State) : Effect :=
  match locOf p0, locOf p1 with
  | some a, some b =>
    if a ≤ b ∧ b ≤ mailLoc then
      s.queueCommand tag { newReq .inventory none b with first := a.val, last := b.val, cursor := a.val }
    else s.turnAway .badParam
  | _, _ => s.turnAway .badParam

/-- INVENTORY (R149). -/
def execInventory (tag : Half) (p0 p1 : Word) (s : State) : Host.Outcome State Fault Refusal :=
  .next (s.command (.inventory tag p0 p1) 0x42 tag (settled (inventoryRule tag p0 p1)))

/-- R156: the order in flight is one before whose reply an ACTIVE request can still be cancelled. -/
def State.cancellable (s : State) (r : Req) : Bool :=
  s.picker.inFlight &&
    (match s.picker.order with
     | some o => if r.kind = .inventory then o.stage == .visit || o.stage == .visitRead else o.stage == .toSource
     | none => false)

/-- R156: CANCEL_MOVE. -/
def cancelMoveRule (p0 p1 : Word) (s : State) : Effect :=
  if 1 < p1.toNat then s.turnAway .badParam
  else match s.loader.queue.find? fun r => r.id.toNat == p0.toNat && r.internal == (p1 == 1) with
    | none => s.turnAway .badParam
    | some r =>
      if r.kind = .returnCart then s.turnAway .refusedState
      else if s.loader.preempt.any fun p => p.mount == r.stamp && p.unmountTaken then s.turnAway .refusedState
      else match r.state with
        | .queued | .waiting _ => (s.endReq r .cancelled).ok
        | .active =>
          if s.cancellable r then (s.modReq r.stamp fun x => { x with marked := true }).ok
          else s.turnAway .refusedState

/-- CANCEL_MOVE (R156). -/
def execCancelMove (tag : Half) (p0 p1 : Word) (s : State) : Host.Outcome State Fault Refusal :=
  .next (s.command (.cancelMove tag p0 p1) 0x43 tag (settled (cancelMoveRule p0 p1)))

/-! ## Scratch list and cleaning (R130, R161 to R163) -/

/-- R161: the slot numbers that P1 to P6 hold, four to a word, lowest byte first. -/
def scratchBytes (n : Nat) (ws : List Word) : List Nat :=
  ((ws.flatMap fun w => (leBytes 4 w.toNat).map BitVec.toNat).take n)

/-- Numbers as storage slots, if each names one. -/
def slotsOf : List Nat → Option (List (Fin 24))
  | [] => some []
  | n :: ns => if h : n < 24 then (slotsOf ns).map fun l => ⟨n, h⟩ :: l else none

/-- R161: SET_SCRATCH. -/
def setScratchRule (p0 p1 p2 p3 p4 p5 p6 : Word) (s : State) : Effect :=
  if 24 < p0.toNat then s.turnAway .badParam
  else match slotsOf (scratchBytes p0.toNat [p1, p2, p3, p4, p5, p6]) with
    | none => s.turnAway .badParam
    | some l => if l.Nodup then (s.modLoader fun x => { x with scratch := l }).ok else s.turnAway .badParam

/-- SET_SCRATCH (R161). -/
def execSetScratch (tag : Half) (p0 p1 p2 p3 p4 p5 p6 : Word) (s : State) : Host.Outcome State Fault Refusal :=
  .next (s.command (.setScratch tag p0 p1 p2 p3 p4 p5 p6) 0x44 tag (setScratchRule p0 p1 p2 p3 p4 p5 p6))

/-- R162: CLEAN. -/
def cleanRule (p0 : Word) (s : State) : Effect :=
  match driveOf p0 with
  | none => s.turnAway .badParam
  | some d =>
    (s.modLoader fun l =>
      { l with cleaningDue := l.cleaningDue.set d true, noCleaner := l.noCleaner.set d false }).ok

/-- CLEAN (R162). -/
def execClean (tag : Half) (p0 : Word) (s : State) : Host.Outcome State Fault Refusal :=
  .next (s.command (.clean tag p0) 0x45 tag (settled (cleanRule p0)))

/-- R130: SET_CLEAN_USES. -/
def setCleanUsesRule (p0 p1 : Word) (s : State) : Effect :=
  match locOf p0 with
  | none => s.turnAway .badParam
  | some l =>
    if 255 < p1.toNat then s.turnAway .badParam
    else match (s.loc l).cart with
      | none => s.turnAway .refusedState
      | some c =>
        if (c.label.bind (·.getLast?)) = some 0x43 then
          let c' := { c with uses := p1.toNat }
          ((s.modLoc l fun x => { x with cart := some c' }).cleanerTest c.media c'.media).ok
        else s.turnAway .refusedState

/-- SET_CLEAN_USES (R130). -/
def execSetCleanUses (tag : Half) (p0 p1 : Word) (s : State) : Host.Outcome State Fault Refusal :=
  .next (s.command (.setCleanUses tag p0 p1) 0x46 tag (settled (setCleanUsesRule p0 p1)))

/-- R163: the channel leaves a cleaning load for EJECT_WAIT. -/
def State.endCleaning (s : State) (d : Drive) (clean : Bool) : State :=
  let s1 := if clean then
      (s.modLoader fun l => { l with cleaningDue := l.cleaningDue.set d false }).modChan d fun c => { c with blocksMoved := 0 }
    else
      s.modLoader fun l =>
        { l with queue := l.queue.map fun r =>
            if r.kind = .clean ∧ r.drive = some d ∧ r.legsDone ≠ 0 then { r with recorded := some .timeout } else r }
  s1.enterEject d false

/-- R163: CLEAN_DONE. -/
def cleanDoneRule (p0 : Word) (s : State) : Effect :=
  match driveOf p0 with
  | none => s.turnAway .badParam
  | some d =>
    if (s.chan d).state = .mounting ∧ (s.chan d).cleaningMark then (s.endCleaning d true).ok
    else s.turnAway .refusedState

/-- CLEAN_DONE (R163). -/
def execCleanDone (tag : Half) (p0 : Word) (s : State) : Host.Outcome State Fault Refusal :=
  .next (s.command (.cleanDone tag p0) 0x26 tag (settled (cleanDoneRule p0)))

/-- CLEAN_TIMEOUT (R163). -/
def execCleanTimeout (d : Drive) (s : State) : Host.Outcome State Fault Refusal :=
  match (s.chan d).cleanTimer with
  | none => .next s
  | some t => .next (s.settle ((s.elapseTo t).endCleaning d false))

/-! ## Mount and eject timers (R159, R160) -/

/-- MOUNT_TIMEOUT (R160). -/
def execMountTimeout (d : Drive) (s : State) : Host.Outcome State Fault Refusal :=
  match (s.chan d).mountTimer with
  | none => .next s
  | some t => .next (s.settle ((s.elapseTo t).failChannel d .mountTimeout none))

/-- EJECT_TIMEOUT (R159). -/
def execEjectTimeout (d : Drive) (s : State) : Host.Outcome State Fault Refusal :=
  match (s.chan d).ejectTimer with
  | none => .next s
  | some t => .next (s.settle ((s.elapseTo t).failChannel d .ejectTimeout none))

/-! ## The door lock and bay power (R135, R139) -/

/-- R135: DOOR_LOCK and DOOR_UNLOCK. -/
def doorLockRule (on : Bool) (s : State) : Effect := ((s.modLoader fun l => { l with doorLockFlag := on }).syncLock).ok

/-- DOOR_LOCK (R135). -/
def execDoorLock (tag : Half) (s : State) : Host.Outcome State Fault Refusal :=
  .next (s.command (.doorLock tag) 0x47 tag (doorLockRule true))

/-- DOOR_UNLOCK (R135). -/
def execDoorUnlock (tag : Half) (s : State) : Host.Outcome State Fault Refusal :=
  .next (s.command (.doorUnlock tag) 0x48 tag (doorLockRule false))

/-- R139: DRIVE_POWER. -/
def drivePowerRule (p0 p1 : Word) (s : State) : Effect :=
  match driveOf p0 with
  | none => s.turnAway .badParam
  | some d =>
    if 1 < p1.toNat then s.turnAway .badParam
    else if (s.chan d).state ≠ .unmounted then s.turnAway .refusedState
    else if p1 = 1 ∧ (s.filter (.power d)).debounced = .on then s.turnAway .refusedState
    else (s.modLoader fun l => { l with bayPower := l.bayPower.set d (p1 == 1) }).ok

/-- DRIVE_POWER (R139). -/
def execDrivePower (tag : Half) (p0 p1 : Word) (s : State) : Host.Outcome State Fault Refusal :=
  .next (s.command (.drivePower tag p0 p1) 0x27 tag (drivePowerRule p0 p1))

/-! ## Recovery and reset (R145, R146) -/

/-- R145: RECOVER_PICKER. -/
def recoverRule (tag : Half) (s : State) : Effect :=
  if s.picker.state = .faulted then
    { state := (s.modPicker fun p => { p with recovery := some tag }).startHoming .legSource, outcome := .accepted }
  else s.turnAway .refusedState

/-- RECOVER_PICKER (R145). -/
def execRecoverPicker (tag : Half) (s : State) : Host.Outcome State Fault Refusal :=
  .next (s.command (.recoverPicker tag) 0x49 tag (settled (recoverRule tag)))

/-- R146: a presence filter takes its raw input, and a changed presence is judged as a manual change. One of the mail slot to
EMPTY clears export waiting by R138, which R138 and R146 otherwise let RESET_LOADER keep (DEDUCED, log entry 75). -/
def State.rejudge (s : State) (l : Loc) : State :=
  let x := presenceSensor l
  let f := s.filter x
  let t := s.setFilter x { f with debounced := f.raw, candidate := none, deadline := none }
  if f.raw = f.debounced then t else t.placeChange l f.debounced f.raw

/-- R146, R156: every request ends with CANCELLED, the ACTIVE one first. -/
def State.cancelAll (s : State) : State :=
  let active := match s.picker.active with | some x => [x] | none => []
  forEach (active ++ s.loader.queue.map (·.stamp)) (fun x t => t.endStamp x .cancelled) s

/-- R146: RESET_LOADER. -/
def resetLoaderRule (s : State) : Effect :=
  let s1 := if s.loader.preempt.isSome then s.endPreempt else s
  let s2 := s1.cancelAll.endRecovery .cancelled 0
  let s3 := s2.modPicker fun p => { p with active := none, inFlight := false, cut := false }
  let s4 := s3.modLoader fun l => { l with locs := l.locs.map fun x => { x with expected := none } }
  ((forEach allLocs (fun l t => t.rejudge l) s4).startHoming .mail).ok

/-- RESET_LOADER (R146). -/
def execResetLoader (tag : Half) (s : State) : Host.Outcome State Fault Refusal :=
  .next (s.command (.resetLoader tag) 0x4A tag (settled resetLoaderRule))

end Sys2Proof.Machine
end

