-- ==== Sys2Proof/Machine/Pack.lean ====
section
/-! DEFINITION. The pack engine's steps: grant and pack start (R14, R31), completion (R20, R32, R63), and the FAULT answer
(R20, R33). -/

namespace Sys2Proof.Machine

/-- R14: the mode of a job. -/
def Stream.jobMode (x : Stream) (n : Nat) : JobMode :=
  if x.policy = .pack ∧ x.skip = 0 ∧ 0 < n then .encode else .copy

/-- R14: the skip count after a pack start. -/
def Stream.skipAtStart (x : Stream) (n : Nat) : Nat := if x.policy = .pack ∧ 0 < n then x.skip - 1 else x.skip

/-- R19: the skip-mode counts at the completion of a job. -/
def Stream.countOutcome (x : Stream) (mode : JobMode) (packed : Bool) : Stream :=
  match mode with
  | .copy => x
  | .encode =>
    if packed then { x with rawRun := 0 }
    else if x.rawRun + 1 = 8 then { x with rawRun := 0, skip := 64 }
    else { x with rawRun := x.rawRun + 1 }

/-- R14: the chunk record of a job that starts. -/
def startedRecord (t : Tag) (x : Stream) (f : FillBuf) (id : Nat) : ChunkRec :=
  { id := id, role := .backup t, setId := x.setId, seq := f.seq, origLen := some f.bytes.length
    setend := some f.setend, state := .packing }

/-- R14, R31: the grant, and the pack start that follows it. A POOL_HOLD that the grant brings issues its record's write before
the pack job's first one: R176 lets them join in either order (DESIGN CHOICE, log entry 96). -/
def State.packStart (s : State) (t : Tag) (k : BufId) : State :=
  let x := s.stream t
  let f := x.buf k
  let n := f.bytes.length
  let mode := x.jobMode n
  let id := lowestFree 0 s.pool.records
  let s1 := s.setStream t ({ x with skip := x.skipAtStart n }.setBuf k { f with state := .packing })
  let s2 := s1.modPool fun p =>
    { p with reservation := p.free.take (pagesFor n), records := insertRec (startedRecord t x f id) p.records }
  let s3 := s2.modPack fun p =>
    { p with
      job := some { tag := t, buf := k, setend := f.setend, mode := mode, input := f.bytes, record := id, discarded := false }
      chosen := none, waiting := false
      hash := if mode = .encode then [] else p.hash
      encoded := p.encoded.add (if mode = .encode then 1 else 0)
      copied := p.copied.add (if mode = .encode then 0 else 1) }
  (s3.setFree (s.pool.free.drop (pagesFor n))).startJob .pack

/-- POOL_GRANT (R31): the pool tests the request of the chosen buffer. While the writes of a faulted job are not all
answered no pack start is granted (R33); a request that only they hold back is no pool wait (DESIGN CHOICE, log entry 90). The
grant is made by this command alone: the choice of the buffer, and the events after which R31 tests the request again, leave it
waiting, until a POOL_GRANT comes (DESIGN CHOICE, log entry 105). -/
def execPoolGrant (s : State) : Host.Outcome State Fault Refusal :=
  match s.pack.chosen with
  | none => .next s
  | some (t, k) =>
    if s.pack.job.isSome ∨ s.pack.draining.isSome then .next s
    else if s.grantable (pagesFor ((s.stream t).buf k).bytes.length) then .next (s.packStart t k)
    else .next s.waitTest

/-- R63: the chunk is handed to its targets. A FAILED target gives it up at once (R34, R86). -/
def State.handOff (s : State) (t : Tag) (id : Nat) (packed : Bool) : State :=
  let targets := (s.stream t).targets
  let s1 := s.modRec id fun r => { r with outstanding := targets.count }
  let s2 := s1.modStream t fun x =>
    { x with chunks := x.chunks.add 1, rawChunks := x.rawChunks.add (if packed then 0 else 1) }
  forEach targets.list (fun d u =>
    if (u.chan d).state = .failed then u.giveUp id
    else u.modChan d fun c => { c with placeQueue := c.placeQueue ++ [id] }) s2

/-- R32: the pages that a job's chunk record keeps of its reservation, and those that return: no page is lost, should the
record be missing or hold pages already. -/
def State.splitReservation (s : State) (j : PackJob) (count : Nat) : List Nat × List Nat :=
  match s.findRec j.record with
  | some r => (s.pool.reservation.take count, s.pool.reservation.drop count ++ r.pages)
  | none => ([], s.pool.reservation)

/-- R20, R32: the completion of a job that is not discarded. -/
def State.settleJob (s : State) (j : PackJob) : State :=
  let r := packBody j.mode j.input
  let stored := storedChunk j.mode j.setend j.input
  let (pages, surplus) := s.splitReservation j (ceilDiv stored.length Config.pageSize)
  let s1 := s.writePages pages stored
  let s2 := s1.modPool fun p => { p with reservation := [] }
  let s3 := s2.modRec j.record fun x =>
    { x with pages := pages, bodyLen := some r.2.length, form := some (if r.1 then 1 else 0), check := some (crc32 j.input)
             state := .packed }
  let s4 := s3.setFree (s3.pool.free ++ surplus)
  let s5 := s4.modStream j.tag fun x => (x.countOutcome j.mode r.1).emptied j.buf
  (s5.handOff j.tag j.record r.1).suspendTest j.tag

/-- R20, R33: the completion of a discarded job. Its writes are done; the pages and the record return. -/
def State.returnJob (s : State) (j : PackJob) : State :=
  let s1 := s.writePages s.pool.reservation (storedChunk j.mode j.setend j.input)
  let s2 := (s1.returnReservation.freeRec j.record).modStream j.tag fun x => x.emptied j.buf
  (s2.modPack fun p => { p with discardedJobs := p.discardedJobs.add 1 }).suspendTest j.tag

/-- The engine becomes IDLE, and keeps the hash table that an ENCODE job left (R15, R17). -/
def Pack.finish (p : Pack) (j : PackJob) : Pack :=
  { p with job := none, hash := if j.mode = .encode then hashAfter j.input else p.hash }

/-- PACK_COMPLETION (R20), at the answers to all of the job's writes (R176). -/
def execPackCompletion (s : State) : Host.Outcome State Fault Refusal :=
  match s.pack.job with
  | none => .next s
  | some j =>
    if s.hasJob .pack then
      let t := s.endJob .pack
      let u := if j.discarded then t.returnJob j else t.settleJob j
      .next (s.settle (u.modPack fun p => p.finish j).packChoose)
    else .next s

/-- R20: a FAULT answer ends the job. Its record and its reservation stay until its writes are answered (R33). The hash
table stays as the job's start left it, empty after an ENCODE job (DESIGN CHOICE, log entry 54). -/
def State.faultJob (s : State) (j : PackJob) : State :=
  let s1 := s.poolFault.modPack fun p =>
    { p with job := none, draining := some j.record, discardedJobs := p.discardedJobs.add 1 }
  let s2 := (s1.modStream j.tag fun x => x.emptied j.buf).suspendTest j.tag
  (if j.discarded then s2 else s2.abortStream j.tag .memory none).packChoose

/-- PACK_WRITE_FAULT (R20, R41), the answer to a write of a job that is at the memory port (R176). A further FAULT answer
of the same job is counted and changes nothing more (R33). -/
def execPackWriteFault (s : State) : Host.Outcome State Fault Refusal :=
  if !s.hasJob .pack then .next s
  else match s.pack.job with
    | some j => .next (s.settle ((s.passJob .pack).faultJob j))
    | none => if s.pack.draining.isSome then .next (s.passJob .pack).poolFault else .next s

/-- PACK_FAULT_RESERVATION_RETURN (R33). -/
def execPackFaultReservationReturn (s : State) : Host.Outcome State Fault Refusal :=
  match s.pack.draining with
  | none => .next s
  | some id =>
    if s.hasJob .pack then
      let t := ((s.endJob .pack).returnReservation.freeRec id).modPack fun p => { p with draining := none }
      .next t.waitTest
    else .next s

end Sys2Proof.Machine
end

