-- ==== Sys2Proof/Machine/Params.lean ====
section
/-! DEFINITION. SET_PARAM (R189), with what each parameter's owner does at its change, and GET_INFO (R192). -/

namespace Sys2Proof.Machine

/-- R126: a stall deadline that has already passed expires at once. -/
def State.overdueStall (s : State) (i : SessionId) : State :=
  match s.stallDeadline i with
  | some t => if t ≤ s.timebase then s.endSession i (.failed .timeout) else s
  | none => s

/-- R81: E stays within 0 to regulator_buffer[d]; a change of E is tested under R84. -/
def State.limitOccupancy (s : State) (d : Drive) : State :=
  if s.params.regulatorBuffer[d] < (s.chan d).occupancy then
    (s.modChan d fun c => { c with occupancy := s.params.regulatorBuffer[d] }).earlyTest d
  else s

/-- What the owner of a parameter does at its change: R42 and R31 for the pool, R70, R79, R81 and R83 for a channel, R99
and R126 for the timers; of several timers that are overdue, those of D0 and of lower sessions expire first (DESIGN CHOICE,
log entry 65). The change of auto_changeover is tested with the move queue (R80). -/
def State.paramChanged (s : State) : Param → State
  | .poolHoldOn | .poolHoldOff => s.holdTest
  | .restoreReserve => s.holdTest.waitTest
  | .imageCapacity d => s.modChan d fun c => { c with nextSlot := 0 }
  | .regulatorBuffer d => s.limitOccupancy d
  | .restartMark d => s.markTest d
  | .maxHold d => s.ageTest d
  | .ewReserve d => s.fullTest d
  | .readbackTimeout => forEach allDrives (fun d t => t.overdueTest d) s
  | .restoreStallTimeout => forEach allSessions (fun i t => t.overdueStall i) s
  | _ => s

/-- R189: a parameter that cannot be changed now. -/
def State.paramFixed (s : State) : Param → Bool
  | .poolBase | .poolPages | .imageBase _ => true
  | .imageCapacity d => (s.chan d).state != .unmounted
  | .checkMode d => (s.chan d).state == .write
  | _ => false

/-- A parameter takes a value. -/
def State.storeParam (s : State) (p : Param) (v : Nat) : State := { s with params := s.params.set p v }

/-- R189: SET_PARAM. -/
def setParamRule (p0 p1 : Word) (s : State) : Effect :=
  match Param.ofId p0.toNat with
  | none => s.turnAway .badParam
  | some p =>
    if s.paramFixed p then s.turnAway .refusedState
    else
      let v := s.clampParam p p1.toNat
      { state := (s.storeParam p v).paramChanged p
        outcome := if v = p1.toNat then .done else .doneClamped
        results := { e2 := w32 v } }

/-- SET_PARAM (R189). -/
def execSetParam (tag : Half) (p0 p1 : Word) (s : State) : Host.Outcome State Fault Refusal :=
  .next (s.command (.setParam tag p0 p1) 0x50 tag (settled (setParamRule p0 p1)))

/-- R192: the results of GET_INFO. -/
def State.info (s : State) : Results :=
  { e2 := w32 Config.partNumber, e3 := w32 (Config.revision + 65536 * s.path.imageVersion.toNat)
    e4 := w32 s.path.poolPages
    e5 := w32 (s.params.imageCapacity[0] + 65536 * s.params.imageCapacity[1]) }

/-- R192: GET_INFO. -/
def getInfoRule (s : State) : Effect := { state := s, outcome := .done, results := s.info }

/-- GET_INFO (R192). -/
def execGetInfo (tag : Half) (s : State) : Host.Outcome State Fault Refusal :=
  .next (s.command (.getInfo tag) 0x53 tag getInfoRule)

end Sys2Proof.Machine
end

