-- ==== Sys2Proof/Machine/Ring.lean ====
section
/-! DEFINITION. The ring unit's own steps (chapter 10): taking commands (R184), writing status records (R187), index
words and snapshots (R190). -/

namespace Sys2Proof.Machine

/-! ## Taking commands (R184) -/

/-- COMMAND_TAKE (R184): the intake makes its test. It makes it as well within the events that R184 names, so that a
command that can be taken does not wait for this one (log entry 58). -/
def execCommandTake (s : State) : Host.Outcome State Fault Refusal := .next s.intakeTest

/-- COMMAND_SLOT_READ_FAULT (R177, R184): the command fails with cause MEMORY; its kind and tag are unknown. The tag is
given as 0; that the kind, the record's subject, is given as 0 too is DESIGN CHOICE (log entry 59). -/
def execCommandSlotReadFault (s : State) : Host.Outcome State Fault Refusal :=
  if s.readsSlot then .next ((s.answered (.slotRead s.ring.c)).ownFault.endCommand 0 0 (.failed .memory) {} 0) else .next s

/-- UNKNOWN_COMMAND (R184, R185): a kind that R6 does not list. -/
def execUnknownCommand (tag : Half) (kind : Byte) (s : State) : Host.Outcome State Fault Refusal :=
  if s.takes (.unknownCommand tag kind) then
    .next ((s.answered (.slotRead s.ring.c)).endCommand kind.toNat tag .unknownKind {} (kind.setWidth 32))
  else .next s

/-! ## Status records and index words (R187) -/

/-- R181: where a status slot lies. -/
def State.statusSlotAddr (s : State) (i : Half) : Nat := s.controlBase + 0x1040 + 32 * (i.toNat % 256)

/-- R181: where the two index words that the part writes lie. -/
def State.indexAddr (s : State) : IndexWord → Nat
  | .commandConsumer => s.controlBase + 0x004
  | .statusProducer => s.controlBase + 0x008

/-- R178: a FAULT answer on a ring unit write of a status record or an index word. -/
def State.ringWriteFault (s : State) : State :=
  (s.ownFault.modPath fun p => { p with faultLine := true }).countPath fun c =>
    { c with ringWriteFaults := c.ringWriteFaults.add 1 }

/-- R187: the write of the record at the buffer's head is issued. -/
def State.issueHead (s : State) : State := if s.ring.buffer.isEmpty then s else s.issue .statusWrite

/-- R187, R188: the record at the buffer's head stands in memory. -/
def State.recordWritten (s : State) (r : Record) (rest : List Record) : State :=
  let s1 := s.poke (s.statusSlotAddr s.ring.s) r.frame
  let s2 := s1.modRing fun g =>
    { g with
      buffer := rest, s := g.s + 1, irq := g.s + 1 != g.u
      counters := { g.counters with written := g.counters.written.add 1 } }
  s2.issue (.statusIndex s2.ring.s)

/-- R187: the record at the buffer's head is lost. -/
def State.recordLost (s : State) (rest : List Record) : State :=
  (s.modRing fun g => { g with buffer := rest, d := bumpHalf g.d }).ringWriteFault

/-- STATUS_RECORD_WRITE_ANSWER (R187). -/
def execStatusRecordWriteAnswer (ok : Bool) (s : State) : Host.Outcome State Fault Refusal :=
  match s.ring.buffer with
  | [] => .next s
  | r :: rest =>
    if s.owes .statusWrite then
      let t := s.answered .statusWrite
      let u := if ok then t.recordWritten r rest else t.recordLost rest
      .next u.issueHead.intakeTest
    else .next s

/-- The write of an index word with a value. -/
def indexWrite : IndexWord → Half → Owned
  | .commandConsumer, v => .commandIndex v
  | .statusProducer, v => .statusIndex v

/-- The value that an access issued writes into an index word. -/
def Issued.indexValue : IndexWord → Issued → Option Half
  | .commandConsumer, .owned (.commandIndex v) => some v
  | .statusProducer, .owned (.statusIndex v) => some v
  | _, _ => none

/-- The value that the next access carries, where it is a write of the index word `w`. -/
def State.indexIssued (s : State) (w : IndexWord) : Option Half :=
  (s.path.port.upTo fun x => (x.indexValue w).isSome).issued.bind (·.indexValue w)

/-- INDEX_WORD_WRITE_ANSWER (R181, R187). -/
def execIndexWordWriteAnswer (w : IndexWord) (ok : Bool) (s : State) : Host.Outcome State Fault Refusal :=
  match s.indexIssued w with
  | none => .next s
  | some v =>
    let t := s.answered (indexWrite w v)
    .next (if ok then t.poke (s.indexAddr w) (leBytes 4 v.toNat) else t.ringWriteFault)

/-! ## Snapshots (R190) -/

/-- R190: SNAPSHOT_DONE. -/
def snapshotDone (j : SnapshotJob) : Record :=
  { kind := .snapshotDone, byte1 := if j.faulted then (CmdOutcome.failed .memory).code else CmdOutcome.done.code
    tag := j.tag, subject := BitVec.ofNat 16 j.page, e0 := if j.faulted then w32 Cause.memory.code else 0
    e1 := w32 j.dest, e2 := w32 (j.dest / 4294967296) }

/-- R190: one of the eight writes has been answered; the last answer ends the snapshot. -/
def State.snapshotAnswered (s : State) (j : SnapshotJob) : State :=
  if j.answered < 8 then s.modRing fun g => { g with snapshot := some j }
  else (s.modRing fun g => { g with snapshot := none }).emit (snapshotDone j)

/-- SNAPSHOT_WRITE_ANSWER (R190). -/
def execSnapshotWriteAnswer (ok : Bool) (s : State) : Host.Outcome State Fault Refusal :=
  match s.ring.snapshot with
  | none => .next s
  | some j =>
    if s.owes .snapshot then
      let off := 64 * j.answered
      let t := s.answered .snapshot
      let u := if ok then t.poke (j.dest + off) (slice j.data off 64) else t.ownFault
      .next (u.snapshotAnswered { j with answered := j.answered + 1, faulted := j.faulted || !ok })
    else .next s

end Sys2Proof.Machine
end

