-- ==== Sys2Proof/Machine/Snapshot.lean ====
section
/-! DEFINITION. The counter snapshot (R9, R190) and the clearing of counters (R191). -/

namespace Sys2Proof.Machine

/-! ## Words of a page -/

/-- Four levels of one byte each, the first in the low byte. A level above 255, which a queue filled by one block can reach
(R108), shows modulo 256 (DESIGN CHOICE, log entry 83). -/
def pack4 (a b c d : Nat) : Word := w32 (a % 256 + 256 * (b % 256) + 65536 * (c % 256) + 16777216 * (d % 256))

/-- Two levels of 16 bits each. -/
def pack2 (lo hi : Nat) : Word := w32 (lo % 65536 + 65536 * (hi % 65536))

/-- Bits in order, bit 0 first. -/
def bitsOf : List Bool → Nat
  | [] => 0
  | b :: bs => b.toNat + 2 * bitsOf bs

def Startup.code : Startup → Nat
  | .loading => 0 | .running => 1 | .configFault => 2

def Intake.code : Intake → Nat
  | .stopped => 0 | .idle => 1 | .reading => 2 | .blocked => 3

def Side.code : Side → Nat
  | .forwarded => 0 | .owned => 1

/-! ## Page 0 (R190) -/

/-- Words 0 to 16: path and ring levels, with the path counters in the order of R180. -/
def State.pathWords (s : State) : List Word :=
  let p := s.path
  let k := p.counters
  let g := s.ring
  [pack4 p.startup.code p.faultLine.toNat p.port.favoured.code (bitsOf [p.armedIngest, p.armedRestore]),
   pack2 p.windows.length p.imageVersion.toNat, pack2 p.imageLimit[0] p.imageLimit[1],
   k.fwdReads, k.fwdWrites, k.fwdFaults, k.ownFaults, k.ringWriteFaults, k.malformed, k.refused, k.retries,
   k.partialIndex, k.strayIngest, k.strayRestore,
   pack2 g.c.toNat g.p.toNat, pack2 g.s.toNat g.u.toNat,
   w32 (g.intake.code + 256 * g.irq.toNat + 65536 * g.d.toNat)]

/-- Words 17 to 34: ring counters, and the pool values in the order of R43. -/
def State.poolWords (s : State) : List Word :=
  let k := s.ring.counters
  let p := s.pool
  [k.taken, k.refused, k.failed, k.written, k.dropped, k.ringFaults, k.stallMs,
   w32 s.freePages, w32 p.reservation.length, w32 s.heldBackup, w32 s.heldReassembly, w32 p.records.length, w32 p.lowMark,
   p.waits, p.waitMs, p.retries, p.holdTransitions, p.memFaults]

/-- Words 35 to 54: the restore sessions (R128). -/
def State.restoreWords (s : State) : List Word :=
  let xs := allSessions.map s.session
  (xs.map fun x =>
    pack4 x.state.code (match x.drive with | some d => d.val | none => 0xFF) x.final.toNat x.queue.length)
  ++ xs.map (·.nextSeq) ++ xs.map (·.bytesDelivered) ++ xs.map (·.damaged)
  ++ [s.restore.endsDone, s.restore.endsFailed, s.restore.endsCancelled, s.restore.awaitNexts]

/-- The requests that wait for a reason. -/
def State.waitingFor (s : State) (w : WaitReason) : Nat := (s.loader.queue.filter (·.state == .waiting w)).length

/-- Locations of a presence. -/
def State.presenceCount (s : State) (p : Presence) : Nat := (allLocs.filter fun l => s.presence l == p).length

/-- Word 56: the panel and bay power bits (R147). -/
def State.panelBits (s : State) : Nat :=
  let l := s.loader
  bitsOf [s.doorOpen, l.lockOutput, l.doorLockFlag, l.magOpen[0], l.magOpen[1]]
  + 256 * s.magIndicator 0 + 1024 * s.magIndicator 1 + 4096 * s.mailIndicator + 16384 * l.exportWaiting.toNat
  + 65536 * bitsOf [l.bayPower[0], l.bayPower[1], (s.filter (.power 0)).debounced == .on,
      (s.filter (.power 1)).debounced == .on]

/-- Words 55 to 61: loader levels (R147, R166). -/
def State.loaderWords (s : State) : List Word :=
  let l := s.loader
  let active := l.queue.find? (·.state == .active)
  [pack4 l.picker.state.code (match l.picker.pos with | some (.loc x) => x.val | some .home => 27 | none => 0xFF)
     (match l.picker.fault with | some c => c.code | none => 0) l.picker.cart.isSome.toNat,
   w32 s.panelBits,
   pack2 (s.presenceCount .full) (s.presenceCount .unsure),
   pack4 l.queue.length (l.queue.filter (!·.internal)).length
     (match active with | some r => r.kind.code | none => 0xFF)
     (match l.preempt with | some p => p.phase.code + 16 * p.victim.val | none => 0),
   w32 ((match active with | some r => r.id.toNat | none => 0) + 65536 * (s.waitingFor .preempt % 256)
     + 16777216 * (l.scratch.length % 256)),
   pack4 (s.waitingFor .unsure) (s.waitingFor .magazine) (s.waitingFor .channel) (s.waitingFor .cleaning),
   w32 (bitsOf [l.cleaningDue[0], l.cleaningDue[1], l.noCleaner[0], l.noCleaner[1]])]

/-- Words 62 to 79: loader counters in the orders of R147 and R166. -/
def LoaderCounters.words (k : LoaderCounters) : List Word :=
  [k.orders, k.jams, k.timeouts, k.protocolErrors, k.strayReplies, k.manualChanges, k.badLabels, k.duplicateLabels,
   k.presses, k.powerFaults, k.endedDone, k.endedFailed, k.endedCancelled, k.droppedReqs, k.displaced, k.preempts,
   k.changeovers, k.cleanings]

def State.page0 (s : State) : List Word :=
  s.pathWords ++ s.poolWords ++ s.restoreWords ++ s.loaderWords ++ s.loader.counters.words

/-! ## Page 1: streams (R64) -/

def State.page1 (s : State) : List Word :=
  (allTags.map fun t =>
    let x := s.stream t
    pack4 x.state.code (s.holdConditions t).bits (s.holdActive t).bits x.causeBits)
  ++ (allTags.flatMap fun t => let x := s.stream t; [x.ingested, x.chunks, x.rawChunks, x.heldMs])
  ++ [s.pack.encoded, s.pack.copied, s.pack.discardedJobs, pack4 s.pack.lastServed.val s.pack.pendingTable.isSome.toNat 0 0]

/-! ## Pages 2 and 3: a channel (R89, R106, R128) -/

/-- Words 0 to 21: the levels of a channel. While no first-fault record is present its words and its cause show 0 (DESIGN
CHOICE, log entry 81). -/
def State.chanLevels (s : State) (d : Drive) : List Word :=
  let c := s.chan d
  let f := c.firstFault
  let time := match f with | some x => x.time | none => 0
  let header := match f with | some x => x.header | none => []
  let head := c.verifyList.head?
  let r := c.reader
  [pack4 c.state.code (match c.full with | some .capacity => 1 | some .warning => 2 | none => 0) c.running.toNat
     c.checkPeriod.toNat,
   pack2 c.occupancy c.placeQueue.length,
   (match c.mount with | some m => m.capacity | none => 0), (match c.mount with | some m => m.nextSeq | none => 0),
   pack4 (s.params.imageCapacity[d] - c.images.length) (c.count .queued) (c.count .verifyWait)
     (bitsOf [c.count .assembling != 0, c.count .sending != 0]),
   c.blocksMoved,
   w32 (bitsOf [f.isSome, match f with | some x => x.named | none => false]
     + 256 * (match f with | some x => x.cause.code | none => 0)),
   w32 time, w32 (time / 4294967296), (match f with | some x => x.seq | none => 0),
   w32 (ofLE (slice header 0 4)), w32 (ofLE (slice header 4 4)), w32 (ofLE (slice header 8 4)),
   w32 (ofLE (slice header 12 4)),
   pack2 c.verifyList.length (match head with | some e => e.sends | none => 0),
   (match head with | some e => e.seq | none => 0),
   w32 c.stale.isSome.toNat, (match c.stale with | some w => w.1 | none => 0), (match c.stale with | some w => w.2 | none => 0),
   pack4 r.running.toNat
     (bitsOf [r.verify, r.recovering, r.expected.isSome, r.pendingVerify.isSome, r.firstBad.isSome])
     r.recoveryCount r.verifyQueue.length,
   r.expected.getD 0, r.firstBad.getD 0]

/-- Words 22 to 53: the counters of a channel in the orders of R89 and R106. -/
def ChanCounters.words (k : ChanCounters) : List Word :=
  [k.sent, k.ghosts, k.resends, k.placed, k.split,
   k.closedSpace, k.closedSetEnd, k.closedFlush, k.closedEarly, k.closedAge, k.closedFull,
   k.saturations, k.stops, k.markRestarts, k.ageReleases, k.forcedRestarts, k.earlyCloses, k.shortReads, k.forcedUnmounts,
   k.verified, k.setsVerified, k.uncheckedSends, k.staleEmpty, k.staleDuplicate, k.staleWindow, k.damaged, k.mismatches,
   k.timeouts, k.goBacks, k.writeErrors, k.cutShort, k.unclaimed]

/-- Words 54 to 63: the reader tallies. -/
def Tallies.words (t : Tallies) : List Word :=
  [t.blocksRead, t.accepted, t.bad, t.duplicates, t.skipped, t.gaps, t.missed, t.chunksGood, t.chunksBad, t.unchecked]

def State.chanPage (s : State) (d : Drive) : List Word :=
  s.chanLevels d ++ (s.chan d).counters.words ++ (s.chan d).reader.tallies.words

/-! ## SNAPSHOT (R9, R190) -/

/-- The words of a page 0 to 3. -/
def State.page (s : State) : Nat → List Word
  | 0 => s.page0
  | 1 => s.page1
  | 2 => s.chanPage 0
  | _ => s.chanPage 1

/-- R9: the 512 bytes of a page. -/
def State.snapshotBytes (s : State) (page : Nat) : List Byte :=
  padTo 512 (leBytes 8 s.timebase ++ (s.page page).flatMap fun w => leBytes 4 w.toNat)

/-- R190: the destination may take a snapshot. -/
def State.snapshotPlace (s : State) (dest : Nat) : Bool :=
  dest % 64 == 0 && dest + 512 ≤ 1099511627776 &&
    ((s.path.windows.all fun w => dest + 512 ≤ w.base || w.base + w.size ≤ dest)
     || s.path.windows.any fun w =>
          w.base ≤ dest && dest + 512 ≤ w.base + w.size
            && (w.kind == .plain || (w.kind == .control && w.base + 0x3040 ≤ dest)))

/-- R190: SNAPSHOT. -/
def snapshotRule (tag : Half) (p0 p1 p2 : Word) (s : State) : Effect :=
  let dest := p0.toNat + 4294967296 * p1.toNat
  if 3 < p2.toNat ∨ 255 < p1.toNat ∨ !s.snapshotPlace dest then s.turnAway .badParam
  else if s.ring.snapshot.isSome then s.turnAway .refusedBusy
  else
    let job : SnapshotJob :=
      { tag := tag, page := p2.toNat, dest := dest, data := s.snapshotBytes p2.toNat, answered := 0, faulted := false }
    let t := s.modRing fun g => { g with snapshot := some job }
    { state := forEach (List.replicate 8 Owned.snapshot) (fun o u => u.issue o) t, outcome := .accepted }

/-- SNAPSHOT (R190). -/
def execSnapshot (tag : Half) (p0 p1 p2 : Word) (s : State) : Host.Outcome State Fault Refusal :=
  .next (s.command (.snapshot tag p0 p1 p2) 0x51 tag (snapshotRule tag p0 p1 p2))

/-! ## CLEAR_COUNTERS (R191) -/

/-- R180: the path group. -/
def State.clearPath (s : State) : State :=
  s.modPath fun p => { p with counters := {}, armedIngest := true, armedRestore := true }

/-- R191: the ring group. -/
def State.clearRing (s : State) : State := s.modRing fun g => { g with counters := {}, stallMicros := 0 }

/-- R43: the pool group. -/
def State.clearPool (s : State) : State :=
  s.modPool fun p =>
    { p with lowMark := p.free.length, waits := 0, waitMs := 0, retries := 0, holdTransitions := 0, memFaults := 0
             waitMicros := 0 }

/-- R64: the streams group. -/
def State.clearStreams (s : State) : State :=
  let t : State := { s with streams := s.streams.map fun x =>
    { x with ingested := 0, chunks := 0, rawChunks := 0, heldMs := 0, heldMicros := 0 } }
  t.modPack fun p => { p with encoded := 0, copied := 0, discardedJobs := 0 }

/-- R89, R106, R128: the group of a channel. -/
def State.clearChan (s : State) (d : Drive) : State :=
  s.modChan d fun c => { c with counters := {}, reader := { c.reader with tallies := {}, firstBad := none } }

/-- R128: the restore group. -/
def State.clearRestore (s : State) : State :=
  s.modRestore fun r =>
    { r with
      sessions := r.sessions.map fun x => { x with bytesDelivered := 0, damaged := 0 }
      endsDone := 0, endsFailed := 0, endsCancelled := 0, awaitNexts := 0 }

/-- R147, R166: the loader group. -/
def State.clearLoader (s : State) : State := s.modLoader fun l => { l with counters := {} }

/-- R191: one group is cleared if its bit selects it. -/
def clearIf (p0 : Word) (bit : Nat) (clear : State → State) (s : State) : State := if p0.getLsbD bit then clear s else s

/-- R191: CLEAR_COUNTERS. -/
def clearCountersRule (p0 : Word) (s : State) : Effect :=
  if 255 < p0.toNat then s.turnAway .badParam
  else
    (clearIf p0 7 State.clearLoader (clearIf p0 6 State.clearRestore
      (clearIf p0 5 (fun t => t.clearChan 1) (clearIf p0 4 (fun t => t.clearChan 0)
        (clearIf p0 3 State.clearStreams (clearIf p0 2 State.clearPool
          (clearIf p0 1 State.clearRing (clearIf p0 0 State.clearPath s)))))))).ok

/-- CLEAR_COUNTERS (R191). -/
def execClearCounters (tag : Half) (p0 : Word) (s : State) : Host.Outcome State Fault Refusal :=
  .next (s.command (.clearCounters tag p0) 0x52 tag (clearCountersRule p0))

end Sys2Proof.Machine
end

