-- ==== Sys2Proof/Machine/Startup.lean ====
section
/-! DEFINITION. The reset pin and start-up (9.1): the EEPROM's attempts (R168), the configuration image (R10, R11, R169),
and the entries to RUNNING (R170) and CONFIG_FAULT (R171). -/

namespace Sys2Proof.Machine

/-! ## The reset pin (R167) -/

/-- RESET_PIN (R167): every block returns to its reset value. Staging memory, the raw sensor inputs and the commands that
wait are outside the part and stay. The accesses that memory has not answered, issued or waiting, are lost, a forwarded write
among them (DESIGN CHOICE, log entry 102). -/
def execResetPin (s : State) : Host.Outcome State Fault Refusal :=
  .next { State.reset with
    pending := s.pending, mem := s.mem, drawn := s.drawn
    loader := { State.reset.loader with filters := s.loader.filters.map fun f => { raw := f.raw } } }

/-- R171: a rejected image takes the part to CONFIG_FAULT. -/
def State.rejectImage (s : State) : State := s.modPath fun p => { p with startup := .configFault, faultLine := true }

/-! ## The transfer (R168) -/

def State.loading (s : State) : Bool := s.path.startup == .loading

/-- EEPROM_NO_ACK_RETRY (R168): the interval after an attempt without acknowledgement is over, and the next attempt is
made. -/
def execEepromNoAckRetry (acked : Bool) (s : State) : Host.Outcome State Fault Refusal :=
  if s.loading ∧ !s.path.acked then
    let t := s.elapseTo (s.path.attemptTime + Config.eepromRetry)
    let u := t.modPath fun p => { p with attempts := p.attempts + 1, attemptTime := t.timebase, acked := acked }
    .next (if !acked ∧ Config.eepromAttempts ≤ u.path.attempts then u.rejectImage else u)
  else .next s

/-- I2C_CLOCK_TIMEOUT (R168). -/
def execI2cClockTimeout (s : State) : Host.Outcome State Fault Refusal :=
  if s.loading then .next s.rejectImage else .next s

/-- EEPROM_TRANSFER_NO_ACK (R168). -/
def execEepromTransferNoAck (s : State) : Host.Outcome State Fault Refusal :=
  if s.loading then .next s.rejectImage else .next s

/-- R10: the image length that a header implies. -/
def imageLength (h : List Byte) : Nat := 12 + 12 * (h.getD 4 0).toNat + 6 * (h.getD 5 0).toNat

/-- CONFIG_HEADER_READ (R168). -/
def execConfigHeaderRead (h : List Byte) (s : State) : Host.Outcome State Fault Refusal :=
  if s.loading ∧ s.path.header.isNone ∧ h.length = 8 then
    .next (if 24 < (h.getD 4 0).toNat ∨ 2048 < imageLength h then s.rejectImage
      else s.modPath fun p => { p with acked := true, header := some h })
  else .next s

/-! ## The image (R10, R11) -/

def windowKindOf : Nat → Option WindowKind
  | 0 => some .plain | 1 => some .control | 2 => some .pool | 3 => some .ingest | 4 => some .tapeOut | 5 => some .tapeIn
  | 6 => some .restore
  | _ => none

/-- R10: how many arguments a window kind has. -/
def WindowKind.args : WindowKind → Nat
  | .ingest => 8
  | .tapeOut | .tapeIn => 2
  | .restore => 4
  | _ => 1

/-- R10: a window entry of 12 bytes, where it is sound. -/
def parseWindow (e : List Byte) : Option Window :=
  (windowKindOf (e.getD 9 0).toNat).bind fun k =>
    let base := ofLE (slice e 0 5)
    let size := ofLE (slice e 5 4)
    let arg := (e.getD 10 0).toNat
    if base % 4096 = 0 ∧ size % 4096 = 0 ∧ size ≠ 0 ∧ arg < k.args ∧ e.getD 11 0 = 0 then some ⟨base, size, k, arg⟩ else none

/-- R10: the window entries at the front of a byte string. -/
def parseWindows : Nat → List Byte → Option (List Window)
  | 0, _ => some []
  | n + 1, bs => (parseWindow (bs.take 12)).bind fun w => (parseWindows n (bs.drop 12)).map fun ws => w :: ws

/-- R10, R11: the parameter entries at the front of a byte string. -/
def parseEntries : Nat → List Byte → Option (List (Param × Nat))
  | 0, _ => some []
  | n + 1, bs =>
    (Param.ofId (ofLE (slice bs 0 2))).bind fun p =>
      (parseEntries n (bs.drop 6)).map fun es => (p, ofLE (slice bs 2 4)) :: es

/-- A configuration image that R10 and R11 take. -/
structure ConfigImage where
  version : Half
  windows : List Window
  entries : List (Param × Nat)
  deriving DecidableEq, Repr

/-- R10, R11: the image of an 8-byte header and the bytes behind it, where every check of those rules passes. -/
def parseImage (h rest : List Byte) : Option ConfigImage :=
  let w := (h.getD 4 0).toNat
  let p := (h.getD 5 0).toNat
  let body := 12 * w + 6 * p
  if h.take 2 = [0x4A, 0x56] ∧ h.getD 6 0 = 0 ∧ h.getD 7 0 = 0 ∧ w ≤ 24 ∧ imageLength h ≤ 2048
      ∧ ofLE (rest.drop body) = (crc32 (h ++ rest.take body)).toNat then
    (parseWindows w rest).bind fun ws =>
      (parseEntries p (rest.drop (12 * w))).map fun es =>
        { version := BitVec.ofNat 16 (ofLE (slice h 2 2)), windows := ws, entries := es }
  else none

/-! ## The layout (R169) -/

/-- The single value of a layout entry; absent unless it appears once. -/
def ConfigImage.layout (g : ConfigImage) (p : Param) : Option Nat :=
  match g.entries.filter fun e => e.1 = p with
  | [(_, v)] => some v
  | _ => none

/-- R169: the first byte at or above `a` that lies outside every POOL window. The first argument bounds the windows. -/
def coverEnd (ws : List Window) : Nat → Nat → Nat
  | 0, a => a
  | n + 1, a =>
    match ws.find? fun w => w.kind == .pool && w.holds a with
    | some w => coverEnd ws n (w.base + w.size)
    | none => a

/-- R169: no two windows share a byte. -/
def disjoint : List Window → Bool
  | [] => true
  | w :: ws => (ws.all fun v => w.base + w.size ≤ v.base || v.base + v.size ≤ w.base) && disjoint ws

/-- R169: the image area limit of the drive whose area begins at `base`; the pool region is `lo` to `hi`, and the other
drive's area begins at `other`. -/
def areaLimit (ws : List Window) (base other lo hi : Nat) : Nat :=
  let e := coverEnd ws ws.length base
  let e := if lo ≤ base ∧ base < hi then base else if base < lo then min e lo else e
  let e := if base < other then min e other else e
  min 128 ((e - base) / Config.slotSize)

/-- What start-up takes from an image that passes every check (R169, R170). -/
structure Layout where
  poolBase : Nat
  poolPages : Nat
  imageBase : Vector Nat 2
  limit : Vector Nat 2
  deriving DecidableEq, Repr

/-- R169: the checks of a whole image. -/
def ConfigImage.check (g : ConfigImage) : Option Layout :=
  match g.layout .poolBase, g.layout .poolPages, g.layout (.imageBase 0), g.layout (.imageBase 1) with
  | some pb, some pp, some b0, some b1 =>
    let pages := clampTo (1024, 65536) pp
    let lo := pb * 4096
    let hi := lo + pages * Config.pageSize
    let controls := g.windows.filter (·.kind == .control)
    let l0 := areaLimit g.windows (b0 * 4096) (b1 * 4096) lo hi
    let l1 := areaLimit g.windows (b1 * 4096) (b0 * 4096) lo hi
    if controls.length = 1 ∧ controls.all (16384 ≤ ·.size) ∧ disjoint g.windows
        ∧ g.windows.all (fun w => w.base + w.size ≤ 1099511627776)
        ∧ hi ≤ coverEnd g.windows g.windows.length lo ∧ 16 ≤ l0 ∧ 16 ≤ l1 then
      some { poolBase := pb, poolPages := pages, imageBase := #v[b0, b1], limit := #v[l0, l1] }
    else none
  | _, _, _, _ => none

/-! ## The entry to RUNNING (R170) -/

/-- R131: a filter takes its raw input at once. -/
def Filter.sampled (f : Filter) : Filter := { raw := f.raw, debounced := f.raw }

/-- R129: the locations found FULL receive fresh cartridge records. -/
def State.buildLocations (s : State) : State :=
  forEach allLocs (fun l t =>
    if t.presence l = .full then
      let (c, u) := t.newCart
      u.modLoc l fun x => { x with cart := some c }
    else t) s

/-- R129, R133: the sensors are sampled, and the location table is built. -/
def State.startLoader (s : State) : State :=
  let s1 := s.modLoader fun l => { l with filters := l.filters.map Filter.sampled }
  let open_ (m : Fin 2) : Bool := (s1.filter (.latch m)).debounced == .off
  (s1.modLoader fun l => { l with magOpen := #v[open_ 0, open_ 1] }).buildLocations

/-- R170: READY. -/
def State.readyRecord (s : State) : Record :=
  { kind := .ready, e0 := s.path.imageVersion.setWidth 32, e1 := w32 s.path.poolPages, e2 := w32 s.params.imageCapacity[0]
    e3 := w32 s.params.imageCapacity[1], e4 := w32 s.path.windows.length, e5 := w32 s.path.paramEntries }

/-- R170: the entry to RUNNING. -/
def State.enterRunning (s : State) (g : ConfigImage) (y : Layout) : State :=
  let s1 := s.modPath fun p =>
    { p with
      startup := .running, windows := g.windows, imageVersion := g.version, paramEntries := g.entries.length
      poolBase := y.poolBase, poolPages := y.poolPages, imageBase := y.imageBase, imageLimit := y.limit }
  let s2 : State := { s1 with params := startParams y.poolPages y.limit g.entries }
  let s3 := s2.modPool fun p => { p with free := List.range y.poolPages, lowMark := y.poolPages }
  let s4 := (s3.startLoader.modRing fun r => { r with intake := .idle }).issue (.commandIndex 0)
  (s4.emit s4.readyRecord).holdTest.startHoming .mail

/-- CONFIG_IMAGE_READ (R169 to R171). -/
def execConfigImageRead (rest : List Byte) (s : State) : Host.Outcome State Fault Refusal :=
  match s.path.header with
  | none => .next s
  | some h =>
    if s.loading ∧ 8 + rest.length = imageLength h then
      match parseImage h rest with
      | none => .next s.rejectImage
      | some g =>
        match g.check with
        | none => .next s.rejectImage
        | some y => .next (s.enterRunning g y)
    else .next s

end Sys2Proof.Machine
end

