-- ==== Sys2Proof/Machine/StreamCommands.lean ====
section
/-! DEFINITION. The stream commands that the move queue or a preempt may wait on: suspension (R51), the end of a stream
(R55) and aborts (R58). -/

namespace Sys2Proof.Machine

/-- SUSPEND_STREAM (R51). -/
def execSuspendStream (tag : Half) (p0 : Word) (s : State) : Host.Outcome State Fault Refusal :=
  .next (s.command (.suspendStream tag p0) 0x11 tag (settled (suspendRule true p0)))

/-- RESUME_STREAM (R51). -/
def execResumeStream (tag : Half) (p0 : Word) (s : State) : Host.Outcome State Fault Refusal :=
  .next (s.command (.resumeStream tag p0) 0x12 tag (settled (suspendRule false p0)))

/-- END_STREAM (R55). -/
def execEndStream (tag : Half) (p0 : Word) (s : State) : Host.Outcome State Fault Refusal :=
  .next (s.command (.endStream tag p0) 0x13 tag (settled (endStreamRule tag p0)))

/-- R58: ABORT_STREAM. -/
def abortStreamRule (p0 : Word) (s : State) : Effect :=
  match tagOf p0 with
  | none => s.turnAway .badParam
  | some t => if (s.stream t).state = .closed then s.turnAway .refusedState else (s.abortStream t .command none).ok

/-- ABORT_STREAM (R58). -/
def execAbortStream (tag : Half) (p0 : Word) (s : State) : Host.Outcome State Fault Refusal :=
  .next (s.command (.abortStream tag p0) 0x14 tag (settled (abortStreamRule p0)))

/-- R58: RESET_STREAMS. -/
def resetStreamsRule (s : State) : Effect :=
  (s.abortWhere (fun _ => true) .reset none).ok

/-- RESET_STREAMS (R58). -/
def execResetStreams (tag : Half) (s : State) : Host.Outcome State Fault Refusal :=
  .next (s.command (.resetStreams tag) 0x18 tag (settled resetStreamsRule))

end Sys2Proof.Machine
end

