-- ==== Sys2Proof/Machine/Dispatch.lean ====
section
/-! DEFINITION. The meaning of every command of the part: one arm for each row of the command table. -/

namespace Sys2Proof.Machine

/-- The effect of a command on everything but the queue of waiting commands. -/
def exec (i : Instr) (s : State) : Host.Outcome State Fault Refusal :=
  match i with
  | .resetPin => Sys2Proof.Machine.execResetPin s
  | .eepromNoAckRetry acked => Sys2Proof.Machine.execEepromNoAckRetry acked s
  | .i2cClockTimeout => Sys2Proof.Machine.execI2cClockTimeout s
  | .configHeaderRead header => Sys2Proof.Machine.execConfigHeaderRead header s
  | .configImageRead rest => Sys2Proof.Machine.execConfigImageRead rest s
  | .malformedAccess acc => Sys2Proof.Machine.execMalformedAccess acc s
  | .forwardedAccess acc => Sys2Proof.Machine.execForwardedAccess acc s
  | .forwardedAnswer ok => Sys2Proof.Machine.execForwardedAnswer ok s
  | .commandProducerWrite => Sys2Proof.Machine.execCommandProducerWrite s
  | .statusConsumerWrite => Sys2Proof.Machine.execStatusConsumerWrite s
  | .refusedAccess acc => Sys2Proof.Machine.execRefusedAccess acc s
  | .ingestWrite addr data => Sys2Proof.Machine.execIngestWrite addr data s
  | .ingestRead addr len => Sys2Proof.Machine.execIngestRead addr len s
  | .tapeOutRead addr len => Sys2Proof.Machine.execTapeOutRead addr len s
  | .imageReadAnswer d ok => Sys2Proof.Machine.execImageReadAnswer d ok s
  | .tapeInWrite addr data => Sys2Proof.Machine.execTapeInWrite addr data s
  | .readbackTimeout d => Sys2Proof.Machine.execReadbackTimeout d s
  | .reassemblyWriteAnswer d ok => Sys2Proof.Machine.execReassemblyWriteAnswer d ok s
  | .blockCommit d => Sys2Proof.Machine.execBlockCommit d s
  | .blockDiscard d => Sys2Proof.Machine.execBlockDiscard d s
  | .restoreRead addr len => Sys2Proof.Machine.execRestoreRead addr len s
  | .restoreStallTimeout k => Sys2Proof.Machine.execRestoreStallTimeout k s
  | .poolGrant => Sys2Proof.Machine.execPoolGrant s
  | .packCompletion => Sys2Proof.Machine.execPackCompletion s
  | .packWriteFault => Sys2Proof.Machine.execPackWriteFault s
  | .packFaultReservationReturn => Sys2Proof.Machine.execPackFaultReservationReturn s
  | .placementStart d => Sys2Proof.Machine.execPlacementStart d s
  | .placementEnd d => Sys2Proof.Machine.execPlacementEnd d s
  | .closeEnd d => Sys2Proof.Machine.execCloseEnd d s
  | .assemblerMemoryFault d acc => Sys2Proof.Machine.execAssemblerMemoryFault d acc s
  | .drainTimerExpiry d => Sys2Proof.Machine.execDrainTimerExpiry d s
  | .ageRelease d => Sys2Proof.Machine.execAgeRelease d s
  | .decodeStart => Sys2Proof.Machine.execDecodeStart s
  | .decodeCompletion readFault => Sys2Proof.Machine.execDecodeCompletion readFault s
  | .commandTake => Sys2Proof.Machine.execCommandTake s
  | .commandSlotReadFault => Sys2Proof.Machine.execCommandSlotReadFault s
  | .unknownCommand tag kind => Sys2Proof.Machine.execUnknownCommand tag kind s
  | .statusRecordWriteAnswer ok => Sys2Proof.Machine.execStatusRecordWriteAnswer ok s
  | .indexWordWriteAnswer w ok => Sys2Proof.Machine.execIndexWordWriteAnswer w ok s
  | .snapshotWriteAnswer ok => Sys2Proof.Machine.execSnapshotWriteAnswer ok s
  | .openStream tag p0 p1 p2 p3 => Sys2Proof.Machine.execOpenStream tag p0 p1 p2 p3 s
  | .suspendStream tag p0 => Sys2Proof.Machine.execSuspendStream tag p0 s
  | .resumeStream tag p0 => Sys2Proof.Machine.execResumeStream tag p0 s
  | .endStream tag p0 => Sys2Proof.Machine.execEndStream tag p0 s
  | .abortStream tag p0 => Sys2Proof.Machine.execAbortStream tag p0 s
  | .holdStream tag p0 => Sys2Proof.Machine.execHoldStream tag p0 s
  | .releaseStream tag p0 => Sys2Proof.Machine.execReleaseStream tag p0 s
  | .setTargets tag p0 p1 => Sys2Proof.Machine.execSetTargets tag p0 p1 s
  | .resetStreams tag => Sys2Proof.Machine.execResetStreams tag s
  | .setArbTable tag p0 p1 p2 p3 => Sys2Proof.Machine.execSetArbTable tag p0 p1 p2 p3 s
  | .mounted tag p0 p1 p2 p3 p4 p5 p6 p7 => Sys2Proof.Machine.execMounted tag p0 p1 p2 p3 p4 p5 p6 p7 s
  | .setMode tag p0 p1 p2 p3 => Sys2Proof.Machine.execSetMode tag p0 p1 p2 p3 s
  | .flush tag p0 => Sys2Proof.Machine.execFlush tag p0 s
  | .earlyWarning tag p0 => Sys2Proof.Machine.execEarlyWarning tag p0 s
  | .endOfData tag p0 => Sys2Proof.Machine.execEndOfData tag p0 s
  | .unmount tag force p0 => Sys2Proof.Machine.execUnmount tag force p0 s
  | .cleanDone tag p0 => Sys2Proof.Machine.execCleanDone tag p0 s
  | .drivePower tag p0 p1 => Sys2Proof.Machine.execDrivePower tag p0 p1 s
  | .resetChannel tag p0 => Sys2Proof.Machine.execResetChannel tag p0 s
  | .openRestore tag preempt cont p0 p1 p2 p3 p4 p5 => Sys2Proof.Machine.execOpenRestore tag preempt cont p0 p1 p2 p3 p4 p5 s
  | .cancelRestore tag p0 => Sys2Proof.Machine.execCancelRestore tag p0 s
  | .move tag force p0 p1 => Sys2Proof.Machine.execMove tag force p0 p1 s
  | .exportCart tag force p0 => Sys2Proof.Machine.execExportCart tag force p0 s
  | .inventory tag p0 p1 => Sys2Proof.Machine.execInventory tag p0 p1 s
  | .cancelMove tag p0 p1 => Sys2Proof.Machine.execCancelMove tag p0 p1 s
  | .setScratch tag p0 p1 p2 p3 p4 p5 p6 => Sys2Proof.Machine.execSetScratch tag p0 p1 p2 p3 p4 p5 p6 s
  | .clean tag p0 => Sys2Proof.Machine.execClean tag p0 s
  | .setCleanUses tag p0 p1 => Sys2Proof.Machine.execSetCleanUses tag p0 p1 s
  | .doorLock tag => Sys2Proof.Machine.execDoorLock tag s
  | .doorUnlock tag => Sys2Proof.Machine.execDoorUnlock tag s
  | .recoverPicker tag => Sys2Proof.Machine.execRecoverPicker tag s
  | .resetLoader tag => Sys2Proof.Machine.execResetLoader tag s
  | .setParam tag p0 p1 => Sys2Proof.Machine.execSetParam tag p0 p1 s
  | .snapshot tag p0 p1 p2 => Sys2Proof.Machine.execSnapshot tag p0 p1 p2 s
  | .clearCounters tag p0 => Sys2Proof.Machine.execClearCounters tag p0 s
  | .getInfo tag => Sys2Proof.Machine.execGetInfo tag s
  | .rawSensorChange sensor value => Sys2Proof.Machine.execRawSensorChange sensor value s
  | .sensorSettleExpiry sensor => Sys2Proof.Machine.execSensorSettleExpiry sensor s
  | .motionReply number reply => Sys2Proof.Machine.execMotionReply number reply s
  | .motionTimeout => Sys2Proof.Machine.execMotionTimeout s
  | .mountTimeout d => Sys2Proof.Machine.execMountTimeout d s
  | .ejectTimeout d => Sys2Proof.Machine.execEjectTimeout d s
  | .cleanTimeout d => Sys2Proof.Machine.execCleanTimeout d s
  | .eepromTransferNoAck => Sys2Proof.Machine.execEepromTransferNoAck s

end Sys2Proof.Machine
end

