-- ==== Sys2Proof/Machine/Timers.lean ====
section
/-! DEFINITION. The timers that run, for the passing of time while no command waits (log entry 2). -/

namespace Sys2Proof.Machine

/-- Every sensor input. -/
def allSensors : List Sensor :=
  (List.ofFn fun l : Fin 25 => Sensor.presence l)
  ++ [.bay 0, .bay 1, .gripper, .door, .latch 0, .latch 1, .button, .power 0, .power 1]

/-- The expiries that can come, each with its deadline; an age release has none while the regulator runs. -/
def State.timers (s : State) : List (Instr × Option Nat) :=
  (allSensors.map fun x => (.sensorSettleExpiry x, (s.filter x).deadline))
  ++ [(.motionTimeout, s.picker.order.map (·.deadline))]
  ++ (allDrives.flatMap fun d =>
    let c := s.chan d
    [(.mountTimeout d, c.mountTimer), (.ejectTimeout d, c.ejectTimer), (.cleanTimeout d, c.cleanTimer),
     (.drainTimerExpiry d, c.drainTimer), (.ageRelease d, if c.state = .write ∧ !c.running then s.ageDue d else none),
     (.readbackTimeout d, s.readbackDeadline d)])
  ++ allSessions.map fun i => (.restoreStallTimeout i, s.stallDeadline i)

/-- The first expiry that is due. -/
def State.dueExpiry (s : State) : Option Instr :=
  if s.running then
    (s.timers.find? fun t => match t.2 with | some x => x ≤ s.timebase | none => false).map (·.1)
  else none

end Sys2Proof.Machine
end

