-- ==== Sys2Proof/Machine/Step.lean ====
section
/-! DEFINITION. One step of the part: the command at the front of the queue, or a microsecond while none waits. -/

namespace Sys2Proof.Machine

/-- The state with a command at the front of its queue. -/
def State.withCommand (s : State) (c : Instr) : State := { s with pending := c :: s.pending }

/-- The state with another queue. -/
def State.setPending (s : State) (q : List Instr) : State := { s with pending := q }

/-- The command that a word spells is put at the front of the queue; a word that spells none changes nothing. -/
def State.withFetchWord (s : State) (nbits w : Nat) : State :=
  match decodeTableWord nbits w with
  | some c => s.withCommand c
  | none => s

/-- What happens while no command waits: an expiry that is due, or else one microsecond passes (DESIGN CHOICE, log
entry 2). -/
def State.idle (s : State) : Host.Outcome State Fault Refusal :=
  match s.dueExpiry with
  | some c => exec c s
  | none => .next (s.elapse 1)

/-- A step takes the command at the front of the queue and runs it on the state with the queue's rest. -/
def step (s : State) : Host.Outcome State Fault Refusal :=
  match s.pending with
  | c :: rest => exec c (s.setPending rest)
  | [] => s.idle

end Sys2Proof.Machine
end

