-- ==== Sys2Proof/Safety.lean ====
section
/-! DEFINITION. What counts as a sound state of the part, and the terms in which the statements say how a command of the
command ring ends. -/

namespace Sys2Proof.Machine

/-! ## Sound states -/

/-- Staging memory has its canonical form. -/
def State.memorySound (s : State) : Prop := s.mem.wf = true

/-- R188: the interrupt line is asserted exactly while S differs from U. -/
def State.irqSound (s : State) : Prop := s.ring.irq = (s.ring.s != s.ring.u)

/-- R182, R184, R186: the COMMAND_DONE reservation is set exactly while a command is being read; the record buffer holds at
most 32 records with it; and the intake is STOPPED outside RUNNING. -/
def State.ringSound (s : State) : Prop :=
  s.ring.reserved = (s.ring.intake == .reading)
    ∧ s.ring.buffer.length + s.ring.reserved.toNat ≤ Config.recordBuffer
    ∧ (s.path.startup ≠ .running → s.ring.intake = .stopped)

/-- R26: the pages that are free, reserved, or held by chunk records. -/
def State.pageCount (s : State) : Nat :=
  s.pool.free.length + s.pool.reservation.length + (s.pool.records.map fun r => r.pages.length).sum

/-- R26, R28, R31: while RUNNING, the pages free, reserved and held number the pages of the pool; outside RUNNING there is none
of them and no chunk record. The records in use have rising numbers, and a reservation stands only while the pack engine
has a job, or the writes of a faulted one are not all answered. -/
def State.poolSound (s : State) : Prop :=
  (s.path.startup = .running → s.pageCount = s.path.poolPages)
    ∧ (s.path.startup ≠ .running → s.pool.free = [] ∧ s.pool.reservation = [] ∧ s.pool.records = [])
    ∧ (s.pool.records.map (·.id)).Pairwise (· < ·)
    ∧ (s.pack.job = none → s.pack.draining = none → s.pool.reservation = [])

/-- The part is sound. -/
def State.sound (s : State) : Prop := s.memorySound ∧ s.irqSound ∧ s.ringSound ∧ s.poolSound

/-! ## The rows of 10.4 -/

/-- 10.4, R30, R189: the least and the greatest value of a parameter, where the others stand as `q` has them and backup
records and reservations hold `taken` pages of the pool. Layout entries have no row. -/
def Param.bounds (pages taken : Nat) (limit : Vector Nat 2) (q : Params) : Param → Nat × Nat
  | .poolBase | .poolPages | .imageBase _ => (0, 0)
  | .poolHoldOn => (0, min 65535 (q.poolHoldOff - 1))
  | .poolHoldOff => (q.poolHoldOn + 1, 65535)
  | .restoreReserve => (0, min (pages / 2) (pages - taken))
  | .imageCapacity d => (16, limit[d])
  | .regulatorBuffer _ => (4, 1024)
  | .drainInterval _ => (1, 65535)
  | .lowMark d => (0, min 1023 (q.regulatorBuffer[d] - 1))
  | .restartMark d => (1, min 128 q.imageCapacity[d])
  | .maxHold _ => (1, 65535)
  | .verifyLimit d => (1, min 128 q.imageCapacity[d])
  | .rewriteLimit _ => (1, 7)
  | .checkMode _ => (0, 1)
  | .ewReserve _ => (0, 65535)
  | .cleaningInterval _ => (0, 4294967295)
  | .readbackTimeout | .restoreStallTimeout | .mountTimeout | .motionTimeout | .cleanTimeout => (0, 14)
  | .recoveryWindow => (1, 255)
  | .debounceSlot | .debouncePanel | .debounceBay => (1, 255)
  | .autoChangeover | .autoInventory | .holdEnablePool | .holdEnableVerify => (0, 1)
  | .cleanUsesNew => (1, 255)

/-! ## How commands of the command ring end (R184, R185)

Each of these says what happens when the answer to the intake's slot read brings the command (`State.takes`): the command
is the one that the slot of index C holds in memory. -/

/-- The state in which a command that the intake has read reaches its owner: the slot read is off the memory port. -/
def State.atOwner (s : State) : State := s.answered (.slotRead s.ring.c)

/-- The command, once read, ends with an outcome and results; its owner left `v`. -/
def Ends (c : Instr) (kind : Nat) (tag : Half) (o : CmdOutcome) (r : Results) (s v : State) : Prop :=
  s.takes c = true → exec c s = .next (v.endCommand kind tag o r 0)

/-- The command, once read, ends with an outcome; its owner left `v`, on which the tests of the move queue and of a preempt
follow in the same event. -/
def EndsSettled (c : Instr) (kind : Nat) (tag : Half) (o : CmdOutcome) (s v : State) : Prop :=
  s.takes c = true → exec c s = .next ((s.atOwner.settle v).endCommand kind tag o {} 0)

/-- The command, once read, is turned away, and its owner is unchanged (R185). -/
def TurnedAway (c : Instr) (kind : Nat) (tag : Half) (o : CmdOutcome) (s : State) : Prop :=
  s.takes c = true → exec c s = .next (s.atOwner.endCommand kind tag o {} 0)

/-! ## Jobs at the memory port (R176) -/

/-- An access of an engine's job is issued, or waits in the part-owned queue. -/
def State.jobAtPort (s : State) (e : Engine) : Prop :=
  s.path.port.issued = some (.owned (.job e)) ∨ .job e ∈ s.path.port.ownWait

/-! ## Frames -/

/-- Every block other than the ring and the path unit is unchanged. -/
def State.blocksSame (s t : State) : Prop :=
  t.mem = s.mem ∧ t.timebase = s.timebase ∧ t.params = s.params ∧ t.pool = s.pool ∧ t.pack = s.pack
    ∧ t.streams = s.streams ∧ t.chans = s.chans ∧ t.restore = s.restore ∧ t.loader = s.loader

/-- Only the memory port of the path unit differs. -/
def State.portOnly (s t : State) : Prop := t.path = { s.path with port := t.path.port }

end Sys2Proof.Machine
end

