-- ==== Sys2Proof/Certificates/Slice0/Obligations.lean ====
section
/-! DEFINITION. The statements about the model, for the provers. Those about a command of the command ring say what happens
when the answer to the intake's slot read brings it (`State.takes`, the model's choice: log entry 18; `Ends`, `EndsSettled`,
`TurnedAway` in Safety.lean). `settle` makes the loader's tests at an event's end (the model's choice: log entries 9 and 46). -/

open Sys2Proof Sys2Proof.Machine

/-! ## The queue of commands, reset, and invariants -/

/-- The step takes the command at the front of the queue and answers exec of it on the state with the queue's rest. -/
def Obligations.StepRunsTheFrontCommand : Prop :=
  ∀ (s : State) (c : Instr) (q : List Instr), s.pending = c :: q → step s = exec c { s with pending := q }

/-- With no command waiting, a step runs the first expiry that is due, or else passes one microsecond, in which memory, the
configuration and the channels stay as they are. The model's choice: log entry 2. -/
def Obligations.IdleStepRunsADueExpiryOrPassesAMicrosecond : Prop :=
  ∀ s : State, s.pending = [] →
    (∀ c, s.dueExpiry = some c → step s = exec c s) ∧
    (s.dueExpiry = none → ∃ t, step s = .next t ∧ t.timebase = s.timebase + 1 ∧ t.pending = [] ∧ t.mem = s.mem
      ∧ t.path = s.path ∧ t.params = s.params ∧ t.pack = s.pack ∧ t.chans = s.chans ∧ t.restore = s.restore
      ∧ t.loader = s.loader)

/-- What the reset pin leaves: the values that R14, R22, R26, R44, R60, R65, R90, R107, R117, R140, R167 and R182 give.
The reset pin takes the part from every state to its reset state; what stands outside the part (staging memory, the raw
sensor inputs, the waiting commands) stays, and so does the model's count of free values.
That these stay (log entry 8), the values of the fields to which the manual gives no reset value (log entry 5), and that the
accesses issued or waiting at the memory port are dropped (log entry 102), are the model's choices and readings. -/
def Obligations.ResetPinReturnsEveryBlockToItsValue : Prop :=
  (let s := State.reset
  s.timebase = 0 ∧ s.path.startup = .loading ∧ s.path.windows = [] ∧ s.path.port.favoured = .forwarded
    ∧ s.path.faultLine = false ∧ s.path.counters = {} ∧ s.path.armedIngest = true ∧ s.path.armedRestore = true
    ∧ s.ring.intake = .stopped ∧ s.ring.c = 0 ∧ s.ring.p = 0 ∧ s.ring.s = 0 ∧ s.ring.u = 0 ∧ s.ring.d = 0
    ∧ s.ring.buffer = [] ∧ s.ring.reserved = false ∧ s.ring.irq = false
    ∧ s.pack.job = none ∧ s.pack.hash = [] ∧ s.pack.pendingTable = none ∧ s.pack.lastServed = 15
    ∧ (∀ k : Fin 16, (s.pack.table[k]).val = k.val % 8)
    ∧ s.restore.job = none ∧ s.restore.lastServed = .verify 1 ∧ s.pool.hold = false ∧ s.pool.records = []
    ∧ (∀ t : Tag, (s.stream t).state = .closed ∧ (s.stream t).bufA.state = .empty ∧ (s.stream t).bufB.state = .empty)
    ∧ (∀ d : Drive, (s.chan d).state = .unmounted ∧ (s.chan d).mount = none ∧ (s.chan d).images = []
        ∧ (s.chan d).nextSlot = 0 ∧ (s.chan d).running = false ∧ (s.chan d).occupancy = 0 ∧ (s.chan d).full = none
        ∧ (s.chan d).verifyList = [] ∧ (s.chan d).stale = none ∧ (s.chan d).reader.running = false
        ∧ (s.chan d).firstFault = none)
    ∧ (∀ i : SessionId, (s.session i).state = .free ∧ (s.session i).queue = [])
    ∧ (∀ l : Loc, (s.loc l).cart = none ∧ (s.loc l).expected = none ∧ (s.loc l).reserved = none)
    ∧ s.picker.state = .homing ∧ s.picker.order = none ∧ s.loader.queue = [] ∧ s.loader.preempt = none
    ∧ s.loader.lockOutput = false ∧ s.loader.doorLockFlag = false)
  ∧ (∀ s : State, ∃ t, exec .resetPin s = .next t ∧ t.mem = s.mem ∧ t.pending = s.pending
      ∧ (∀ x : Sensor, t.filter x = { raw := (s.filter x).raw })
      ∧ t = { State.reset with
          pending := s.pending, mem := s.mem, drawn := s.drawn
          loader := { State.reset.loader with filters := t.loader.filters } })

/-- The state after reset is sound. -/
def Obligations.ResetStateIsSound : Prop := State.reset.sound

/-- Every step keeps staging memory in its canonical form.
What an unlisted byte reads as is the model's choice: log entry 1. -/
def Obligations.StepKeepsMemoryCanonical : Prop :=
  ∀ s t : State, s.memorySound → step s = .next t → t.memorySound

/-- Every step keeps the interrupt line asserted exactly while S differs from U. -/
def Obligations.StepKeepsInterruptLine : Prop :=
  ∀ s t : State, s.irqSound → step s = .next t → t.irqSound

/-- Every step keeps the COMMAND_DONE reservation with the reading of a command, the record buffer within its 32 places, and
the intake STOPPED outside RUNNING. -/
def Obligations.StepKeepsRingReservation : Prop :=
  ∀ s t : State, s.ringSound → step s = .next t → t.ringSound

/-- Every step keeps the accounting of the pool's pages: while RUNNING, those free, reserved and held by chunk records number
pool_pages; outside RUNNING there is none of them; the chunk records in use have rising numbers; and a reservation stands only
while the pack engine has a job, or a faulted one's writes are not all answered. -/
def Obligations.StepKeepsThePageAccounting : Prop :=
  ∀ s t : State, s.poolSound → step s = .next t → t.poolSound

/-! ## Formats and the pack codec -/

/-- R5: a precedes b when (b − a) mod 2^32 lies in 1 .. 2^31 − 1, and a + 1 is taken mod 2^32. -/
def Obligations.SequencesPrecedeModuloTwoToThe32 : Prop :=
  ∀ a b : Word,
    (precedes a b = true ↔
      1 ≤ (b.toNat + 4294967296 - a.toNat) % 4294967296 ∧ (b.toNat + 4294967296 - a.toNat) % 4294967296 ≤ 2147483647)
    ∧ (a + 1).toNat = (a.toNat + 1) % 4294967296

/-- Every command of the command ring is read back from the 64-byte record that asks it, with every tag, flag and parameter
word; and records written out byte by byte from the layout that the manual gives are read as the commands they ask. -/
def Obligations.CommandRecordsRoundTrip : Prop :=
  (∀ (i : Instr) (r : CommandRecord), encodeCommand i = some r →
    r.frame.length = 64 ∧ decodeCommandRecord r.frame = i)
  ∧ (let rest (n : Nat) : List Byte := List.replicate n 0
    decodeCommandRecord ([0x10, 0x00, 0x34, 0x12, 2, 0, 0, 0, 0x00, 0xC1, 0, 0, 3, 0, 0, 0, 1, 0, 0, 0] ++ rest 44)
        = .openStream 0x1234 2 0xC100 3 1
      ∧ decodeCommandRecord ([0x25, 0xF9, 0x01, 0x00, 1, 0, 0, 0] ++ rest 56) = .unmount 1 true 1
      ∧ decodeCommandRecord ([0x30, 0x06, 0xFF, 0xFF, 3, 0, 0, 0, 0x10, 0x9A, 0, 0, 5, 0, 0, 0, 7, 0, 0, 0, 26, 0, 0, 0,
            2, 0, 0, 0] ++ rest 36) = .openRestore 0xFFFF true true 3 0x9A10 5 7 26 2
      ∧ decodeCommandRecord ([0x51, 0x00, 0x02, 0x00, 0x00, 0x00, 0x20, 0x40, 1, 0, 0, 0, 3, 0, 0, 0] ++ rest 48)
        = .snapshot 2 0x40200000 1 3
      ∧ decodeCommandRecord ([0x29, 0x00, 0x05, 0x00] ++ rest 60) = .unknownCommand 5 0x29)

/-- Every stored chunk that the pack engine makes of an input of at most 4,096 bytes decodes GOOD to that input. -/
def Obligations.StoredChunksDecodeToTheirInput : Prop :=
  ∀ (mode : JobMode) (setend : Bool) (input : List Byte), input.length ≤ 4096 →
    decodeStored (storedChunk mode setend input) = (.good, input)
      ∧ (storedChunk mode setend input).length ≤ 10 + input.length

/-! ## Start-up -/

/-- The part rejects its configuration image: CONFIG_FAULT, with the fault line asserted, and nothing else changed.
An EEPROM attempt follows 8.192 ms after the one before; the eighth without acknowledgement rejects the image.
That the next attempt comes exactly at its time, and that a transfer breaks or a header is read at any moment of LOADING, are
the model's choices: log entries 3 and 52. -/
def Obligations.BrokenTransfersAndTriesRejectTheImage : Prop :=
  (∀ s : State, s.path.startup = .loading →
    let rejected := { s with path := { s.path with startup := .configFault, faultLine := true } }
    exec .i2cClockTimeout s = .next rejected
      ∧ exec .eepromTransferNoAck s = .next rejected
      ∧ (∀ h : List Byte, s.path.header = none → h.length = 8 →
          exec (.configHeaderRead h) s = .next (if 24 < (h.getD 4 0).toNat then rejected
            else { s with path := { s.path with acked := true, header := some h } })))
  ∧ (∀ (s : State) (ok : Bool), s.path.startup = .loading → s.path.acked = false → s.pack.waiting = false →
      s.ring.intake = .stopped → (∀ t : Tag, (s.stream t).state = .closed) → s.timebase ≤ s.path.attemptTime + 8192 →
      let now := s.path.attemptTime + 8192
      let last := !ok && decide (7 ≤ s.path.attempts)
      exec (.eepromNoAckRetry ok) s = .next
        { s with
          timebase := now
          path := { s.path with
            attempts := s.path.attempts + 1, attemptTime := now, acked := ok
            startup := if last then .configFault else .loading
            faultLine := s.path.faultLine || last } })

/-- The last byte of the image is held: an image that fails a check takes the part to CONFIG_FAULT and changes nothing else;
one that passes takes it to RUNNING, with the image's windows and layout, every pool page free, the intake IDLE, READY as the
first record, and the write of C = 0 to its index word as the first access of an idle memory port. That READY comes first (log
entry 47), and that the write is issued at once (log entry 6), are the model's choices and readings. -/
def Obligations.ConfigurationImageDecidesStartup : Prop :=
  ∀ (s : State) (h rest : List Byte), s.path.startup = .loading → s.path.header = some h →
    8 + rest.length = imageLength h →
    ((parseImage h rest).bind ConfigImage.check = none → exec (.configImageRead rest) s = .next
      { s with path := { s.path with startup := .configFault, faultLine := true } }) ∧
    (∀ g y, parseImage h rest = some g → g.check = some y → s.ring = {} →
      ∃ t, exec (.configImageRead rest) s = .next t ∧ t.path.startup = .running ∧ t.path.windows = g.windows
        ∧ t.path.poolBase = y.poolBase ∧ t.path.poolPages = y.poolPages ∧ t.path.imageBase = y.imageBase
        ∧ t.path.imageLimit = y.limit ∧ t.params = startParams y.poolPages y.limit g.entries
        ∧ t.pool.free = List.range y.poolPages ∧ t.ring.intake = .idle ∧ t.ring.c = 0 ∧ t.chans = s.chans
        ∧ t.mem = s.mem
        ∧ t.ring.buffer.head? = some
            { kind := .ready, e0 := g.version.setWidth 32, e1 := w32 y.poolPages, e2 := w32 t.params.imageCapacity[0]
              e3 := w32 t.params.imageCapacity[1], e4 := w32 g.windows.length, e5 := w32 g.entries.length }
        ∧ (s.path.port.issued = none → s.path.port.fwdWait = [] → s.path.port.ownWait = [] →
            t.path.port.issued = some (.owned (.commandIndex 0))))

/-- Every parameter that start-up leaves lies within its row of 10.4, and keeps the dependences on other parameters that the
row gives, whatever entries the image holds. The one value outside a range is pool_hold_off = 65,536, which follows from
pool_hold_on = 65,535: the model's choice, log entry 50. -/
def Obligations.StartupParametersKeepTheirRanges : Prop :=
  ∀ (pages : Nat) (limit : Vector Nat 2) (entries : List (Param × Nat)), (∀ d : Drive, 16 ≤ limit[d] ∧ limit[d] ≤ 128) →
    let q := startParams pages limit entries
    q.poolHoldOn < q.poolHoldOff
      ∧ ∀ p : Param, p.isLayout = false →
        let row := p.bounds pages 0 limit q
        row.1 ≤ q.get p
          ∧ (q.get p ≤ row.2 ∨ (p = .poolHoldOff ∧ q.poolHoldOn = 65535 ∧ q.poolHoldOff = 65536))

/-! ## The path unit -/

/-- An access of another shape than R172 gives is answered FAULT and counted; nothing else changes.
The accesses that the table of R173 answers FAULT are answered so and counted; nothing else changes. -/
def Obligations.MalformedAndRefusedAccessesAreAnsweredFault : Prop :=
  (∀ (s : State) (acc : Access), acc.shaped = false →
    exec (.malformedAccess acc) s = .next { s with path := { s.path with
      answers := [.fault], counters := { s.path.counters with malformed := s.path.counters.malformed.add 1 } } })
  ∧ (∀ (s : State) (acc : Access) (w : Window), acc.shaped = true → s.windowAt acc.addr = some w →
      (match acc with
        | .read _ _ => w.kind = .pool ∨ w.kind = .tapeIn
        | .write _ _ => w.kind = .pool ∨ w.kind = .tapeOut ∨ w.kind = .restore) →
      exec (.refusedAccess acc) s = .next { s with path := { s.path with
        answers := [.fault], counters := { s.path.counters with refused := s.path.counters.refused.add 1 } } })

/-- A well-formed access to no window, or to a PLAIN or CONTROL window, joins the forwarded queue at its back, from which the
arbiter issues, and is counted.
Outside a CONTROL window it passes no index value.
R175: a write into the CONTROL window passes the value of a watched word when it covers both of its bytes, and counts a
partial index write when it covers one of them. That a write that meets both watched words passes the one it covers whole though
it covers the other in part, and counts one partial write however many words it covers in part, is the model's choice: log
entry 95. That the arbiter issues an access at once where memory owes no answer, and holds the others back, is the model's
choice: log entry 6. -/
def Obligations.PlainAccessesAreForwardedAndIndexWordsWatched : Prop :=
  (∀ (s : State) (acc : Access), acc.shaped = true →
    (∀ w, s.windowAt acc.addr = some w → w.kind = .plain ∨ w.kind = .control) →
    let f := (s.watch acc).1
    let part := (s.watch acc).2.toNat
    f.acc = acc ∧ ((∀ w, s.windowAt acc.addr = some w → w.kind ≠ .control) → f.producer = none ∧ f.consumer = none ∧ part = 0)
      ∧ exec (.forwardedAccess acc) s = .next { s with path := { s.path with
          port := s.path.port.joinForwarded f
          counters := { s.path.counters with
            fwdReads := s.path.counters.fwdReads.add (match acc with | .read _ _ => 1 | .write _ _ => 0)
            fwdWrites := s.path.counters.fwdWrites.add (match acc with | .read _ _ => 0 | .write _ _ => 1)
            partialIndex := s.path.counters.partialIndex.add part } } })
  ∧ (∀ (s : State) (w : Window) (a : Addr) (ds : List Byte), s.windowAt a = some w → w.kind = .control →
      (let covers (x : Nat) : Prop := a.toNat ≤ x ∧ x < a.toNat + ds.length
         let value (x : Nat) : Half :=
           BitVec.ofNat 16 ((ds.getD (x - a.toNat) 0).toNat + 256 * (ds.getD (x + 1 - a.toNat) 0).toNat)
         let producer := w.base
         let consumer := w.base + 0xC
         (covers producer → covers (producer + 1) → (s.watch (.write a ds)).1.producer = some (value producer))
          ∧ (covers consumer → covers (consumer + 1) → (s.watch (.write a ds)).1.consumer = some (value consumer))
          ∧ (¬ (covers producer ∧ covers (producer + 1)) → (s.watch (.write a ds)).1.producer = none)
          ∧ (¬ (covers consumer ∧ covers (consumer + 1)) → (s.watch (.write a ds)).1.consumer = none)
          ∧ ((s.watch (.write a ds)).2 = true ↔ ¬ (covers producer ↔ covers (producer + 1))
              ∨ ¬ (covers consumer ↔ covers (consumer + 1)))))

/-- Memory answers the access issued, here a forwarded one that passes no index value, and the arbiter issues the next. DONE stores a write's
bytes, and no other byte of memory changes; a read's answer carries the bytes of memory; a FAULT goes back to the master and
is counted, with memory unchanged.
That memory owes one answer at a time, and that a FAULT leaves memory unchanged, are the model's choices: log entries 6 and
11. -/
def Obligations.ForwardedAnswersReachMemoryAndMaster : Prop :=
  ∀ (s : State) (f : Forwarded), s.path.port.issued = some (.forwarded f) →
    let taken := s.path.port.answered
    (f.producer = none → f.consumer = none → ∃ t, exec (.forwardedAnswer true) s = .next t
      ∧ t.ring = s.ring ∧ t.chans = s.chans ∧ t.streams = s.streams ∧ t.loader = s.loader ∧ t.pool = s.pool
      ∧ t.path.port = taken
      ∧ (match f.acc with
          | .read a n => t.mem = s.mem ∧ t.path.answers = [.done (s.peek a.toNat n)]
          | .write a ds => t.path.answers = [.done []]
              ∧ (∀ k, k < ds.length → t.mem.get (a.toNat + k) = ds.getD k 0)
              ∧ (∀ x, x < a.toNat ∨ a.toNat + ds.length ≤ x → t.mem.get x = s.mem.get x)))
    ∧ exec (.forwardedAnswer false) s = .next { s with path := { s.path with
        port := taken, answers := [.fault]
        counters := { s.path.counters with fwdFaults := s.path.counters.fwdFaults.add 1 } } }

/-- A sane value of the command producer word becomes P, and the intake makes its test; one that is not sane changes no index,
and is reported. A sane value of the status consumer word becomes U, and the interrupt line follows; one that is not sane
changes no index, and is reported. An intake that is IDLE or BLOCKED becomes IDLE where no command waits, takes the command that
waits where a place can be reserved for its COMMAND_DONE, and is BLOCKED where none can.
One write may carry both values; that the producer value is then taken first, and the consumer value after it, is the model's
choice: log entry 94. Another choice of the model is that memory owes one answer at a time: log entry 6. -/
def Obligations.IndexWordWritesAreJudged : Prop :=
  (∀ (s : State) (a : Addr) (ds : List Byte) (v : Half),
    s.path.port.issued = some (.forwarded { acc := .write a ds, producer := some v, consumer := none }) →
    ∃ t, exec .commandProducerWrite s = .next t
      ∧ t.ring.c = s.ring.c ∧ t.ring.s = s.ring.s ∧ t.ring.u = s.ring.u ∧ t.ring.irq = s.ring.irq
      ∧ t.path.answers = [.done []] ∧ t.mem = s.mem.put a.toNat ds
      ∧ ((v - s.ring.c).toNat ≤ 64 →
          t.ring.p = v ∧ t.ring.buffer = s.ring.buffer ∧ t.ring.counters = s.ring.counters
          ∧ (s.ring.intake = .idle ∨ s.ring.intake = .blocked →
              (v = s.ring.c → t.ring.intake = .idle ∧ t.path.port = s.path.port.answered)
              ∧ (v ≠ s.ring.c → s.ring.room = true → t.ring.intake = .reading ∧ t.ring.reserved = true
                  ∧ t.path.port = s.path.port.answered.joinOwned (.slotRead s.ring.c))
              ∧ (v ≠ s.ring.c → s.ring.room = false → t.ring.intake = .blocked ∧ t.path.port = s.path.port.answered))
          ∧ (s.ring.intake = .reading ∨ s.ring.intake = .stopped → t.ring.intake = s.ring.intake
              ∧ t.ring.reserved = s.ring.reserved ∧ t.path.port = s.path.port.answered))
      ∧ (64 < (v - s.ring.c).toNat → t.ring.p = s.ring.p ∧ t.ring.intake = s.ring.intake
          ∧ t.ring.counters.ringFaults = s.ring.counters.ringFaults.add 1
          ∧ (s.ring.room = true → t.ring.buffer = s.ring.buffer ++
              [{ kind := .ringFault, byte1 := 0, dropped := s.ring.d, e0 := v.setWidth 32, e1 := s.ring.c.setWidth 32
                 e2 := s.ring.p.setWidth 32 }])))
  ∧ (∀ (s : State) (a : Addr) (ds : List Byte) (v : Half),
      s.path.port.issued = some (.forwarded { acc := .write a ds, producer := none, consumer := some v }) →
      ∃ t, exec .statusConsumerWrite s = .next t
        ∧ t.ring.c = s.ring.c ∧ t.ring.s = s.ring.s ∧ t.ring.p = s.ring.p
        ∧ t.path.answers = [.done []] ∧ t.mem = s.mem.put a.toNat ds
        ∧ ((s.ring.s - v).toNat ≤ 256 → t.ring.u = v ∧ t.ring.irq = (s.ring.s != v) ∧ t.ring.buffer = s.ring.buffer
            ∧ (s.ring.intake = .blocked → s.ring.p ≠ s.ring.c → s.ring.reserved = false → s.ring.buffer.length < 32 →
                (s.ring.s - v).toNat + s.ring.buffer.length < 256 → t.ring.intake = .reading ∧ t.ring.reserved = true
                ∧ t.path.port = s.path.port.answered.joinOwned (.slotRead s.ring.c)))
        ∧ (256 < (s.ring.s - v).toNat → t.ring.u = s.ring.u ∧ t.ring.irq = s.ring.irq
            ∧ (s.ring.room = true → t.ring.buffer = s.ring.buffer ++
                [{ kind := .ringFault, byte1 := 1, dropped := s.ring.d, e0 := v.setWidth 32, e1 := s.ring.s.setWidth 32
                   e2 := s.ring.u.setWidth 32 }])))
  -- one write of both words (log entry 94)
  ∧ (∀ (s : State) (a : Addr) (ds : List Byte) (v w : Half),
      s.path.port.issued = some (.forwarded { acc := .write a ds, producer := some v, consumer := some w }) →
      let saneP : Prop := (v - s.ring.c).toNat ≤ 64
      let saneU : Prop := (s.ring.s - w).toNat ≤ 256
      let faults : List Record :=
        (if saneP then [] else [{ kind := .ringFault, byte1 := 0, e0 := v.setWidth 32, e1 := s.ring.c.setWidth 32
                                  e2 := s.ring.p.setWidth 32 }])
        ++ (if saneU then [] else [{ kind := .ringFault, byte1 := 1, e0 := w.setWidth 32, e1 := s.ring.s.setWidth 32
                                     e2 := s.ring.u.setWidth 32 }])
      let place (u : Half) : Prop := s.ring.reserved.toNat + (s.ring.s - u).toNat + s.ring.buffer.length < 256
        ∧ s.ring.reserved.toNat + s.ring.buffer.length < 32
      ∃ t, exec .commandProducerWrite s = .next t ∧ exec .statusConsumerWrite s = .next t
        ∧ t.path.answers = [.done []] ∧ t.mem = s.mem.put a.toNat ds ∧ t.ring.c = s.ring.c ∧ t.ring.s = s.ring.s
        ∧ t.ring.p = (if saneP then v else s.ring.p) ∧ t.ring.u = (if saneU then w else s.ring.u)
        ∧ t.ring.irq = (if saneU then s.ring.s != w else s.ring.irq)
        ∧ (s.ring.reserved.toNat + (s.ring.s - s.ring.u).toNat + s.ring.buffer.length + 3 ≤ 256 →
            s.ring.reserved.toNat + s.ring.buffer.length + 3 ≤ 32 →
            (t.ring.buffer.drop s.ring.buffer.length).map (fun r => { r with dropped := 0 }) = faults
            ∧ t.ring.buffer.take s.ring.buffer.length = s.ring.buffer)
        ∧ (saneP → saneU → s.ring.intake = .idle ∨ s.ring.intake = .blocked →
            (v = s.ring.c → t.ring.intake = .idle ∧ t.path.port = s.path.port.answered)
            ∧ (v ≠ s.ring.c → place s.ring.u ∨ place w → t.ring.intake = .reading ∧ t.ring.reserved = true
                ∧ t.path.port = s.path.port.answered.joinOwned (.slotRead s.ring.c))
            ∧ (v ≠ s.ring.c → ¬ place s.ring.u → ¬ place w →
                t.ring.intake = .blocked ∧ t.path.port = s.path.port.answered)))

/-- While memory owes no answer, the arbiter issues one access. Where both queues hold an access it is the head of the favoured
queue, and the favour passes to the other side; where one queue alone holds accesses it is that queue's head, and the favour
stays. An access joins its queue at the back, and an answer takes the access issued off the port; the arbiter issues after
both. A job of the pack engine, an assembler or the unpack engine puts its accesses into the part-owned queue, one after the
other: at the answer to one of them the next joins at the back, and memory comes to an access that stands behind such ones by
answering them in turn. That memory owes one answer at a time, and that a job has one access at the port, are the model's
choices: log entries 6 and 14. -/
def Obligations.ArbiterAlternatesWhileBothQueuesHoldAccesses : Prop :=
  ∀ (p : Port) (f : Forwarded) (fs : List Forwarded) (o : Owned) (os : List Owned),
    (∀ x, p.issued = some x → p.issue = p)
    ∧ (p.issued = none → p.fwdWait = f :: fs → p.ownWait = o :: os →
        (p.favoured = .forwarded → p.issue = { p with fwdWait := fs, issued := some (.forwarded f), favoured := .owned })
        ∧ (p.favoured = .owned → p.issue = { p with ownWait := os, issued := some (.owned o), favoured := .forwarded }))
    ∧ (p.issued = none → p.fwdWait = f :: fs → p.ownWait = [] →
        p.issue = { p with fwdWait := fs, issued := some (.forwarded f) })
    ∧ (p.issued = none → p.fwdWait = [] → p.ownWait = o :: os →
        p.issue = { p with ownWait := os, issued := some (.owned o) })
    ∧ (p.fwdWait = [] → p.ownWait = [] → p.issue = p)
    ∧ p.joinForwarded f = Port.issue { p with fwdWait := p.fwdWait ++ [f] }
    ∧ p.joinOwned o = Port.issue { p with ownWait := p.ownWait ++ [o] }
    ∧ p.answered = Port.issue { p with issued := none }
    ∧ (∀ (s : State) (e : Engine), s.startJob e = { s with path := { s.path with port := s.path.port.joinOwned (.job e) } })
    ∧ (∀ e, p.issued = some (.owned (.job e)) →
        p.passJob = Port.issue { p with issued := none, ownWait := p.ownWait ++ [.job e] }
        ∧ ∀ (want : Issued → Bool) x, want (.owned (.job e)) = false → p.passJob.issued = some x → want x = true →
            p.upTo want = p.passJob)
    ∧ (∀ (want : Issued → Bool) x, p.issued = some x → (want x = true ∨ ∀ e, x ≠ .owned (.job e)) → p.upTo want = p)

/-- Stray accesses (R179): an INGEST read, an INGEST write to a CLOSED stream and a RESTORE read to a FREE session are answered
DONE, reads with zero bytes. Each is counted, disarms its report flag, and changes neither memory nor any stream or session;
one that finds the flag armed, and room in the status ring, is reported. -/
def Obligations.StrayAccessesAreAnsweredDone : Prop :=
  ∀ (s : State) (a : Addr) (ds : List Byte) (n : Nat), (Access.read a n).shaped = true →
    (Access.write a ds).shaped = true →
    (∀ t, s.ingestTag a = some t →
      (∃ v, exec (.ingestRead a n) s = .next v ∧ v.path.answers = [.done (List.replicate n 0)]
        ∧ v.path.counters.strayIngest = s.path.counters.strayIngest.add 1 ∧ v.path.armedIngest = false
        ∧ v.path.armedRestore = s.path.armedRestore
        ∧ v.mem = s.mem ∧ v.streams = s.streams ∧ v.restore = s.restore ∧ v.chans = s.chans
        ∧ (s.path.armedIngest = true → s.ring.room = true → v.ring.buffer = s.ring.buffer ++
            [{ kind := .strayAccess, subject := 3, dropped := s.ring.d, e0 := w32 t.val, e1 := a.setWidth 32
               e2 := (a >>> 32).setWidth 32, e3 := 0, e4 := w32 n }])
        ∧ (s.path.armedIngest = false → v.ring = s.ring))
      ∧ ((s.stream t).state = .closed → ∃ v, exec (.ingestWrite a ds) s = .next v ∧ v.path.answers = [.done []]
        ∧ v.path.counters.strayIngest = s.path.counters.strayIngest.add 1 ∧ v.path.armedIngest = false
        ∧ v.mem = s.mem ∧ v.streams = s.streams ∧ v.restore = s.restore ∧ v.chans = s.chans
        ∧ (s.path.armedIngest = true → s.ring.room = true → v.ring.buffer = s.ring.buffer ++
            [{ kind := .strayAccess, subject := 3, dropped := s.ring.d, e0 := w32 t.val, e1 := a.setWidth 32
               e2 := (a >>> 32).setWidth 32, e3 := 1, e4 := w32 ds.length }])
        ∧ (s.path.armedIngest = false → v.ring = s.ring)))
    ∧ (∀ i, s.restoreSession a = some i → (s.session i).state = .free →
      ∃ v, exec (.restoreRead a n) s = .next v ∧ v.path.answers = [.done (List.replicate n 0)]
        ∧ v.path.counters.strayRestore = s.path.counters.strayRestore.add 1 ∧ v.path.armedRestore = false
        ∧ v.mem = s.mem ∧ v.streams = s.streams ∧ v.restore = s.restore ∧ v.chans = s.chans
        ∧ (s.path.armedRestore = true → s.ring.room = true → v.ring.buffer = s.ring.buffer ++
            [{ kind := .strayAccess, subject := 6, dropped := s.ring.d, e0 := w32 i.val, e1 := a.setWidth 32
               e2 := (a >>> 32).setWidth 32, e3 := 0, e4 := w32 n }])
        ∧ (s.path.armedRestore = false → v.ring = s.ring))

/-- An INGEST write to an OPEN stream without an active hold cause is taken whole and answered DONE where the bytes fit:
into the FILLING buffer; where they fill it to 4,096 bytes it is closed as the next chunk, and an EMPTY other buffer becomes
FILLING; where they run on, the rest goes into the other buffer, which was EMPTY. A write that finds no FILLING buffer, or
neither room in it nor an EMPTY other buffer, and one to a stream that is neither CLOSED nor OPEN, or that has an active hold
cause, is answered RETRY and changes nothing but the count. That the ingest byte count wraps at 2^64 is the model's choice: log
entry 104. That no grant of a pool wait is made within the event (R31) is the model's choice: log entry 105. -/
def Obligations.IngestWritesAreTakenWholeOrRetried : Prop :=
  ∀ (s : State) (a : Addr) (ds : List Byte) (t : Tag), (Access.write a ds).shaped = true → s.ingestTag a = some t →
    let x := s.stream t
    let retried := exec (.ingestWrite a ds) s = .next { s with path := { s.path with
        answers := [.retry], counters := { s.path.counters with retries := s.path.counters.retries.add 1 } } }
    (∀ k, x.state = .opened → (s.holdActive t).any = false → x.bufIn .filling = some k →
      (x.buf k).bytes.length ≤ 4096 →
      let used := (x.buf k).bytes.length
      let taken (y : Stream) : Prop :=
        ∃ v, exec (.ingestWrite a ds) s = .next v ∧ v.path.answers = [.done []] ∧ v.mem = s.mem ∧ v.chans = s.chans
          ∧ v.ring = s.ring ∧ v.loader = s.loader ∧ (∀ u, u ≠ t → v.stream u = s.stream u)
          ∧ v.stream t = { y with ingest := x.ingest + BitVec.ofNat 64 ds.length, ingested := x.ingested.add ds.length }
      let closed (bs : List Byte) (other : FillBuf) : Stream :=
        ({ x with nextSeq := x.nextSeq + 1 }.setBuf k
          { x.buf k with bytes := bs, state := .ready, seq := x.nextSeq, setend := false }).setBuf k.other other
      (used + ds.length < 4096 → taken (x.setBuf k { x.buf k with bytes := (x.buf k).bytes ++ ds }))
      ∧ (used + ds.length = 4096 →
          taken (closed ((x.buf k).bytes ++ ds)
            (if (x.buf k.other).state = .empty then { state := .filling } else x.buf k.other)))
      ∧ (4096 < used + ds.length → (x.buf k.other).state = .empty →
          taken (closed ((x.buf k).bytes ++ ds.take (4096 - used)) { state := .filling, bytes := ds.drop (4096 - used) }))
      ∧ (4096 < used + ds.length → (x.buf k.other).state ≠ .empty → retried))
    ∧ (x.state = .opened → x.bufIn .filling = none → retried)
    ∧ (x.state ≠ .closed → x.state ≠ .opened ∨ (s.holdActive t).any = true → retried)

/-! ## The ring unit -/

/-- The intake's test: a command is taken when one waits, none is in progress and a place can be reserved, and the read of its
slot joins the part's accesses; the intake is BLOCKED where no place can be reserved, and IDLE where no command waits. A slot
read that memory answers FAULT ends the command with FAILED and cause MEMORY, its tag 0; a kind that the manual does not list
ends it with UNKNOWN_KIND, the kind in E0. That the slot's bytes arrive with the answer, and that the kind of an unreadable
command's COMMAND_DONE is 0, are the model's choices: log entries 18 and 59. Further choices of the model are that memory owes
one answer at a time, and that COMMAND_TAKE is the intake's own test: log entries 6 and 58. -/
def Obligations.CommandsAreTakenAndUnreadableOnesEnd : Prop :=
  (∀ s : State, s.ring.intake = .idle ∨ s.ring.intake = .blocked →
    (s.ring.p ≠ s.ring.c → s.ring.room = true → exec .commandTake s = .next { s with
      ring := { s.ring with intake := .reading, reserved := true }
      path := { s.path with port := s.path.port.joinOwned (.slotRead s.ring.c) } })
    ∧ (s.ring.p ≠ s.ring.c → s.ring.room = false →
        exec .commandTake s = .next { s with ring := { s.ring with intake := .blocked } })
    ∧ (s.ring.p = s.ring.c → exec .commandTake s = .next { s with ring := { s.ring with intake := .idle } }))
  ∧ (∀ s : State, s.ring.intake = .reading ∨ s.ring.intake = .stopped → exec .commandTake s = .next s)
  ∧ (∀ s : State, s.ring.intake = .reading → s.path.port.issued = some (.owned (.slotRead s.ring.c)) →
      exec .commandSlotReadFault s = .next (s.atOwner.ownFault.endCommand 0 0 (.failed .memory) {} 0))
  ∧ (∀ (s : State) (tag : Half) (kind : Byte), s.takes (.unknownCommand tag kind) = true →
      exec (.unknownCommand tag kind) s = .next (s.atOwner.endCommand kind.toNat tag .unknownKind {} (kind.setWidth 32)))

/-- How the ending of a command acts, once its owner has acted: C advances and is written to its index word; the COMMAND_DONE
joins the buffer with the outcome, the tag, the kind, the cause or the unknown kind, the old C and the results; the
reservation clears; and the intake makes its test at once: where a command waits it takes it, with a new reservation and the
read of its slot, or is BLOCKED where no place is free. Nothing changes but the ring and the port. That a command is counted
after its owner has acted, and that memory owes one answer at a time, are the model's reading and choice: log entries 49 and
6. -/
def Obligations.CommandsEndWithTheirRecord : Prop :=
  ∀ (s : State) (kind : Nat) (tag : Half) (o : CmdOutcome) (r : Results) (extra : Word),
    let t := s.endCommand kind tag o r extra
    let more := s.ring.p ≠ s.ring.c + 1
    let room := (s.ring.s - s.ring.u).toNat + (s.ring.buffer.length + 1) < 256 ∧ s.ring.buffer.length + 1 < 32
    let ended := s.path.port.joinOwned (.commandIndex (s.ring.c + 1))
    let reported := if s.ring.buffer = [] then ended.joinOwned .statusWrite else ended
    s.blocksSame t ∧ s.portOnly t ∧ t.pending = s.pending ∧ t.drawn = s.drawn
      ∧ t.ring.c = s.ring.c + 1 ∧ t.ring.p = s.ring.p ∧ t.ring.s = s.ring.s ∧ t.ring.u = s.ring.u
      ∧ t.ring.irq = s.ring.irq ∧ t.ring.d = 0 ∧ t.ring.snapshot = s.ring.snapshot
      ∧ (¬ more → t.ring.intake = .idle ∧ t.ring.reserved = false ∧ t.path.port = reported)
      ∧ (more → room → t.ring.intake = .reading ∧ t.ring.reserved = true
          ∧ t.path.port = reported.joinOwned (.slotRead (s.ring.c + 1)))
      ∧ (more → ¬ room → t.ring.intake = .blocked ∧ t.ring.reserved = false ∧ t.path.port = reported)
      ∧ t.ring.buffer = s.ring.buffer ++
          [{ kind := .commandDone, byte1 := o.code, tag := tag, dropped := s.ring.d, subject := BitVec.ofNat 16 kind
             e0 := match o with | .failed c => w32 c.code | .unknownKind => extra | _ => 0
             e1 := s.ring.c.setWidth 32, e2 := r.e2, e3 := r.e3, e4 := r.e4, e5 := r.e5 }]
      ∧ t.ring.counters.taken = s.ring.counters.taken.add 1
      ∧ t.ring.counters.refused = s.ring.counters.refused.add (if o.refused then 1 else 0)
      ∧ t.ring.counters.failed = s.ring.counters.failed.add (match o with | .failed _ => 1 | _ => 0)

/-- An event record joins the buffer, with the dropped count, where a free place remains in the ring and in the buffer
beyond the reservation; otherwise it is dropped, and D and the records dropped counter rise (R186). Into an empty buffer it
issues the write of its slot (R187, R176). A COMMAND_DONE uses its reserved place, and takes D in the same way; its place is held
from the command's taking (R184).
That memory owes one answer at a time, and that COMMAND_TAKE is the intake's own test, are the model's choice and reading: log
entries 6 and 58. -/
def Obligations.EventRecordsJoinTheBufferOrAreDropped : Prop :=
  ∀ (s : State) (r : Record),
    let held := if s.ring.reserved = true then 1 else 0
    let places := 256 - (s.ring.s - s.ring.u).toNat - s.ring.buffer.length
    (held < places → held < 32 - s.ring.buffer.length → s.emit r = { s with
      ring := { s.ring with buffer := s.ring.buffer ++ [{ r with dropped := s.ring.d }], d := 0 }
      path := { s.path with
        port := if s.ring.buffer = [] then s.path.port.joinOwned .statusWrite else s.path.port } })
    ∧ (places ≤ held ∨ 32 - s.ring.buffer.length ≤ held → s.emit r = { s with
      ring := { s.ring with
        d := if s.ring.d = 65535 then 65535 else s.ring.d + 1
        counters := { s.ring.counters with dropped := s.ring.counters.dropped.add 1 } } })
    ∧ (∀ kind tag o res extra, ∃ done : Record,
        (s.endCommand kind tag o res extra).ring.buffer = s.ring.buffer ++ [done] ∧ done.kind = .commandDone
        ∧ done.dropped = s.ring.d ∧ (s.endCommand kind tag o res extra).ring.d = 0)
    ∧ (s.ring.intake = .idle ∨ s.ring.intake = .blocked → s.ring.p ≠ s.ring.c → s.ring.room = true →
      ∃ t, exec .commandTake s = .next t ∧ t.ring.reserved = true ∧ t.ring.buffer = s.ring.buffer)

/-- R187, R188: memory answers the write of the record at the buffer's head. DONE: its 32 bytes stand in status slot S mod
256 and no other byte changes; S advances, the interrupt line follows, and the new S joins the part's accesses as the write of
its index word. FAULT: the record is lost, S does not advance, the fault line is asserted, and memory is unchanged. Either way
the write of the next record is issued, and an intake that waits makes its test (R184).
R181, R187: memory answers the write of an index word. DONE: the word holds the value in its low two bytes and 0 above,
and no other byte changes. FAULT: the fault line is asserted, and no index and no byte changes.
That a FAULT leaves memory unchanged is the model's choice: log entry 11. Another choice of the model is that memory owes one
answer at a time: log entry 6. -/
def Obligations.StatusRecordsAndIndexWordsReachMemory : Prop :=
  (∀ (s : State) (r : Record) (rest : List Record), s.ring.buffer = r :: rest →
    s.path.port.issued = some (.owned .statusWrite) →
    let slot := s.controlBase + 0x1040 + 32 * (s.ring.s.toNat % 256)
    let follows (t : State) (port : Port) (owed : Nat) : Prop :=
      let port := if rest = [] then port else port.joinOwned .statusWrite
      let place : Prop := s.ring.reserved.toNat + owed + rest.length < 256 ∧ s.ring.reserved.toNat + rest.length < 32
      (s.ring.intake = .reading ∨ s.ring.intake = .stopped → t.ring.intake = s.ring.intake
        ∧ t.ring.reserved = s.ring.reserved ∧ t.path.port = port)
      ∧ (s.ring.intake = .idle ∨ s.ring.intake = .blocked →
        (s.ring.p = s.ring.c → t.ring.intake = .idle ∧ t.path.port = port)
        ∧ (s.ring.p ≠ s.ring.c → place → t.ring.intake = .reading ∧ t.ring.reserved = true
            ∧ t.path.port = port.joinOwned (.slotRead s.ring.c))
        ∧ (s.ring.p ≠ s.ring.c → ¬ place → t.ring.intake = .blocked ∧ t.path.port = port))
    (∃ t, exec (.statusRecordWriteAnswer true) s = .next t ∧ t.ring.s = s.ring.s + 1 ∧ t.ring.u = s.ring.u
      ∧ t.ring.c = s.ring.c ∧ t.ring.buffer = rest ∧ t.ring.irq = (s.ring.s + 1 != s.ring.u) ∧ t.ring.d = s.ring.d
      ∧ t.ring.counters.written = s.ring.counters.written.add 1 ∧ t.path.faultLine = s.path.faultLine
      ∧ (∀ k, k < 32 → t.mem.get (slot + k) = r.frame.getD k 0)
      ∧ (∀ x, x < slot ∨ slot + 32 ≤ x → t.mem.get x = s.mem.get x)
      ∧ follows t (s.path.port.answered.joinOwned (.statusIndex (s.ring.s + 1))) (s.ring.s + 1 - s.ring.u).toNat
      ∧ t.chans = s.chans ∧ t.streams = s.streams ∧ t.loader = s.loader ∧ t.pool = s.pool)
    ∧ (∃ t, exec (.statusRecordWriteAnswer false) s = .next t ∧ t.ring.s = s.ring.s ∧ t.ring.u = s.ring.u
      ∧ t.ring.c = s.ring.c ∧ t.ring.buffer = rest ∧ t.ring.irq = s.ring.irq
      ∧ t.ring.d = (if s.ring.d = 65535 then 65535 else s.ring.d + 1) ∧ t.path.faultLine = true
      ∧ t.path.counters.ringWriteFaults = s.path.counters.ringWriteFaults.add 1
      ∧ t.path.counters.ownFaults = s.path.counters.ownFaults.add 1
      ∧ follows t s.path.port.answered (s.ring.s - s.ring.u).toNat
      ∧ t.mem = s.mem ∧ t.chans = s.chans ∧ t.streams = s.streams ∧ t.loader = s.loader ∧ t.pool = s.pool))
  ∧ (∀ (s : State) (w : IndexWord) (v : Half),
      s.path.port.issued = some (.owned (match w with | .commandConsumer => .commandIndex v | .statusProducer => .statusIndex v)) →
      let word := s.controlBase + (match w with | .commandConsumer => 0x004 | .statusProducer => 0x008)
      (∃ t, exec (.indexWordWriteAnswer w true) s = .next t ∧ t.ring = s.ring ∧ t.chans = s.chans ∧ t.streams = s.streams
        ∧ t.loader = s.loader ∧ t.pool = s.pool ∧ t.path.port = s.path.port.answered
        ∧ (t.mem.get word).toNat + 256 * (t.mem.get (word + 1)).toNat = v.toNat
        ∧ t.mem.get (word + 2) = 0 ∧ t.mem.get (word + 3) = 0
        ∧ (∀ x, x < word ∨ word + 4 ≤ x → t.mem.get x = s.mem.get x))
      ∧ exec (.indexWordWriteAnswer w false) s = .next { s with path := { s.path with
          port := s.path.port.answered, faultLine := true
          counters := { s.path.counters with
            ownFaults := s.path.counters.ownFaults.add 1
            ringWriteFaults := s.path.counters.ringWriteFaults.add 1 } } })

/-- R190: SNAPSHOT samples one page into eight writes and is ACCEPTED; a page above 3, an unaligned destination, one whose 512
bytes lie neither outside every window nor in one PLAIN or CONTROL window, one that overlaps the rings, and one that reaches
beyond 40 address bits (log entry 48) give BAD_PARAM, and a snapshot in progress REFUSED_BUSY.
R190: memory answers one of a snapshot's eight writes: its 64 bytes stand in memory and no other byte changes. The last
answer writes SNAPSHOT_DONE, FAILED where any was FAULT. Word k of a page stands at byte 8 + 4k. Of the counter list it states
the counters of every group; C, P, S and U; the pool values; the sessions' next sequences; each stream's state, hold conditions,
active hold causes and suspend causes, with the last-served phase and whether a table is pending; and a mounted channel's
capacity counter, next sequence and blocks-moved count.
The model's choices and readings: that a FAULT leaves memory unchanged (log entry 11), and that the SNAPSHOT itself is not yet
among the commands taken (log entry 49). Further choices of the model are that the eight writes are eight accesses which stand
at the port at once (log entry 14), and that the timebase has 64 bits (log entry 20). -/
def Obligations.SnapshotsAreSampledAndWritten : Prop :=
  (∀ (s : State) (tag : Half) (p0 p1 p2 : Word),
    let u := s.atOwner
    let dest := p0.toNat + 4294967296 * p1.toNat
    let job : SnapshotJob :=
      { tag := tag, page := p2.toNat, dest := dest, data := u.snapshotBytes p2.toNat, answered := 0, faulted := false }
    let words (page start len : Nat) : List Word := ((u.page page).drop start).take len
    let place : Prop := dest + 512 ≤ 1099511627776 ∧
      ((∀ w ∈ s.path.windows, dest + 512 ≤ w.base ∨ w.base + w.size ≤ dest)
        ∨ ∃ w ∈ s.path.windows, w.base ≤ dest ∧ dest + 512 ≤ w.base + w.size
            ∧ (w.kind = .plain ∨ (w.kind = .control ∧ w.base + 0x3040 ≤ dest)))
    (3 < p2.toNat ∨ 255 < p1.toNat ∨ dest % 64 ≠ 0 ∨ ¬ place
        ∨ (disjoint s.path.windows = true ∧ ∃ w ∈ s.path.windows, w.kind = .control ∧ 16384 ≤ w.size ∧ w.base ≤ dest
            ∧ dest < w.base + 0x3040) →
      TurnedAway (.snapshot tag p0 p1 p2) 0x51 tag .badParam s)
    ∧ (p2.toNat ≤ 3 → dest % 64 = 0 → place → s.ring.snapshot.isSome = true →
      TurnedAway (.snapshot tag p0 p1 p2) 0x51 tag .refusedBusy s)
    ∧ (p2.toNat ≤ 3 → dest % 64 = 0 → place → s.ring.snapshot = none →
      Ends (.snapshot tag p0 p1 p2) 0x51 tag .accepted {} s
        { u with
          ring := { u.ring with snapshot := some job }
          path := { u.path with port := (List.replicate 8 Owned.snapshot).foldl Port.joinOwned u.path.port } })
    ∧ (∀ k < 4, (u.snapshotBytes k).length = 512 ∧ (u.snapshotBytes k).take 8 = leBytes 8 s.timebase
        ∧ (∀ n x, (u.page k)[n]? = some x → slice (u.snapshotBytes k) (8 + 4 * n) 4 = leBytes 4 x.toNat)
        ∧ (∀ n, 8 + 4 * (u.page k).length ≤ n → n < 512 → (u.snapshotBytes k)[n]? = some 0))
    ∧ ((u.page 0).length = 80 ∧ (u.page 1).length = 44 ∧ (u.page 2).length = 64 ∧ (u.page 3).length = 64)
    ∧ (let k := s.path.counters
       words 0 3 11 = [k.fwdReads, k.fwdWrites, k.fwdFaults, k.ownFaults, k.ringWriteFaults, k.malformed, k.refused,
         k.retries, k.partialIndex, k.strayIngest, k.strayRestore])
    ∧ words 0 14 2 = [w32 (s.ring.c.toNat + 65536 * s.ring.p.toNat), w32 (s.ring.s.toNat + 65536 * s.ring.u.toNat)]
    ∧ (let k := s.ring.counters
       words 0 17 7 = [k.taken, k.refused, k.failed, k.written, k.dropped, k.ringFaults, k.stallMs])
    ∧ (let p := s.pool
       words 0 24 11 = [w32 p.free.length, w32 p.reservation.length, w32 s.heldBackup, w32 s.heldReassembly,
         w32 p.records.length, w32 p.lowMark, p.waits, p.waitMs, p.retries, p.holdTransitions, p.memFaults])
    ∧ (∀ i : SessionId, (u.page 0)[39 + i.val]? = some (s.session i).nextSeq
        ∧ (u.page 0)[43 + i.val]? = some (s.session i).bytesDelivered ∧ (u.page 0)[47 + i.val]? = some (s.session i).damaged)
    ∧ words 0 51 4 = [s.restore.endsDone, s.restore.endsFailed, s.restore.endsCancelled, s.restore.awaitNexts]
    ∧ (let k := s.loader.counters
       words 0 62 18 = [k.orders, k.jams, k.timeouts, k.protocolErrors, k.strayReplies, k.manualChanges, k.badLabels,
         k.duplicateLabels, k.presses, k.powerFaults, k.endedDone, k.endedFailed, k.endedCancelled, k.droppedReqs, k.displaced,
         k.preempts, k.changeovers, k.cleanings])
    ∧ (∀ t : Tag, words 1 (8 + 4 * t.val) 4 =
        [(s.stream t).ingested, (s.stream t).chunks, (s.stream t).rawChunks, (s.stream t).heldMs])
    ∧ (∀ t : Tag,
        let x := s.stream t
        let bit (b : Bool) (n : Nat) : Nat := if b then n else 0
        let meets (c : Drive → Bool) : Bool := allDrives.any fun d => x.targets.has d && c d
        let verify := meets fun d => s.params.verifyLimit[d] ≤ (s.chan d).verifyList.length
        let target := meets fun d => (s.chan d).state != .write || (s.chan d).full.isSome
        let causes (pool verify : Bool) : Nat :=
          bit pool 1 + bit verify 2 + bit target 4 + bit x.admin 8 + bit (x.causeCommand || x.causePreempt) 16
        let active := if x.state = .closed then 0
          else causes (s.pool.hold && s.params.holdEnablePool == 1) (verify && s.params.holdEnableVerify == 1)
        (u.page 1)[t.val]? = some (w32 (x.state.code + 256 * causes s.pool.hold verify + 65536 * active
          + 16777216 * (bit x.causeCommand 1 + bit x.causePreempt 2))))
    ∧ (u.page 1)[43]? = some (w32 (s.pack.lastServed.val + 256 * s.pack.pendingTable.isSome.toNat))
    ∧ words 1 40 3 = [s.pack.encoded, s.pack.copied, s.pack.discardedJobs]
    ∧ (∀ d : Drive,
        let c := s.chan d
        let k := c.counters
        let r := c.reader.tallies
        (∀ m, c.mount = some m → words (2 + d.val) 2 2 = [m.capacity, m.nextSeq])
        ∧ (u.page (2 + d.val))[5]? = some c.blocksMoved
        ∧ (u.page (2 + d.val)).drop 22 = [k.sent, k.ghosts, k.resends, k.placed, k.split, k.closedSpace, k.closedSetEnd,
            k.closedFlush, k.closedEarly, k.closedAge, k.closedFull, k.saturations, k.stops, k.markRestarts, k.ageReleases,
            k.forcedRestarts, k.earlyCloses, k.shortReads, k.forcedUnmounts, k.verified, k.setsVerified, k.uncheckedSends,
            k.staleEmpty, k.staleDuplicate, k.staleWindow, k.damaged, k.mismatches, k.timeouts, k.goBacks, k.writeErrors,
            k.cutShort, k.unclaimed, r.blocksRead, r.accepted, r.bad, r.duplicates, r.skipped, r.gaps, r.missed, r.chunksGood,
            r.chunksBad, r.unchecked]))
  ∧ (∀ (s : State) (j : SnapshotJob) (ok : Bool), s.ring.snapshot = some j → j.answered ≤ 7 →
      j.data.length = 512 → s.path.port.issued = some (.owned .snapshot) →
      let at_ := j.dest + 64 * j.answered
      ∃ t, exec (.snapshotWriteAnswer ok) s = .next t ∧ t.chans = s.chans ∧ t.streams = s.streams ∧ t.loader = s.loader
        ∧ (ok = true → (∀ k, k < 64 → t.mem.get (at_ + k) = j.data.getD (64 * j.answered + k) 0)
            ∧ ∀ x, x < at_ ∨ at_ + 64 ≤ x → t.mem.get x = s.mem.get x)
        ∧ (ok = false → t.mem = s.mem ∧ t.path.counters.ownFaults = s.path.counters.ownFaults.add 1)
        ∧ (j.answered < 7 → t.ring.buffer = s.ring.buffer
            ∧ t.ring.snapshot = some { j with answered := j.answered + 1, faulted := j.faulted || !ok })
        ∧ (j.answered = 7 → t.ring.snapshot = none
            ∧ (s.ring.room = true → t.ring.buffer = s.ring.buffer ++
                [{ kind := .snapshotDone, byte1 := if j.faulted || !ok then 0x21 else 0, tag := j.tag, dropped := s.ring.d
                   subject := BitVec.ofNat 16 j.page, e0 := if j.faulted || !ok then 2 else 0, e1 := w32 j.dest
                   e2 := w32 (j.dest / 4294967296) }])))

/-- CLEAR_COUNTERS clears every counter of the groups that P0 selects, arms the stray reports again with the path group, starts
the low mark at the free page count with the pool group, and changes nothing else; a bit above 7 gives BAD_PARAM.
With the counters of milliseconds (ring stall time, pool wait time, held time) the parts of a millisecond that the model carries
for them are cleared. That these are carried and cleared so, and that the clearing command itself is counted after the
clearing, are the model's choices: log entries 19 and 49. -/
def Obligations.ClearCountersClearsTheGroupsSelected : Prop :=
  ∀ (s : State) (tag : Half) (p0 : Word),
    let u := s.atOwner
    let zero (group : Nat) (c : Counter) : Counter := if p0.getLsbD group then 0 else c
    let none_ (group : Nat) (micros : Nat) : Nat := if p0.getLsbD group then 0 else micros
    let clearedChan (group : Nat) (c : Channel) : Channel := if p0.getLsbD group then
        { c with counters := {}, reader := { c.reader with tallies := {}, firstBad := none } } else c
    let cleared : State := { u with
      path := { u.path with
        counters := if p0.getLsbD 0 then {} else u.path.counters
        armedIngest := p0.getLsbD 0 || u.path.armedIngest, armedRestore := p0.getLsbD 0 || u.path.armedRestore }
      ring := { u.ring with
        counters := if p0.getLsbD 1 then {} else u.ring.counters, stallMicros := none_ 1 u.ring.stallMicros }
      pool := { u.pool with
        lowMark := if p0.getLsbD 2 then u.pool.free.length else u.pool.lowMark
        waits := zero 2 u.pool.waits, waitMs := zero 2 u.pool.waitMs, retries := zero 2 u.pool.retries
        holdTransitions := zero 2 u.pool.holdTransitions, memFaults := zero 2 u.pool.memFaults
        waitMicros := none_ 2 u.pool.waitMicros }
      pack := { u.pack with
        encoded := zero 3 u.pack.encoded, copied := zero 3 u.pack.copied, discardedJobs := zero 3 u.pack.discardedJobs }
      streams := u.streams.map fun x => { x with
        ingested := zero 3 x.ingested, chunks := zero 3 x.chunks, rawChunks := zero 3 x.rawChunks, heldMs := zero 3 x.heldMs
        heldMicros := none_ 3 x.heldMicros }
      chans := #v[clearedChan 4 u.chans[0], clearedChan 5 u.chans[1]]
      restore := { u.restore with
        sessions := u.restore.sessions.map fun x => { x with
          bytesDelivered := zero 6 x.bytesDelivered, damaged := zero 6 x.damaged }
        endsDone := zero 6 u.restore.endsDone, endsFailed := zero 6 u.restore.endsFailed
        endsCancelled := zero 6 u.restore.endsCancelled, awaitNexts := zero 6 u.restore.awaitNexts }
      loader := { u.loader with counters := if p0.getLsbD 7 then {} else u.loader.counters } }
    (255 < p0.toNat → TurnedAway (.clearCounters tag p0) 0x52 tag .badParam s)
    ∧ (p0.toNat ≤ 255 → s.takes (.clearCounters tag p0) = true →
        exec (.clearCounters tag p0) s = .next (cleared.endCommand 0x52 tag .done {} 0))

/-- R192: GET_INFO completes with DONE and reports the part number, the revision and the image version, pool_pages, and the image
capacities in force. -/
def Obligations.GetInfoReportsThePart : Prop :=
  ∀ (s : State) (tag : Half),
    Ends (.getInfo tag) 0x53 tag .done
      { e2 := 2420, e3 := BitVec.ofNat 32 (3 + 65536 * s.path.imageVersion.toNat), e4 := BitVec.ofNat 32 s.path.poolPages
        e5 := BitVec.ofNat 32 (s.params.imageCapacity[0] + 65536 * s.params.imageCapacity[1]) } s s.atOwner

/-- An unknown id gives BAD_PARAM; a layout id, image_capacity outside UNMOUNTED and check_mode in WRITE give REFUSED_STATE;
otherwise the parameter takes the clamped value, reported in E2, with DONE_CLAMPED where it was changed. The clamped value is
the nearest one in the parameter's range, as 10.4 and the values of the other parameters at this moment give it, wherever that
range holds a value. -/
def Obligations.SetParamStoresTheClampedValue : Prop :=
  ∀ (s : State) (tag : Half) (p0 p1 : Word),
    let u := s.atOwner
    (Param.ofId p0.toNat = none → TurnedAway (.setParam tag p0 p1) 0x50 tag .badParam s)
    ∧ (∀ p, Param.ofId p0.toNat = some p →
      (p.isLayout = true ∨ (∃ d, p = .imageCapacity d ∧ (s.chan d).state ≠ .unmounted)
          ∨ (∃ d, p = .checkMode d ∧ (s.chan d).state = .write) →
        TurnedAway (.setParam tag p0 p1) 0x50 tag .refusedState s)
      ∧ (p.isLayout = false → (∀ d, p = .imageCapacity d → (s.chan d).state = .unmounted) →
          (∀ d, p = .checkMode d → (s.chan d).state ≠ .write) →
        let v := s.clampParam p p1.toNat
        let row := p.bounds s.path.poolPages (s.heldBackup + s.pool.reservation.length) s.path.imageLimit s.params
        (row.1 ≤ row.2 → row.1 ≤ v ∧ v ≤ row.2 ∧ (row.1 ≤ p1.toNat → p1.toNat ≤ row.2 → v = p1.toNat)
          ∧ (p1.toNat < row.1 → v = row.1) ∧ (row.2 < p1.toNat → v = row.2))
        ∧ ∃ t, Ends (.setParam tag p0 p1) 0x50 tag (if v = p1.toNat then .done else .doneClamped) { e2 := w32 v } s
            (u.settle t)
          ∧ t.params = s.params.set p v ∧ t.mem = s.mem ∧ t.timebase = s.timebase))

/-! ## Backup streams -/

/-- R45: the checks of OPEN_STREAM in their order, and the record of the stream that it opens. -/
def Obligations.OpenStreamStartsACleanRecord : Prop :=
  ∀ (s : State) (tag : Half) (p0 p1 p2 p3 : Word),
    let c := Instr.openStream tag p0 p1 p2 p3
    (7 < p0.toNat ∨ p2.toNat = 0 ∨ 3 < p2.toNat ∨ 1 < p3.toNat → TurnedAway c 0x10 tag .badParam s)
    ∧ ∀ (t : Tag) (tg : Targets) (pol : Policy), tagOf p0 = some t → targetsOf p2 = some tg → policyOf p3 = some pol →
      ((∃ o, o ≠ t ∧ (s.stream o).state ≠ .closed ∧ (s.stream o).setId = p1) → TurnedAway c 0x10 tag .badParam s)
      ∧ ((∀ o, o ≠ t → (s.stream o).state = .closed ∨ (s.stream o).setId ≠ p1) →
          ((s.stream t).state ≠ .closed ∨ s.targetFailed tg = true → TurnedAway c 0x10 tag .refusedState s)
          ∧ ((s.stream t).state = .closed → s.targetFailed tg = false →
            ∃ x : Stream, Ends c 0x10 tag .done {} s (s.atOwner.setStream t x)
              ∧ x.state = .opened ∧ x.setId = p1 ∧ x.targets = tg ∧ x.policy = pol ∧ x.ingest = 0 ∧ x.nextSeq = 0
              ∧ x.rawRun = 0 ∧ x.skip = 0 ∧ x.ingested = 0 ∧ x.chunks = 0 ∧ x.rawChunks = 0 ∧ x.heldMs = 0
              ∧ x.causeCommand = false ∧ x.causePreempt = false ∧ x.admin = false
              ∧ ((s.stream t).bufA.state = .empty → (s.stream t).bufB.state ≠ .filling →
                  x.bufA = { state := .filling } ∧ x.bufB = (s.stream t).bufB)
              ∧ ((s.stream t).bufA.state = .packing → (s.stream t).bufB.state = .empty →
                  x.bufA = (s.stream t).bufA ∧ x.bufB = { state := .filling })))

/-- R51: SUSPEND_STREAM adds COMMAND and RESUME_STREAM removes it; an OPEN stream becomes SUSPENDING and is tested for its
chunk boundary at once, and one whose last cause goes becomes OPEN.
R52: a SUSPENDING stream becomes SUSPENDED exactly when none of its buffers is READY or PACKING and none of its chunks
stands in a placement queue; STREAM_SUSPENDED tells the causes, the bytes of the FILLING buffer and the next sequence. -/
def Obligations.SuspensionStopsAtAChunkBoundary : Prop :=
  (∀ (s : State) (tag : Half) (p0 : Word),
    let u := s.atOwner
    let stop := Instr.suspendStream tag p0
    let go := Instr.resumeStream tag p0
    (tagOf p0 = none → TurnedAway stop 0x11 tag .badParam s ∧ TurnedAway go 0x12 tag .badParam s)
    ∧ ∀ t, tagOf p0 = some t →
      let x := s.stream t
      (x.state = .closed ∨ x.state = .ending →
        TurnedAway stop 0x11 tag .refusedState s ∧ TurnedAway go 0x12 tag .refusedState s)
      ∧ (x.state = .opened → x.causeCommand = false →
          EndsSettled stop 0x11 tag .done s
            ((u.setStream t { x with causeCommand := true, state := .suspending }).suspendTest t)
          ∧ EndsSettled go 0x12 tag .done s u)
      ∧ (x.state = .suspending ∨ x.state = .suspended → x.causeCommand = true →
          EndsSettled stop 0x11 tag .done s u
          ∧ (x.causePreempt = true → EndsSettled go 0x12 tag .done s (u.setStream t { x with causeCommand := false }))
          ∧ (x.causePreempt = false → ∃ y, EndsSettled go 0x12 tag .done s (u.setStream t y) ∧ y.state = .opened
              ∧ y.causeCommand = false ∧ y.nextSeq = x.nextSeq ∧ y.ingest = x.ingest
              ∧ ∀ k, x.bufIn .filling = some k → y.buf k = x.buf k)))
  ∧ (∀ (s : State) (t : Tag), (s.stream t).state = .suspending →
      let x := s.stream t
      let atBoundary := x.bufA.state ≠ .ready ∧ x.bufA.state ≠ .packing ∧ x.bufB.state ≠ .ready ∧ x.bufB.state ≠ .packing
        ∧ s.queued t = false
      (atBoundary → s.suspendTest t = (s.setStream t { x with state := .suspended }).emit
        { kind := .streamSuspended, subject := BitVec.ofNat 16 t.val
          e0 := w32 (x.causeCommand.toNat + 2 * x.causePreempt.toNat)
          e1 := w32 (match x.bufIn .filling with | some k => (x.buf k).bytes.length | none => 0), e2 := x.nextSeq })
      ∧ (¬ atBoundary → s.suspendTest t = s))

/-- R55: END_STREAM closes the FILLING buffer as the SETEND chunk, or sets final close pending, and the stream is ENDING. That no
grant of a pool wait is made within the event (R31) is the model's choice: log entry 105. -/
def Obligations.EndStreamClosesTheFinalChunk : Prop :=
  ∀ (s : State) (tag : Half) (p0 : Word),
    let c := Instr.endStream tag p0
    (tagOf p0 = none → TurnedAway c 0x13 tag .badParam s)
    ∧ ∀ t, tagOf p0 = some t →
      let x := s.stream t
      (x.state = .closed ∨ x.state = .suspending ∨ x.state = .ending → TurnedAway c 0x13 tag .refusedState s)
      ∧ (x.state = .opened ∨ x.state = .suspended → ∃ y : Stream,
          EndsSettled c 0x13 tag .accepted s ((s.atOwner.setStream t y).packChoose)
          ∧ y.state = .ending ∧ y.endTag = some tag ∧ y.ingest = x.ingest ∧ y.causeCommand = x.causeCommand
          ∧ y.causePreempt = x.causePreempt
          ∧ (∀ k, x.bufIn .filling = some k → y.buf k = { x.buf k with state := .ready, seq := x.nextSeq, setend := true }
              ∧ y.buf k.other = x.buf k.other ∧ y.nextSeq = x.nextSeq + 1 ∧ y.finalClose = x.finalClose)
          ∧ (x.bufIn .filling = none → y.finalClose = true ∧ y.bufA = x.bufA ∧ y.bufB = x.bufB
              ∧ y.nextSeq = x.nextSeq))

/-- R57, R58: ABORT_STREAM closes one stream and RESET_STREAMS every one. A FILLING or READY buffer is emptied, a PACKING
one is discarded with its job, its chunks leave the placement queues, which gain none, and no other stream and no byte of
memory changes. STREAM_ABORTED joins the buffer behind the other records of the event, where there is room for them all.
RESET_STREAMS leaves the arbitration as it is. That STREAM_ABORTED comes behind the other records is the model's reading (log
entry 78); that no grant of a pool wait is made within the event (R31) is its choice (log entry 105). -/
def Obligations.AbortsCloseStreams : Prop :=
  ∀ (s : State) (tag : Half) (p0 : Word),
    (tagOf p0 = none → TurnedAway (.abortStream tag p0) 0x14 tag .badParam s)
    ∧ (∀ t, tagOf p0 = some t → (s.stream t).state = .closed →
        TurnedAway (.abortStream tag p0) 0x14 tag .refusedState s)
    ∧ (∀ t, tagOf p0 = some t → (s.stream t).state ≠ .closed → ∃ v,
        EndsSettled (.abortStream tag p0) 0x14 tag .done s v ∧ v.mem = s.mem ∧ v.params = s.params
        ∧ (v.stream t).state = .closed ∧ (v.stream t).causeCommand = false ∧ (v.stream t).causePreempt = false
        ∧ (v.stream t).admin = false ∧ (v.stream t).setId = (s.stream t).setId
        ∧ (∀ k, ((s.stream t).buf k).state ≠ .packing → (v.stream t).buf k = {})
        ∧ (∀ k, ((s.stream t).buf k).state = .packing → ((v.stream t).buf k).state = .packing
            ∧ ((v.stream t).buf k).discarded = true)
        ∧ (∀ o, o ≠ t → v.stream o = s.stream o)
        ∧ (∀ j, s.pack.job = some j → v.pack.job = some { j with discarded := j.discarded || j.tag == t })
        ∧ (∀ (d : Drive) id, id ∈ (v.chan d).placeQueue → id ∈ (s.chan d).placeQueue)
        ∧ (∀ (d : Drive) id r, id ∈ (v.chan d).placeQueue → v.findRec id = some r → r.role ≠ .backup t)
        ∧ (let x := s.stream t
           let records := (s.chan 0).placeQueue.length + (s.chan 1).placeQueue.length + 3
           records ≤ s.ring.freePlaces → s.ring.buffer.length + records ≤ 32 → ∃ n, v.ring.buffer.getLast? = some
            { kind := .streamAborted, byte1 := 1, subject := BitVec.ofNat 16 t.val, dropped := n, e0 := x.setId, e1 := x.nextSeq
              e2 := x.ingest.setWidth 32, e3 := (x.ingest >>> 32).setWidth 32, e4 := 0xFFFFFFFF }))
    ∧ (∃ v, EndsSettled (.resetStreams tag) 0x18 tag .done s v ∧ v.mem = s.mem ∧ v.params = s.params
        ∧ (∀ t, (v.stream t).state = .closed) ∧ v.pack.table = s.pack.table
        ∧ v.pack.pendingTable = s.pack.pendingTable ∧ v.pack.lastServed = s.pack.lastServed
        ∧ (∀ t (d : Drive) id r, (s.stream t).state ≠ .closed → id ∈ (v.chan d).placeQueue → v.findRec id = some r →
            r.role ≠ .backup t))

/-- R53, R54: HOLD_STREAM sets ADMIN and RELEASE_STREAM clears it, in any state but CLOSED; SET_TARGETS of a SUSPENDED stream, and
the outcomes that turn it away. -/
def Obligations.AdminAndTargetsAreSet : Prop :=
  (∀ (s : State) (tag : Half) (p0 : Word),
    let u := s.atOwner
    (tagOf p0 = none → TurnedAway (.holdStream tag p0) 0x15 tag .badParam s
      ∧ TurnedAway (.releaseStream tag p0) 0x16 tag .badParam s)
    ∧ ∀ t, tagOf p0 = some t →
      let x := s.stream t
      (x.state = .closed → TurnedAway (.holdStream tag p0) 0x15 tag .refusedState s
        ∧ TurnedAway (.releaseStream tag p0) 0x16 tag .refusedState s)
      ∧ (x.state ≠ .closed →
        Ends (.holdStream tag p0) 0x15 tag .done {} s (u.setStream t { x with admin := true })
        ∧ Ends (.releaseStream tag p0) 0x16 tag .done {} s (u.setStream t { x with admin := false })
        ∧ ((u.setStream t { x with admin := true }).holdActive t).admin = true))
  ∧ (∀ (s : State) (tag : Half) (p0 p1 : Word),
      let c := Instr.setTargets tag p0 p1
      (7 < p0.toNat ∨ p1.toNat = 0 ∨ 3 < p1.toNat → TurnedAway c 0x17 tag .badParam s)
      ∧ ∀ t tg, tagOf p0 = some t → targetsOf p1 = some tg →
        ((s.stream t).state ≠ .suspended ∨ (∃ d, tg.has d = true ∧ (s.chan d).state = .failed) →
          TurnedAway c 0x17 tag .refusedState s)
        ∧ ((s.stream t).state = .suspended → (∀ d, tg.has d = true → (s.chan d).state ≠ .failed) →
          Ends c 0x17 tag .done {} s (s.atOwner.setStream t { s.stream t with targets := tg })))

/-! ## The pack engine -/

/-- SET_ARB_TABLE makes a whole table pending: phase 4k + j from byte j of word k; a value above 7 or a tag left out gives
BAD_PARAM. The search serves the first phase after the last-served one whose tag has a READY buffer; a step from phase 15 to
phase 0 installs the pending table, whose entries the phases from 0 on are served by. The choice that a search makes is kept
with its phase and the table in force. That the choice itself starts no job, also where the pages and a record are there, is
the model's choice: log entry 105. -/
def Obligations.ArbitrationServesTheNextReadyPhase : Prop :=
  (∀ (s : State) (tag : Half) (p0 p1 p2 p3 : Word),
    let c := Instr.setArbTable tag p0 p1 p2 p3
    let phase (i : Nat) : Nat := (([p0, p1, p2, p3].getD (i / 4) 0).toNat / 256 ^ (i % 4)) % 256
    ((∃ i < 16, 7 < phase i) ∨ (∃ t < 8, ∀ i < 16, phase i ≠ t) → TurnedAway c 0x19 tag .badParam s)
    ∧ ((∀ i < 16, phase i ≤ 7) → (∀ t < 8, ∃ i < 16, phase i = t) → ∃ v : Vector Tag 16, (∀ i : Fin 16, (v[i]).val = phase i.val)
        ∧ Ends c 0x19 tag .done {} s { s.atOwner with pack := { s.pack with pendingTable := some v } }))
  ∧ (∀ (s : State) (n : Nat), 1 ≤ n → n ≤ 16 →
    let phase (i : Nat) : Fin 16 := ⟨(s.pack.lastServed.val + i) % 16, by omega⟩
    let wrapped (i : Nat) : Bool := 16 ≤ s.pack.lastServed.val + i
    let table (i : Nat) : Vector Tag 16 := if wrapped i then s.pack.pendingTable.getD s.pack.table else s.pack.table
    let pending := if wrapped n then none else s.pack.pendingTable
    (∀ i, 1 ≤ i → i < n → (s.stream (table i)[phase i]).readyBuf = none) →
    ∀ k, (s.stream (table n)[phase n]).readyBuf = some k →
      s.search 32 s.pack.lastServed s.pack.table s.pack.pendingTable
          = some ((table n)[phase n], k, phase n, table n, pending)
        ∧ (s.pack.job = none → s.pack.chosen = none →
          let v := s.packChoose
          v.pack.chosen = some ((table n)[phase n], k) ∧ v.pack.lastServed = phase n ∧ v.pack.table = table n
            ∧ v.pack.pendingTable = pending ∧ v.pack.job = none ∧ v.streams = s.streams ∧ v.chans = s.chans ∧ v.mem = s.mem))

/-- R31, R14: a grant gives the chosen buffer its pages from the head of the free list and a chunk record, and the job
starts in the mode that its stream's policy and skip count give, which a start of a stream with policy PACK lowers by 1, but
for an empty chunk (R19); without the pages or the records the request waits, and the wait is counted once. That one
access of a job stands at the memory port for all its writes is the model's choice: log entry 14. Another choice of the model
is that a grant is made at POOL_GRANT alone: log entry 105. -/
def Obligations.PoolGrantStartsTheChosenJob : Prop :=
  ∀ (s : State) (t : Tag) (k : BufId), s.pack.chosen = some (t, k) → s.pack.job = none → s.pack.draining = none →
    let x := s.stream t
    let n := (x.buf k).bytes.length
    let need := (10 + n + 511) / 512
    (need ≤ s.usable → 64 < s.freeRecords → ∃ v, exec .poolGrant s = .next v
      ∧ v.pool.reservation = s.pool.free.take need ∧ v.pool.free = s.pool.free.drop need
      ∧ (v.stream t).buf k = { x.buf k with state := .packing } ∧ (v.stream t).buf k.other = x.buf k.other
      ∧ (v.stream t).skip = (if x.policy = .pack ∧ 0 < n then x.skip - 1 else x.skip) ∧ (v.stream t).rawRun = x.rawRun
      ∧ (v.stream t).policy = x.policy ∧ (v.stream t).state = x.state ∧ (v.stream t).nextSeq = x.nextSeq
      ∧ (∀ o, o ≠ t → v.stream o = s.stream o) ∧ v.pack.chosen = none ∧ v.pack.waiting = false
      ∧ (∃ j, v.pack.job = some j ∧ j.tag = t ∧ j.buf = k ∧ j.input = (x.buf k).bytes ∧ j.discarded = false
          ∧ (j.mode = .encode ↔ x.policy = .pack ∧ x.skip = 0 ∧ 0 < n) ∧ (j.mode ≠ .encode → j.mode = .copy)
          ∧ v.pack.encoded = s.pack.encoded.add (if j.mode = .encode then 1 else 0)
          ∧ v.pack.copied = s.pack.copied.add (if j.mode = .encode then 0 else 1)
          ∧ ∃ r ∈ v.pool.records, r.id = j.record ∧ r.state = .packing ∧ r.role = .backup t ∧ r.setId = x.setId
              ∧ r.seq = (x.buf k).seq ∧ r.pages = [])
      ∧ v.jobAtPort .pack
      ∧ v.mem = s.mem ∧ v.chans = s.chans ∧ v.loader = s.loader ∧ v.restore = s.restore)
    ∧ (s.usable < need ∨ s.freeRecords ≤ 64 →
        exec .poolGrant s = .next (if s.pack.waiting then s else { s with
          pack := { s.pack with waiting := true }, pool := { s.pool with waits := s.pool.waits.add 1 } }))

/-- R20, R32, R63: the completion of a job that is not discarded, with no target FAILED: the stored chunk stands in the
first pages of the reservation and no byte outside them changes, the surplus returns, and the chunk joins the placement queue
of every target. The buffer is EMPTY, or FILLING where the other one is neither FILLING nor EMPTY, or READY as the empty final
chunk of an ENDING stream whose final close is pending. The skip-mode counts follow R19, and the chunk is counted, as a RAW
one where it did not shrink. The moment at which the bytes reach memory, and that one access of a job stands at the memory
port for all its writes, are the model's choices: log entries 13 and 14. Another choice of the model is that no grant for the
buffer chosen next is made within the event (R31): log entry 105. -/
def Obligations.PackCompletionHandsTheChunkOff : Prop :=
  ∀ (s : State) (j : PackJob) (r : ChunkRec), s.pack.job = some j → s.hasJob .pack = true → j.discarded = false →
    s.findRec j.record = some r → r.pages = [] →
    (∀ d ∈ (s.stream j.tag).targets.list, (s.chan d).state ≠ .failed) →
    let stored := storedChunk j.mode j.setend j.input
    let count := (stored.length + 511) / 512
    ∃ v, exec .packCompletion s = .next (s.settle v) ∧ v.pack.job = none ∧ v.pool.reservation = []
      ∧ v.pool.free = s.pool.free ++ s.pool.reservation.drop count
      ∧ (∃ r', v.findRec j.record = some r' ∧ r'.pages = s.pool.reservation.take count ∧ r'.state = .packed
          ∧ r'.outstanding = (s.stream j.tag).targets.count ∧ r'.check = some (crc32 j.input))
      ∧ (s.pool.reservation.Nodup → count ≤ s.pool.reservation.length → ∀ k, k < stored.length →
          v.mem.get (s.pageAddr (s.pool.reservation.getD (k / 512) 0) + k % 512) = stored.getD k 0)
      ∧ (∀ x, (∀ p ∈ s.pool.reservation.take count, x < s.pageAddr p ∨ s.pageAddr p + 512 ≤ x) →
          v.mem.get x = s.mem.get x)
      ∧ (∀ d : Drive, (v.chan d).placeQueue =
          (s.chan d).placeQueue ++ (if (s.stream j.tag).targets.has d then [j.record] else []))
      ∧ (let x := s.stream j.tag
         let y := v.stream j.tag
         let packed := (packBody j.mode j.input).1
         let other := x.buf j.buf.other
         y.chunks = x.chunks.add 1 ∧ y.rawChunks = x.rawChunks.add (if packed then 0 else 1)
          ∧ (packed = true ↔ j.mode = .encode ∧ (packBody j.mode j.input).2.length < j.input.length)
          ∧ (j.mode = .copy → y.rawRun = x.rawRun ∧ y.skip = x.skip)
          ∧ (j.mode = .encode → packed = true → y.rawRun = 0 ∧ y.skip = x.skip)
          ∧ (j.mode = .encode → packed = false → x.rawRun = 7 → y.rawRun = 0 ∧ y.skip = 64)
          ∧ (j.mode = .encode → packed = false → x.rawRun ≠ 7 → y.rawRun = x.rawRun + 1 ∧ y.skip = x.skip)
          ∧ (x.state = .ending → x.finalClose = true → y.finalClose = false ∧ y.nextSeq = x.nextSeq + 1
              ∧ y.buf j.buf = { state := .ready, bytes := [], seq := x.nextSeq, setend := true } ∧ y.buf j.buf.other = other)
          ∧ (x.state = .closed ∨ (x.state = .ending ∧ x.finalClose = false) ∨ (x.state ≠ .ending ∧ other.state = .filling) →
              y.buf j.buf = {} ∧ y.buf j.buf.other = other)
          ∧ (x.state ≠ .closed → x.state ≠ .ending → other.state = .ready ∨ other.state = .packing →
              y.buf j.buf = { state := .filling } ∧ y.buf j.buf.other = other))
      ∧ (∀ o, o ≠ j.tag → v.stream o = s.stream o) ∧ v.restore = s.restore ∧ v.params = s.params

/-- R20, R33: a FAULT answer ends the job, aborts its stream unless it is discarded, and keeps its reservation and record
until its writes are answered; then both return. A discarded job aborts no stream: its own one keeps its state, and no record is
written, but that one SUSPENDING may reach its chunk boundary. No other stream is touched, and memory is unchanged.
That memory stays and that the job ends before the abort are the model's choices: log entries 11 and 38. Another choice of the
model is that no grant of a pool wait is made within the event (R31): log entry 105. -/
def Obligations.PackWriteFaultAbortsTheStream : Prop :=
  ∀ s : State,
    (∀ j, s.pack.job = some j → s.hasJob .pack = true → ∃ v, exec .packWriteFault s = .next (s.settle v)
      ∧ v.pack.job = none ∧ v.pack.draining = some j.record ∧ v.mem = s.mem
      ∧ v.pack.discardedJobs = s.pack.discardedJobs.add 1
      ∧ v.pool.reservation = s.pool.reservation
      ∧ v.path.counters.ownFaults = s.path.counters.ownFaults.add 1
      ∧ v.pool.memFaults = s.pool.memFaults.add 1
      ∧ (∀ r, s.findRec j.record = some r → (∀ d, j.record ∉ (s.chan d).placeQueue) →
          ∃ r', v.findRec j.record = some r' ∧ r'.pages = r.pages ∧ r'.state = r.state ∧ r'.role = r.role)
      ∧ (∀ o, o ≠ j.tag → v.stream o = s.stream o)
      ∧ (j.discarded = false → (v.stream j.tag).state = .closed)
      ∧ (j.discarded = true →
          (v.stream j.tag).setId = (s.stream j.tag).setId ∧ (v.stream j.tag).targets = (s.stream j.tag).targets
          ∧ v.chans = s.chans ∧ v.pool.records = s.pool.records
          ∧ ((s.stream j.tag).state ≠ .suspending →
              (v.stream j.tag).state = (s.stream j.tag).state ∧ v.ring.buffer = s.ring.buffer)
          ∧ ((s.stream j.tag).state = .suspending →
              (v.stream j.tag).state = .suspending ∨ (v.stream j.tag).state = .suspended)))
    ∧ (∀ id r, s.pack.draining = some id → s.hasJob .pack = true → s.findRec id = some r → r.pages = [] → ∃ v,
        exec .packFaultReservationReturn s = .next v ∧ v.pack.draining = none ∧ v.pool.reservation = []
        ∧ v.findRec id = none ∧ v.pool.free = s.pool.free ++ s.pool.reservation ∧ v.mem = s.mem
        ∧ v.streams = s.streams ∧ v.chans = s.chans)

/-! ## The chunk pool -/

/-- R42: a test of the POOL hold turns it ON below pool_hold_on and OFF from pool_hold_off upward, changes no page, buffer or
channel, and reports each transition where the status ring has room. -/
def Obligations.PoolHoldFollowsTheUsableCount : Prop :=
  ∀ s : State,
    let t := s.holdTest
    t.pool.hold = (if s.pool.hold then decide (s.usable < s.params.poolHoldOff) else decide (s.usable < s.params.poolHoldOn))
    ∧ t.pool.free = s.pool.free ∧ t.mem = s.mem ∧ t.streams = s.streams ∧ t.chans = s.chans
    ∧ (t.pool.hold = s.pool.hold → t = s)
    ∧ (t.pool.hold ≠ s.pool.hold → s.ring.room = true → t.ring.buffer = s.ring.buffer ++
        [{ kind := .poolHold, byte1 := if t.pool.hold then 1 else 0, dropped := s.ring.d, e0 := w32 s.usable
           e1 := w32 s.freePages, e2 := w32 s.params.restoreReserve }])

/-- R26 for the operations that free: the pages free, reserved and held number the same after a give-up, and after a return of
the reservation; a record whose last placement is given up is FREE, with its pages at the tail of the free list. That no grant
of a pool wait is made within the event (R31) is the model's choice: log entry 105. -/
def Obligations.GiveUpsConserveThePages : Prop :=
  ∀ (s : State) (id : Nat) (r : ChunkRec), s.pool.records.Pairwise (fun a b => a.id ≠ b.id) → s.findRec id = some r →
    let pages (t : State) : Nat :=
      t.pool.free.length + t.pool.reservation.length + (t.pool.records.map fun x => x.pages.length).sum
    pages (s.giveUp id) = pages s ∧ pages s.returnReservation = pages s ∧ (s.giveUp id).mem = s.mem
      ∧ (r.outstanding ≤ 1 → (s.giveUp id).findRec id = none ∧ (s.giveUp id).pool.free = s.pool.free ++ r.pages)
      ∧ (1 < r.outstanding → (s.giveUp id).pool.free = s.pool.free
          ∧ (s.giveUp id).findRec id = some { r with outstanding := r.outstanding - 1 })

/-! ## Drive channels -/

/-- R67 to R69, R107, R119: MOUNTED and SET_MODE: what turns them away, and the mode that the channel enters. -/
def Obligations.MountedAndSetModeEnterTheirMode : Prop :=
  ∀ (s : State) (tag : Half) (p0 p1 p2 p3 p4 p5 p6 p7 : Word) (d : Drive),
    let c := s.chan d
    let mounted := Instr.mounted tag p0 p1 p2 p3 p4 p5 p6 p7
    let setMode := Instr.setMode tag p0 p1 p2 p3
    let entered (v : State) (m options first : Word) : Prop :=
      v.mem = s.mem ∧ v.params = s.params ∧ (∀ e, e ≠ d → v.chan e = s.chan e)
      ∧ (m = 0 → (v.chan d).state = .idle)
      ∧ (m = 1 → (v.chan d).state = .write ∧ (v.chan d).occupancy = 0 ∧ (v.chan d).changeoverAsked = false
          ∧ (v.chan d).checkPeriod = (s.params.checkMode[d] == 1))
      ∧ (m = 2 → (v.chan d).state = .read ∧ (v.chan d).reader.running = true
          ∧ (v.chan d).reader.verify = options.getLsbD 0
          ∧ (v.chan d).reader.expected = (if options.getLsbD 1 then none else some first)
          ∧ (v.chan d).reader.tallies = {} ∧ (v.chan d).reader.recovering = false
          ∧ ∀ i, (s.session i).drive = some d → (s.session i).state = .waitRead ∨ (s.session i).state = .awaitNext →
              (s.session i).final = false →
              (v.session i).state = .active ∧ (v.session i).stall = some s.timebase)
    (1 < p0.toNat ∨ 3 < p1.toNat ∨ 2 < p5.toNat → TurnedAway mounted 0x20 tag .badParam s)
    ∧ (1 < p0.toNat ∨ 2 < p1.toNat → TurnedAway setMode 0x21 tag .badParam s)
    ∧ (p0.toNat = d.val → p1.toNat ≤ 3 → p5.toNat ≤ 2 →
        (c.state ≠ .mounting → c.state ≠ .idle → TurnedAway mounted 0x20 tag .refusedState s)
        ∧ (c.state = .mounting → c.cleaningMark = true → TurnedAway mounted 0x20 tag .refusedState s)
        ∧ ((c.state = .mounting ∧ c.cleaningMark = false) ∨ c.state = .idle → ∃ v, EndsSettled mounted 0x20 tag .done s v
          ∧ entered v p5 p6 p7 ∧ (v.chan d).mountTimer = none
          ∧ ∃ m, (v.chan d).mount = some m ∧ m.size.val = p1.toNat ∧ m.nextSeq = p2 ∧ m.capacity = p3 ∧ m.session = p4))
    ∧ (p0.toNat = d.val → p1.toNat ≤ 2 →
        ((c.state = .idle ∧ p1 = 0) ∨ (c.state = .write ∧ p1 = 1) ∨ (c.state = .read ∧ p1 = 2) →
          EndsSettled setMode 0x21 tag .done s s.atOwner)
        ∧ (c.state = .idle → p1 ≠ 0 → c.mount = none → TurnedAway setMode 0x21 tag .refusedState s)
        ∧ (c.state = .idle → p1 ≠ 0 → c.mount.isSome = true → ∃ v, EndsSettled setMode 0x21 tag .done s v
          ∧ entered v p1 p2 p3 ∧ (v.chan d).mount = c.mount)
        ∧ (c.state = .write → p1 = 0 → c.drained = false → TurnedAway setMode 0x21 tag .refusedBusy s)
        ∧ (c.state = .write → p1 = 0 → c.drained = true → ∃ v, EndsSettled setMode 0x21 tag .done s v
          ∧ (v.chan d).state = .idle ∧ (v.chan d).full = none ∧ (v.chan d).running = false ∧ (v.chan d).occupancy = 0
          ∧ (v.chan d).mount = c.mount ∧ (v.chan d).placeQueue = c.placeQueue ∧ v.mem = s.mem)
        ∧ (c.state = .read → p1 = 0 → ∃ v, EndsSettled setMode 0x21 tag .done s v ∧ (v.chan d).state = .idle
          ∧ (v.chan d).reader.running = false ∧ (v.chan d).mount = c.mount ∧ v.mem = s.mem)
        ∧ ((c.state = .write ∧ p1 = 2) ∨ (c.state = .read ∧ p1 = 1)
            ∨ (c.state ≠ .idle ∧ c.state ≠ .write ∧ c.state ≠ .read) → TurnedAway setMode 0x21 tag .refusedState s))

/-- R85, R79: FLUSH releases the regulator and asks the close of what the channel holds; EARLY_WARNING sets FULL with reason
WARNING. In UNMOUNTING both complete and change nothing; in any other state but WRITE they are refused. -/
def Obligations.FlushAndEarlyWarningReleaseTheRegulator : Prop :=
  ∀ (s : State) (tag : Half) (p0 : Word) (d : Drive),
    let c := s.chan d
    let flush := Instr.flush tag p0
    let warn := Instr.earlyWarning tag p0
    (1 < p0.toNat → TurnedAway flush 0x22 tag .badParam s ∧ TurnedAway warn 0x23 tag .badParam s)
    ∧ (p0.toNat = d.val →
      (c.state ≠ .write → c.state ≠ .unmounting →
        TurnedAway flush 0x22 tag .refusedState s ∧ TurnedAway warn 0x23 tag .refusedState s)
      ∧ (c.state = .unmounting → EndsSettled flush 0x22 tag .done s s.atOwner ∧ EndsSettled warn 0x23 tag .done s s.atOwner)
      ∧ (c.state = .write → ∃ v, EndsSettled flush 0x22 tag .done s v ∧ v.mem = s.mem ∧ v.ring = s.ring
          ∧ v.streams = s.streams ∧ (∀ e, e ≠ d → v.chan e = s.chan e)
          ∧ (v.chan d).running = true ∧ (v.chan d).images = c.images ∧ (v.chan d).held = c.held
          ∧ (v.chan d).placeQueue = c.placeQueue
          ∧ (v.chan d).counters.forcedRestarts = c.counters.forcedRestarts.add (if c.running then 0 else 1)
          ∧ (∀ i, c.assembling = some i → 0 < i.frags → c.activity = .idle → c.closeAsked = none →
              (v.chan d).activity = .closing .flush)
          ∧ (∀ p, c.activity = .placing p → c.assembling.isSome = true → c.closeAsked = none →
              (v.chan d).closeAsked = some .flush ∧ (v.chan d).activity = .placing p)
          ∧ (c.assembling = none → (v.chan d).activity = c.activity ∧ (v.chan d).closeAsked = c.closeAsked))
      ∧ (c.state = .write → c.full.isSome = true → EndsSettled warn 0x23 tag .done s s.atOwner)
      ∧ (c.state = .write → c.full = none → ∃ v, EndsSettled warn 0x23 tag .done s v ∧ v.mem = s.mem
          ∧ v.streams = s.streams ∧ (∀ e, e ≠ d → v.chan e = s.chan e)
          ∧ (v.chan d).full = some .warning ∧ (v.chan d).running = true ∧ (v.chan d).images = c.images
          ∧ (s.ring.room = true → ∀ m, c.mount = some m → v.ring.buffer = s.ring.buffer ++
              [{ kind := .channelFull, dropped := s.ring.d, subject := BitVec.ofNat 16 d.val, e0 := m.capacity
                 e1 := m.nextSeq, e2 := 1 }])))

/-- R116, R114, R119: END_OF_DATA stops the reader of a channel in READ normally, its collecting sessions await the next
cartridge, and the channel becomes IDLE with its mount values. R40: such a session keeps its queue and its delivery buffer,
loses its REASSEMBLING records, and a chunk of its in the unpack engine goes on as a discarded job (the model's reading, against
the order of R121: log entry 63). R115: a verify pass ends with its VERIFY_SUMMARY, and a clean one clears the SUSPECT mark of
the bay's cartridge; that it reads its tallies as a CLEAR_COUNTERS may have left them is the model's choice (log entry 64).
R157, R158, R159: UNMOUNT by channel state, with the EJECT_READY of each entry to EJECT_WAIT. A channel in WRITE that holds
nothing any more drains at once. That EJECT_READY has E0 = 0 also at an UNMOUNT with FORCE of a channel in IDLE, MOUNTING,
UNMOUNTED or READ is the model's reading (log entry 26); that no grant of a pool wait is made within the event (R31) is its
choice (log entry 105). -/
def Obligations.EndOfDataAndUnmountEndTheUseOfACartridge : Prop :=
  (∀ (s : State) (tag : Half) (p0 : Word) (d : Drive),
    let c := s.chan d
    let space (n : Nat) : Prop :=
      s.ring.reserved.toNat + n ≤ s.ring.freePlaces ∧ s.ring.reserved.toNat + s.ring.buffer.length + n ≤ 32
    let news (v : State) : List Record := (v.ring.buffer.drop s.ring.buffer.length).map fun r => { r with dropped := 0 }
    let owned := (s.pool.records.filter fun r => r.role == .verify d && (r.state == .complete || r.state == .decoding
      || (r.state == .reassembling && 0 < r.committed))).length
    let counted : Tallies := { c.reader.tallies with unchecked := c.reader.tallies.unchecked.add owned }
    let clean : Prop := counted.accepted ≠ 0 ∧ counted.gaps = 0 ∧ counted.chunksBad = 0 ∧ counted.unchecked = 0
      ∧ c.reader.recovering = false
    (1 < p0.toNat → TurnedAway (.endOfData tag p0) 0x24 tag .badParam s)
    ∧ (p0.toNat = d.val → c.state ≠ .read → TurnedAway (.endOfData tag p0) 0x24 tag .refusedState s)
    ∧ (p0.toNat = d.val → c.state = .read → c.reader.running = true → ∃ v,
        EndsSettled (.endOfData tag p0) 0x24 tag .done s v ∧ v.mem = s.mem ∧ v.streams = s.streams
        ∧ (v.chan d).state = .idle ∧ (v.chan d).mount = c.mount ∧ (v.chan d).reader.running = false
        ∧ (v.chan d).reader.verify = false ∧ (v.chan d).reader.rx = {} ∧ (v.chan d).reader.expected = c.reader.expected
        ∧ (v.chan d).reader.pendingVerify = none ∧ (v.chan d).reader.verifyQueue = []
        ∧ (c.reader.verify = false → (v.chan d).reader.tallies = c.reader.tallies ∧ v.bayCart d = s.bayCart d)
        ∧ (c.reader.verify = true → (∀ r ∈ s.pool.records, r.created = true → r.state = .reassembling ∧ r.committed = 0) →
          (v.chan d).reader.tallies = counted
          ∧ (clean → v.bayCart d = (s.bayCart d).map fun k => { k with suspect := false })
          ∧ (¬ clean → v.bayCart d = s.bayCart d)
          ∧ (s.params.poolHoldOn ≤ s.params.poolHoldOff → space 3 → ∃ m ∈ news v, m.kind = .verifySummary
              ∧ (clean → m.byte1 = if c.reader.firstBad.isSome then 5 else 1)
              ∧ (¬ clean → m.byte1 = if c.reader.firstBad.isSome then 4 else 0)
              ∧ m.subject = BitVec.ofNat 16 d.val ∧ m.e0 = counted.blocksRead ∧ m.e1 = counted.chunksGood
              ∧ m.e2 = counted.chunksBad ∧ m.e3 = w32 (min counted.bad.toNat 65535 + 65536 * min counted.gaps.toNat 65535)
              ∧ m.e4 = counted.missed ∧ m.e5 = c.reader.firstBad.getD 0))
        ∧ (∀ i, (s.session i).drive = some d → (s.session i).state = .active → (s.session i).final = false →
            (v.session i).state = .awaitNext ∧ (v.session i).nextSeq = (s.session i).nextSeq
            ∧ (v.session i).stall = none ∧ (v.session i).pendingRec = none
            ∧ (v.session i).queue = (s.session i).queue ∧ (v.session i).buffer = (s.session i).buffer
            ∧ (∀ j, s.restore.job = some j → j.requester = .session i → v.restore.job = some { j with discarded := true })
            ∧ (∀ r ∈ v.pool.records, r.role = .restore i → r.state ≠ .reassembling))
        ∧ (∀ i, (s.session i).drive ≠ some d → v.session i = s.session i)))
  ∧ (∀ (s : State) (tag : Half) (force : Bool) (p0 : Word) (d : Drive),
      let c := s.chan d
      let cmd := Instr.unmount tag force p0
      let space (n : Nat) : Prop :=
        s.ring.reserved.toNat + n ≤ s.ring.freePlaces ∧ s.ring.reserved.toNat + s.ring.buffer.length + n ≤ 32
      let news (v : State) : List Record := (v.ring.buffer.drop s.ring.buffer.length).map fun r => { r with dropped := 0 }
      let ejected : ChanState := if s.bayPos d = .on then .ejectWait else .unmounted
      let ready (v : State) (forced : Nat) (left : ChanState) : Prop :=
        { kind := .ejectReady, subject := BitVec.ofNat 16 d.val, e0 := w32 forced
          e1 := w32 (match v.bayCart d with | some k => k.suspect.toNat | none => 0), e2 := w32 left.code } ∈ news v
      let empty : Prop := c.images = [] ∧ c.held = none ∧ c.activity = .idle
      (1 < p0.toNat → TurnedAway cmd 0x25 tag .badParam s)
      ∧ (p0.toNat = d.val →
        (c.state = .failed ∨ (c.state = .mounting ∧ c.cleaningMark = true)
            ∨ (c.state = .unmounted ∧ (s.bayPos d ≠ .on ∨ s.bayCart d = none)) →
          TurnedAway cmd 0x25 tag .refusedState s)
        ∧ (c.state = .ejectWait ∨ (c.state = .unmounting ∧ force = false) → ∃ v, EndsSettled cmd 0x25 tag .done s v
            ∧ v.chans = s.chans ∧ v.streams = s.streams ∧ v.ring = s.ring ∧ v.mem = s.mem ∧ v.pool = s.pool
            ∧ v.restore = s.restore ∧ v.loader.locs = s.loader.locs ∧ v.loader.queue = s.loader.queue ∧ v.picker = s.picker)
        ∧ (c.state = .idle ∨ (c.state = .mounting ∧ c.cleaningMark = false) → ∃ v, EndsSettled cmd 0x25 tag .done s v
            ∧ (v.chan d).state = ejected ∧ (v.chan d).mountTimer = none ∧ v.mem = s.mem ∧ v.streams = s.streams
            ∧ (space 2 → ready v 0 c.state)
            ∧ (∀ e, e ≠ d → { v.chan e with reader := (s.chan e).reader } = s.chan e))
        ∧ (c.state = .unmounted → s.bayPos d = .on → (s.bayCart d).isSome = true → ∃ v, EndsSettled cmd 0x25 tag .done s v
            ∧ (v.chan d).state = .ejectWait ∧ v.mem = s.mem ∧ v.streams = s.streams ∧ (space 2 → ready v 0 c.state)
            ∧ (v.chan d).ejectTimer = some (s.timebase + timeoutMicros s.params.mountTimeout))
        ∧ (c.state = .read → ∃ v, EndsSettled cmd 0x25 tag .done s v ∧ (v.chan d).state = ejected
            ∧ (v.chan d).reader.running = false ∧ v.mem = s.mem ∧ v.streams = s.streams
            ∧ (s.params.poolHoldOn ≤ s.params.poolHoldOff → space 12 → ready v 0 c.state))
        ∧ (c.state = .write → force = false → ¬ empty → ∃ v, EndsSettled cmd 0x25 tag .done s v
            ∧ (v.chan d).state = .unmounting ∧ (v.chan d).running = true ∧ (v.chan d).full = none
            ∧ (v.chan d).images = c.images ∧ (v.chan d).placeQueue = c.placeQueue ∧ v.mem = s.mem ∧ v.streams = s.streams)
        ∧ (c.state = .write → force = false → empty → ∃ v, EndsSettled cmd 0x25 tag .done s v
            ∧ (v.chan d).state = ejected ∧ (v.chan d).running = false ∧ (v.chan d).occupancy = 0 ∧ (v.chan d).full = none
            ∧ (v.chan d).stale = none ∧ (v.chan d).placeQueue = c.placeQueue ∧ (space 3 → ready v 0 .unmounting)
            ∧ v.mem = s.mem ∧ v.streams = s.streams)
        ∧ (c.state = .write ∨ c.state = .unmounting → force = true → ∃ v, EndsSettled cmd 0x25 tag .done s v
            ∧ (v.chan d).state = ejected ∧ (v.chan d).images = [] ∧ (v.chan d).verifyList = [] ∧ (v.chan d).held = none
            ∧ (v.chan d).cursor = none ∧ (v.chan d).running = false ∧ (v.chan d).occupancy = 0 ∧ (v.chan d).stale = none
            ∧ (v.chan d).counters.forcedUnmounts = c.counters.forcedUnmounts.add 1
            ∧ (∀ t, (s.stream t).targets.has d = true → (v.stream t).state = .closed)
            ∧ (c.images ≠ [] ∨ c.held.isSome = true → ∀ k, v.bayCart d = some k → k.suspect = true)
            ∧ (s.params.poolHoldOn ≤ s.params.poolHoldOff → space 24 → ready v 1 c.state) ∧ v.mem = s.mem)))

/-- R88: RESET_CHANNEL returns a channel to a clean state from any state, closes the streams that target it and ends the
sessions attached to it. -/
def Obligations.ResetChannelCleansAnyState : Prop :=
  ∀ (s : State) (tag : Half) (p0 : Word) (d : Drive),
    (1 < p0.toNat → TurnedAway (.resetChannel tag p0) 0x28 tag .badParam s)
    ∧ (p0.toNat = d.val → ∃ v, EndsSettled (.resetChannel tag p0) 0x28 tag .done s v ∧ v.mem = s.mem
      ∧ v.params = s.params
      ∧ (let c := v.chan d
         c.images = [] ∧ c.nextSlot = 0 ∧ c.placeQueue = [] ∧ c.held = none ∧ c.activity = .idle ∧ c.cursor = none
          ∧ c.verifyList = [] ∧ c.stale = none ∧ c.running = false ∧ c.occupancy = 0 ∧ c.full = none
          ∧ c.changeoverAsked = false ∧ c.firstFault = none ∧ c.drainTimer = none ∧ c.readbackTimer = false
          ∧ c.mountTimer = none ∧ c.ejectTimer = none ∧ c.cleanTimer = none ∧ c.reader.running = false
          ∧ ((s.bayCart d).isSome = true → c.state = .idle ∧ c.mount = (s.chan d).mount)
          ∧ (s.bayCart d = none → c.state = .unmounted ∧ c.mount = none))
      ∧ (∀ t, (s.stream t).targets.has d = true → (v.stream t).state = .closed)
      ∧ (∀ i, (s.session i).drive = some d → (v.session i).state = .free)
      ∧ ((s.chan d).images ≠ [] ∨ (s.chan d).held.isSome = true → ∀ k, v.bayCart d = some k → k.suspect = true))

/-- R71 to R73: PLACEMENT_START places the head of the placement queue, fragment 0 alone if it fits and cut to the space
left otherwise; without an ASSEMBLING image it opens one in the next slot with the next block sequence. The rest of a held
chunk goes before it, as fragment 1 with LAST, in the ASSEMBLING image or in one opened for it, also while FULL is set and in
UNMOUNTING. A chunk with SETEND that meets an image with 8 set-end marks closes it first.
R73: PLACEMENT_END: the fragment header and the chunk's bytes stand behind the image's payload, and no other byte of
memory changes; the image counts the fragment. A LAST fragment gives up the channel's placement of the chunk (R34), which frees
the chunk's record and pages where no target is left; where the chunk has SETEND, an ENDING stream then ends, with STREAM_ENDED
(R56). R75: CLOSE_END: the header, the zero padding and the CRC trailer stand in the
block, its payload and every byte outside it are unchanged, and the image is QUEUED.
The moment at which the bytes reach memory, that one access of a placement or a close stands at the memory port for all of
them, and that a placement starts at PLACEMENT_START, are the model's choices: log entries 13, 14 and 108. Another choice of the
model is that no grant of a pool wait is made within the event (R31): log entry 105. -/
def Obligations.AssemblerPlacesAndClosesImages : Prop :=
  (∀ (s : State) (d : Drive) (id : Nat) (rest : List Nat) (r : ChunkRec),
    let c := s.chan d
    let size := 10 + r.bodyLen.getD 0
    let fragment (space : Nat) : Placement :=
      { record := id, number := 0, last := decide (12 + size ≤ space), start := 0
        len := if 12 + size ≤ space then size else space - 12 }
    c.state = .write → c.full = none → c.activity = .idle → c.held = none → c.placeQueue = id :: rest →
    s.findRec id = some r →
    (∀ i, c.assembling = some i → ¬ (r.setend = some true ∧ i.marks.length = 8) → ∃ v,
      exec (.placementStart d) s = .next (s.settle v) ∧ v.mem = s.mem ∧ (v.chan d).placeQueue = rest
      ∧ (v.chan d).activity = .placing (fragment (capacityOf c.size - i.payload)) ∧ (v.chan d).images = c.images
      ∧ v.jobAtPort (.assembler d))
    ∧ (∀ i, c.assembling = some i → r.setend = some true → i.marks.length = 8 → c.closeAsked = none → ∃ v,
      exec (.placementStart d) s = .next (s.settle v) ∧ v.mem = s.mem ∧ (v.chan d).activity = .closing .setEndLimit
      ∧ (v.chan d).placeQueue = c.placeQueue ∧ (v.chan d).images = c.images ∧ v.jobAtPort (.assembler d))
    ∧ (∀ m, c.assembling = none → c.mount = some m → (∀ i ∈ c.images, i.slot ≠ c.nextSlot) → ∃ v,
      exec (.placementStart d) s = .next (s.settle v) ∧ v.mem = s.mem ∧ (v.chan d).placeQueue = rest
      ∧ (v.chan d).activity = .placing (fragment (capacityOf c.size)) ∧ (v.chan d).mount = some { m with nextSeq := m.nextSeq + 1 }
      ∧ (v.chan d).nextSlot = (if c.nextSlot + 1 < s.params.imageCapacity[d] then c.nextSlot + 1 else 0)
      ∧ (v.chan d).images = c.images ++ [{ slot := c.nextSlot, state := .assembling, seq := m.nextSeq
                                           openTime := s.timebase, frags := 0, payload := 0, marks := [], sends := 0
                                           trailer := 0 }]))
  ∧ (∀ (s : State) (d : Drive) (id start : Nat) (r : ChunkRec),
      let c := s.chan d
      let rest : Placement :=
        { record := id, number := 1, last := true, start := start, len := 10 + r.bodyLen.getD 0 - start }
      c.state = .write ∨ c.state = .unmounting → c.activity = .idle → c.held = some (id, start) → s.findRec id = some r →
      (∀ i, c.assembling = some i → ¬ (r.setend = some true ∧ i.marks.length = 8) → ∃ v,
        exec (.placementStart d) s = .next (s.settle v) ∧ v.mem = s.mem ∧ (v.chan d).activity = .placing rest
        ∧ (v.chan d).placeQueue = c.placeQueue ∧ (v.chan d).held = c.held ∧ (v.chan d).images = c.images
        ∧ v.jobAtPort (.assembler d))
      ∧ (∀ m, c.assembling = none → c.mount = some m → (∀ i ∈ c.images, i.slot ≠ c.nextSlot) → ∃ v,
        exec (.placementStart d) s = .next (s.settle v) ∧ v.mem = s.mem ∧ (v.chan d).activity = .placing rest
        ∧ (v.chan d).placeQueue = c.placeQueue ∧ (v.chan d).held = c.held
        ∧ (v.chan d).mount = some { m with nextSeq := m.nextSeq + 1 }
        ∧ (v.chan d).images = c.images ++ [{ slot := c.nextSlot, state := .assembling, seq := m.nextSeq
                                             openTime := s.timebase, frags := 0, payload := 0, marks := [], sends := 0
                                             trailer := 0 }]
        ∧ v.jobAtPort (.assembler d)))
  ∧ (∀ (s : State) (d : Drive) (i : Image),
      let c := s.chan d
      let base := s.slotAddr d i.slot
      let size := blockSize c.size
      let space (n : Nat) : Prop :=
        s.ring.reserved.toNat + n ≤ s.ring.freePlaces ∧ s.ring.reserved.toNat + s.ring.buffer.length + n ≤ 32
      let news (v : State) : List Record := (v.ring.buffer.drop s.ring.buffer.length).map fun r => { r with dropped := 0 }
      s.hasJob (.assembler d) = true → c.abandoned = [] → c.assembling = some i → s.memorySound →
      (∀ p r, c.activity = .placing p → s.findRec p.record = some r →
        let bytes := fragHeader r.setId r.seq p.len p.last p.number ++ s.chunkBytes r.pages p.start p.len
        let at_ := base + 16 + i.payload
        ∃ v, exec (.placementEnd d) s = .next (s.settle v)
          ∧ (∀ k, k < bytes.length → v.mem.get (at_ + k) = bytes.getD k 0)
          ∧ (∀ x, x < at_ ∨ at_ + bytes.length ≤ x → v.mem.get x = s.mem.get x)
          ∧ (v.chan d).held = (if p.last then none else some (r.id, p.len))
          ∧ ∃ i' ∈ (v.chan d).images, i'.slot = i.slot ∧ i'.frags = i.frags + 1 ∧ i'.payload = i.payload + 12 + p.len
              ∧ i'.marks = (if p.last = true ∧ r.setend = some true then i.marks ++ [r.setId] else i.marks)
          ∧ (v.chan d).counters.placed = c.counters.placed.add p.last.toNat
          ∧ (v.chan d).counters.split = c.counters.split.add (!p.last).toNat
          ∧ (p.last = false → v.findRec p.record = some { r with state := .placing } ∧ v.streams = s.streams
              ∧ v.pool.free = s.pool.free)
          ∧ (p.last = true → s.pool.records.Pairwise (fun a b => a.id ≠ b.id) →
            (1 < r.outstanding → v.findRec p.record = some { r with state := .placing, outstanding := r.outstanding - 1 }
              ∧ v.streams = s.streams ∧ v.pool.free = s.pool.free)
            ∧ (r.outstanding ≤ 1 → v.findRec p.record = none ∧ v.pool.free = s.pool.free ++ r.pages
              ∧ (∀ t, r.role = .backup t →
                let x := s.stream t
                (∀ o, o ≠ t → v.stream o = s.stream o)
                ∧ (r.setend ≠ some true ∨ r.orphan = true ∨ x.state ≠ .ending → v.stream t = x)
                ∧ (r.setend = some true → r.orphan = false → x.state = .ending → (v.stream t).state = .closed
                  ∧ (space 4 →
                      { kind := .streamEnded, tag := x.endTag.getD 0, subject := BitVec.ofNat 16 t.val, e0 := x.setId
                        e1 := x.nextSeq, e2 := x.ingest.setWidth 32, e3 := (x.ingest >>> 32).setWidth 32 } ∈ news v))))))
      ∧ (∀ reason, c.activity = .closing reason → 16 + i.payload + 4 ≤ size →
        ∃ v, exec (.closeEnd d) s = .next (s.settle v)
          ∧ (∀ k, k < 16 → v.mem.get (base + k) = (blockHeader c.size i.frags i.seq c.writeSession i.payload).getD k 0)
          ∧ (∀ k, k < i.payload → v.mem.get (base + 16 + k) = s.mem.get (base + 16 + k))
          ∧ (∀ k, 16 + i.payload ≤ k → k < size - 4 → v.mem.get (base + k) = 0)
          ∧ (∀ x, x < base ∨ base + size ≤ x → v.mem.get x = s.mem.get x)
          ∧ (v.chan d).activity = .idle
          ∧ ∃ i' ∈ (v.chan d).images, i'.slot = i.slot ∧ i'.state = .queued
              ∧ i'.trailer = crc32 ((List.range (size - 4)).map fun k => v.mem.get (base + k))
              ∧ ∀ k, k < 4 → v.mem.get (base + (size - 4) + k) = (beBytes 4 i'.trailer.toNat).getD k 0))

/-- R86, R87: a memory fault of the assembler, a mount timeout and an eject timeout make a channel FAILED: the first fault is
captured, the write side stops with its images kept, the streams that target the channel close and the sessions attached to
it end. A memory fault for a placement or a close that was abandoned is counted and changes nothing else. Memory is unchanged.
That a timeout comes exactly at its deadline, or at once when that has passed, that a write answered FAULT leaves memory as it
was, and that the writes of an activity answered before it have not reached memory yet, are the model's choices: log entries
3, 11 and 13. Further choices of the model are that an abandoned activity's access is answered before the current one's (log
entry 40), and that one access of an activity stands at the port (log entry 14). -/
def Obligations.FailuresStopAChannel : Prop :=
  ∀ (s : State) (d : Drive) (acc : AsmAccess) (t : Nat),
    let c := s.chan d
    let failed (v : State) (cause : Cause) : Prop :=
      (v.chan d).state = .failed ∧ (v.chan d).images = c.images ∧ (v.chan d).verifyList = c.verifyList
      ∧ (v.chan d).placeQueue = [] ∧ (v.chan d).held = none ∧ (v.chan d).activity = .idle ∧ (v.chan d).cursor = none
      ∧ (v.chan d).running = false ∧ (v.chan d).occupancy = 0 ∧ (v.chan d).full = none
      ∧ (v.chan d).changeoverAsked = false ∧ (v.chan d).drainTimer = none ∧ (v.chan d).mountTimer = none
      ∧ (v.chan d).ejectTimer = none ∧ (v.chan d).readbackTimer = false ∧ (v.chan d).reader.running = false
      ∧ (∀ x, (s.stream x).targets.has d = true → (v.stream x).state = .closed)
      ∧ (∀ i, (s.session i).drive = some d → (v.session i).state = .free) ∧ v.mem = s.mem
      ∧ ∃ f, (v.chan d).firstFault = some f
          ∧ (c.firstFault = none → f.cause = cause ∧ f.time = v.timebase)
          ∧ (∀ g, c.firstFault = some g → f = g)
    let faults (v : State) : Prop := v.path.counters.ownFaults = s.path.counters.ownFaults.add 1
      ∧ v.pool.memFaults = s.pool.memFaults.add (match acc with | .chunkRead => 1 | .imageWrite => 0)
    (∀ a rest, s.hasJob (.assembler d) = true → c.abandoned = a :: rest → a.isSome = true ∨ acc = .imageWrite → ∃ v,
      exec (.assemblerMemoryFault d acc) s = .next v ∧ faults v ∧ v.chans = s.chans ∧ v.streams = s.streams ∧ v.mem = s.mem
      ∧ v.restore = s.restore ∧ v.ring = s.ring ∧ v.loader = s.loader)
    ∧ (c.state ≠ .failed →
    (s.hasJob (.assembler d) = true → c.abandoned = [] →
      (∃ p, c.activity = .placing p) ∨ (∃ r, c.activity = .closing r) ∧ acc = .imageWrite → ∃ v,
      exec (.assemblerMemoryFault d acc) s = .next (s.settle v) ∧ failed v .memory ∧ faults v)
    ∧ (c.mountTimer = some t → ∃ v, exec (.mountTimeout d) s = .next (s.settle v) ∧ failed v .mountTimeout
      ∧ v.timebase = max s.timebase t)
    ∧ (c.ejectTimer = some t → ∃ v, exec (.ejectTimeout d) s = .next (s.settle v) ∧ failed v .ejectTimeout
      ∧ v.timebase = max s.timebase t))

/-- R81 to R83: a drain expiry takes one from E and restarts the timer while E stays above 0; in WRITE the expiry that empties
a RUNNING regulator counts a stop. An age release makes a STOPPED regulator RUNNING.
That an expiry comes exactly at its deadline, or at once when that has passed, is the model's choice: log entry 3. -/
def Obligations.RegulatorTimersDrainAndRelease : Prop :=
  ∀ (s : State) (d : Drive) (t : Nat),
    let c := s.chan d
    (c.drainTimer = some t → 1 ≤ c.occupancy → ∃ v, exec (.drainTimerExpiry d) s = .next (s.settle v)
      ∧ (v.chan d).occupancy = c.occupancy - 1 ∧ v.timebase = max s.timebase t
      ∧ (v.chan d).drainTimer = (if 1 < c.occupancy then some (max t s.timebase + s.params.drainInterval[d]) else none)
      ∧ (c.state = .unmounting → (v.chan d).running = c.running)
      ∧ (c.state = .write → c.running = true → (v.chan d).counters.stops =
          c.counters.stops.add (if c.occupancy = 1 then 1 else 0))
      ∧ (1 < c.occupancy → (v.chan d).running = c.running)
      ∧ (v.chan d).images = c.images ∧ v.mem = s.mem ∧ v.ring.buffer = s.ring.buffer)
    ∧ (c.state = .write → c.running = false → s.ageDue d = some t → ∃ v, exec (.ageRelease d) s = .next (s.settle v)
      ∧ (v.chan d).running = true ∧ (v.chan d).counters.ageReleases = c.counters.ageReleases.add 1
      ∧ v.timebase = max s.timebase t ∧ (v.chan d).images = c.images ∧ v.mem = s.mem
      ∧ (∀ i, c.assembling = some i → 0 < i.frags → c.activity = .idle → c.closeAsked = none →
          (v.chan d).activity = .closing .age))

/-- R76 to R78: a TAPE_OUT read by channel state; the answer of memory that advances a send, completes it, or fails the
channel. A completion lowers the capacity counter, counts the block moved (R162) and raises E (R81). After a ghost send nothing
else of the channel changes. Otherwise, with check mode ON, the image joins the verify list (R92); with it OFF the image is FREE
at once, with a SET_VERIFIED of byte 1 UNCHECKED for each of its set-end marks (R91, R98), and in UNMOUNTING the last image
freed so completes the drain (R158).
A read taken while another is outstanding waits, which the hypotheses leave out: log entry 12. That the blocks-moved count stays
at its greatest value, and that a channel which a load has taken out of FAILED answers by its state too, are the model's choice
and reading: log entries 103 and 23. -/
def Obligations.TapeOutReadsServeTheOldestImage : Prop :=
  ∀ (s : State) (a : Addr) (n : Nat) (d : Drive), (Access.read a n).shaped = true → s.tapeOutDrive a = some d →
    let c := s.chan d
    let answered (x : Answer) : State := { s with path := { s.path with
      answers := [x]
      counters := { s.path.counters with retries := s.path.counters.retries.add (if x = .retry then 1 else 0) } } }
    let space (n : Nat) : Prop :=
      s.ring.reserved.toNat + n ≤ s.ring.freePlaces ∧ s.ring.reserved.toNat + s.ring.buffer.length + n ≤ 32
    let news (v : State) : List Record := (v.ring.buffer.drop s.ring.buffer.length).map fun r => { r with dropped := 0 }
    (c.read = none →
      (c.state = .unmounted ∨ c.state = .ejectWait ∨ c.state = .failed →
        exec (.tapeOutRead a n) s = .next (answered .fault))
      ∧ (c.state = .mounting ∨ c.state = .idle ∨ c.state = .read → exec (.tapeOutRead a n) s = .next (answered .retry))
      ∧ (c.state = .write ∨ c.state = .unmounting →
        (c.cursor = none → c.running = false ∨ c.oldestQueued = none →
          exec (.tapeOutRead a n) s = .next (answered .retry))
        ∧ (∀ k, c.cursor = some k → ∃ v, exec (.tapeOutRead a n) s = .next (s.settle v) ∧ v.mem = s.mem
          ∧ (v.chan d).read = some { len := n, slot := k.slot, offset := k.offset, live := true }
          ∧ (v.chan d).images = c.images ∧ (v.chan d).cursor = c.cursor)
        ∧ (∀ i, c.cursor = none → c.running = true → c.oldestQueued = some i → ∃ v,
          exec (.tapeOutRead a n) s = .next (s.settle v) ∧ v.mem = s.mem
          ∧ (v.chan d).cursor = some { slot := i.slot, offset := 0, ghost := false }
          ∧ (v.chan d).read = some { len := n, slot := i.slot, offset := 0, live := true }
          ∧ (∃ i' ∈ (v.chan d).images, i'.slot = i.slot ∧ i'.state = .sending))))
    ∧ (∀ r k, s.path.port.issued = some (.owned (.imageRead d)) → c.read = some r → c.cursor = some k → r.live = true →
        c.waitingReads = [] →
      (k.offset + r.len < blockSize c.size → ∃ v, exec (.imageReadAnswer d true) s = .next (s.settle v)
        ∧ v.path.answers = [.done (padTo r.len (s.peek (s.slotAddr d r.slot + r.offset)
            (min r.len (blockSize c.size - r.offset))))]
        ∧ (v.chan d).cursor = some { k with offset := k.offset + r.len } ∧ (v.chan d).read = none ∧ v.mem = s.mem
        ∧ (v.chan d).images = c.images)
      ∧ (blockSize c.size ≤ k.offset + r.len → c.state = .write ∨ c.state = .unmounting →
          (k.ghost = true ∨ ∃ i, c.images.find? (·.slot == k.slot) = some i) → ∀ m, c.mount = some m → ∃ v,
        exec (.imageReadAnswer d true) s = .next (s.settle v) ∧ v.mem = s.mem
        ∧ v.path.answers = [.done (padTo r.len (s.peek (s.slotAddr d r.slot + r.offset)
            (min r.len (blockSize c.size - r.offset))))]
        ∧ (let moved := c.blocksMoved.add 1
           let due : Prop := s.params.cleaningInterval[d] ≠ 0 ∧ s.params.cleaningInterval[d] ≤ moved.toNat
           (v.chan d).blocksMoved = (if due then 0 else moved)
           ∧ v.loader.cleaningDue = (if due then s.loader.cleaningDue.set d true else s.loader.cleaningDue))
        ∧ (let capacity := if m.capacity = 0 then 0 else m.capacity - 1
           (c.state = .write ∨ (k.ghost = false ∧ c.checkPeriod = true) ∨ (k.ghost = true ∧ c.images ≠ []) →
              (v.chan d).occupancy = (if s.params.regulatorBuffer[d] ≤ c.occupancy then c.occupancy else c.occupancy + 1)
              ∧ (v.chan d).mount.map (·.capacity) = some capacity)
           ∧ (k.ghost = true ∨ c.checkPeriod = true → c.images ≠ [] → (v.chan d).mount = some { m with capacity := capacity }))
        ∧ (k.ghost = true → (v.chan d).counters.ghosts = c.counters.ghosts.add 1
          ∧ (v.chan d).counters.sent = c.counters.sent ∧ (v.chan d).verifyList = c.verifyList
          ∧ (v.chan d).images = c.images ∧ (v.chan d).cursor = none)
        ∧ (∀ i, k.ghost = false → c.images.find? (·.slot == k.slot) = some i →
          (v.chan d).cursor = none ∧ (v.chan d).counters.sent = c.counters.sent.add 1
          ∧ (v.chan d).counters.resends = c.counters.resends.add (if 0 < i.sends then 1 else 0)
          ∧ (c.checkPeriod = true →
            (v.chan d).verifyList = c.verifyList ++ [{ slot := i.slot, seq := i.seq, crc := i.trailer, marks := i.marks
                                                       sends := i.sends + 1, time := s.timebase }]
            ∧ (v.chan d).readbackTimer = true ∧ (v.chan d).state = c.state
            ∧ (v.chan d).images.find? (·.slot == k.slot) = some { i with state := .verifyWait, sends := i.sends + 1 })
          ∧ (c.checkPeriod = false → (v.chan d).verifyList = c.verifyList
            ∧ (v.chan d).counters.uncheckedSends = c.counters.uncheckedSends.add 1
            ∧ (∀ x ∈ (v.chan d).images, x.slot = k.slot → x.state = .assembling ∧ x.openTime = s.timebase ∧ x.frags = 0)
            ∧ (c.nextSlot ≠ k.slot → ∀ x ∈ (v.chan d).images, x.slot ≠ k.slot)
            ∧ (space i.marks.length → (news v).take i.marks.length = i.marks.map fun x =>
                { kind := .setVerified, byte1 := 1, subject := BitVec.ofNat 16 d.val, e0 := x, e1 := i.seq
                  e2 := w32 (i.sends + 1), e3 := m.session })
            ∧ (c.state = .unmounting → c.images = [i] → c.held = none → c.activity = .idle →
                (v.chan d).state = if s.bayPos d = .on then .ejectWait else .unmounted))))
      ∧ (c.state ≠ .failed → ∃ v, exec (.imageReadAnswer d false) s = .next (s.settle v) ∧ v.path.answers = [.fault]
        ∧ (v.chan d).state = .failed ∧ (v.chan d).images = c.images ∧ v.mem = s.mem))

/-- R93, R94, R96 to R103, R108: TAPE_IN writes by channel state. In WRITE and UNMOUNTING the bytes join the readback; its last
byte brings its arrival, and bytes behind it begin the next readback. An arrival is judged by the rows of R96: stale with an
empty list, the head verified, a stale duplicate, stale in the window, or MISMATCH. A verified head leaves the list with a
SET_VERIFIED for each of its set-end marks; its image is FREE, and an assembler that waits for its slot opens a new image there
at once. A MISMATCH and the readback timeout go back, with GO_BACK and the stale window, or fail the channel.
R36, R108, R109, R111: in READ, a write is held back with RETRY where the block in progress is decided, where it would begin a
block past a limit, and where a page or a record is wanting, which is counted. Otherwise it is taken: bytes of a fragment of
interest go into its record's pages, and bytes of no interest change neither the pool nor memory. The write that completes
the block brings its judgement: by the bad mark and the trailer, and by its sequence against the expected one.
That the timeout comes exactly at its deadline, that a write's bytes reach memory at the write, and that its reassembly writes
are one access at the port, that bytes behind an arrival that ends the period are lost, that the window's end follows the
formula of R103 at every go-back, that a decided block holds writes back until its own BLOCK_COMMIT or BLOCK_DISCARD, and that a
channel which a load has taken out of FAILED answers by its state too, are the model's choices and readings: log entries 3, 13,
14, 23, 55, 91 and 107. -/
def Obligations.ReadbacksVerifyTheHead : Prop :=
  ∀ (s : State) (a : Addr) (ds : List Byte) (d : Drive), (Access.write a ds).shaped = true → s.tapeInDrive a = some d →
    let c := s.chan d
    let rx := c.reader.rx
    let space (n : Nat) : Prop :=
      s.ring.reserved.toNat + n ≤ s.ring.freePlaces ∧ s.ring.reserved.toNat + s.ring.buffer.length + n ≤ 32
    let news (v : State) : List Record := (v.ring.buffer.drop s.ring.buffer.length).map fun r => { r with dropped := 0 }
    let period : Prop := c.state = .write ∨ c.state = .unmounting
    let tally (f : ChanCounters → ChanCounters) : State := s.setChan d { c with counters := f c.counters }
    -- the head fails (R100 to R103)
    let fails (v : State) (head : VerifyEntry) (cause : Cause) : Prop :=
      let highest : Word := match c.cursor.bind fun k => c.images.find? (·.slot == k.slot), c.verifyList.getLast? with
        | some i, _ => i.seq
        | none, some e => e.seq
        | none, none => head.seq
      let window := if precedes head.seq highest = true then some (head.seq + 1, highest) else none
      let marked := match c.cursor with | some k => !k.ghost | none => false
      v.mem = s.mem
      ∧ (head.sends ≤ s.params.rewriteLimit[d] →
        (v.chan d).verifyList = [] ∧ (v.chan d).readbackTimer = false ∧ (v.chan d).stale = window
        ∧ (v.chan d).images = c.images.map Image.returned ∧ (v.chan d).cursor = c.cursor.map (fun k => { k with ghost := true })
        ∧ (v.chan d).running = true ∧ (v.chan d).state = c.state ∧ (v.chan d).activity = c.activity
        ∧ (v.chan d).mount = c.mount ∧ (v.chan d).occupancy = c.occupancy
        ∧ (v.chan d).counters.goBacks = c.counters.goBacks.add 1
        ∧ (v.chan d).counters.forcedRestarts = c.counters.forcedRestarts.add (if c.running then 0 else 1)
        ∧ (space 1 → news v = [{ kind := .goBack, byte1 := cause.byte, subject := BitVec.ofNat 16 d.val, e0 := head.seq
                                 e1 := w32 head.sends, e2 := w32 c.verifyList.length
                                 e3 := w32 (marked.toNat + 2 * window.isSome.toNat)
                                 e4 := match window with | some w => w.1 | none => 0
                                 e5 := match window with | some w => w.2 | none => 0 }]))
      ∧ (s.params.rewriteLimit[d] < head.sends → (v.chan d).state = .failed
        ∧ (v.chan d).counters.writeErrors = c.counters.writeErrors.add 1 ∧ (v.chan d).verifyList = c.verifyList
        ∧ (v.chan d).stale = c.stale ∧ (v.chan d).images = c.images ∧ (∀ x ∈ news v, x.kind ≠ .goBack))
    (c.state = .unmounted ∨ c.state = .failed → exec (.tapeInWrite a ds) s = .next { s with path := { s.path with
        answers := [.fault], counters := { s.path.counters with retries := s.path.counters.retries.add 0 } } })
    ∧ (c.state = .mounting ∨ c.state = .idle ∨ c.state = .ejectWait → ∃ v, exec (.tapeInWrite a ds) s = .next v
        ∧ v.path.answers = [.done []] ∧ (v.chan d).counters.unclaimed = c.counters.unclaimed.add ds.length
        ∧ (v.chan d).state = c.state ∧ v.mem = s.mem ∧ v.ring = s.ring)
    ∧ (c.state = .read → c.reader.rx.decision.isSome = true → ∃ v, exec (.tapeInWrite a ds) s = .next (s.settle v)
        ∧ v.path.answers = [.retry] ∧ v.chans = s.chans ∧ v.pool = s.pool ∧ v.mem = s.mem)
    ∧ (c.state = .read → rx.decision = none → rx.count = 0 →
        (∃ i, (s.session i).state = .active ∧ (s.session i).drive = some d ∧ 8 ≤ (s.session i).queue.length)
          ∨ 16 ≤ (s.pool.records.filter fun r => r.role == .verify d && r.state == .complete).length →
        ∃ v, exec (.tapeInWrite a ds) s = .next (s.settle v)
          ∧ v.path.answers = [.retry] ∧ v.chans = s.chans ∧ v.pool = s.pool ∧ v.mem = s.mem)
    ∧ (∀ left, c.state = .read → rx.decision = none → 0 < rx.count → rx.walk = .data left →
        (rx.owners ≠ [] ∧ rx.frags ≠ [] ∧ 1024 ≤ s.pool.records.length)
          ∨ (rx.owners = [] ∧ s.pool.free = [] ∧ ∃ id ∈ rx.targets, ∃ r, s.findRec id = some r
              ∧ r.committed + r.provisional < 4106 ∧ r.pages.length ≤ (r.committed + r.provisional) / 512) →
        ∃ v, exec (.tapeInWrite a ds) s = .next (s.settle v) ∧ v.path.answers = [.retry] ∧ v.chans = s.chans
          ∧ v.pool = { s.pool with retries := s.pool.retries.add 1 } ∧ v.mem = s.mem)
    ∧ (∀ left id r, c.state = .read → rx.decision = none → 16 ≤ rx.count → rx.walk = .data left → rx.owners = [] →
        rx.targets = [id] → s.findRec id = some r → ds.length < left → rx.count + ds.length < blockSize c.size - 4 →
        r.pages.Nodup → r.committed + r.provisional + ds.length ≤ 4106 →
        r.committed + r.provisional + ds.length ≤ 512 * r.pages.length →
        let at_ (k : Nat) : Nat :=
          s.pageAddr (r.pages.getD ((r.committed + r.provisional + k) / 512) 0) + (r.committed + r.provisional + k) % 512
        ∃ v, exec (.tapeInWrite a ds) s = .next (s.settle v) ∧ v.path.answers = [.done []]
          ∧ (v.chan d).reader.rx = { rx with
              count := rx.count + ds.length, crc := ds.foldl crcByte rx.crc, walk := .data (left - ds.length)
              writes := rx.writes + 1 }
          ∧ v.findRec id = some { r with provisional := r.provisional + ds.length } ∧ v.pool.free = s.pool.free
          ∧ (∀ k, k < ds.length → v.mem.get (at_ k) = ds.getD k 0)
          ∧ (∀ x, (∀ k, k < ds.length → x ≠ at_ k) → v.mem.get x = s.mem.get x)
          ∧ (v.path.port.issued = some (.owned (.reassembly d)) ∨ .reassembly d ∈ v.path.port.ownWait))
    ∧ (c.state = .read → rx.decision = none → 16 ≤ rx.count → rx.walk = .finished →
        (rx.count + ds.length < blockSize c.size → ∃ v, exec (.tapeInWrite a ds) s = .next (s.settle v)
          ∧ v.path.answers = [.done []] ∧ (v.chan d).reader.rx.count = rx.count + ds.length
          ∧ (v.chan d).reader.rx.decision = none ∧ v.pool = s.pool ∧ v.mem = s.mem)
        ∧ (rx.count + ds.length = blockSize c.size → ∃ w rx', exec (.tapeInWrite a ds) s =
              .next (s.settle ((w.blockArrival d).answer [.done []]))
          ∧ w = s.setChan d { c with reader := { c.reader with rx := rx' } } ∧ rx'.count = blockSize c.size
          ∧ rx'.header = rx.header ∧ rx'.bad = rx.bad ∧ rx'.decision = none ∧ rx'.frags = rx.frags
          ∧ rx'.writes = rx.writes ∧ (ds.length ≤ 4 → rx'.trailer = rx.trailer ++ ds ∧ rx'.crc = rx.crc)))
    ∧ (let r := c.reader
       let seq := headerSeq rx.header
       let good := rx.bad = false ∧ ofBE rx.trailer = (~~~ rx.crc).toNat
       let k : Tallies := { r.tallies with blocksRead := r.tallies.blocksRead.add 1 }
       let judged (x : Reader) : Prop := ((s.blockArrival d).chan d).reader = x ∧ (s.blockArrival d).pool = s.pool
         ∧ (s.blockArrival d).mem = s.mem ∧ (s.blockArrival d).restore = s.restore
       let accepted (x : Tallies) : Reader := { r with
         rx := { rx with decision := some true }, expected := some (seq + 1), recovering := false
         tallies := { x with accepted := x.accepted.add 1 } }
       let rejected : Reader := { r with rx := { rx with decision := some false } }
       (¬ good → judged { rejected with
          tallies := { k with bad := k.bad.add 1 }, recovering := true
          recoveryCount := if r.recovering then r.recoveryCount else 0 })
       ∧ (good → r.expected = none ∨ r.expected = some seq → judged (accepted k))
       ∧ (∀ e, good → r.expected = some e → seq ≠ e → precedes seq e = true →
          judged { rejected with tallies := { k with duplicates := k.duplicates.add 1 } })
       ∧ (∀ e, good → r.expected = some e → precedes e seq = true → r.recovering = true →
          r.recoveryCount < s.params.recoveryWindow →
          judged { rejected with tallies := { k with skipped := k.skipped.add 1 }, recoveryCount := r.recoveryCount + 1 })
       ∧ (∀ e, good → r.expected = some e → precedes e seq = true →
          r.recovering = false ∨ s.params.recoveryWindow ≤ r.recoveryCount →
          judged { accepted { k with gaps := k.gaps.add 1, missed := k.missed.add (seq - e).toNat } with
            firstBad := match r.firstBad with | some x => some x | none => some e }))
    ∧ (c.state = .write ∨ c.state = .unmounting → c.readback.count + ds.length < blockSize c.size → ∃ v,
        exec (.tapeInWrite a ds) s = .next (s.settle v) ∧ v.path.answers = [.done []] ∧ v.mem = s.mem
        ∧ (v.chan d).readback.count = c.readback.count + ds.length ∧ (v.chan d).verifyList = c.verifyList
        ∧ (v.chan d).images = c.images ∧ v.ring = s.ring)
    ∧ (∀ xs ys, period → ds = xs ++ ys → xs ≠ [] → c.readback.count + xs.length = blockSize c.size →
        let r := xs.foldl (Readback.push (blockSize c.size)) c.readback
        let u := (s.setChan d { c with readback := {} }).readbackArrival d r
        exec (.tapeInWrite a ds) s = .next (s.settle ((u.takeReadback d ys).answer [.done []]))
        ∧ ((u.chan d).state = .write ∨ (u.chan d).state = .unmounting → ys.length < blockSize (u.chan d).size →
            ((u.takeReadback d ys).chan d).readback = ys.foldl (Readback.push (blockSize (u.chan d).size)) {}
            ∧ ((u.takeReadback d ys).chan d).verifyList = (u.chan d).verifyList)
        ∧ ((u.chan d).state ≠ .write → (u.chan d).state ≠ .unmounting → u.takeReadback d ys = u))
    -- the rows of R96
    ∧ (∀ r : Readback,
        let sound := r.sound c.size c.writeSession
        let seq := headerSeq r.header
        let v := s.readbackArrival d r
        let damage (k : ChanCounters) : ChanCounters := if sound then k else { k with damaged := k.damaged.add 1 }
        (c.verifyList = [] → v = tally fun k => { damage k with staleEmpty := k.staleEmpty.add 1 })
        ∧ (∀ head rest, c.verifyList = head :: rest →
          let inside (w : Word × Word) : Prop := seq = w.1 ∨ (precedes w.1 seq = true ∧ precedes w.2 seq = false)
          let own : Prop := sound = true ∧ seq = head.seq ∧ ~~~ r.crc = head.crc
          let past : Prop := sound = true ∧ precedes seq head.seq = true
          let window : Prop := ∃ w, c.stale = some w ∧ (sound = false ∨ inside w)
          (own → period → (∀ e, rest.head? = some e → s.timebase < e.time + timeoutMicros s.params.readbackTimeout) →
            (v.chan d).verifyList = rest ∧ (v.chan d).stale = none
            ∧ (c.state = .write → (v.chan d).readbackTimer = !rest.isEmpty)
            ∧ (∀ i ∈ (v.chan d).images, i.slot = head.slot → i.state = .assembling ∧ i.openTime = s.timebase ∧ i.frags = 0)
            ∧ (c.nextSlot ≠ head.slot → ∀ i ∈ (v.chan d).images, i.slot ≠ head.slot)
            ∧ (v.chan d).counters.verified = c.counters.verified.add 1
            ∧ (v.chan d).counters.setsVerified = c.counters.setsVerified.add head.marks.length
            ∧ (space head.marks.length → (news v).take head.marks.length = head.marks.map fun x =>
                { kind := .setVerified, subject := BitVec.ofNat 16 d.val, e0 := x, e1 := head.seq, e2 := w32 head.sends
                  e3 := c.writeSession })
            ∧ v.mem = s.mem)
          ∧ (¬ own → past → v = tally fun k => { k with staleDuplicate := k.staleDuplicate.add 1 })
          ∧ (¬ own → ¬ past → window → v = tally fun k => { damage k with staleWindow := k.staleWindow.add 1 })
          ∧ (¬ own → ¬ past → ¬ window → period → fails v head .mismatch
            ∧ (v.chan d).counters.mismatches = c.counters.mismatches.add 1
            ∧ (v.chan d).counters.damaged = (damage c.counters).damaged)))
    ∧ (∀ head rest t, period → c.verifyList = head :: rest → s.readbackDeadline d = some t →
        ∃ v, exec (.readbackTimeout d) s = .next (s.settle v) ∧ v.timebase = max s.timebase t ∧ fails v head .timeout
          ∧ (v.chan d).counters.timeouts = c.counters.timeouts.add 1)

/-! ## Reading tape and restoring -/

/-- R37, R38, R41, R112: an answer to a reassembly write; the commit and the discard of a block, after which the reception
starts anew. A discarded block leaves no record that it created. Memory is unchanged.
R37, R113, R120, R121: at a commit the bytes that a record took provisionally become committed, its header fields take their
values from them, and the LAST fragment makes it COMPLETE; a chunk of one fragment joins the queue of the session it is next
for, or the pass's verify queue. A pending record is completed by a block that begins with its fragment 1, and given up by
another one: the session loses that chunk, and the pass counts it bad. Chunks that are missing before a fragment are lost:
one zero entry under CONTINUE, which stops at the session's last sequence, and the end of the session without.
When the bytes reach memory, that a late FAULT turns an accepted block bad, and that the commit and the discard are made by
their own commands alone, are the model's choices and readings: log entries 13, 17 and 107. Another choice of the model is that no grant of a pool wait is made within the event (R31): log entry 105. -/
def Obligations.BlocksAreCommittedOrDiscarded : Prop :=
  ∀ (s : State) (d : Drive) (ok : Bool),
    let c := s.chan d
    let rx := c.reader.rx
    (s.path.port.issued = some (.owned (.reassembly d)) → c.reader.staleWrites = 0 → 1 ≤ rx.writes → ∃ v,
      exec (.reassemblyWriteAnswer d ok) s = .next v ∧ (v.chan d).reader.rx.writes = rx.writes - 1
      ∧ (v.chan d).reader.rx.bad = (rx.bad || !ok)
      ∧ (v.chan d).reader.rx.decision = (if ok then rx.decision else rx.decision.map fun _ => false)
      ∧ v.pool.memFaults = s.pool.memFaults.add (if ok then 0 else 1) ∧ v.mem = s.mem ∧ v.ring = s.ring
      ∧ v.streams = s.streams ∧ v.restore = s.restore)
    ∧ (rx.decision = some true → rx.writes = 0 → ∃ v, exec (.blockCommit d) s = .next (s.settle v)
      ∧ (v.chan d).reader.rx = {} ∧ (v.chan d).reader.expected = c.reader.expected ∧ (v.chan d).state = c.state
      ∧ v.mem = s.mem ∧ v.streams = s.streams)
    ∧ (∀ id r, s.findRec id = some r →
      let n := r.committed + r.provisional
      let bytes := s.chunkBytes r.pages 0 10
      (s.commitRec id).findRec id = some { r with
        committed := n, provisional := 0, provPages := 0, created := false, lastIn := false
        origLen := if 2 ≤ n then some (ofBE (slice bytes 0 2)) else none
        bodyLen := if 4 ≤ n then some (ofBE (slice bytes 2 2)) else none
        form := if 5 ≤ n then some (bytes.getD 4 0) else none
        setend := if 6 ≤ n then some ((bytes.getD 5 0).getLsbD 0) else none
        check := if 10 ≤ n then some (w32 (ofBE (slice bytes 6 4))) else none
        state := if r.lastIn then .complete else r.state }
      ∧ (∀ e, e ≠ id → (s.commitRec id).findRec e = s.findRec e) ∧ (s.commitRec id).mem = s.mem)
    ∧ (∀ (f : Frag) (id : Nat) (r : ChunkRec), rx.decision = some true → rx.writes = 0 → rx.frags = [f] → f.records = [id] →
      f.number = 0 → r.state = .reassembling → r.lastIn = f.last → s.findRec id = some r →
      (∀ i : SessionId, r.role = .restore i → f.last = true → c.reader.verify = false → r.seq = f.seq →
        (s.session i).state = .active → (s.session i).drive = some d → (s.session i).final = false →
        (s.session i).pendingRec = none → (s.session i).setId = f.setId → (s.session i).nextSeq = f.seq →
        (∀ l, (s.session i).lastSeq = some l → precedes l f.seq = false) →
        (∀ j, j ≠ i → (s.session j).drive ≠ some d) →
        ∃ v r', exec (.blockCommit d) s = .next (s.settle v) ∧ v.findRec id = some r' ∧ r'.state = .complete
          ∧ r'.committed = r.committed + r.provisional ∧ (v.session i).queue = (s.session i).queue ++ [.chunk id]
          ∧ (v.session i).nextSeq = f.seq + 1 ∧ (v.session i).pendingRec = none
          ∧ ((v.session i).final = true ↔ r'.setend = some true ∨ (s.session i).lastSeq = some f.seq)
          ∧ (v.session i).drive = (if (v.session i).final then none else some d)
          ∧ ∀ j, j ≠ i → v.session j = s.session j)
      ∧ (r.role = .verify d → c.reader.verify = true → c.reader.pendingVerify = none →
        (∀ j, (s.session j).drive ≠ some d) → ∃ v r', exec (.blockCommit d) s = .next (s.settle v)
          ∧ v.findRec id = some r' ∧ r'.committed = r.committed + r.provisional
          ∧ r'.state = (if f.last then .complete else .reassembling)
          ∧ (v.chan d).reader.verifyQueue = c.reader.verifyQueue ++ (if f.last then [id] else [])
          ∧ (v.chan d).reader.pendingVerify = (if f.last then none else some id) ∧ v.restore = s.restore))
    ∧ (∀ p r, c.reader.verify = true → c.reader.pendingVerify = some p → s.findRec p = some r →
      (∀ f, f.number = 1 → p ∈ f.records →
        ((s.verifyTake d [f]).chan d).reader = { c.reader with
          pendingVerify := none, verifyQueue := c.reader.verifyQueue ++ [p] }
        ∧ (s.verifyTake d [f]).pool = s.pool)
      ∧ ((s.verifyTake d []).findRec p = none ∧ ((s.verifyTake d []).chan d).reader.pendingVerify = none
        ∧ ((s.verifyTake d []).chan d).reader.verifyQueue = c.reader.verifyQueue
        ∧ ((s.verifyTake d []).chan d).reader.tallies.chunksBad = c.reader.tallies.chunksBad.add 1))
    ∧ (∀ i : SessionId,
      let x := s.session i
      x.state = .active → x.drive = some d → x.final = false →
      (∀ p r, x.pendingRec = some p → s.findRec p = some r →
        (∀ f : Frag, f.number = 1 → r.id ∈ f.records →
          let y := (s.sessionTake d [f] i).session i
          y.queue = x.queue ++ [.chunk r.id] ∧ y.nextSeq = r.seq + 1 ∧ y.pendingRec = none ∧ y.damaged = x.damaged
            ∧ y.stall = (if y.final then none else some s.timebase))
        ∧ (x.cont = true →
          let y := (s.sessionTake d [] i).session i
          y.queue = x.queue ++ [.zero r.seq 1 r.lostLen (r.setend == some true)] ∧ y.nextSeq = r.seq + 1
            ∧ y.pendingRec = none ∧ y.damaged = x.damaged.add 1 ∧ (s.sessionTake d [] i).findRec r.id = none)
        ∧ (x.cont = false → ((s.sessionTake d [] i).session i).state = .free))
      ∧ (∀ (f : Frag) (r : ChunkRec), x.pendingRec = none → x.lastSeq = none → f.setId = x.setId → f.number = 0 →
        f.last = true → precedes x.nextSeq f.seq = true → f.records = [r.id] → s.findRec r.id = some r →
        r.role = .restore i → r.seq = f.seq →
        (x.cont = true →
          let y := (s.sessionTake d [f] i).session i
          let n := (f.seq - x.nextSeq).toNat
          y.queue = x.queue ++ [.zero x.nextSeq n 4096 false, .chunk r.id] ∧ y.nextSeq = f.seq + 1
            ∧ y.damaged = x.damaged.add n)
        ∧ (x.cont = false → ((s.sessionTake d [f] i).session i).state = .free))
      ∧ (∀ first l n len e, x.cont = true → x.lastSeq = some l → (l - first).toNat < n →
          let y := (s.loseChunks i first n len e).session i
          let m := (l - first).toNat + 1
          y.queue = x.queue ++ [.zero first m len e] ∧ y.nextSeq = l + 1 ∧ y.damaged = x.damaged.add m ∧ y.final = true
            ∧ y.drive = none))
    ∧ (rx.decision = some false → rx.writes = 0 → ∃ v, exec (.blockDiscard d) s = .next (s.settle v)
      ∧ (v.chan d).reader.rx = {} ∧ (v.chan d).reader.expected = c.reader.expected ∧ (v.chan d).state = c.state
      ∧ (∀ id r, id ∈ rx.touched → s.findRec id = some r → r.created = true → v.findRec id = none)
      ∧ v.restore = s.restore ∧ v.mem = s.mem ∧ v.streams = s.streams)

/-- A RESTORE read delivers from the buffer, or the zero bytes of a lost chunk at the head of the queue, or is answered RETRY,
as it is while the session's chunk is being decoded (the model's reading: log entry 67). A read that reaches or passes the end
of the buffer returns what is left, followed by zero bytes (R124): the chunk is fully read, so that the stall timer of a
session that still collects restarts, and the session whose buffer carries SETEND or the last-chunk mark ends with DONE and its
RESTORE_END (R125). A stall timeout ends the session, and CANCEL_RESTORE ends it with its record and frees its reassembly
records; all of these leave the other sessions as they are. That the timeout comes exactly at its deadline, and that the
delivered byte count wraps at 2^64, are the model's choices: log entries 3 and 104. Further choices of the model are that an
ended session's drive is absent at once (log entry 100), and that no grant of a pool wait is made within the event (R31: log
entry 105). -/
def Obligations.SessionsDeliverUntilTheyEnd : Prop :=
  ∀ (s : State) (i : SessionId),
    let x := s.session i
    let decoding : Prop := ∃ j, s.restore.job = some j ∧ j.requester = .session i ∧ j.discarded = false
    let ended (v : State) (code cause : Nat) (total : Dword) : Prop :=
      (v.session i).state = .free ∧ (v.session i).queue = [] ∧ (v.session i).drive = none ∧ (v.session i).stall = none
      ∧ (∀ j, j ≠ i → v.session j = s.session j)
      ∧ (∀ r ∈ v.pool.records, r.role = .restore i → r.state ≠ .reassembling ∧ r.state ≠ .complete)
      ∧ v.mem = s.mem ∧ v.streams = s.streams
      ∧ (s.ring.room = true → v.ring.buffer[s.ring.buffer.length]? = some
          { kind := .restoreEnd, byte1 := BitVec.ofNat 8 code, tag := x.tag, dropped := s.ring.d
            subject := BitVec.ofNat 16 i.val, e0 := w32 cause, e1 := x.setId, e2 := x.nextSeq, e3 := lowWord total
            e4 := highWord total, e5 := x.damaged })
    let fully (v : State) (marked : Prop) (k : Nat) : Prop :=
      let total := x.delivered + BitVec.ofNat 64 k
      (marked → ended v 0x00 0 total ∧ v.restore.endsDone = s.restore.endsDone.add 1)
      ∧ (¬ marked → (v.session i).state = x.state ∧ (v.session i).delivered = total
          ∧ (v.session i).bytesDelivered = x.bytesDelivered.add k ∧ (v.session i).drive = x.drive
          ∧ (v.session i).stall = (if x.state = .active ∧ x.final = false then some s.timebase else x.stall)
          ∧ (∀ j, j ≠ i → v.session j = s.session j) ∧ v.mem = s.mem ∧ v.ring = s.ring)
    (∀ a n, (Access.read a n).shaped = true → s.restoreSession a = some i → x.state ≠ .free →
      (x.buffer.offset + n < x.buffer.bytes.length → ∃ v, exec (.restoreRead a n) s = .next (s.settle v)
        ∧ v.path.answers = [.done (slice x.buffer.bytes x.buffer.offset n)]
        ∧ (v.session i).buffer.offset = x.buffer.offset + n ∧ (v.session i).state = x.state
        ∧ (v.session i).delivered = x.delivered + BitVec.ofNat 64 n ∧ (v.session i).queue = x.queue
        ∧ (v.session i).stall = x.stall
        ∧ (∀ j, j ≠ i → v.session j = s.session j) ∧ v.mem = s.mem ∧ v.ring = s.ring)
      ∧ (x.buffer.offset < x.buffer.bytes.length → x.buffer.bytes.length ≤ x.buffer.offset + n →
        let left := x.buffer.bytes.drop x.buffer.offset
        let marked : Prop := x.buffer.setend = true ∨ x.buffer.lastChunk = true
        ∃ v, exec (.restoreRead a n) s = .next (s.settle v)
        ∧ v.path.answers = [.done (left ++ List.replicate (n - left.length) 0)] ∧ fully v marked left.length
        ∧ (¬ marked → (v.session i).buffer = { x.buffer with offset := x.buffer.bytes.length }
            ∧ (v.session i).queue = x.queue))
      ∧ (∀ first count len setend q, x.buffer.bytes.length ≤ x.buffer.offset → ¬ decoding → len ≤ n →
          x.queue = .zero first count len setend :: q →
        let marked : Prop := count ≤ 1 ∧ (setend = true ∨ x.lastSeq = some first)
        ∃ v, exec (.restoreRead a n) s = .next (s.settle v)
        ∧ v.path.answers = [.done (List.replicate n 0)] ∧ fully v marked len
        ∧ (¬ marked → (v.session i).buffer.bytes = List.replicate len 0 ∧ (v.session i).buffer.offset = len
            ∧ (v.session i).queue = (if count ≤ 1 then q else .zero (first + 1) (count - 1) len setend :: q)))
      ∧ (∀ first count len setend q, x.buffer.bytes.length ≤ x.buffer.offset → ¬ decoding → n < len →
          x.queue = .zero first count len setend :: q → ∃ v, exec (.restoreRead a n) s = .next (s.settle v)
        ∧ v.path.answers = [.done (List.replicate n 0)] ∧ (v.session i).buffer.bytes = List.replicate len 0
        ∧ (v.session i).buffer.offset = n ∧ (v.session i).delivered = x.delivered + BitVec.ofNat 64 n
        ∧ (v.session i).queue = (if count ≤ 1 then q else .zero (first + 1) (count - 1) len setend :: q)
        ∧ (∀ j, j ≠ i → v.session j = s.session j) ∧ v.mem = s.mem ∧ v.ring = s.ring)
      ∧ (x.buffer.bytes.length ≤ x.buffer.offset → (decoding ∨ x.queue = [] ∨ ∃ id q, x.queue = .chunk id :: q) →
        exec (.restoreRead a n) s = .next { s with path := { s.path with
          answers := [.retry], counters := { s.path.counters with retries := s.path.counters.retries.add 1 } } }))
    ∧ (∀ t, x.stall = some t → x.state ≠ .free → ∃ v, exec (.restoreStallTimeout i) s = .next (s.settle v)
        ∧ v.timebase = max s.timebase (t + timeoutMicros s.params.restoreStallTimeout)
        ∧ (v.session i).state = .free ∧ (v.session i).queue = [] ∧ v.restore.endsFailed = s.restore.endsFailed.add 1
        ∧ (∀ j, j ≠ i → v.session j = s.session j) ∧ v.mem = s.mem)
    ∧ (∀ tag p0,
        (3 < p0.toNat → TurnedAway (.cancelRestore tag p0) 0x31 tag .badParam s)
        ∧ (p0.toNat = i.val → x.state = .free → TurnedAway (.cancelRestore tag p0) 0x31 tag .refusedState s)
        ∧ (p0.toNat = i.val → x.state ≠ .free → ∃ v, EndsSettled (.cancelRestore tag p0) 0x31 tag .done s v
            ∧ ended v 0x20 0 x.delivered ∧ v.restore.endsCancelled = s.restore.endsCancelled.add 1))

/-- R118: OPEN_RESTORE: the checks, the session attached to a bay's channel, and the MOUNT queued for a cartridge in a
storage slot.
That the same cartridge is known by its record is the model's choice: log entry 36. -/
def Obligations.OpenRestoreOpensASession : Prop :=
  ∀ (s : State) (tag : Half) (preempt cont : Bool) (p0 p1 p2 p3 p4 p5 : Word),
    let c := Instr.openRestore tag preempt cont p0 p1 p2 p3 p4 p5
    (3 < p0.toNat ∨ 2 < p5.toNat ∨ p4.toNat = 24 ∨ 26 < p4.toNat → TurnedAway c 0x30 tag .badParam s)
    ∧ ∀ (i : SessionId) (l : Loc), p0.toNat = i.val → p4.toNat = l.val → p5.toNat ≤ 2 → l ≠ 24 →
      ((s.session i).state ≠ .free ∨ (s.loc l).cart = none
          ∨ (∃ k, (s.loc l).cart = some k ∧ (k.media = .cleaning ∨ k.media = .expired)) →
        TurnedAway c 0x30 tag .refusedState s)
      ∧ (∀ k, (s.session i).state = .free → (s.loc l).cart = some k → k.media = .data ∨ k.media = .unknown →
        let opened (x : Session) : Prop :=
          x.tag = tag ∧ x.setId = p1 ∧ x.nextSeq = p2 ∧ x.lastSeq = (if p3 = 0 then none else some (p2 + p3 - 1))
          ∧ x.cont = cont ∧ x.queue = [] ∧ x.delivered = 0 ∧ x.damaged = 0 ∧ x.final = false ∧ x.link = none
        (∀ d : Drive, l.val = 25 + d.val →
          ((s.chan d).state = .failed → TurnedAway c 0x30 tag .refusedState s)
          ∧ ((s.chan d).state ≠ .failed → ∃ x, EndsSettled c 0x30 tag .accepted s (s.atOwner.setSession i x) ∧ opened x
              ∧ x.drive = some d ∧ x.state = (if (s.chan d).state = .read then .active else .waitRead)
              ∧ x.stall = (if (s.chan d).state = .read then some s.timebase else none)))
        ∧ (l.val < 24 →
          (∀ r, s.loader.queue.find? (fun r => r.kind == .mount && r.cart == some k.uid) = some r → ∃ x,
            EndsSettled c 0x30 tag .accepted s (s.atOwner.setSession i x) ∧ opened x ∧ x.state = .waitMount
            ∧ x.mountReq = some r.stamp)
          ∧ (s.loader.queue.find? (fun r => r.kind == .mount && r.cart == some k.uid) = none →
            (10 ≤ s.loader.queue.length → TurnedAway c 0x30 tag .refusedBusy s)
            ∧ (s.loader.queue.length < 10 → ∃ v, EndsSettled c 0x30 tag .accepted s v ∧ opened (v.session i)
                ∧ (v.session i).state = .waitMount ∧ (v.session i).mountReq = some s.loader.nextStamp
                ∧ v.mem = s.mem ∧ v.chans = s.chans
                ∧ ∃ r, v.loader.queue = s.loader.queue ++ [r] ∧ r.kind = .mount ∧ r.src = some l ∧ r.internal = true
                    ∧ r.preempt = preempt ∧ r.stamp = s.loader.nextStamp ∧ r.cart = some k.uid))))

/-- A decode starts for the first requester after the last one served, in the circular order of the four sessions and the two
verify passes; it takes the head of the requester's queue, and looks at its header. Its end frees the record, with its pages. A
GOOD output fills the session's delivery buffer; another outcome fills it with zero bytes where the session goes on past damaged
chunks, and fails the session otherwise; a verify pass counts it; a read FAULT is counted and gives TRUNCATED; a discarded job
acts on nobody. That one access of a decode stands at the memory port for all its reads, and that the requester is chosen at
DECODE_START, are the model's choices: log entries 14 and 82. Another choice of the model is that no grant of a pool wait is
made within the event (R31): log entry 105. -/
def Obligations.DecodesServeTheNextRequester : Prop :=
  ∀ s : State,
    let ring : List Requester := [.session 0, .session 1, .session 2, .session 3, .verify 0, .verify 1]
    let wants (q : Requester) (id : Nat) : Prop := match q with
      | .session i => (s.session i).state ≠ .free ∧ (s.session i).buffer.bytes.length ≤ (s.session i).buffer.offset
          ∧ (s.session i).queue.head? = some (.chunk id)
      | .verify d => (s.chan d).reader.verifyQueue.head? = some id
    (∀ k n q id r, s.restore.job = none → k < 6 → 1 ≤ n → n ≤ 6 → ring[k]? = some s.restore.lastServed →
        (∀ i p x, 1 ≤ i → i < n → ring[(k + i) % 6]? = some p → ¬ wants p x) → ring[(k + n) % 6]? = some q → wants q id →
        s.findRec id = some r → ∃ v,
      exec .decodeStart s = .next v ∧ v.restore.lastServed = q ∧ v.mem = s.mem ∧ v.pool.free = s.pool.free
      ∧ v.ring = s.ring ∧ v.streams = s.streams
      ∧ v.restore.job = some { requester := q, record := id, discarded := false
                               headerBad := (decodeStored (s.storedBytes r)).1 == .headerBad }
      ∧ v.findRec id = some { r with state := .decoding }
      ∧ (∀ i, v.session i = if q = .session i then { s.session i with queue := (s.session i).queue.tail } else s.session i)
      ∧ v.path = { s.path with port := s.path.port.joinOwned (.job .unpack) })
    ∧ (∀ j r fault, s.restore.job = some j → s.hasJob .unpack = true → s.findRec j.record = some r →
      let decoded := decodeStored (s.storedBytes r)
      let outcome := if fault = true then .truncated else if j.headerBad = true then .headerBad else decoded.1
      ∃ v, exec (.decodeCompletion fault) s = .next (s.settle v) ∧ v.restore.job = none ∧ v.mem = s.mem
        ∧ v.streams = s.streams ∧ v.findRec j.record = none
        ∧ v.pool.memFaults = s.pool.memFaults.add (if fault = true then 1 else 0)
        ∧ (j.discarded = true → v.pool.free = s.pool.free ++ r.pages ∧ v.restore.sessions = s.restore.sessions
            ∧ v.chans = s.chans)
        ∧ (∀ i, j.discarded = false → j.requester = .session i →
          let x := s.session i
          let full (bs : List Byte) : Delivery :=
            { bytes := bs, setend := r.setend == some true, lastChunk := x.lastSeq == some r.seq }
          (outcome = .good → decoded.2 ≠ [] →
              v.pool.free = s.pool.free ++ r.pages ∧ v.session i = { x with buffer := full decoded.2 })
          ∧ (outcome ≠ .good → x.cont = true → r.lostLen ≠ 0 → v.pool.free = s.pool.free ++ r.pages
              ∧ v.session i = { x with damaged := x.damaged.add 1, buffer := full (List.replicate r.lostLen 0) })
          ∧ (outcome ≠ .good → x.cont = false → x.state ≠ .free →
              (v.session i).state = .free ∧ v.restore.endsFailed = s.restore.endsFailed.add 1)
          ∧ ∀ e, e ≠ i → v.session e = s.session e)
        ∧ (∀ d, j.discarded = false → j.requester = .verify d →
          let k := (s.chan d).reader.tallies
          v.pool.free = s.pool.free ++ r.pages ∧ v.restore.sessions = s.restore.sessions
            ∧ (v.chan d).reader.tallies = (if outcome = .good then { k with chunksGood := k.chunksGood.add 1 }
                else { k with chunksBad := k.chunksBad.add 1 })))

/-! ## The loader -/

/-- R149, R156: MOVE, EXPORT and INVENTORY join the move queue; bad locations and a full queue turn them away; CANCEL_MOVE
ends a request that is QUEUED or WAITING. -/
def Obligations.MoveCommandsJoinTheQueue : Prop :=
  ∀ (s : State) (tag : Half) (force : Bool) (p0 p1 : Word),
    let busy := 8 ≤ (s.loader.queue.filter (!·.internal)).length ∨ 10 ≤ s.loader.queue.length
    let joined (r : Req) : State := { s.atOwner with loader := { s.loader with
      queue := s.loader.queue ++ [{ r with stamp := s.loader.nextStamp, id := tag, internal := false }]
      nextStamp := s.loader.nextStamp + 1 } }
    let move := Instr.move tag force p0 p1
    let export_ := Instr.exportCart tag force p0
    let inventory := Instr.inventory tag p0 p1
    (26 < p0.toNat ∨ 26 < p1.toNat ∨ p0.toNat = p1.toNat → TurnedAway move 0x40 tag .badParam s)
    ∧ (26 < p0.toNat ∨ p0.toNat = 24 → TurnedAway export_ 0x41 tag .badParam s)
    ∧ (24 < p1.toNat ∨ p1.toNat < p0.toNat → TurnedAway inventory 0x42 tag .badParam s)
    ∧ (∀ a b : Loc, p0.toNat = a.val → p1.toNat = b.val → a ≠ b →
        (busy → TurnedAway move 0x40 tag .refusedBusy s)
        ∧ (¬ busy → EndsSettled move 0x40 tag .accepted s (joined { newReq .move (some a) b with force := force })))
    ∧ (∀ a : Loc, p0.toNat = a.val → a ≠ 24 →
        (busy → TurnedAway export_ 0x41 tag .refusedBusy s)
        ∧ (¬ busy → EndsSettled export_ 0x41 tag .accepted s
            (joined { newReq .exportCart (some a) mailLoc with force := force })))
    ∧ (∀ a b : Loc, p0.toNat = a.val → p1.toNat = b.val → a.val ≤ b.val → b.val ≤ 24 →
        (busy → TurnedAway inventory 0x42 tag .refusedBusy s)
        ∧ (¬ busy → EndsSettled inventory 0x42 tag .accepted s
            (joined { newReq .inventory none b with first := a.val, last := b.val, cursor := a.val })))
    ∧ (1 < p1.toNat ∨ (∀ r ∈ s.loader.queue, r.id.toNat = p0.toNat → r.internal ≠ (p1 == 1)) →
        TurnedAway (.cancelMove tag p0 p1) 0x43 tag .badParam s)
    ∧ (∀ r, p1.toNat ≤ 1 → s.loader.queue.find? (fun r => r.id.toNat == p0.toNat && r.internal == (p1 == 1)) = some r →
        r.kind ≠ .returnCart → r.state ≠ .active → s.loader.preempt = none → ∃ v,
        EndsSettled (.cancelMove tag p0 p1) 0x43 tag .done s v ∧ v.findReq r.stamp = none ∧ v.mem = s.mem
        ∧ v.streams = s.streams
        ∧ v.loader.counters.endedCancelled = s.loader.counters.endedCancelled.add 1)

/-- R161, R135, R139: SET_SCRATCH takes a list of different storage slots; DOOR_LOCK and DOOR_UNLOCK set the flag, and the
lock output follows; DRIVE_POWER sets the bay's output of an UNMOUNTED channel without a power fault. Bad parameters are
turned away. -/
def Obligations.LoaderSettingsAreTaken : Prop :=
  ∀ (s : State) (tag : Half) (p0 p1 p2 p3 p4 p5 p6 : Word),
    let u := s.atOwner
    let scratch := Instr.setScratch tag p0 p1 p2 p3 p4 p5 p6
    let slot (k : Nat) : Nat := (([p1, p2, p3, p4, p5, p6].getD (k / 4) 0).toNat / 256 ^ (k % 4)) % 256
    (24 < p0.toNat ∨ (∃ k < p0.toNat, 23 < slot k)
        ∨ (∃ j k, j < k ∧ k < p0.toNat ∧ slot j = slot k) → TurnedAway scratch 0x44 tag .badParam s)
    ∧ (p0.toNat ≤ 24 → (∀ k < p0.toNat, slot k ≤ 23) → (∀ j k, j < k → k < p0.toNat → slot j ≠ slot k) →
        ∃ l : List (Fin 24), l.length = p0.toNat ∧ (∀ k (h : k < l.length), l[k].val = slot k)
          ∧ Ends scratch 0x44 tag .done {} s { u with loader := { s.loader with scratch := l } })
    ∧ (∃ v, Ends (.doorLock tag) 0x47 tag .done {} s v ∧ v.loader.doorLockFlag = true
        ∧ v.loader.lockOutput = (s.running && s.picker.state != .faulted) ∧ s.blocksSame { v with loader := s.loader })
    ∧ (∃ v, Ends (.doorUnlock tag) 0x48 tag .done {} s v ∧ v.loader.doorLockFlag = false
        ∧ v.loader.lockOutput = (s.running && s.picker.state != .faulted && s.picker.state != .parked)
        ∧ s.blocksSame { v with loader := s.loader })
    ∧ (1 < p0.toNat ∨ 1 < p1.toNat → TurnedAway (.drivePower tag p0 p1) 0x27 tag .badParam s)
    ∧ (∀ d : Drive, p0.toNat = d.val → p1.toNat ≤ 1 →
        ((s.chan d).state ≠ .unmounted ∨ (p1 = 1 ∧ (s.filter (.power d)).debounced = .on) →
          TurnedAway (.drivePower tag p0 p1) 0x27 tag .refusedState s)
        ∧ ((s.chan d).state = .unmounted → p1 = 0 ∨ (s.filter (.power d)).debounced ≠ .on →
          Ends (.drivePower tag p0 p1) 0x27 tag .done {} s
            { u with loader := { s.loader with bayPower := s.loader.bayPower.set d (p1 == 1) } }))

/-- R130, R162, R163: CLEAN, SET_CLEAN_USES, CLEAN_DONE and the clean timeout.
That the clean timeout comes exactly at its deadline is the model's choice: log entry 3. -/
def Obligations.CleaningCommandsAct : Prop :=
  ∀ (s : State) (tag : Half) (p0 p1 : Word) (d : Drive),
    let u := s.atOwner
    ((1 < p0.toNat → TurnedAway (.clean tag p0) 0x45 tag .badParam s ∧ TurnedAway (.cleanDone tag p0) 0x26 tag .badParam s)
      ∧ (26 < p0.toNat ∨ 255 < p1.toNat → TurnedAway (.setCleanUses tag p0 p1) 0x46 tag .badParam s)
      ∧ (p0.toNat = d.val → EndsSettled (.clean tag p0) 0x45 tag .done s
          { u with loader := { s.loader with
            cleaningDue := s.loader.cleaningDue.set d true, noCleaner := s.loader.noCleaner.set d false } })
      ∧ (∀ (l : Loc) k, p0.toNat = l.val → p1.toNat ≤ 255 → (s.loc l).cart = some k →
          (k.label.bind (·.getLast?)) = some 0x43 → ∃ v, EndsSettled (.setCleanUses tag p0 p1) 0x46 tag .done s v
          ∧ (v.loc l).cart = some { k with uses := p1.toNat } ∧ (∀ m, m ≠ l → v.loc m = s.loc m) ∧ v.chans = s.chans
          ∧ v.mem = s.mem ∧ v.ring = s.ring)
      ∧ (∀ l : Loc, p0.toNat = l.val → p1.toNat ≤ 255 →
          ((s.loc l).cart = none ∨ ∃ k, (s.loc l).cart = some k ∧ (k.label.bind (·.getLast?)) ≠ some 0x43) →
          TurnedAway (.setCleanUses tag p0 p1) 0x46 tag .refusedState s)
      ∧ (p0.toNat = d.val → (s.chan d).state ≠ .mounting ∨ (s.chan d).cleaningMark = false →
          TurnedAway (.cleanDone tag p0) 0x26 tag .refusedState s)
      ∧ (p0.toNat = d.val → (s.chan d).state = .mounting → (s.chan d).cleaningMark = true → ∃ v,
          EndsSettled (.cleanDone tag p0) 0x26 tag .done s v ∧ (v.chan d).blocksMoved = 0
          ∧ v.loader.cleaningDue[d] = false ∧ (v.chan d).cleaningMark = false ∧ (v.chan d).cleanTimer = none
          ∧ (v.chan d).state = (if s.bayPos d = .on then .ejectWait else .unmounted) ∧ v.mem = s.mem))
    ∧ (∀ t, (s.chan d).cleanTimer = some t → (s.chan d).state = .mounting → ∃ v,
        exec (.cleanTimeout d) s = .next (s.settle v) ∧ v.timebase = max s.timebase t
        ∧ v.loader.cleaningDue = s.loader.cleaningDue ∧ (v.chan d).blocksMoved = (s.chan d).blocksMoved
        ∧ (v.chan d).cleanTimer = none
        ∧ (v.chan d).state = (if s.bayPos d = .on then .ejectWait else .unmounted) ∧ v.mem = s.mem)

/-- R136, R141 to R146. A reply without its order is counted. The reply to an abandoned order, and its deadline, only end its
wait: in HOMING with the door closed, where RESET_LOADER leaves the picker, HOME is then sent; a reply to an order that an
opening of the door abandoned is counted as stray. JAM, a reply that the order does not list, the motion timeout and an opening
of the door under an order fault the picker: its request ends FAILED with the cause, the expectation of the order clears, and
PICKER_FAULT is written, which ends a RECOVER_PICKER. The other replies take the next step of the leg or visit, with the
cartridge record moving at GRIP and RELEASE DONE, the label taken by READ_LABEL, a bay's channel becoming MOUNTING from
whatever state it is in by then, FAILED among them, with its timer (R160) and its first-fault record kept (R87), and the end of the leg or visit handed to the request (R153, R154): a CHANGEOVER's second leg from the scratch list, or SCRATCH_EMPTY
(R161), and the CLEAN_END of a CLEAN (R163). NO_CARTRIDGE, BLOCKED and a cut leg end them (R133, R143); HOME DONE parks the
picker, or holds a cartridge for its RETURN. RECOVER_PICKER is taken in FAULTED alone; RESET_LOADER empties the queue and homes.
The queue after a request that failed or was cancelled, that PICKER_FAULT comes last, and that a CLEAN which failed writes its two
records alone, are stated without a preempt in progress.
The model's choices and readings: a timeout exactly at its deadline (log entry 3), JAM for a JAM reply to READ_LABEL (28), the
uses of a cleaner whose label is new (29), further words of homing's LOCATION_CHANGED (30), that a request knows its cartridge by
its record (36), the subject of the record that ends a recovery (41), the order of a fault's records (77), DOOR_EVENT before the
picker's stop (78), a record already at a release's destination (85), the reason UNSURE of a RETURN that met BLOCKED (97), and
the label taken in a cut leg (98). The order of the records at the DONE of HOME (106), and that a load into the bay of a channel
in WRITE, UNMOUNTING or READ ends that use of the drive, the reader by a normal stop (109), are its choices too. -/
def Obligations.PickerOrdersFaultsAndRecovery : Prop :=
  ∀ (s : State) (tag : Half),
    let space (n : Nat) : Prop :=
      s.ring.reserved.toNat + n ≤ s.ring.freePlaces ∧ s.ring.reserved.toNat + s.ring.buffer.length + n ≤ 32
    let news (v : State) : List Record := (v.ring.buffer.drop s.ring.buffer.length).map fun r => { r with dropped := 0 }
    let told (v : State) : List Record := (news v).filter fun r => r.kind ≠ .doorEvent
    let text (t : List Byte) (k : Nat) : Word := w32 (ofLE ((t.drop k).take 4))
    let strays (o : Order) : Counter :=
      if o.stray then s.loader.counters.strayReplies.add 1 else s.loader.counters.strayReplies
    let sent (v : State) (st : Stage) (l : Option Loc) : Prop :=
      v.picker.order = some { number := s.picker.nextNumber, stage := st, loc := l
                              deadline := v.timebase + timeoutMicros s.params.motionTimeout }
      ∧ v.picker.inFlight = true ∧ v.loader.counters.orders = s.loader.counters.orders.add 1
      ∧ v.picker.nextNumber = (if s.picker.nextNumber = 255 then 1 else s.picker.nextNumber + 1)
    let reported (v : State) (r : Req) (o : CmdOutcome) (legs : Nat) : Prop :=
      v.picker.active = none
      ∧ (space 8 → ∃ m ∈ news v, m.kind = .moveEnd ∧ m.byte1 = o.code ∧ m.tag = (if r.internal then 0 else r.id)
          ∧ m.e0 = o.cause ∧ m.e1 = w32 r.kind.code ∧ m.e4 = r.id.setWidth 32 ∧ m.e5 = w32 legs)
    let ended (v : State) (r : Req) (o : CmdOutcome) (legs : Nat) : Prop :=
      (s.loader.preempt = none ∨ o = .done → v.loader.queue = s.loader.queue.filter (·.stamp ≠ r.stamp))
      ∧ reported v r o legs
    let faulted (v : State) (c : Cause) (o : Order) : Prop :=
      v.picker.state = .faulted ∧ v.picker.fault = some c ∧ v.picker.pos = none ∧ v.picker.inFlight = false
      ∧ v.picker.cut = false ∧ v.picker.cart = s.picker.cart ∧ v.picker.recovery = none
      ∧ (∀ l, o.loc = some l → o.stage = .grip ∨ o.stage = .release → (v.loc l).expected = none)
      ∧ (s.picker.active = none → v.loader.queue = s.loader.queue ∧ v.chans = s.chans)
      ∧ (∀ r, s.activeReq = some r → ended v r (.failed c) r.legsDone)
      ∧ (space 8 → s.loader.preempt = none → (∀ r i, s.activeReq = some r → (s.session i).mountReq ≠ some r.stamp) →
          (news v).getLast? = some (match s.picker.recovery with
            | some t =>
              { kind := .pickerFault, byte1 := 0x21, tag := t, subject := 0xFFFF, e0 := w32 c.code, e1 := 4
                e3 := w32 s.picker.cart.isSome.toNat }
            | none =>
              { kind := .pickerFault, byte1 := c.byte
                subject := match o.loc with | some l => BitVec.ofNat 16 l.val | none => 0xFFFF
                e0 := w32 s.picker.state.code, e1 := w32 o.stage.kindCode
                e2 := match s.activeReq with | some r => w32 r.id.toNat | none => 0
                e3 := w32 s.picker.cart.isSome.toNat }))
    let returned (c : Option Cart) (l : Loc) : Req :=
      { newReq .returnCart none l with
        cart := c.map (·.uid), stamp := s.loader.nextStamp, id := BitVec.ofNat 16 s.loader.nextId, internal := true }
    let listed (st : Stage) (reply : Reply) : Bool :=
      match st, reply with
      | _, .jam | .grip, .noCartridge | .release, .blocked => true
      | .readLabel, .label _ | .readLabel, .noLabel | .visitRead, .label _ | .visitRead, .noLabel => true
      | .readLabel, .done | .visitRead, .done => false
      | _, .done => true
      | _, _ => false
    (∀ n r, s.running = true → (∀ o, s.picker.order = some o → o.number ≠ n) →
      exec (.motionReply n r) s = .next { s with loader := { s.loader with counters := { s.loader.counters with
        strayReplies := s.loader.counters.strayReplies.add 1 } } })
    ∧ (∀ o, s.picker.order = some o → s.picker.inFlight = false →
      (∀ r, s.running = true → s.picker.state ≠ .homing ∨ s.doorOpen = true →
        exec (.motionReply o.number r) s = .next (s.settle
          { s with loader := { s.loader with
            picker := { s.picker with order := none, inFlight := false }
            counters := { s.loader.counters with strayReplies := strays o } } }))
      ∧ (∀ r, s.running = true → s.picker.state = .homing → s.doorOpen = false → ∃ v,
        exec (.motionReply o.number r) s = .next (s.settle v) ∧ sent v .home none ∧ v.picker.state = .homing
        ∧ v.loader.counters.strayReplies = strays o ∧ v.picker.cart = s.picker.cart ∧ v.loader.queue = s.loader.queue
        ∧ v.loader.locs = s.loader.locs ∧ v.timebase = s.timebase ∧ v.mem = s.mem ∧ v.chans = s.chans)
      ∧ ∃ v, exec .motionTimeout s = .next (s.settle v) ∧ v.timebase = max s.timebase o.deadline
        ∧ v.picker.state = s.picker.state ∧ v.picker.fault = s.picker.fault ∧ v.picker.cart = s.picker.cart
        ∧ v.loader.counters.strayReplies = s.loader.counters.strayReplies
        ∧ v.loader.counters.timeouts = s.loader.counters.timeouts
        ∧ v.loader.queue = s.loader.queue ∧ v.mem = s.mem ∧ v.chans = s.chans
        ∧ (if s.picker.state = .homing ∧ s.doorOpen = false then sent v .home none
            else v.picker.order = none ∧ v.picker.inFlight = false))
    ∧ (∀ o, s.picker.order = some o → s.picker.inFlight = true →
      (∃ v, exec .motionTimeout s = .next (s.settle v) ∧ faulted v .timeout o ∧ v.picker.order = none
        ∧ v.loader.counters.timeouts = s.loader.counters.timeouts.add 1
        ∧ v.timebase = max s.timebase o.deadline ∧ v.mem = s.mem)
      ∧ (∀ t, s.running = true → (s.filter .door).candidate = some .on → (s.filter .door).deadline = some t → ∃ v,
        exec (.sensorSettleExpiry .door) s = .next (s.settle v) ∧ faulted v .doorOpen o ∧ v.doorOpen = true
        ∧ v.picker.order = some { o with stray := true } ∧ v.mem = s.mem
        ∧ (space 1 → (news v).head? = some { kind := .doorEvent, e0 := 1, e1 := w32 s.picker.state.code })))
    ∧ (∀ o reply, s.running = true → s.picker.order = some o → s.picker.inFlight = true → ∃ v,
      exec (.motionReply o.number reply) s = .next (s.settle v) ∧ v.mem = s.mem ∧ v.timebase = s.timebase
      ∧ (reply = .jam → faulted v .jam o ∧ v.picker.order = none
          ∧ v.loader.counters.jams = s.loader.counters.jams.add 1)
      ∧ (listed o.stage reply = false → faulted v .picker o ∧ v.picker.order = none
          ∧ v.loader.counters.protocolErrors = s.loader.counters.protocolErrors.add 1)
      -- a leg (R142, R144)
      ∧ (∀ l r, o.loc = some l → s.activeReq = some r → s.picker.cut = false →
        let stands := v.picker.order = none ∧ v.picker.inFlight = false
        (o.stage = .toSource → reply = .done → r.marked = false → s.inOpenMagazine l = false →
          sent v .grip (some l) ∧ v.picker.state = .grip ∧ v.picker.pos = some (.loc l) ∧ (v.loc l).expected = some false
          ∧ v.picker.cart = s.picker.cart ∧ v.loader.queue = s.loader.queue ∧ v.chans = s.chans)
        ∧ (o.stage = .toSource → reply = .done → r.marked = true →
          stands ∧ v.picker.state = .parked ∧ v.picker.pos = some (.loc l) ∧ ended v r .cancelled r.legsDone)
        ∧ (o.stage = .grip → reply = .done →
          let home (c : Cart) : Option (Fin 24) := if h : l.val < 24 then some ⟨l.val, h⟩ else c.home
          (v.loc l).cart = none ∧ v.picker.legSource = some l
          ∧ (∀ c, (s.loc l).cart = some c →
            v.picker.cart = some { c with home := home c }
            ∧ (c.label ≠ none → s.inOpenMagazine r.dst = false → sent v .toDest (some r.dst) ∧ v.picker.state = .travel
                ∧ v.findReq r.stamp =
                    some (if r.kind = .mount ∧ r.second.isSome then r else { r with cart := some c.uid }))
            ∧ (c.label = none → s.inOpenMagazine l = false → sent v .readLabel (some l) ∧ v.picker.state = .scan))
          ∧ ((s.loc l).cart = none → s.inOpenMagazine l = false →
            v.picker.cart = some { uid := s.loader.nextUid, home := home { uid := 0 } } ∧ sent v .readLabel (some l)
            ∧ v.picker.state = .scan))
        ∧ (∀ c, o.stage = .readLabel → s.picker.cart = some c → s.inOpenMagazine r.dst = false →
          let onward := sent v .toDest (some r.dst) ∧ v.picker.state = .travel
          let unread : Record := { kind := .labelRead, byte1 := 1, subject := 27 }
          let read (t : List Byte) (k : Cart) : Record :=
            { kind := .labelRead, subject := 27, e0 := text t 0, e1 := text t 4, e2 := w32 k.media.code }
          (reply = .noLabel → onward ∧ v.picker.cart = some { c with label := none } ∧ (space 3 → told v = [unread]))
          ∧ (∀ t, reply = .label t →
            (¬ (1 ≤ t.length ∧ t.length ≤ 8 ∧ t.all labelChar = true) →
              onward ∧ v.picker.cart = some { c with label := none } ∧ (space 3 → told v = [unread])
              ∧ v.loader.counters.badLabels = s.loader.counters.badLabels.add 1)
            ∧ (1 ≤ t.length ∧ t.length ≤ 8 ∧ t.all labelChar = true →
              (c.label = some t → onward ∧ v.picker.cart = some c ∧ (space 3 → told v = [read t c]))
              ∧ (c.label ≠ some t → (∀ m k, (s.loc m).cart = some k → k.uid ≠ c.uid → k.label ≠ some t) →
                let x := { c with label := some t, uses := if t.getLast? = some 0x43 then s.params.cleanUsesNew else c.uses }
                onward ∧ v.picker.cart = some x ∧ (space 3 → told v = [read t x]))
              ∧ (∀ m k, c.label ≠ some t → (s.loc m).cart = some k → k.uid ≠ c.uid → k.label = some t →
                (∀ n y, (s.loc n).cart = some y → y.label = some t → n = m) →
                let x := { c with label := some t, uses := k.uses, suspect := c.suspect || k.suspect }
                onward ∧ v.picker.cart = some x ∧ (v.loc m).cart = some { k with label := none, suspect := false }
                ∧ v.loader.counters.duplicateLabels = s.loader.counters.duplicateLabels.add 1
                ∧ (space 4 → told v = [{ kind := .duplicateLabel, subject := BitVec.ofNat 16 m.val, e0 := 27
                                         e1 := text t 0, e2 := text t 4 }, read t x])))))
        ∧ (o.stage = .toDest → reply = .done → s.inOpenMagazine l = false →
          sent v .release (some l) ∧ v.picker.state = .release ∧ v.picker.pos = some (.loc l)
          ∧ (v.loc l).expected = some true ∧ v.picker.cart = s.picker.cart ∧ v.loader.queue = s.loader.queue
          ∧ v.chans = s.chans)
        -- visits (R142, R144, R154)
        ∧ (o.stage = .visit → reply = .done → s.inOpenMagazine l = false →
          sent v .visitRead (some l) ∧ v.picker.state = .scan ∧ v.picker.pos = some (.loc l)
          ∧ v.loader.queue = s.loader.queue ∧ v.loader.locs = s.loader.locs)
        ∧ (∀ found : Bool, o.stage = .visitRead → r.marked = false →
          (found = true → ∃ t, reply = .label t ∧ 1 ≤ t.length ∧ t.length ≤ 8 ∧ t.all labelChar = true) →
          (found = false → reply = .noLabel) →
          stands ∧ v.picker.state = .parked ∧ v.picker.active = none
          ∧ (r.cursor + 1 ≤ r.last → v.findReq r.stamp = some { r with
              labels := r.labels + found.toNat, unlabelled := r.unlabelled + (!found).toNat, cursor := r.cursor + 1
              state := .queued })
          ∧ (r.last < r.cursor + 1 → ended v r .done r.legsDone)
          ∧ (∀ c, (s.loc l).cart = some c → ∃ k, (v.loc l).cart = some k ∧ k.uid = c.uid
              ∧ (∀ t, reply = .label t → k.label = some t) ∧ (reply = .noLabel → k = { c with label := none }))
          ∧ ((s.loc l).cart = none → ∀ m, (v.loc m).cart = (s.loc m).cart)))
      -- the end of a leg, cut or not (R142, R153, R160), and its failures (R143)
      ∧ (∀ l r, o.loc = some l → s.activeReq = some r →
        let stands := v.picker.order = none ∧ v.picker.inFlight = false
        (∀ c, o.stage = .release → reply = .done → s.picker.cart = some c →
          let after : Req := { r with
            legsDone := r.legsDone + 1, firstSrc := if r.legsDone = 0 then r.src else r.firstSrc, state := .queued }
          stands ∧ v.picker.state = .parked ∧ v.picker.active = none ∧ v.picker.cart = none ∧ v.picker.legSource = none
          ∧ (∀ m, (s.loc m).reserved = some (.request r.stamp) → (v.loc m).reserved ≠ some (.request r.stamp))
          ∧ (∀ a b, r.kind = .mount ∨ r.kind = .remount → r.second = some (a, b) →
              v.findReq r.stamp = some { after with src := some a, dst := b, second := none }
              ∧ v.loader.queue.map (·.stamp) = s.loader.queue.map (·.stamp))
          ∧ (l.val < 25 → (v.loc l).cart = some c
            ∧ (∀ m, (s.loc m).reserved = some (.homeOf c.uid) → (v.loc m).reserved = none)
            ∧ (r.kind = .move ∨ r.kind = .exportCart ∨ r.kind = .importCart ∨ r.kind = .returnCart →
                r.second = none → r.recorded = none →
                ended v r .done (r.legsDone + 1)
                ∧ v.loader.exportWaiting = (r.kind == .exportCart || s.loader.exportWaiting) ∧ v.chans = s.chans)
            -- the first leg of a CHANGEOVER (R161)
            ∧ (∀ d : Drive, r.kind = .changeover → r.legsDone = 0 → r.drive = some d → r.second = none → r.recorded = none →
              let usable (k : Fin 24) : Prop := v.presence (slotLoc k) = .full ∧ (v.loc (slotLoc k)).reserved = none
                ∧ v.inOpenMagazine (slotLoc k) = false
                ∧ ∃ x, (v.loc (slotLoc k)).cart = some x ∧ x.media = .data ∧ x.suspect = false
              (∀ before k later, s.loader.scratch = before ++ k :: later → (∀ j ∈ before, ¬ usable j) → usable k →
                v.findReq r.stamp = some { after with src := some (slotLoc k), dst := bayLoc d, second := none }
                ∧ v.loader.scratch = s.loader.scratch.filter (· ≠ k))
              ∧ ((∀ k ∈ s.loader.scratch, ¬ usable k) → ended v r .done 1 ∧ v.loader.scratch = s.loader.scratch
                ∧ (space 4 → ∃ m, m.kind = .moveEnd ∧ told v =
                    [{ kind := .scratchEmpty, subject := BitVec.ofNat 16 d.val, e0 := w32 s.loader.scratch.length }, m])))
            -- the last leg of a CLEAN (R163)
            ∧ (∀ (d : Drive) (a : Loc), r.kind = .clean → 1 ≤ r.legsDone → r.drive = some d → r.second = none →
              r.firstSrc = some a → r.cart = some c.uid → (∀ i, (s.session i).mountReq ≠ some r.stamp) →
              (∀ m k, (s.loc m).cart = some k → m ≠ l → k.uid ≠ c.uid) →
              let o : CmdOutcome := match r.recorded with | some x => .failed x | none => .done
              ended v r o (r.legsDone + 1)
              ∧ (space 4 → r.recorded = none ∨ s.loader.preempt = none → ∃ m, m.kind = .moveEnd ∧ told v =
                  [{ kind := .cleanEnd, byte1 := o.code, subject := BitVec.ofNat 16 d.val, e0 := o.cause, e1 := w32 a.val
                     e2 := w32 c.uses }, m])))
          ∧ (∀ d : Drive, l = bayLoc d → r.recorded = none →
            let was := (s.chan d).state
            (v.chan d).state = .mounting ∧ (v.chan d).firstFault = (s.chan d).firstFault
            ∧ (was ≠ .read → (∀ e, e ≠ d → v.chan e = s.chan e)
                ∧ (was ≠ .mounting → space 1 → (news v).head? = some
                    { kind := .channelState, subject := BitVec.ofNat 16 d.val, e0 := 1, e1 := w32 was.code }))
            ∧ (was = .write ∨ was = .unmounting →
                (v.chan d).full = none ∧ (v.chan d).running = false ∧ (v.chan d).occupancy = 0 ∧ (v.chan d).drainTimer = none)
            ∧ (was = .read → (v.chan d).reader.running = false)
            ∧ (∀ h, c.home = some h → (v.loc (slotLoc h)).reserved = some (.homeOf c.uid))
            ∧ (c.media ≠ .cleaning → (v.loc l).cart = some c
                ∧ (v.chan d).mountTimer = some (s.timebase + timeoutMicros s.params.mountTimeout))
            ∧ (c.media = .cleaning → (v.loc l).cart = some { c with uses := c.uses - 1 } ∧ (v.chan d).cleaningMark = true
                ∧ (v.chan d).cleanTimer = some (s.timebase + timeoutMicros s.params.cleanTimeout))
            ∧ (r.kind = .move → r.second = none → was ≠ .read → ended v r .done (r.legsDone + 1) ∧ v.restore = s.restore)
            ∧ (r.kind = .mount → r.second = none → r.dst = l → s.loader.preempt = none → was ≠ .read →
                ended v r .done (r.legsDone + 1)
                ∧ (∀ i, (s.session i).mountReq = some r.stamp → v.session i = { s.session i with
                    state := .waitRead, drive := some d, mountReq := none, link := none })
                ∧ (∀ i, (s.session i).mountReq ≠ some r.stamp → v.session i = s.session i))
            ∧ (r.kind = .clean → r.legsDone = 0 → r.drive = some d → v.findReq r.stamp = some { after with
                src := some l, dst := match c.home with | some h => slotLoc h | none => mailLoc, second := none })))
        ∧ (o.stage = .grip → reply = .noCartridge →
          stands ∧ v.picker.state = .parked ∧ (v.loc l).expected = none ∧ (v.loc l).cart = (s.loc l).cart
          ∧ ended v r (.failed .noCartridge) r.legsDone)
        ∧ (o.stage = .release → reply = .blocked →
          stands ∧ v.picker.state = .holding ∧ (v.loc l).expected = none ∧ v.picker.cart = s.picker.cart
          ∧ v.picker.active = none
          ∧ (r.kind = .returnCart → v.findReq r.stamp = some { r with state := .waiting .unsure, blocked := some l })
          ∧ (r.kind ≠ .returnCart → s.loader.preempt = none → s.loader.queue.length ≤ 10 →
              (s.picker.legSource.getD mailLoc).val < 25 →
              v.loader.queue = s.loader.queue.filter (·.stamp ≠ r.stamp) ++
                [returned s.picker.cart (s.picker.legSource.getD mailLoc)])))
      -- a cut leg (R133), and one whose next order would name a slot of an OPEN magazine
      ∧ (∀ l r, o.loc = some l → s.activeReq = some r →
        let cutAt (next : Loc) : Prop := s.picker.cut = true ∨ s.inOpenMagazine next = true
        let source := s.picker.legSource.getD mailLoc
        let parks := v.picker.state = .parked ∧ v.picker.order = none ∧ v.picker.cut = false
        let waits := parks ∧ v.picker.active = none ∧ (∀ m, (v.loc m).cart = (s.loc m).cart)
          ∧ v.findReq r.stamp = some { r with state := .queued, blocked := none } ∧ (space 2 → told v = [])
        let holds := v.picker.state = .holding ∧ v.picker.order = none ∧ v.picker.cut = false ∧ v.picker.active = none
        let fails (a : Loc) := r.kind ≠ .returnCart → reported v r (.failed .magazineOpen) r.legsDone
          ∧ (s.loader.preempt = none → s.loader.queue.length ≤ 10 → a.val < 25 → v.loader.queue =
              s.loader.queue.filter (·.stamp ≠ r.stamp) ++ [returned v.picker.cart a])
        let stays := r.kind = .returnCart → v.findReq r.stamp = some { r with state := .waiting .magazine, blocked := none }
        (o.stage = .toSource → reply = .done → cutAt l → s.picker.cart = none → r.marked = false → r.kind ≠ .inventory →
          parks ∧ ended v r (.failed .magazineOpen) r.legsDone)
        ∧ (o.stage = .visit → reply = .done → cutAt l → s.picker.cart = none → r.marked = false → r.kind = .inventory → waits)
        ∧ (o.stage = .visitRead → (reply = .noLabel ∨ ∃ t, reply = .label t) → s.picker.cut = true → s.picker.cart = none →
          r.marked = false → r.kind = .inventory → waits)
        ∧ (∀ c, o.stage = .grip → reply = .done → (s.loc l).cart = some c → cutAt (if c.label = none then l else r.dst) →
          r.kind ≠ .returnCart → holds ∧ v.picker.legSource = some l ∧ (v.loc l).cart = none
          ∧ v.picker.cart = some { c with home := if h : l.val < 24 then some ⟨l.val, h⟩ else c.home } ∧ fails l)
        ∧ (∀ c, o.stage = .readLabel → s.picker.cart = some c → cutAt r.dst →
          (reply = .noLabel → holds ∧ v.picker.cart = some { c with label := none } ∧ fails source ∧ stays)
          ∧ (∀ t, reply = .label t → 1 ≤ t.length → t.length ≤ 8 → t.all labelChar = true →
              holds ∧ v.picker.cart.map (·.uid) = some c.uid ∧ v.picker.cart.bind (·.label) = some t ∧ fails source ∧ stays))
        ∧ (o.stage = .toDest → reply = .done → cutAt l → s.picker.cart.isSome = true →
          holds ∧ v.picker.cart = s.picker.cart ∧ fails source ∧ stays))
      -- homing (R145)
      ∧ (o.stage = .home → reply = .done →
        let recovered (st : PickState) : List Record := match s.picker.recovery with
          | some t => [{ kind := .pickerFault, tag := t, e0 := w32 st.code }]
          | none => []
        v.picker.pos = some .home ∧ v.picker.fault = none ∧ v.picker.order = none ∧ v.picker.recovery = none
        ∧ ((s.filter .gripper).debounced = .on →
          let dst := match s.picker.homeTo with | .mail => mailLoc | .legSource => s.picker.legSource.getD mailLoc
          v.picker.state = .holding ∧ v.picker.cart = some (s.picker.cart.getD { uid := s.loader.nextUid })
          ∧ (s.loader.queue.length < 10 → v.chans = s.chans ∧ (space 3 → told v = recovered .holding)
              ∧ (dst.val < 25 → v.loader.queue = s.loader.queue ++ [returned v.picker.cart dst])))
        ∧ ((s.filter .gripper).debounced ≠ .on →
          v.picker.state = .parked ∧ v.picker.cart = none ∧ v.loader.queue = s.loader.queue ∧ v.chans = s.chans
          ∧ (∀ c m, s.picker.cart = some c → (s.loc m).reserved = some (.homeOf c.uid) → (v.loc m).reserved = none)
          ∧ (space 4 → told v = (if s.picker.cart.isSome then [{ kind := .locationChanged, subject := 27, e1 := 2 }] else [])
              ++ recovered .parked))))
    ∧ ((s.picker.state ≠ .faulted → TurnedAway (.recoverPicker tag) 0x49 tag .refusedState s)
      ∧ (s.picker.state = .faulted → ∃ v, EndsSettled (.recoverPicker tag) 0x49 tag .accepted s v
          ∧ v.picker.state = .homing ∧ v.picker.recovery = some tag ∧ v.picker.cart = s.picker.cart
          ∧ v.loader.queue = s.loader.queue ∧ v.mem = s.mem ∧ v.chans = s.chans)
      ∧ (∃ v, EndsSettled (.resetLoader tag) 0x4A tag .done s v ∧ v.loader.queue = [] ∧ v.loader.preempt = none
          ∧ v.picker.state = .homing ∧ v.picker.recovery = none ∧ v.picker.active = none
          ∧ v.loader.doorLockFlag = s.loader.doorLockFlag ∧ v.loader.scratch = s.loader.scratch
          ∧ (∀ x : Sensor, (v.filter x).raw = (s.filter x).raw) ∧ v.mem = s.mem))

/-- R131: a raw value by the filter's rules, and the settled value that becomes the debounced one, on which the loader acts: a
place turning FULL or EMPTY, as expected or by hand (R132), with export waiting (R138); a magazine unlatched or latched again
(R133, R134); the door (R136; one opened under an order stands with the picker's faults), and a press of the button with its
IMPORT (R137); a bay's power (R139), and what the position of a cartridge in a bay does to its channel (R159). The gripper's
value only settles. The model's choices and readings: that the settling comes exactly at its deadline (log entry 3), byte 1 and
the subject of the POWER_FAULT of a clearing (log entry 27), that the records of a latch come in ascending locations (log entry
74) before its DOOR_EVENT (log entry 42), and that CHANNEL_FAILED comes before POWER_FAULT, and a bay's LOCATION_CHANGED before
the records of its channel (log entry 78). -/
def Obligations.SensorsAreDebounced : Prop :=
  ∀ (s : State) (x : Sensor) (v : Level), s.running = true → x.takes v = true →
    let f := s.filter x
    let wait := match x with
      | .presence _ | .gripper => s.params.debounceSlot
      | .door | .latch _ | .button => s.params.debouncePanel
      | .bay _ | .power _ => s.params.debounceBay
    let space (n : Nat) : Prop :=
      s.ring.reserved.toNat + n ≤ s.ring.freePlaces ∧ s.ring.reserved.toNat + s.ring.buffer.length + n ≤ 32
    let news (w : State) : List Record := (w.ring.buffer.drop s.ring.buffer.length).map fun r => { r with dropped := 0 }
    let text (t : Option (List Byte)) (k : Nat) : Word := w32 (ofLE (((t.getD []).drop k).take 4))
    let changed (l : Loc) (e0 e1 : Nat) (t : Option (List Byte)) : Record :=
      { kind := .locationChanged, subject := BitVec.ofNat 16 l.val, e0 := w32 e0, e1 := w32 e1, e2 := text t 0, e3 := text t 4 }
    let panel (e0 : Nat) : Record := { kind := .doorEvent, e0 := w32 e0, e1 := w32 s.picker.state.code }
    let power (d : Drive) (e0 : Nat) : Record :=
      { kind := .powerFault, byte1 := 0x0F, subject := BitVec.ofNat 16 d.val, e0 := w32 e0, e1 := w32 (s.chan d).state.code }
    let queued (r : Req) : List Req :=
      s.loader.queue ++ [{ r with stamp := s.loader.nextStamp, id := BitVec.ofNat 16 s.loader.nextId, internal := true }]
    (∃ t, exec (.rawSensorChange x v) s = .next (s.settle t) ∧ (∀ y, y ≠ x → t.filter y = s.filter y)
      ∧ (v = f.debounced → t.filter x = { f with raw := v, candidate := none, deadline := none })
      ∧ (v ≠ f.debounced → f.candidate = some v → t.filter x = { f with raw := v })
      ∧ (v ≠ f.debounced → f.candidate ≠ some v → t.filter x =
          { f with raw := v, candidate := some v, deadline := some (s.timebase + 1000 * wait) })
      ∧ t.mem = s.mem ∧ t.chans = s.chans ∧ t.ring = s.ring ∧ t.streams = s.streams)
    ∧ (∀ t, f.candidate = some v → f.deadline = some t → ∃ w, exec (.sensorSettleExpiry x) s = .next (s.settle w)
      ∧ w.timebase = max s.timebase t ∧ w.mem = s.mem
      ∧ w.filter x = { f with debounced := v, candidate := none, deadline := none }
      ∧ (∀ y, y ≠ x → w.filter y = s.filter y)
      -- presence of a place (R132, R138)
      ∧ (∀ l : Loc, presenceSensor l = x →
        let c := s.loc l
        let same := (w.loc l).cart = c.cart ∧ w.loader.counters.manualChanges = s.loader.counters.manualChanges
        let manual := (w.loc l).expected = c.expected
          ∧ w.loader.counters.manualChanges = s.loader.counters.manualChanges.add 1
        (∀ m, m ≠ l → (w.loc m).cart = (s.loc m).cart ∧ (w.loc m).expected = (s.loc m).expected)
        ∧ w.loader.exportWaiting = (if l = mailLoc ∧ f.debounced ≠ .off ∧ v = .off then false else s.loader.exportWaiting)
        ∧ ((f.debounced = .off ↔ v = .off) → w.loc l = c ∧ same)
        ∧ (f.debounced = .off → v ≠ .off →
          (c.expected = some true → (w.loc l).expected = none ∧ same ∧ (l.val < 25 → w.ring.buffer = s.ring.buffer))
          ∧ (c.expected ≠ some true → manual
            ∧ (c.cart = none → (w.loc l).cart = some { uid := s.loader.nextUid }
                ∧ (space 1 → (news w).head? = some (changed l 1 1 none)))
            ∧ (c.cart ≠ none → (w.loc l).cart = c.cart ∧ (space 1 → (news w).head? = some (changed l 1 0 none)))))
        ∧ (f.debounced ≠ .off → v = .off →
          (c.expected = some false → (w.loc l).expected = none ∧ same ∧ (l.val < 25 → w.ring.buffer = s.ring.buffer))
          ∧ (c.expected ≠ some false → manual ∧ (w.loc l).cart = none
            ∧ (c.cart = none → (space 1 → (news w).head? = some (changed l 0 0 none)))
            ∧ (∀ k, c.cart = some k → (space 1 → (news w).head? = some (changed l 0 2 k.label))
                ∧ ∀ m, (s.loc m).reserved = some (.homeOf k.uid) → (w.loc m).reserved = none))))
      -- bay position (R159)
      ∧ (∀ d : Drive, x = .bay d →
        let st := (s.chan d).state
        let fails := (w.chan d).state = .failed
          ∧ ((s.chan d).firstFault = none → (w.chan d).firstFault.map (·.cause) = some .unexpectedEject)
        (st = .ejectWait → v ≠ .on → (w.chan d).state = .unmounted ∧ (w.chan d).mount = none
          ∧ (w.chan d).ejectTimer = none ∧ ∀ e, e ≠ d → w.chan e = s.chan e)
        ∧ (st = .mounting → v = .off → fails)
        ∧ (st = .idle ∨ st = .write ∨ st = .read ∨ st = .unmounting → f.debounced = .on → v ≠ .on → fails)
        ∧ (st = .unmounted ∨ st = .failed ∨ (st = .ejectWait ∧ v = .on) ∨ (st = .mounting ∧ v ≠ .off)
            ∨ ((st = .idle ∨ st = .write ∨ st = .read ∨ st = .unmounting) ∧ (f.debounced ≠ .on ∨ v = .on)) →
          w.chans = s.chans))
      -- magazines (R133, R134)
      ∧ (∀ m : Fin 2, x = .latch m → v = .off →
        w.loader.magOpen = s.loader.magOpen.set m true ∧ (space 1 → news w = [panel (4 + 2 * m.val)])
        ∧ w.loader.locs = s.loader.locs ∧ w.loader.queue = s.loader.queue ∧ w.chans = s.chans
        ∧ (∀ o l, s.picker.order = some o → s.picker.inFlight = true → o.loc = some l → magOf l = some m →
            w.picker = { s.picker with cut := true })
        ∧ ((∀ o l, s.picker.order = some o → s.picker.inFlight = true → o.loc = some l → magOf l ≠ some m) →
            w.picker = s.picker))
      ∧ (∀ m : Fin 2, x = .latch m → v ≠ .off →
        w.loader.magOpen = s.loader.magOpen.set m false ∧ w.picker = s.picker ∧ w.chans = s.chans
        ∧ (∀ l, magOf l ≠ some m ∨ (s.loc l).cart = none → (w.loc l).cart = (s.loc l).cart)
        ∧ (∀ l c, magOf l = some m → (s.loc l).cart = some c →
            (∃ u, s.loader.nextUid ≤ u ∧ (w.loc l).cart = some { uid := u })
            ∧ ∀ h, (s.loc h).reserved = some (.homeOf c.uid) → (w.loc h).reserved = none)
        ∧ (∀ l r, (s.loc l).reserved = some (.request r) → (w.loc l).reserved = some (.request r))
        ∧ (space 13 → news w = (allLocs.filterMap fun l =>
            if magOf l = some m then (s.loc l).cart.map fun c => changed l 1 3 c.label else none) ++ [panel (5 + 2 * m.val)])
        ∧ (s.params.autoInventory ≠ 1 → w.loader.queue = s.loader.queue)
        ∧ (s.params.autoInventory = 1 → s.loader.queue.length < 10 → w.loader.queue = queued
            { newReq .inventory none (if m = 0 then 11 else 23) with
              first := 12 * m.val, last := 12 * m.val + 11, cursor := 12 * m.val })
        ∧ (s.params.autoInventory = 1 → 10 ≤ s.loader.queue.length → w.loader.queue = s.loader.queue
            ∧ w.loader.counters.droppedReqs = s.loader.counters.droppedReqs.add 1))
      -- the door (R136)
      ∧ (x = .door → v = .on → s.picker.inFlight = false ∨ s.picker.order = none →
        w.picker = s.picker ∧ w.loader.queue = s.loader.queue ∧ w.chans = s.chans ∧ (space 1 → news w = [panel 1]))
      ∧ (x = .door → v ≠ .on → (space 1 → (news w).head? = some (panel 0)) ∧ w.loader.queue = s.loader.queue
        ∧ w.chans = s.chans
        ∧ (s.picker.state = .homing → s.picker.order = none → w.picker.inFlight = true ∧ w.picker.order =
            some { number := s.picker.nextNumber, stage := .home, loc := none
                   deadline := w.timebase + timeoutMicros s.params.motionTimeout })
        ∧ (s.picker.state ≠ .homing ∨ s.picker.order ≠ none → w.picker = s.picker))
      -- the button (R137)
      ∧ (x = .button →
        let pressed (code : Nat) : Prop := w.loader.counters.presses = s.loader.counters.presses.add 1
          ∧ w.loader.locs = s.loader.locs ∧ w.picker = s.picker ∧ w.chans = s.chans
          ∧ (space 1 → news w = [{ kind := .button, subject := 24, e0 := w32 code }])
        let fits (k : Fin 24) : Prop := s.presence (slotLoc k) = .empty ∧ (s.loc (slotLoc k)).reserved = none
          ∧ s.inOpenMagazine (slotLoc k) = false
        let nothing := w.loader.queue = s.loader.queue
          ∧ w.loader.counters.droppedReqs = s.loader.counters.droppedReqs
        (v ≠ .on → w.loader = { s.loader with filters := w.loader.filters } ∧ w.ring.buffer = s.ring.buffer ∧ w.chans = s.chans)
        ∧ (v = .on →
          (s.presence mailLoc ≠ .full → pressed 1 ∧ nothing)
          ∧ (s.presence mailLoc = .full → s.loader.exportWaiting = true → pressed 2 ∧ nothing)
          ∧ (s.presence mailLoc = .full → s.loader.exportWaiting = false →
            ((∃ r ∈ s.loader.queue, r.involves mailLoc = true) → pressed 3 ∧ nothing)
            ∧ ((∀ r ∈ s.loader.queue, r.involves mailLoc = false) →
              ((∀ k, ¬ fits k) → pressed 4 ∧ nothing)
              ∧ (∀ k, fits k → (∀ j, j < k → ¬ fits j) →
                (s.loader.queue.length < 10 → pressed 0
                  ∧ w.loader.queue = queued (newReq .importCart (some mailLoc) (slotLoc k)))
                ∧ (10 ≤ s.loader.queue.length → pressed 5 ∧ w.loader.queue = s.loader.queue
                  ∧ w.loader.counters.droppedReqs = s.loader.counters.droppedReqs.add 1))))))
      -- bay power (R139)
      ∧ (∀ d : Drive, x = .power d →
        (v ≠ .on → w.chans = s.chans ∧ w.loader = { s.loader with filters := w.loader.filters }
          ∧ (space 1 → news w = [power d 0]))
        ∧ (v = .on → w.loader.bayPower = s.loader.bayPower.set d false ∧ (w.chan d).state = .failed
          ∧ w.loader.counters.powerFaults = s.loader.counters.powerFaults.add 1
          ∧ w.loader.queue = s.loader.queue ∧ w.picker = s.picker
          ∧ ((s.chan d).state = .failed → w.chans = s.chans ∧ (space 1 → news w = [power d 1]))
          ∧ ((s.chan d).state ≠ .failed → (s.chan d).firstFault = none → (w.chan d).firstFault.map (·.cause) = some .power)
          ∧ ((s.chan d).state ≠ .failed → (s.chan d).placeQueue = [] → (s.chan d).held = none →
              (s.chan d).reader.running = false → (∀ i, (s.session i).drive ≠ some d) →
              (∀ o, (s.stream o).targets.has d = false ∨ (s.stream o).state = .closed) →
            (space 2 → (news w).map (·.kind) = [.channelFailed, .powerFault] ∧ (news w).getLast? = some (power d 1)))))
      -- the gripper
      ∧ (x = .gripper → w.loader = { s.loader with filters := w.loader.filters } ∧ w.ring.buffer = s.ring.buffer
        ∧ w.chans = s.chans))

/-- The tests at the end of an event. They keep staging memory, the parameters, the timebase and the queue of commands, and
change nothing at all outside RUNNING, or where no request is queued, no preempt runs, no drive is due for cleaning and
auto_changeover is off. The selection considers the requests by class, and within a class by age: the first one that can run,
here a MOVE or EXPORT between places outside the bays behind requests that wait, becomes ACTIVE, its destination is reserved and
its first order is sent. A request whose source or destination is a bay is judged by the rows of R152 (row 3, of a preempt's
MOUNT, apart), a MOUNT on the bay that its preference gives; a CLEAN without a cleaner ends with CLEAN_END. A drive that becomes
due for cleaning gets its CLEAN, and a channel that becomes FULL its CHANGEOVER, while the queue has room. A MOUNT that is
QUEUED or WAITING as its last session leaves it is cancelled (R156), one that is ACTIVE then is not.
That these tests stand at the end of an event, in bounded rounds, is the model's choice: log entries 9 and 46. Another choice
of the model is that an internal request dropped at a full queue uses no internal id: log entry 101. -/
def Obligations.EventsEndWithTheLoadersTests : Prop :=
  (∀ ref s : State,
    (ref.settle s).mem = s.mem ∧ (ref.settle s).params = s.params ∧ (ref.settle s).timebase = s.timebase
    ∧ (ref.settle s).pending = s.pending
    ∧ (s.running = false → ref.settle s = s)
    ∧ (s.loader.queue = [] → s.loader.preempt = none → (∀ d : Drive, s.loader.cleaningDue[d] = false) →
        s.params.autoChangeover = 0 → ref.settle s = s))
  ∧ (∀ s : State, (s.loader.queue.map (·.stamp)).Pairwise (· < ·) →
    (∀ r ∈ s.loader.queue, r.stamp ∈ s.selectionOrder)
    ∧ s.selectionOrder.Pairwise (fun a b => ∀ q ∈ s.loader.queue, ∀ r ∈ s.loader.queue, q.stamp = a → r.stamp = b →
        q.kind.cls < r.kind.cls ∨ (q.kind.cls = r.kind.cls ∧ a < b))
    ∧ (∀ (before after : List Nat) (r : Req) (l : Loc),
        let moves (q : Req) : Prop := q.kind = .move ∨ q.kind = .exportCart
        s.running = true → s.picker.state = .parked → s.picker.order = none → s.picker.active = none → s.doorOpen = false →
        s.selectionOrder = before ++ r.stamp :: after → r ∈ s.loader.queue →
        (∀ q ∈ s.loader.queue, q.stamp ∈ before → moves q ∧ (s.presence q.dst = .unsure ∨ ∃ a, q.src = some a ∧ s.presence a = .unsure)) →
        moves r → r.src = some l → l.val < 25 → r.dst.val < 25 → s.presence l = .full → s.inOpenMagazine l = false →
        s.presence r.dst = .empty → s.inOpenMagazine r.dst = false → (s.loc r.dst).cart = none → (s.loc r.dst).reserved = none →
        let t := s.selection
        t.picker.active = some r.stamp ∧ t.picker.state = .travel ∧ t.picker.inFlight = true
        ∧ t.picker.order = some { number := s.picker.nextNumber, stage := .toSource, loc := some l
                                  deadline := s.timebase + timeoutMicros s.params.motionTimeout }
        ∧ (t.loc r.dst).reserved = some (.request r.stamp)
        ∧ (t.findReq r.stamp).map (·.state) = some .active
        ∧ (∀ x ∈ before, (t.findReq x).map (·.state) = some (.waiting .unsure))
        ∧ (∀ x ∈ after, t.findReq x = s.findReq x)
        ∧ t.mem = s.mem ∧ t.chans = s.chans ∧ t.streams = s.streams ∧ t.pool = s.pool))
  -- the judgement of a request with a bay (R152, R160)
  ∧ (∀ (s : State) (q : Req) (a dst : Loc),
    let plain : Prop := (q.kind = .move ∨ q.kind = .exportCart ∨ q.kind = .changeover ∨ q.kind = .remount) ∧ dst = q.dst
    let takes (d : Drive) : Prop := (s.chan d).state = .unmounted ∧ s.cleanQueued d = false
      ∧ s.presence (bayLoc d) ≠ .full ∧ s.bayCart d = none
      ∧ ((s.loc (bayLoc d)).reserved = none ∨ (s.loc (bayLoc d)).reserved = some (.request q.stamp))
    let turns (d : Drive) : Prop := (s.chan d).state ≠ .unmounted ∨ s.cleanQueued d = true
      ∨ s.presence (bayLoc d) = .full ∨ (s.bayCart d).isSome = true
      ∨ ∃ x, (s.loc (bayLoc d)).reserved = some (.request x) ∧ x ≠ q.stamp
    let mount : Prop := q.kind = .mount ∧ q.rewritten = false ∧ q.preempt = false ∧ ((∃ d, q.pref = some d ∧ dst = bayLoc d)
      ∨ (q.pref = none ∧ ((takes 0 ∧ dst = bayLoc 0) ∨ (turns 0 ∧ takes 1 ∧ dst = bayLoc 1))))
    let space (n : Nat) : Prop :=
      s.ring.reserved.toNat + n ≤ s.ring.freePlaces ∧ s.ring.reserved.toNat + s.ring.buffer.length + n ≤ 32
    let t := s.judge q
    let r : Req := { q with dst := dst, judged := some dst }
    let waits (w : WaitReason) : Prop := t.findReq q.stamp = some { r with state := .waiting w }
    let only : Prop := t.chans = s.chans ∧ t.streams = s.streams ∧ t.ring = s.ring ∧ t.picker = s.picker ∧ t.mem = s.mem
      ∧ t.loader.locs = s.loader.locs
    let fails (x : Cause) : Prop := t.loader.queue = s.loader.queue.filter (·.stamp ≠ q.stamp)
      ∧ (space 1 → ∃ m, t.ring.buffer[s.ring.buffer.length]? = some m ∧ m.kind = .moveEnd ∧ m.byte1 = 0x21
          ∧ m.e0 = w32 x.code ∧ m.subject = BitVec.ofNat 16 dst.val)
    let ejected (d : Drive) : ChanState := if s.bayPos d = .on then .ejectWait else .unmounted
    plain ∨ mount → s.findReq q.stamp = some q → q.src = some a → s.loader.preempt = none →
    s.presence a ≠ .unsure → s.presence dst ≠ .unsure → s.inOpenMagazine a = false → s.inOpenMagazine dst = false →
    -- rows 4 to 6: a bay as source
    (∀ d : Drive, a = bayLoc d →
      let c := s.chan d
      let empty : Prop := c.images = [] ∧ c.held = none ∧ c.activity = .idle
      (c.state = .idle ∨ c.state = .read ∨ (c.state = .write ∧ q.force = false ∧ empty) →
        waits .channel ∧ (t.chan d).state = ejected d)
      ∧ (c.state = .unmounted → s.bayPos d = .on → waits .channel
          ∧ (t.chan d).state = if (s.bayCart d).isSome then .ejectWait else .unmounted)
      ∧ (c.state = .write → q.force = false → ¬ empty → waits .channel ∧ (t.chan d).state = .unmounting
          ∧ (t.chan d).images = c.images)
      ∧ (c.state = .write ∨ c.state = .unmounting → q.force = true → waits .channel ∧ (t.chan d).state = ejected d
          ∧ (t.chan d).images = [] ∧ (t.chan d).counters.forcedUnmounts = c.counters.forcedUnmounts.add 1)
      ∧ (c.state = .mounting ∨ c.state = .ejectWait ∨ c.state = .failed ∨ (c.state = .unmounting ∧ q.force = false) →
          waits .channel ∧ only))
    -- rows 7 to 11
    ∧ ((∀ d : Drive, a = bayLoc d → (s.chan d).state = .unmounted ∧ s.bayPos d ≠ .on) →
      (s.presence a = .empty → fails .sourceEmpty)
      ∧ (s.presence a ≠ .empty → ∀ e : Drive, dst = bayLoc e →
        ((s.chan e).state ≠ .unmounted → waits .channel ∧ only)
        ∧ ((s.chan e).state = .unmounted → s.cleanQueued e = true → waits .cleaning ∧ only)
        ∧ ((s.chan e).state = .unmounted → s.cleanQueued e = false →
            s.presence dst = .full ∨ (s.loc dst).cart.isSome = true
              ∨ (∃ x, (s.loc dst).reserved = some (.request x) ∧ x ≠ q.stamp) → fails .destFull)
        ∧ (takes e → s.picker.state = .parked →
            t.picker.active = some q.stamp ∧ t.picker.state = .travel ∧ t.picker.inFlight = true
            ∧ t.picker.order = some { number := s.picker.nextNumber, stage := .toSource, loc := some a
                                      deadline := s.timebase + timeoutMicros s.params.motionTimeout }
            ∧ (t.loc dst).reserved = some (.request q.stamp) ∧ t.chans = s.chans
            ∧ t.findReq q.stamp = some { r with state := .active, blocked := none }))))
  -- a MOUNT of either drive that neither bay takes (R160), and a CLEAN that finds no cleaner (R162, R163)
  ∧ (∀ (s : State) (q : Req),
    let t := s.judge q
    let space (n : Nat) : Prop :=
      s.ring.reserved.toNat + n ≤ s.ring.freePlaces ∧ s.ring.reserved.toNat + s.ring.buffer.length + n ≤ 32
    s.findReq q.stamp = some q → s.loader.preempt = none →
    (∀ a, q.kind = .mount → q.rewritten = false → q.preempt = false → q.pref = none → q.src = some a → a.val < 25 →
      (∀ d : Drive, (s.chan d).state ≠ .unmounted ∨ s.cleanQueued d = true ∨ s.presence (bayLoc d) = .full
        ∨ (s.bayCart d).isSome = true) →
      s.presence (bayLoc 1) ≠ .unsure → s.presence a = .full → s.inOpenMagazine a = false →
      (t.findReq q.stamp).map (·.state) = some (.waiting .channel) ∧ t.chans = s.chans ∧ t.ring = s.ring ∧ t.picker = s.picker)
    ∧ (∀ d : Drive, q.kind = .clean → q.legsDone = 0 → q.drive = some d → (∀ i, (s.session i).mountReq ≠ some q.stamp) →
      (∀ k : Fin 24, (s.loc (slotLoc k)).reserved.isSome = true ∨ s.inOpenMagazine (slotLoc k) = true
        ∨ ∀ x, (s.loc (slotLoc k)).cart = some x → x.media ≠ .cleaning) →
      t.loader.noCleaner = s.loader.noCleaner.set d true
      ∧ t.loader.queue = s.loader.queue.filter (·.stamp ≠ q.stamp) ∧ t.chans = s.chans
      ∧ (space 2 → ∃ x y, t.ring.buffer = s.ring.buffer ++ [x, y] ∧ x.kind = .cleanEnd ∧ x.byte1 = 0x21
          ∧ x.subject = BitVec.ofNat 16 d.val ∧ x.e0 = w32 Cause.noCleaner.code ∧ y.kind = .moveEnd ∧ y.byte1 = 0x21
          ∧ y.e0 = w32 Cause.noCleaner.code)))
  -- a MOUNT that its last session leaves (R156)
  ∧ (∀ ref s : State, (s.loader.queue.map (·.stamp)).Pairwise (· < ·) →
    let awaited (u : State) (x : Nat) : Prop := ∃ i, (u.session i).mountReq = some x
    let left (r : Req) : Prop := r.kind = .mount ∧ r.state ≠ .active ∧ awaited ref r.stamp ∧ ¬ awaited s r.stamp
      ∧ ∀ p, s.loader.preempt = some p → p.mount = r.stamp → p.unmountTaken = false
    ((∀ r ∈ s.loader.queue, ¬ left r) → ref.orphanTest s = s)
    ∧ (∀ r ∈ s.loader.queue, left r → (∀ x ∈ s.loader.queue, left x → x = r) →
      (∀ p, s.loader.preempt = some p → p.remount ≠ some r.stamp) → ref.orphanTest s = s.endReq r .cancelled
      ∧ (s.loader.preempt = none →
          (ref.orphanTest s).loader.queue = s.loader.queue.filter (·.stamp ≠ r.stamp))))
  ∧ (∀ (ref s : State) (d : Drive),
    let joined (r : Req) : List Req :=
      s.loader.queue ++ [{ r with stamp := s.loader.nextStamp, id := BitVec.ofNat 16 s.loader.nextId, internal := true }]
    let dropped : State := { s with loader := { s.loader with counters := { s.loader.counters with
      droppedReqs := s.loader.counters.droppedReqs.add 1 } } }
    (ref.loader.cleaningDue[d] = false → s.loader.cleaningDue[d] = true → s.loader.noCleaner[d] = false →
        (s.chan d).state = .unmounted → s.presence (bayLoc d) = .empty → s.cleanQueued d = false →
      (s.loader.queue.length < 10 →
        let t := ref.cleanTest d s
        t.loader.queue = joined { newReq .clean none (bayLoc d) with drive := some d }
        ∧ t.loader.counters.cleanings = s.loader.counters.cleanings.add 1 ∧ t.chans = s.chans ∧ t.mem = s.mem
        ∧ t.picker = s.picker ∧ t.loader.locs = s.loader.locs)
      ∧ (10 ≤ s.loader.queue.length → ref.cleanTest d s = dropped))
    ∧ (s.loader.cleaningDue[d] = false ∨ s.loader.noCleaner[d] = true ∨ (s.chan d).state ≠ .unmounted
        ∨ s.presence (bayLoc d) ≠ .empty ∨ s.cleanQueued d = true → ref.cleanTest d s = s)
    ∧ ((ref.chan d).full = none → (s.chan d).full.isSome = true → s.params.autoChangeover = 1 → (s.chan d).drained = true →
        (s.chan d).changeoverAsked = false →
      (s.loader.queue.length < 10 →
        let t := ref.changeoverTest d s
        t.loader.queue = joined { newReq .changeover (some (bayLoc d)) (homeOr (s.bayCart d)) with drive := some d }
        ∧ t.chan d = { s.chan d with changeoverAsked := true }
        ∧ t.loader.counters.changeovers = s.loader.counters.changeovers.add 1 ∧ t.mem = s.mem ∧ t.picker = s.picker)
      ∧ (10 ≤ s.loader.queue.length → ref.changeoverTest d s = dropped))
    ∧ ((s.chan d).full = none ∨ s.params.autoChangeover ≠ 1 ∨ (s.chan d).drained = false
        ∨ (s.chan d).changeoverAsked = true → ref.changeoverTest d s = s))

/-- A MOUNT with PREEMPT that no bay of its preference is free for begins a preempt of the IDLE or WRITE channel with the
smaller backlog, D0 when they are equal: the record is made, the streams that target the victim take the cause PREEMPT, the
sessions attached to it end, and the MOUNT's first leg becomes the victim's cartridge's way home. A MOUNT with PREEMPT that no
bay is free for waits with reason PREEMPT while a preempt is in progress. The MOUNT waits until every
stream that holds PREEMPT is SUSPENDED or CLOSED, and then asks the victim's UNMOUNT. The end of its first leg gives phase
LOADING, and that of its second RESTORING, with its sessions attached. When no session uses the victim's drive any more the
REMOUNT is queued in phase REMOUNTING, or the preempt ends where the victim's cartridge never left; and it ends where the
victim's channel fails, or leaves MOUNTING after the REMOUNT's release, or where its own REMOUNT fails or is cancelled; a
REMOUNT that an earlier preempt left in the queue touches it neither way. At its end PREEMPT leaves every stream and the links
clear. That the links clear at every end, that a cartridge is known by its record, that these tests stand at an event's end, and that a
victim without a cartridge record gives a link all the same, are the model's choices: log entries 33, 36, 46 and 93. Another
choice of the model is that no grant of a pool wait is made within the event (R31): log entry 105. -/
def Obligations.PreemptsGoThroughTheirPhases : Prop :=
  ∀ (ref s : State) (v : Drive),
    let others (t : State) : Prop := t.mem = s.mem ∧ t.params = s.params
    let ended (t : State) : Prop :=
      t.loader.preempt = none ∧ (∀ i, (t.session i).link = none)
      ∧ (∀ x : Tag, (s.stream x).state ≠ .closed → (t.stream x).causePreempt = false)
      ∧ t.loader.queue = s.loader.queue ∧ t.picker = s.picker ∧ t.chans = s.chans ∧ others t
    (∀ r : Req, r.preempt = true → s.loader.preempt.isSome = true →
        s.mountBlocked r = s.modReq r.stamp fun x => { x with state := .waiting .preempt })
    ∧ (∀ r : Req, s.findReq r.stamp = some r → r.kind = .mount → r.preempt = true →
        s.loader.preempt = none → v ∈ r.prefers → ((s.chan v).state = .idle ∨ (s.chan v).state = .write) →
        (∀ d ∈ r.prefers, (s.chan d).state ≠ .unmounted ∨ s.presence (bayLoc d) ≠ .empty) →
        (∀ d ∈ r.prefers, d ≠ v → (s.chan d).state = .idle ∨ (s.chan d).state = .write →
          (s.chan v).backlog < (s.chan d).backlog ∨ ((s.chan v).backlog = (s.chan d).backlog ∧ v = 0)) →
      let t := s.mountBlocked r
      t.loader.preempt = some { victim := v, cart := (s.bayCart v).map (·.uid), mount := r.stamp, phase := .draining }
      ∧ t.loader.counters.preempts = s.loader.counters.preempts.add 1
      ∧ (∀ x : Tag, (s.stream x).targets.has v = true → (s.stream x).state ≠ .closed → (t.stream x).causePreempt = true)
      ∧ (∀ x : Tag, (s.stream x).targets.has v = false ∨ (s.stream x).state = .closed → t.stream x = s.stream x)
      ∧ (∀ i, (s.session i).drive = some v → (t.session i).state = .free)
      ∧ (∀ i, (s.session i).drive ≠ some v → t.session i = s.session i)
      ∧ t.findReq r.stamp = some { r with
          src := some (bayLoc v), dst := homeOr (s.bayCart v), second := r.src.map fun l => (l, bayLoc v)
          rewritten := true, state := .waiting .preempt }
      ∧ t.picker = s.picker ∧ t.loader.locs = s.loader.locs ∧ others t)
    ∧ (∀ (r : Req) (p : Preempt), s.loader.preempt = some p → p.mount = r.stamp → r.kind = .mount → r.src = some (bayLoc v) →
        s.presence (bayLoc v) ≠ .unsure → s.presence r.dst ≠ .unsure → s.inOpenMagazine r.dst = false →
      ((∃ x : Tag, (s.stream x).causePreempt = true ∧ (s.stream x).state ≠ .suspended ∧ (s.stream x).state ≠ .closed) →
          s.verdict r = .wait .preempt)
      ∧ ((∀ x : Tag, (s.stream x).causePreempt = true → (s.stream x).state = .suspended ∨ (s.stream x).state = .closed) →
          (s.chan v).state = .idle ∨ (s.chan v).state = .write → s.verdict r = .unmount v))
    ∧ (∀ (r : Req) (p : Preempt), s.loader.preempt = some p → p.mount = r.stamp →
      (r.second.isSome = true →
          s.mountLegEnd r = { s with loader := { s.loader with preempt := some { p with phase := .loading } } })
      ∧ (r.second = none → r.dst = bayLoc v →
          let t := s.mountLegEnd r
          t.loader.preempt = some { p with phase := .restoring }
          ∧ (∀ i, (s.session i).mountReq = some r.stamp → t.session i = { s.session i with
              state := .waitRead, drive := some v, mountReq := none, link := some (p.victim, p.cart) })
          ∧ (∀ i, (s.session i).mountReq ≠ some r.stamp → t.session i = s.session i)
          ∧ t.chans = s.chans ∧ t.streams = s.streams ∧ t.loader.queue = s.loader.queue ∧ others t))
    ∧ (∀ p : Preempt, s.loader.preempt = some p → p.victim = v → p.phase = .restoring →
      let unused := ∀ i, (s.session i).link = none ∨ (s.session i).state = .free ∨ (s.session i).state = .awaitNext
        ∨ (s.session i).final = true
      (¬ unused → ref.preemptTest s = s)
      ∧ (∀ c, unused → s.bayCart v = some c → p.cart = some c.uid → ended (ref.preemptTest s))
      ∧ (∀ (c : Cart) (h : Fin 24) (u : Nat) (l : Loc), unused → s.bayCart v = some c → c.home = some h → c.uid ≠ u →
          s.presence (bayLoc v) ≠ .empty → p.cart = some u → s.cartLoc u = some l → s.loader.queue.length < 10 →
          let t := ref.preemptTest s
          t.loader.preempt = some { p with phase := .remounting, remount := some s.loader.nextStamp } ∧ (∀ i, (t.session i).link = none)
          ∧ t.loader.queue = s.loader.queue ++ [{ newReq .remount (some (bayLoc v)) (slotLoc h) with
              second := some (l, bayLoc v), drive := some v, stamp := s.loader.nextStamp
              id := BitVec.ofNat 16 s.loader.nextId, internal := true }]
          ∧ t.streams = s.streams ∧ t.chans = s.chans ∧ t.picker = s.picker ∧ others t))
    ∧ (∀ p : Preempt, s.loader.preempt = some p → p.victim = v → p.phase = .remounting →
      (p.released = true → (s.chan v).state ≠ .mounting → ended (ref.preemptTest s))
      ∧ ((s.chan v).state = .failed → (ref.chan v).state ≠ .failed →
          (ref.loader.preempt.map (·.phase)) = some .remounting → ended (ref.preemptTest s))
      ∧ (p.released = false → (s.chan v).state ≠ .failed → ref.preemptTest s = s)
      ∧ (∀ (r : Req) (e : ReqEnd), e ≠ .done → p.remount = some r.stamp → (s.endReq r e).loader.preempt = none)
      ∧ (∀ (r : Req) (e : ReqEnd), p.remount ≠ some r.stamp → p.mount ≠ r.stamp → (s.endReq r e).loader.preempt = some p)
      ∧ (∀ r : Req, r.kind = .remount → p.remount = some r.stamp → r.dst = bayLoc v → r.second = none →
          (s.legKind r).loader.preempt = some { p with released := true })
      ∧ (∀ r : Req, r.kind = .remount → p.remount ≠ some r.stamp → s.legKind r = s))
end

