-- ==== Sys2Proof/Laws/State.lean ====
section
/-! SUPPORT. What each update of the state makes of each field, and what reading back an element of an updated table
gives. -/

-- Proofs one after another: many at once take more memory than the check allows.
set_option Elab.async false

namespace Sys2Proof.Machine

variable (s : State)

/-! ## setChan -/

@[simp] theorem State.setChan_pending (d : Drive) (c : Channel) : (s.setChan d c).pending = s.pending := rfl
@[simp] theorem State.setChan_mem (d : Drive) (c : Channel) : (s.setChan d c).mem = s.mem := rfl
@[simp] theorem State.setChan_timebase (d : Drive) (c : Channel) : (s.setChan d c).timebase = s.timebase := rfl
@[simp] theorem State.setChan_drawn (d : Drive) (c : Channel) : (s.setChan d c).drawn = s.drawn := rfl
@[simp] theorem State.setChan_path (d : Drive) (c : Channel) : (s.setChan d c).path = s.path := rfl
@[simp] theorem State.setChan_ring (d : Drive) (c : Channel) : (s.setChan d c).ring = s.ring := rfl
@[simp] theorem State.setChan_params (d : Drive) (c : Channel) : (s.setChan d c).params = s.params := rfl
@[simp] theorem State.setChan_pool (d : Drive) (c : Channel) : (s.setChan d c).pool = s.pool := rfl
@[simp] theorem State.setChan_pack (d : Drive) (c : Channel) : (s.setChan d c).pack = s.pack := rfl
@[simp] theorem State.setChan_streams (d : Drive) (c : Channel) : (s.setChan d c).streams = s.streams := rfl
@[simp] theorem State.setChan_chans (d : Drive) (c : Channel) : (s.setChan d c).chans = s.chans.set d c := rfl
@[simp] theorem State.setChan_restore (d : Drive) (c : Channel) : (s.setChan d c).restore = s.restore := rfl
@[simp] theorem State.setChan_loader (d : Drive) (c : Channel) : (s.setChan d c).loader = s.loader := rfl

/-! ## setStream -/

@[simp] theorem State.setStream_pending (t : Tag) (x : Stream) : (s.setStream t x).pending = s.pending := rfl
@[simp] theorem State.setStream_mem (t : Tag) (x : Stream) : (s.setStream t x).mem = s.mem := rfl
@[simp] theorem State.setStream_timebase (t : Tag) (x : Stream) : (s.setStream t x).timebase = s.timebase := rfl
@[simp] theorem State.setStream_drawn (t : Tag) (x : Stream) : (s.setStream t x).drawn = s.drawn := rfl
@[simp] theorem State.setStream_path (t : Tag) (x : Stream) : (s.setStream t x).path = s.path := rfl
@[simp] theorem State.setStream_ring (t : Tag) (x : Stream) : (s.setStream t x).ring = s.ring := rfl
@[simp] theorem State.setStream_params (t : Tag) (x : Stream) : (s.setStream t x).params = s.params := rfl
@[simp] theorem State.setStream_pool (t : Tag) (x : Stream) : (s.setStream t x).pool = s.pool := rfl
@[simp] theorem State.setStream_pack (t : Tag) (x : Stream) : (s.setStream t x).pack = s.pack := rfl
@[simp] theorem State.setStream_streams (t : Tag) (x : Stream) : (s.setStream t x).streams = s.streams.set t x := rfl
@[simp] theorem State.setStream_chans (t : Tag) (x : Stream) : (s.setStream t x).chans = s.chans := rfl
@[simp] theorem State.setStream_restore (t : Tag) (x : Stream) : (s.setStream t x).restore = s.restore := rfl
@[simp] theorem State.setStream_loader (t : Tag) (x : Stream) : (s.setStream t x).loader = s.loader := rfl

/-! ## setSession -/

@[simp] theorem State.setSession_pending (i : SessionId) (x : Session) : (s.setSession i x).pending = s.pending := rfl
@[simp] theorem State.setSession_mem (i : SessionId) (x : Session) : (s.setSession i x).mem = s.mem := rfl
@[simp] theorem State.setSession_timebase (i : SessionId) (x : Session) : (s.setSession i x).timebase = s.timebase := rfl
@[simp] theorem State.setSession_drawn (i : SessionId) (x : Session) : (s.setSession i x).drawn = s.drawn := rfl
@[simp] theorem State.setSession_path (i : SessionId) (x : Session) : (s.setSession i x).path = s.path := rfl
@[simp] theorem State.setSession_ring (i : SessionId) (x : Session) : (s.setSession i x).ring = s.ring := rfl
@[simp] theorem State.setSession_params (i : SessionId) (x : Session) : (s.setSession i x).params = s.params := rfl
@[simp] theorem State.setSession_pool (i : SessionId) (x : Session) : (s.setSession i x).pool = s.pool := rfl
@[simp] theorem State.setSession_pack (i : SessionId) (x : Session) : (s.setSession i x).pack = s.pack := rfl
@[simp] theorem State.setSession_streams (i : SessionId) (x : Session) : (s.setSession i x).streams = s.streams := rfl
@[simp] theorem State.setSession_chans (i : SessionId) (x : Session) : (s.setSession i x).chans = s.chans := rfl
@[simp] theorem State.setSession_restore (i : SessionId) (x : Session) : (s.setSession i x).restore = { s.restore with sessions := s.restore.sessions.set i x } := rfl
@[simp] theorem State.setSession_loader (i : SessionId) (x : Session) : (s.setSession i x).loader = s.loader := rfl

/-! ## setLoc -/

@[simp] theorem State.setLoc_pending (l : Loc) (x : Location) : (s.setLoc l x).pending = s.pending := rfl
@[simp] theorem State.setLoc_mem (l : Loc) (x : Location) : (s.setLoc l x).mem = s.mem := rfl
@[simp] theorem State.setLoc_timebase (l : Loc) (x : Location) : (s.setLoc l x).timebase = s.timebase := rfl
@[simp] theorem State.setLoc_drawn (l : Loc) (x : Location) : (s.setLoc l x).drawn = s.drawn := rfl
@[simp] theorem State.setLoc_path (l : Loc) (x : Location) : (s.setLoc l x).path = s.path := rfl
@[simp] theorem State.setLoc_ring (l : Loc) (x : Location) : (s.setLoc l x).ring = s.ring := rfl
@[simp] theorem State.setLoc_params (l : Loc) (x : Location) : (s.setLoc l x).params = s.params := rfl
@[simp] theorem State.setLoc_pool (l : Loc) (x : Location) : (s.setLoc l x).pool = s.pool := rfl
@[simp] theorem State.setLoc_pack (l : Loc) (x : Location) : (s.setLoc l x).pack = s.pack := rfl
@[simp] theorem State.setLoc_streams (l : Loc) (x : Location) : (s.setLoc l x).streams = s.streams := rfl
@[simp] theorem State.setLoc_chans (l : Loc) (x : Location) : (s.setLoc l x).chans = s.chans := rfl
@[simp] theorem State.setLoc_restore (l : Loc) (x : Location) : (s.setLoc l x).restore = s.restore := rfl
@[simp] theorem State.setLoc_loader (l : Loc) (x : Location) : (s.setLoc l x).loader = { s.loader with locs := s.loader.locs.set l x } := rfl

/-! ## modChan -/

@[simp] theorem State.modChan_pending (d : Drive) (f : Channel → Channel) : (s.modChan d f).pending = s.pending := rfl
@[simp] theorem State.modChan_mem (d : Drive) (f : Channel → Channel) : (s.modChan d f).mem = s.mem := rfl
@[simp] theorem State.modChan_timebase (d : Drive) (f : Channel → Channel) : (s.modChan d f).timebase = s.timebase := rfl
@[simp] theorem State.modChan_drawn (d : Drive) (f : Channel → Channel) : (s.modChan d f).drawn = s.drawn := rfl
@[simp] theorem State.modChan_path (d : Drive) (f : Channel → Channel) : (s.modChan d f).path = s.path := rfl
@[simp] theorem State.modChan_ring (d : Drive) (f : Channel → Channel) : (s.modChan d f).ring = s.ring := rfl
@[simp] theorem State.modChan_params (d : Drive) (f : Channel → Channel) : (s.modChan d f).params = s.params := rfl
@[simp] theorem State.modChan_pool (d : Drive) (f : Channel → Channel) : (s.modChan d f).pool = s.pool := rfl
@[simp] theorem State.modChan_pack (d : Drive) (f : Channel → Channel) : (s.modChan d f).pack = s.pack := rfl
@[simp] theorem State.modChan_streams (d : Drive) (f : Channel → Channel) : (s.modChan d f).streams = s.streams := rfl
@[simp] theorem State.modChan_chans (d : Drive) (f : Channel → Channel) : (s.modChan d f).chans = s.chans.set d (f (s.chan d)) := rfl
@[simp] theorem State.modChan_restore (d : Drive) (f : Channel → Channel) : (s.modChan d f).restore = s.restore := rfl
@[simp] theorem State.modChan_loader (d : Drive) (f : Channel → Channel) : (s.modChan d f).loader = s.loader := rfl

/-! ## modStream -/

@[simp] theorem State.modStream_pending (t : Tag) (f : Stream → Stream) : (s.modStream t f).pending = s.pending := rfl
@[simp] theorem State.modStream_mem (t : Tag) (f : Stream → Stream) : (s.modStream t f).mem = s.mem := rfl
@[simp] theorem State.modStream_timebase (t : Tag) (f : Stream → Stream) : (s.modStream t f).timebase = s.timebase := rfl
@[simp] theorem State.modStream_drawn (t : Tag) (f : Stream → Stream) : (s.modStream t f).drawn = s.drawn := rfl
@[simp] theorem State.modStream_path (t : Tag) (f : Stream → Stream) : (s.modStream t f).path = s.path := rfl
@[simp] theorem State.modStream_ring (t : Tag) (f : Stream → Stream) : (s.modStream t f).ring = s.ring := rfl
@[simp] theorem State.modStream_params (t : Tag) (f : Stream → Stream) : (s.modStream t f).params = s.params := rfl
@[simp] theorem State.modStream_pool (t : Tag) (f : Stream → Stream) : (s.modStream t f).pool = s.pool := rfl
@[simp] theorem State.modStream_pack (t : Tag) (f : Stream → Stream) : (s.modStream t f).pack = s.pack := rfl
@[simp] theorem State.modStream_streams (t : Tag) (f : Stream → Stream) : (s.modStream t f).streams = s.streams.set t (f (s.stream t)) := rfl
@[simp] theorem State.modStream_chans (t : Tag) (f : Stream → Stream) : (s.modStream t f).chans = s.chans := rfl
@[simp] theorem State.modStream_restore (t : Tag) (f : Stream → Stream) : (s.modStream t f).restore = s.restore := rfl
@[simp] theorem State.modStream_loader (t : Tag) (f : Stream → Stream) : (s.modStream t f).loader = s.loader := rfl

/-! ## modSession -/

@[simp] theorem State.modSession_pending (i : SessionId) (f : Session → Session) : (s.modSession i f).pending = s.pending := rfl
@[simp] theorem State.modSession_mem (i : SessionId) (f : Session → Session) : (s.modSession i f).mem = s.mem := rfl
@[simp] theorem State.modSession_timebase (i : SessionId) (f : Session → Session) : (s.modSession i f).timebase = s.timebase := rfl
@[simp] theorem State.modSession_drawn (i : SessionId) (f : Session → Session) : (s.modSession i f).drawn = s.drawn := rfl
@[simp] theorem State.modSession_path (i : SessionId) (f : Session → Session) : (s.modSession i f).path = s.path := rfl
@[simp] theorem State.modSession_ring (i : SessionId) (f : Session → Session) : (s.modSession i f).ring = s.ring := rfl
@[simp] theorem State.modSession_params (i : SessionId) (f : Session → Session) : (s.modSession i f).params = s.params := rfl
@[simp] theorem State.modSession_pool (i : SessionId) (f : Session → Session) : (s.modSession i f).pool = s.pool := rfl
@[simp] theorem State.modSession_pack (i : SessionId) (f : Session → Session) : (s.modSession i f).pack = s.pack := rfl
@[simp] theorem State.modSession_streams (i : SessionId) (f : Session → Session) : (s.modSession i f).streams = s.streams := rfl
@[simp] theorem State.modSession_chans (i : SessionId) (f : Session → Session) : (s.modSession i f).chans = s.chans := rfl
@[simp] theorem State.modSession_restore (i : SessionId) (f : Session → Session) : (s.modSession i f).restore = { s.restore with sessions := s.restore.sessions.set i (f (s.session i)) } := rfl
@[simp] theorem State.modSession_loader (i : SessionId) (f : Session → Session) : (s.modSession i f).loader = s.loader := rfl

/-! ## modPath -/

@[simp] theorem State.modPath_pending (f : Path → Path) : (s.modPath f).pending = s.pending := rfl
@[simp] theorem State.modPath_mem (f : Path → Path) : (s.modPath f).mem = s.mem := rfl
@[simp] theorem State.modPath_timebase (f : Path → Path) : (s.modPath f).timebase = s.timebase := rfl
@[simp] theorem State.modPath_drawn (f : Path → Path) : (s.modPath f).drawn = s.drawn := rfl
@[simp] theorem State.modPath_path (f : Path → Path) : (s.modPath f).path = f s.path := rfl
@[simp] theorem State.modPath_ring (f : Path → Path) : (s.modPath f).ring = s.ring := rfl
@[simp] theorem State.modPath_params (f : Path → Path) : (s.modPath f).params = s.params := rfl
@[simp] theorem State.modPath_pool (f : Path → Path) : (s.modPath f).pool = s.pool := rfl
@[simp] theorem State.modPath_pack (f : Path → Path) : (s.modPath f).pack = s.pack := rfl
@[simp] theorem State.modPath_streams (f : Path → Path) : (s.modPath f).streams = s.streams := rfl
@[simp] theorem State.modPath_chans (f : Path → Path) : (s.modPath f).chans = s.chans := rfl
@[simp] theorem State.modPath_restore (f : Path → Path) : (s.modPath f).restore = s.restore := rfl
@[simp] theorem State.modPath_loader (f : Path → Path) : (s.modPath f).loader = s.loader := rfl

/-! ## modPort -/

@[simp] theorem State.modPort_pending (f : Port → Port) : (s.modPort f).pending = s.pending := rfl
@[simp] theorem State.modPort_mem (f : Port → Port) : (s.modPort f).mem = s.mem := rfl
@[simp] theorem State.modPort_timebase (f : Port → Port) : (s.modPort f).timebase = s.timebase := rfl
@[simp] theorem State.modPort_drawn (f : Port → Port) : (s.modPort f).drawn = s.drawn := rfl
@[simp] theorem State.modPort_ring (f : Port → Port) : (s.modPort f).ring = s.ring := rfl
@[simp] theorem State.modPort_params (f : Port → Port) : (s.modPort f).params = s.params := rfl
@[simp] theorem State.modPort_pool (f : Port → Port) : (s.modPort f).pool = s.pool := rfl
@[simp] theorem State.modPort_pack (f : Port → Port) : (s.modPort f).pack = s.pack := rfl
@[simp] theorem State.modPort_streams (f : Port → Port) : (s.modPort f).streams = s.streams := rfl
@[simp] theorem State.modPort_chans (f : Port → Port) : (s.modPort f).chans = s.chans := rfl
@[simp] theorem State.modPort_restore (f : Port → Port) : (s.modPort f).restore = s.restore := rfl
@[simp] theorem State.modPort_loader (f : Port → Port) : (s.modPort f).loader = s.loader := rfl

@[simp] theorem State.modPort_path (f : Port → Port) : (s.modPort f).path = { s.path with port := f s.path.port } := rfl

/-! ## issue -/

@[simp] theorem State.issue_pending (o : Owned) : (s.issue o).pending = s.pending := rfl
@[simp] theorem State.issue_mem (o : Owned) : (s.issue o).mem = s.mem := rfl
@[simp] theorem State.issue_timebase (o : Owned) : (s.issue o).timebase = s.timebase := rfl
@[simp] theorem State.issue_drawn (o : Owned) : (s.issue o).drawn = s.drawn := rfl
@[simp] theorem State.issue_ring (o : Owned) : (s.issue o).ring = s.ring := rfl
@[simp] theorem State.issue_params (o : Owned) : (s.issue o).params = s.params := rfl
@[simp] theorem State.issue_pool (o : Owned) : (s.issue o).pool = s.pool := rfl
@[simp] theorem State.issue_pack (o : Owned) : (s.issue o).pack = s.pack := rfl
@[simp] theorem State.issue_streams (o : Owned) : (s.issue o).streams = s.streams := rfl
@[simp] theorem State.issue_chans (o : Owned) : (s.issue o).chans = s.chans := rfl
@[simp] theorem State.issue_restore (o : Owned) : (s.issue o).restore = s.restore := rfl
@[simp] theorem State.issue_loader (o : Owned) : (s.issue o).loader = s.loader := rfl

@[simp] theorem State.issue_path (o : Owned) : (s.issue o).path = { s.path with port := s.path.port.joinOwned o } := rfl

/-! ## answered -/

@[simp] theorem State.answered_pending (o : Owned) : (s.answered o).pending = s.pending := rfl
@[simp] theorem State.answered_mem (o : Owned) : (s.answered o).mem = s.mem := rfl
@[simp] theorem State.answered_timebase (o : Owned) : (s.answered o).timebase = s.timebase := rfl
@[simp] theorem State.answered_drawn (o : Owned) : (s.answered o).drawn = s.drawn := rfl
@[simp] theorem State.answered_ring (o : Owned) : (s.answered o).ring = s.ring := rfl
@[simp] theorem State.answered_params (o : Owned) : (s.answered o).params = s.params := rfl
@[simp] theorem State.answered_pool (o : Owned) : (s.answered o).pool = s.pool := rfl
@[simp] theorem State.answered_pack (o : Owned) : (s.answered o).pack = s.pack := rfl
@[simp] theorem State.answered_streams (o : Owned) : (s.answered o).streams = s.streams := rfl
@[simp] theorem State.answered_chans (o : Owned) : (s.answered o).chans = s.chans := rfl
@[simp] theorem State.answered_restore (o : Owned) : (s.answered o).restore = s.restore := rfl
@[simp] theorem State.answered_loader (o : Owned) : (s.answered o).loader = s.loader := rfl

@[simp] theorem State.answered_path (o : Owned) : (s.answered o).path = { s.path with port := (s.path.port.upTo (Issued.isOwned o)).answered } := rfl

/-! ## startJob -/

@[simp] theorem State.startJob_pending (e : Engine) : (s.startJob e).pending = s.pending := rfl
@[simp] theorem State.startJob_mem (e : Engine) : (s.startJob e).mem = s.mem := rfl
@[simp] theorem State.startJob_timebase (e : Engine) : (s.startJob e).timebase = s.timebase := rfl
@[simp] theorem State.startJob_drawn (e : Engine) : (s.startJob e).drawn = s.drawn := rfl
@[simp] theorem State.startJob_ring (e : Engine) : (s.startJob e).ring = s.ring := rfl
@[simp] theorem State.startJob_params (e : Engine) : (s.startJob e).params = s.params := rfl
@[simp] theorem State.startJob_pool (e : Engine) : (s.startJob e).pool = s.pool := rfl
@[simp] theorem State.startJob_pack (e : Engine) : (s.startJob e).pack = s.pack := rfl
@[simp] theorem State.startJob_streams (e : Engine) : (s.startJob e).streams = s.streams := rfl
@[simp] theorem State.startJob_chans (e : Engine) : (s.startJob e).chans = s.chans := rfl
@[simp] theorem State.startJob_restore (e : Engine) : (s.startJob e).restore = s.restore := rfl
@[simp] theorem State.startJob_loader (e : Engine) : (s.startJob e).loader = s.loader := rfl

/-! ## endJob -/

@[simp] theorem State.endJob_pending (e : Engine) : (s.endJob e).pending = s.pending := rfl
@[simp] theorem State.endJob_mem (e : Engine) : (s.endJob e).mem = s.mem := rfl
@[simp] theorem State.endJob_timebase (e : Engine) : (s.endJob e).timebase = s.timebase := rfl
@[simp] theorem State.endJob_drawn (e : Engine) : (s.endJob e).drawn = s.drawn := rfl
@[simp] theorem State.endJob_ring (e : Engine) : (s.endJob e).ring = s.ring := rfl
@[simp] theorem State.endJob_params (e : Engine) : (s.endJob e).params = s.params := rfl
@[simp] theorem State.endJob_pool (e : Engine) : (s.endJob e).pool = s.pool := rfl
@[simp] theorem State.endJob_pack (e : Engine) : (s.endJob e).pack = s.pack := rfl
@[simp] theorem State.endJob_streams (e : Engine) : (s.endJob e).streams = s.streams := rfl
@[simp] theorem State.endJob_chans (e : Engine) : (s.endJob e).chans = s.chans := rfl
@[simp] theorem State.endJob_restore (e : Engine) : (s.endJob e).restore = s.restore := rfl
@[simp] theorem State.endJob_loader (e : Engine) : (s.endJob e).loader = s.loader := rfl

/-! ## passJob -/

@[simp] theorem State.passJob_pending (e : Engine) : (s.passJob e).pending = s.pending := rfl
@[simp] theorem State.passJob_mem (e : Engine) : (s.passJob e).mem = s.mem := rfl
@[simp] theorem State.passJob_timebase (e : Engine) : (s.passJob e).timebase = s.timebase := rfl
@[simp] theorem State.passJob_drawn (e : Engine) : (s.passJob e).drawn = s.drawn := rfl
@[simp] theorem State.passJob_ring (e : Engine) : (s.passJob e).ring = s.ring := rfl
@[simp] theorem State.passJob_params (e : Engine) : (s.passJob e).params = s.params := rfl
@[simp] theorem State.passJob_pool (e : Engine) : (s.passJob e).pool = s.pool := rfl
@[simp] theorem State.passJob_pack (e : Engine) : (s.passJob e).pack = s.pack := rfl
@[simp] theorem State.passJob_streams (e : Engine) : (s.passJob e).streams = s.streams := rfl
@[simp] theorem State.passJob_chans (e : Engine) : (s.passJob e).chans = s.chans := rfl
@[simp] theorem State.passJob_restore (e : Engine) : (s.passJob e).restore = s.restore := rfl
@[simp] theorem State.passJob_loader (e : Engine) : (s.passJob e).loader = s.loader := rfl

/-! ## modRing -/

@[simp] theorem State.modRing_pending (f : Ring → Ring) : (s.modRing f).pending = s.pending := rfl
@[simp] theorem State.modRing_mem (f : Ring → Ring) : (s.modRing f).mem = s.mem := rfl
@[simp] theorem State.modRing_timebase (f : Ring → Ring) : (s.modRing f).timebase = s.timebase := rfl
@[simp] theorem State.modRing_drawn (f : Ring → Ring) : (s.modRing f).drawn = s.drawn := rfl
@[simp] theorem State.modRing_path (f : Ring → Ring) : (s.modRing f).path = s.path := rfl
@[simp] theorem State.modRing_ring (f : Ring → Ring) : (s.modRing f).ring = f s.ring := rfl
@[simp] theorem State.modRing_params (f : Ring → Ring) : (s.modRing f).params = s.params := rfl
@[simp] theorem State.modRing_pool (f : Ring → Ring) : (s.modRing f).pool = s.pool := rfl
@[simp] theorem State.modRing_pack (f : Ring → Ring) : (s.modRing f).pack = s.pack := rfl
@[simp] theorem State.modRing_streams (f : Ring → Ring) : (s.modRing f).streams = s.streams := rfl
@[simp] theorem State.modRing_chans (f : Ring → Ring) : (s.modRing f).chans = s.chans := rfl
@[simp] theorem State.modRing_restore (f : Ring → Ring) : (s.modRing f).restore = s.restore := rfl
@[simp] theorem State.modRing_loader (f : Ring → Ring) : (s.modRing f).loader = s.loader := rfl

/-! ## modPool -/

@[simp] theorem State.modPool_pending (f : Pool → Pool) : (s.modPool f).pending = s.pending := rfl
@[simp] theorem State.modPool_mem (f : Pool → Pool) : (s.modPool f).mem = s.mem := rfl
@[simp] theorem State.modPool_timebase (f : Pool → Pool) : (s.modPool f).timebase = s.timebase := rfl
@[simp] theorem State.modPool_drawn (f : Pool → Pool) : (s.modPool f).drawn = s.drawn := rfl
@[simp] theorem State.modPool_path (f : Pool → Pool) : (s.modPool f).path = s.path := rfl
@[simp] theorem State.modPool_ring (f : Pool → Pool) : (s.modPool f).ring = s.ring := rfl
@[simp] theorem State.modPool_params (f : Pool → Pool) : (s.modPool f).params = s.params := rfl
@[simp] theorem State.modPool_pool (f : Pool → Pool) : (s.modPool f).pool = f s.pool := rfl
@[simp] theorem State.modPool_pack (f : Pool → Pool) : (s.modPool f).pack = s.pack := rfl
@[simp] theorem State.modPool_streams (f : Pool → Pool) : (s.modPool f).streams = s.streams := rfl
@[simp] theorem State.modPool_chans (f : Pool → Pool) : (s.modPool f).chans = s.chans := rfl
@[simp] theorem State.modPool_restore (f : Pool → Pool) : (s.modPool f).restore = s.restore := rfl
@[simp] theorem State.modPool_loader (f : Pool → Pool) : (s.modPool f).loader = s.loader := rfl

/-! ## modPack -/

@[simp] theorem State.modPack_pending (f : Pack → Pack) : (s.modPack f).pending = s.pending := rfl
@[simp] theorem State.modPack_mem (f : Pack → Pack) : (s.modPack f).mem = s.mem := rfl
@[simp] theorem State.modPack_timebase (f : Pack → Pack) : (s.modPack f).timebase = s.timebase := rfl
@[simp] theorem State.modPack_drawn (f : Pack → Pack) : (s.modPack f).drawn = s.drawn := rfl
@[simp] theorem State.modPack_path (f : Pack → Pack) : (s.modPack f).path = s.path := rfl
@[simp] theorem State.modPack_ring (f : Pack → Pack) : (s.modPack f).ring = s.ring := rfl
@[simp] theorem State.modPack_params (f : Pack → Pack) : (s.modPack f).params = s.params := rfl
@[simp] theorem State.modPack_pool (f : Pack → Pack) : (s.modPack f).pool = s.pool := rfl
@[simp] theorem State.modPack_pack (f : Pack → Pack) : (s.modPack f).pack = f s.pack := rfl
@[simp] theorem State.modPack_streams (f : Pack → Pack) : (s.modPack f).streams = s.streams := rfl
@[simp] theorem State.modPack_chans (f : Pack → Pack) : (s.modPack f).chans = s.chans := rfl
@[simp] theorem State.modPack_restore (f : Pack → Pack) : (s.modPack f).restore = s.restore := rfl
@[simp] theorem State.modPack_loader (f : Pack → Pack) : (s.modPack f).loader = s.loader := rfl

/-! ## modRestore -/

@[simp] theorem State.modRestore_pending (f : Restore → Restore) : (s.modRestore f).pending = s.pending := rfl
@[simp] theorem State.modRestore_mem (f : Restore → Restore) : (s.modRestore f).mem = s.mem := rfl
@[simp] theorem State.modRestore_timebase (f : Restore → Restore) : (s.modRestore f).timebase = s.timebase := rfl
@[simp] theorem State.modRestore_drawn (f : Restore → Restore) : (s.modRestore f).drawn = s.drawn := rfl
@[simp] theorem State.modRestore_path (f : Restore → Restore) : (s.modRestore f).path = s.path := rfl
@[simp] theorem State.modRestore_ring (f : Restore → Restore) : (s.modRestore f).ring = s.ring := rfl
@[simp] theorem State.modRestore_params (f : Restore → Restore) : (s.modRestore f).params = s.params := rfl
@[simp] theorem State.modRestore_pool (f : Restore → Restore) : (s.modRestore f).pool = s.pool := rfl
@[simp] theorem State.modRestore_pack (f : Restore → Restore) : (s.modRestore f).pack = s.pack := rfl
@[simp] theorem State.modRestore_streams (f : Restore → Restore) : (s.modRestore f).streams = s.streams := rfl
@[simp] theorem State.modRestore_chans (f : Restore → Restore) : (s.modRestore f).chans = s.chans := rfl
@[simp] theorem State.modRestore_restore (f : Restore → Restore) : (s.modRestore f).restore = f s.restore := rfl
@[simp] theorem State.modRestore_loader (f : Restore → Restore) : (s.modRestore f).loader = s.loader := rfl

/-! ## modLoader -/

@[simp] theorem State.modLoader_pending (f : Loader → Loader) : (s.modLoader f).pending = s.pending := rfl
@[simp] theorem State.modLoader_mem (f : Loader → Loader) : (s.modLoader f).mem = s.mem := rfl
@[simp] theorem State.modLoader_timebase (f : Loader → Loader) : (s.modLoader f).timebase = s.timebase := rfl
@[simp] theorem State.modLoader_drawn (f : Loader → Loader) : (s.modLoader f).drawn = s.drawn := rfl
@[simp] theorem State.modLoader_path (f : Loader → Loader) : (s.modLoader f).path = s.path := rfl
@[simp] theorem State.modLoader_ring (f : Loader → Loader) : (s.modLoader f).ring = s.ring := rfl
@[simp] theorem State.modLoader_params (f : Loader → Loader) : (s.modLoader f).params = s.params := rfl
@[simp] theorem State.modLoader_pool (f : Loader → Loader) : (s.modLoader f).pool = s.pool := rfl
@[simp] theorem State.modLoader_pack (f : Loader → Loader) : (s.modLoader f).pack = s.pack := rfl
@[simp] theorem State.modLoader_streams (f : Loader → Loader) : (s.modLoader f).streams = s.streams := rfl
@[simp] theorem State.modLoader_chans (f : Loader → Loader) : (s.modLoader f).chans = s.chans := rfl
@[simp] theorem State.modLoader_restore (f : Loader → Loader) : (s.modLoader f).restore = s.restore := rfl
@[simp] theorem State.modLoader_loader (f : Loader → Loader) : (s.modLoader f).loader = f s.loader := rfl

/-! ## setMem -/

@[simp] theorem State.setMem_pending (m : Memory) : (s.setMem m).pending = s.pending := rfl
@[simp] theorem State.setMem_mem (m : Memory) : (s.setMem m).mem = m := rfl
@[simp] theorem State.setMem_timebase (m : Memory) : (s.setMem m).timebase = s.timebase := rfl
@[simp] theorem State.setMem_drawn (m : Memory) : (s.setMem m).drawn = s.drawn := rfl
@[simp] theorem State.setMem_path (m : Memory) : (s.setMem m).path = s.path := rfl
@[simp] theorem State.setMem_ring (m : Memory) : (s.setMem m).ring = s.ring := rfl
@[simp] theorem State.setMem_params (m : Memory) : (s.setMem m).params = s.params := rfl
@[simp] theorem State.setMem_pool (m : Memory) : (s.setMem m).pool = s.pool := rfl
@[simp] theorem State.setMem_pack (m : Memory) : (s.setMem m).pack = s.pack := rfl
@[simp] theorem State.setMem_streams (m : Memory) : (s.setMem m).streams = s.streams := rfl
@[simp] theorem State.setMem_chans (m : Memory) : (s.setMem m).chans = s.chans := rfl
@[simp] theorem State.setMem_restore (m : Memory) : (s.setMem m).restore = s.restore := rfl
@[simp] theorem State.setMem_loader (m : Memory) : (s.setMem m).loader = s.loader := rfl

/-! ## draw -/

@[simp] theorem State.draw_pending : (s.draw).pending = s.pending := rfl
@[simp] theorem State.draw_mem : (s.draw).mem = s.mem := rfl
@[simp] theorem State.draw_timebase : (s.draw).timebase = s.timebase := rfl
@[simp] theorem State.draw_drawn : (s.draw).drawn = s.drawn + 1 := rfl
@[simp] theorem State.draw_path : (s.draw).path = s.path := rfl
@[simp] theorem State.draw_ring : (s.draw).ring = s.ring := rfl
@[simp] theorem State.draw_params : (s.draw).params = s.params := rfl
@[simp] theorem State.draw_pool : (s.draw).pool = s.pool := rfl
@[simp] theorem State.draw_pack : (s.draw).pack = s.pack := rfl
@[simp] theorem State.draw_streams : (s.draw).streams = s.streams := rfl
@[simp] theorem State.draw_chans : (s.draw).chans = s.chans := rfl
@[simp] theorem State.draw_restore : (s.draw).restore = s.restore := rfl
@[simp] theorem State.draw_loader : (s.draw).loader = s.loader := rfl

/-! ## Tables -/

@[simp] theorem State.chan_setChan_self (d : Drive) (c : Channel) : (s.setChan d c).chan d = c := by
  simp [State.chan]

theorem State.chan_setChan_ne (d e : Drive) (c : Channel) (h : d ≠ e) : (s.setChan d c).chan e = s.chan e := by
  have h' : d.val ≠ e.val := fun x => h (Fin.ext x)
  simp [State.chan, h']

@[simp] theorem State.chan_modChan_self (d : Drive) (f : Channel → Channel) : (s.modChan d f).chan d = f (s.chan d) := by
  simp [State.modChan]

theorem State.chan_modChan_ne (d e : Drive) (f : Channel → Channel) (h : d ≠ e) :
    (s.modChan d f).chan e = s.chan e := State.chan_setChan_ne s d e _ h

@[simp] theorem State.stream_setStream_self (t : Tag) (x : Stream) : (s.setStream t x).stream t = x := by
  simp [State.stream]

theorem State.stream_setStream_ne (t u : Tag) (x : Stream) (h : t ≠ u) :
    (s.setStream t x).stream u = s.stream u := by
  have h' : t.val ≠ u.val := fun y => h (Fin.ext y)
  simp [State.stream, h']

@[simp] theorem State.stream_modStream_self (t : Tag) (f : Stream → Stream) :
    (s.modStream t f).stream t = f (s.stream t) := by
  simp [State.modStream]

@[simp] theorem State.session_setSession_self (i : SessionId) (x : Session) : (s.setSession i x).session i = x := by
  simp [State.session]

theorem State.session_setSession_ne (i j : SessionId) (x : Session) (h : i ≠ j) :
    (s.setSession i x).session j = s.session j := by
  have h' : i.val ≠ j.val := fun y => h (Fin.ext y)
  simp [State.session, h']

@[simp] theorem State.loc_setLoc_self (l : Loc) (x : Location) : (s.setLoc l x).loc l = x := by
  simp [State.loc]

@[simp] theorem State.loc_modLoc_self (l : Loc) (f : Location → Location) : (s.modLoc l f).loc l = f (s.loc l) :=
  State.loc_setLoc_self s l _

@[simp] theorem State.loc_modPicker (l : Loc) (f : Picker → Picker) : (s.modPicker f).loc l = s.loc l := rfl

@[simp] theorem State.picker_modPicker (f : Picker → Picker) : (s.modPicker f).picker = f s.picker := rfl

theorem State.loc_setLoc_ne (l k : Loc) (x : Location) (h : l ≠ k) : (s.setLoc l x).loc k = s.loc k := by
  have h' : l.val ≠ k.val := fun y => h (Fin.ext y)
  simp [State.loc, h']

end Sys2Proof.Machine
end

