-- ==== Sys2Proof/Laws/Frames.lean ====
section
/-! SUPPORT. What no operation of the blocks touches: staging memory, the parameters, the timebase and the commands that
wait. One lemma for each operation. -/

-- Proofs one after another: many at once take more memory than the check allows.
set_option Elab.async false

namespace Sys2Proof.Machine

/-- What stands outside the blocks. -/
def State.outside (s : State) : Memory × Params × Nat × List Instr := (s.mem, s.params, s.timebase, s.pending)

theorem mem_of_outside {s t : State} (h : t.outside = s.outside) : t.mem = s.mem := congrArg (·.1) h
theorem params_of_outside {s t : State} (h : t.outside = s.outside) : t.params = s.params := congrArg (·.2.1) h
theorem timebase_of_outside {s t : State} (h : t.outside = s.outside) : t.timebase = s.timebase := congrArg (·.2.2.1) h
theorem pending_of_outside {s t : State} (h : t.outside = s.outside) : t.pending = s.pending := congrArg (·.2.2.2) h

theorem forEach_outside {α : Type} (f : α → State → State) (hf : ∀ x t, (f x t).outside = t.outside) :
    ∀ (xs : List α) (s : State), (forEach xs f s).outside = s.outside
  | [], _ => rfl
  | x :: xs, s => (forEach_outside f hf xs (f x s)).trans (hf x s)

variable (s : State)

@[simp] theorem State.setChan_outside (d : Drive) (c : Channel) : (s.setChan d c).outside = s.outside := rfl

@[simp] theorem State.modChan_outside (d : Drive) (f : Channel → Channel) : (s.modChan d f).outside = s.outside := rfl

@[simp] theorem State.setStream_outside (t : Tag) (x : Stream) : (s.setStream t x).outside = s.outside := rfl

@[simp] theorem State.modStream_outside (t : Tag) (f : Stream → Stream) : (s.modStream t f).outside = s.outside := rfl

@[simp] theorem State.setSession_outside (i : SessionId) (x : Session) : (s.setSession i x).outside = s.outside := rfl

@[simp] theorem State.modSession_outside (i : SessionId) (f : Session → Session) : (s.modSession i f).outside = s.outside := rfl

@[simp] theorem State.setLoc_outside (l : Loc) (x : Location) : (s.setLoc l x).outside = s.outside := rfl

@[simp] theorem State.modLoc_outside (l : Loc) (f : Location → Location) : (s.modLoc l f).outside = s.outside := rfl

@[simp] theorem State.modPath_outside (f : Path → Path) : (s.modPath f).outside = s.outside := rfl

@[simp] theorem State.modRing_outside (f : Ring → Ring) : (s.modRing f).outside = s.outside := rfl

@[simp] theorem State.modPool_outside (f : Pool → Pool) : (s.modPool f).outside = s.outside := rfl

@[simp] theorem State.modPack_outside (f : Pack → Pack) : (s.modPack f).outside = s.outside := rfl

@[simp] theorem State.modRestore_outside (f : Restore → Restore) : (s.modRestore f).outside = s.outside := rfl

@[simp] theorem State.modLoader_outside (f : Loader → Loader) : (s.modLoader f).outside = s.outside := rfl

@[simp] theorem State.modPicker_outside (f : Picker → Picker) : (s.modPicker f).outside = s.outside := rfl

@[simp] theorem State.countPath_outside (f : PathCounters → PathCounters) : (s.countPath f).outside = s.outside := rfl

@[simp] theorem State.countRing_outside (f : RingCounters → RingCounters) : (s.countRing f).outside = s.outside := rfl

@[simp] theorem State.countLoader_outside (f : LoaderCounters → LoaderCounters) : (s.countLoader f).outside = s.outside := rfl

@[simp] theorem State.countChan_outside (d : Drive) (f : ChanCounters → ChanCounters) : (s.countChan d f).outside = s.outside := rfl

@[simp] theorem State.issue_outside (o : Owned) : (s.issue o).outside = s.outside := rfl
@[simp] theorem State.draw_outside : s.draw.outside = s.outside := rfl
@[simp] theorem State.newCart_outside : s.newCart.2.outside = s.outside := rfl
theorem ite_outside (c : Prop) [Decidable c] (a b : State) : (if c then a else b).outside = if c then a.outside else b.outside :=
  apply_ite ..

@[simp] theorem State.modPort_outside (f : Port → Port) : (s.modPort f).outside = s.outside := rfl
@[simp] theorem State.answered_outside (o : Owned) : (s.answered o).outside = s.outside := rfl
@[simp] theorem State.startJob_outside (e : Engine) : (s.startJob e).outside = s.outside := rfl
@[simp] theorem State.endJob_outside (e : Engine) : (s.endJob e).outside = s.outside := rfl
@[simp] theorem State.passJob_outside (e : Engine) : (s.passJob e).outside = s.outside := rfl

@[simp] theorem State.ownFault_outside :
    (s.ownFault).outside = s.outside := by
  rfl

@[simp] theorem State.poolFault_outside :
    (s.poolFault).outside = s.outside := by
  rfl

@[simp] theorem State.answer_outside (as : List Answer) :
    (s.answer as).outside = s.outside := by
  rfl

@[simp] theorem State.joinBuffer_outside (r : Record) :
    (s.joinBuffer r).outside = s.outside := by
  simp only [State.joinBuffer]
  split <;> simp

@[simp] theorem State.emit_outside (r : Record) :
    (s.emit r).outside = s.outside := by
  simp only [State.emit]
  split <;> simp

@[simp] theorem State.intakeTest_outside :
    (s.intakeTest).outside = s.outside := by
  simp only [State.intakeTest]
  repeat' split
  all_goals simp

@[simp] theorem State.endCommand_outside (kind : Nat) (tag : Half) (o : CmdOutcome) (r : Results) (extra : Word) :
    (s.endCommand kind tag o r extra).outside = s.outside := by
  simp [State.endCommand]

@[simp] theorem State.setFilter_outside (x : Sensor) (f : Filter) : (s.setFilter x f).outside = s.outside := rfl

@[simp] theorem State.holdTest_outside :
    (s.holdTest).outside = s.outside := by
  simp only [State.holdTest]
  repeat' split
  all_goals simp

@[simp] theorem State.setFree_outside (free : List Nat) :
    (s.setFree free).outside = s.outside := by
  simp [State.setFree]

@[simp] theorem State.returnPages_outside (pages : List Nat) :
    (s.returnPages pages).outside = s.outside := by
  simp only [State.returnPages]
  split <;> simp

@[simp] theorem State.modRec_outside (id : Nat) (f : ChunkRec → ChunkRec) : (s.modRec id f).outside = s.outside := rfl

@[simp] theorem State.freeRec_outside (id : Nat) :
    (s.freeRec id).outside = s.outside := by
  simp only [State.freeRec]
  split <;> simp

@[simp] theorem State.giveUp_outside (id : Nat) :
    (s.giveUp id).outside = s.outside := by
  simp only [State.giveUp]
  repeat' split
  all_goals simp

@[simp] theorem State.giveUpAll_outside (ids : List Nat) :
    (s.giveUpAll ids).outside = s.outside := by
  simp [State.giveUpAll, forEach_outside]

@[simp] theorem State.returnReservation_outside :
    (s.returnReservation).outside = s.outside := by
  simp [State.returnReservation]

@[simp] theorem State.suspendTest_outside (t : Tag) :
    (s.suspendTest t).outside = s.outside := by
  simp only [State.suspendTest]
  split <;> simp

@[simp] theorem State.causesChanged_outside (t : Tag) :
    (s.causesChanged t).outside = s.outside := by
  simp only [State.causesChanged]
  repeat' split
  all_goals simp

@[simp] theorem State.setPreempt_outside (on : Bool) (t : Tag) :
    (s.setPreempt on t).outside = s.outside := by
  simp only [State.setPreempt]
  split <;> simp

@[simp] theorem State.waitTest_outside :
    (s.waitTest).outside = s.outside := by
  simp only [State.waitTest]
  repeat' split
  all_goals simp

@[simp] theorem State.packChoose_outside :
    (s.packChoose).outside = s.outside := by
  simp only [State.packChoose]
  repeat' split
  all_goals simp

@[simp] theorem State.dropQueued_outside (t : Tag) (d : Drive) :
    (s.dropQueued t d).outside = s.outside := by
  simp [State.dropQueued]

@[simp] theorem State.abortCore_outside (t : Tag) (cause : Cause) (chan : Option Drive) :
    (s.abortCore t cause chan).outside = s.outside := by
  simp [State.abortCore, forEach_outside, apply_ite State.outside]

@[simp] theorem State.abortStream_outside (t : Tag) (cause : Cause) (chan : Option Drive) :
    (s.abortStream t cause chan).outside = s.outside := by
  simp [State.abortStream]

@[simp] theorem State.abortWhere_outside (sel : Stream → Bool) (cause : Cause) (chan : Option Drive) :
    (s.abortWhere sel cause chan).outside = s.outside := by
  simp [State.abortWhere, forEach_outside, apply_ite State.outside]

@[simp] theorem State.abortTargeting_outside (d : Drive) (cause : Cause) :
    (s.abortTargeting d cause).outside = s.outside := by
  simp [State.abortTargeting]

@[simp] theorem State.endTest_outside (r : ChunkRec) :
    (s.endTest r).outside = s.outside := by
  simp only [State.endTest]
  repeat' split
  all_goals simp

@[simp] theorem State.purge_outside (ids : List Nat) :
    (s.purge ids).outside = s.outside := by
  rfl

@[simp] theorem State.dropOwner_outside (q : Requester) :
    (s.dropOwner q).outside = s.outside := by
  rfl

@[simp] theorem State.freeWhere_outside (sel : ChunkRec → Bool) :
    (s.freeWhere sel).outside = s.outside := by
  simp [State.freeWhere, forEach_outside]

@[simp] theorem State.discardDecode_outside (q : Requester) :
    (s.discardDecode q).outside = s.outside := by
  rfl

@[simp] theorem State.endSession_outside (i : SessionId) (e : SessionEnd) :
    (s.endSession i e).outside = s.outside := by
  simp only [State.endSession]
  split <;> simp

@[simp] theorem State.failAttached_outside (d : Drive) (c : Cause) :
    (s.failAttached d c).outside = s.outside := by
  simp [State.failAttached, forEach_outside, apply_ite State.outside]

@[simp] theorem State.awaitNext_outside (i : SessionId) :
    (s.awaitNext i).outside = s.outside := by
  simp [State.awaitNext]

@[simp] theorem State.awaitAttached_outside (d : Drive) (st : SessionState) :
    (s.awaitAttached d st).outside = s.outside := by
  simp [State.awaitAttached, forEach_outside, apply_ite State.outside]

@[simp] theorem State.discardRec_outside (id : Nat) :
    (s.discardRec id).outside = s.outside := by
  simp only [State.discardRec]
  repeat' split
  all_goals simp

@[simp] theorem State.discardBlock_outside (d : Drive) :
    (s.discardBlock d).outside = s.outside := by
  simp [State.discardBlock, forEach_outside]

@[simp] theorem State.modBayCart_outside (d : Drive) (f : Cart → Cart) :
    (s.modBayCart d f).outside = s.outside := by
  rfl

@[simp] theorem State.endPass_outside (d : Drive) (normal : Bool) :
    (s.endPass d normal).outside = s.outside := by
  simp only [State.endPass]
  split <;> simp

@[simp] theorem State.stopReader_outside (d : Drive) (normal : Bool) :
    (s.stopReader d normal).outside = s.outside := by
  simp only [State.stopReader]
  repeat' split
  all_goals simp

@[simp] theorem State.askClose_outside (d : Drive) (r : CloseReason) :
    (s.askClose d r).outside = s.outside := by
  simp only [State.askClose]
  repeat' split
  all_goals simp

@[simp] theorem State.forceRestart_outside (d : Drive) :
    (s.forceRestart d).outside = s.outside := by
  simp only [State.forceRestart]
  split <;> simp

@[simp] theorem State.ageRelease_outside (d : Drive) :
    (s.ageRelease d).outside = s.outside := by
  simp only [State.ageRelease]
  split <;> simp

@[simp] theorem State.markTest_outside (d : Drive) :
    (s.markTest d).outside = s.outside := by
  simp only [State.markTest]
  split <;> simp

@[simp] theorem State.ageTest_outside (d : Drive) :
    (s.ageTest d).outside = s.outside := by
  simp only [State.ageTest]
  repeat' split
  all_goals simp

@[simp] theorem State.restartTest_outside (d : Drive) :
    (s.restartTest d).outside = s.outside := by
  simp [State.restartTest]

@[simp] theorem State.earlyTest_outside (d : Drive) :
    (s.earlyTest d).outside = s.outside := by
  simp only [State.earlyTest]
  split <;> simp

@[simp] theorem State.stopTest_outside (d : Drive) :
    (s.stopTest d).outside = s.outside := by
  simp only [State.stopTest]
  split <;> simp

@[simp] theorem State.raiseOccupancy_outside (d : Drive) :
    (s.raiseOccupancy d).outside = s.outside := by
  simp only [State.raiseOccupancy]
  split <;> simp

@[simp] theorem State.setFull_outside (d : Drive) (r : FullReason) :
    (s.setFull d r).outside = s.outside := by
  simp [State.setFull]

@[simp] theorem State.fullTest_outside (d : Drive) :
    (s.fullTest d).outside = s.outside := by
  simp only [State.fullTest]
  repeat' split
  all_goals simp

@[simp] theorem State.enter_outside (d : Drive) (st : ChanState) :
    (s.enter d st).outside = s.outside := by
  simp only [State.enter]
  split <;> simp

@[simp] theorem State.enterWrite_outside (d : Drive) :
    (s.enterWrite d).outside = s.outside := by
  simp [State.enterWrite]

@[simp] theorem State.enterUnmounted_outside (d : Drive) :
    (s.enterUnmounted d).outside = s.outside := by
  simp [State.enterUnmounted]

@[simp] theorem State.enterEject_outside (d : Drive) (forced : Bool) :
    (s.enterEject d forced).outside = s.outside := by
  simp only [State.enterEject]
  repeat' split
  all_goals simp

@[simp] theorem State.drainTest_outside (d : Drive) :
    (s.drainTest d).outside = s.outside := by
  simp only [State.drainTest]
  split <;> simp

@[simp] theorem State.dropAssembler_outside (d : Drive) :
    (s.dropAssembler d).outside = s.outside := by
  simp [State.dropAssembler, forEach_outside]

@[simp] theorem State.failChannel_outside (d : Drive) (cause : Cause) (named : Option Image) :
    (s.failChannel d cause named).outside = s.outside := by
  simp only [State.failChannel]
  split <;> simp

@[simp] theorem State.blockMoved_outside (d : Drive) :
    (s.blockMoved d).outside = s.outside := by
  simp only [State.blockMoved]
  split <;> simp

@[simp] theorem State.forcedUnmount_outside (d : Drive) :
    (s.forcedUnmount d).outside = s.outside := by
  simp only [State.forcedUnmount]
  split <;> simp

@[simp] theorem State.enterUnmounting_outside (d : Drive) :
    (s.enterUnmounting d).outside = s.outside := by
  simp [State.enterUnmounting]

@[simp] theorem State.doorEvent_outside (code : Nat) :
    (s.doorEvent code).outside = s.outside := by
  simp [State.doorEvent]

@[simp] theorem State.syncLock_outside :
    (s.syncLock).outside = s.outside := by
  simp only [State.syncLock]
  split <;> simp

@[simp] theorem State.setPicker_outside (st : PickState) :
    (s.setPicker st).outside = s.outside := by
  simp [State.setPicker]

@[simp] theorem State.releaseReserved_outside (r : Reservation) :
    (s.releaseReserved r).outside = s.outside := by
  rfl

@[simp] theorem State.modReq_outside (stamp : Nat) (f : Req → Req) : (s.modReq stamp f).outside = s.outside := rfl

@[simp] theorem State.joinQueue_outside (r : Req) :
    (s.joinQueue r).outside = s.outside := by
  rfl

@[simp] theorem State.joinInternal_outside (r : Req) :
    (s.joinInternal r).outside = s.outside := by
  rfl

@[simp] theorem State.raiseInternal_outside (r : Req) :
    (s.raiseInternal r).outside = s.outside := by
  simp only [State.raiseInternal]
  split <;> simp

@[simp] theorem State.setPreemptRec_outside (p : Option Preempt) : (s.setPreemptRec p).outside = s.outside := rfl

@[simp] theorem State.endPreempt_outside : s.endPreempt.outside = s.outside := by
  simp only [State.endPreempt]
  rw [forEach_outside _ fun t u => by simp, forEach_outside _ fun i t => by rw [State.modSession_outside]]
  simp

@[simp] theorem State.moveEnd_outside (r : Req) (e : ReqEnd) : (s.moveEnd r e).outside = s.outside := by
  simp only [State.moveEnd, ite_outside, State.draw_outside, State.emit_outside, ite_self]

@[simp] theorem State.cleanEnd_outside (r : Req) (e : ReqEnd) : (s.cleanEnd r e).outside = s.outside := by
  simp only [State.cleanEnd, ite_outside, State.draw_outside, State.emit_outside, ite_self]

@[simp] theorem State.endWaiting_outside (stamp : Nat) (e : ReqEnd) :
    (s.endWaiting stamp e).outside = s.outside := by
  simp only [State.endWaiting]
  repeat' split
  all_goals simp [forEach_outside, apply_ite State.outside]

@[simp] theorem State.closeReq_outside (r : Req) (e : ReqEnd) :
    (s.closeReq r e).outside = s.outside := by
  simp only [State.closeReq]
  split <;> simp

@[simp] theorem State.beginRemount_outside (p : Preempt) : (s.beginRemount p).outside = s.outside := by
  have h : ∀ s : State, (forEach allSessions (fun i t => t.modSession i fun x => { x with link := none }) s).outside = s.outside :=
    forEach_outside _ (fun i t => by rw [State.modSession_outside]) _
  unfold State.beginRemount
  extract_lets s1 still r s2
  have h1 : s1.outside = s.outside := h s
  have h2 : s2.outside = s.outside := by simp [s2, h1]
  clear_value s1 still r s2
  repeat' split
  all_goals simp [h1, h2]

@[simp] theorem State.endReq_outside (r : Req) (e : ReqEnd) :
    (s.endReq r e).outside = s.outside := by
  simp only [State.endReq]
  repeat' split
  all_goals simp

@[simp] theorem State.endStamp_outside (stamp : Nat) (e : ReqEnd) :
    (s.endStamp stamp e).outside = s.outside := by
  simp only [State.endStamp]
  split <;> simp

@[simp] theorem State.queueReturn_outside (dst : Loc) :
    (s.queueReturn dst).outside = s.outside := by
  unfold State.queueReturn
  extract_lets t r
  clear_value t r
  repeat' split
  all_goals simp

@[simp] theorem State.queueReturnToSource_outside :
    (s.queueReturnToSource).outside = s.outside := by
  simp [State.queueReturnToSource]

@[simp] theorem State.sendOrder_outside (st : Stage) (l : Option Loc) :
    (s.sendOrder st l).outside = s.outside := by
  simp only [State.sendOrder]
  split <;> simp

@[simp] theorem State.requeue_outside (r : Req) (st : ReqState) (blocked : Option Loc) :
    (s.requeue r st blocked).outside = s.outside := by
  rfl

@[simp] theorem State.cutEnd_outside :
    (s.cutEnd).outside = s.outside := by
  simp only [State.cutEnd]
  repeat' split
  all_goals simp

@[simp] theorem State.sendLeg_outside (st : Stage) (l : Loc) :
    (s.sendLeg st l).outside = s.outside := by
  simp only [State.sendLeg]
  split <;> simp

@[simp] theorem State.homeTest_outside :
    (s.homeTest).outside = s.outside := by
  simp only [State.homeTest]
  split <;> simp

@[simp] theorem State.startHoming_outside (goal : HomeTo) :
    (s.startHoming goal).outside = s.outside := by
  simp [State.startHoming]

@[simp] theorem State.endRecovery_outside (o : CmdOutcome) (e0 : Word) :
    (s.endRecovery o e0).outside = s.outside := by
  simp only [State.endRecovery]
  split <;> simp

@[simp] theorem State.homeDone_outside : s.homeDone.outside = s.outside := by
  unfold State.homeDone
  extract_lets s1 s2
  have h1 : s1.outside = s.outside := rfl
  split
  · by_cases h : s1.picker.cart.isSome
    · simp only [h, if_true]; split <;> simp [h1]
    · simp only [h]; split <;> simp [h1]
  · have h2 : s2.outside = s1.outside := by
      simp only [s2]; split <;> simp
    simp [h1, h2]

@[simp] theorem State.clearExpectation_outside (o : Order) :
    (s.clearExpectation o).outside = s.outside := by
  simp only [State.clearExpectation]
  split <;> simp

@[simp] theorem State.faultPicker_outside (cause : Cause) (o : Order) :
    (s.faultPicker cause o).outside = s.outside := by
  simp only [State.faultPicker]
  split <;> simp

@[simp] theorem State.modCartAt_outside (l : Option Loc) (f : Cart → Cart) : (s.modCartAt l f).outside = s.outside := by
  cases l <;> rfl

@[simp] theorem State.cleanerTest_outside (before after : Media) :
    (s.cleanerTest before after).outside = s.outside := by
  simp only [State.cleanerTest]
  split <;> simp

@[simp] theorem State.takeLabel_outside (l : Option Loc) (t : List Byte) : (s.takeLabel l t).outside = s.outside := by
  unfold State.takeLabel
  split
  · rfl
  · split
    · rfl
    · cases s.labelHolder t _ <;> simp

@[simp] theorem State.labelReply_outside (l : Option Loc) (r : Reply) : (s.labelReply l r).outside = s.outside := by
  have h : ∀ c : Bool, (if c = true then s.countLoader fun c => { c with badLabels := c.badLabels.add 1 } else s).outside = s.outside := by
    intro c; cases c <;> rfl
  unfold State.labelReply
  extract_lets s1 s2 code
  have h2 : s2.outside = s.outside := by
    simp only [s2]; split <;> simp [s1, h]
  simp [apply_ite State.outside, h2]

@[simp] theorem State.startMounting_outside (d : Drive) (cleaning : Bool) :
    (s.startMounting d cleaning).outside = s.outside := by
  simp [State.startMounting]

@[simp] theorem State.bayLoad_outside (d : Drive) :
    (s.bayLoad d).outside = s.outside := by
  simp only [State.bayLoad]
  repeat' split
  all_goals simp

@[simp] theorem State.chooseScratch_outside (r : Req) (d : Drive) :
    (s.chooseScratch r d).outside = s.outside := by
  simp only [State.chooseScratch]
  split <;> simp

@[simp] theorem State.attachWaiting_outside (stamp : Nat) (d : Drive) (link : Option (Drive × Option Nat)) :
    (s.attachWaiting stamp d link).outside = s.outside := by
  simp [State.attachWaiting, forEach_outside, apply_ite State.outside]

@[simp] theorem State.mountLegEnd_outside (r : Req) :
    (s.mountLegEnd r).outside = s.outside := by
  simp only [State.mountLegEnd]
  repeat' split
  all_goals simp

@[simp] theorem State.legKind_outside (r : Req) :
    (s.legKind r).outside = s.outside := by
  simp only [State.legKind]
  repeat' split
  all_goals simp

@[simp] theorem State.legEnd_outside :
    (s.legEnd).outside = s.outside := by
  simp only [State.legEnd]
  repeat' split
  all_goals simp

@[simp] theorem State.visitEnd_outside (labelled : Bool) :
    (s.visitEnd labelled).outside = s.outside := by
  simp only [State.visitEnd]
  repeat' split
  all_goals simp

@[simp] theorem State.gripDone_outside (l : Loc) : (s.gripDone l).outside = s.outside := by
  unfold State.gripDone
  by_cases h : (s.loc l).cart.isSome
  · simp only [h, if_true]; split <;> simp
  · simp only [h]; split <;> simp

@[simp] theorem State.leaveForLoad_outside (d : Drive) : (s.leaveForLoad d).outside = s.outside := by
  simp only [State.leaveForLoad]
  split <;> simp

@[simp] theorem State.setDown_outside (l : Loc) : (s.setDown l).outside = s.outside := rfl

@[simp] theorem State.releaseDone_outside (l : Loc) :
    (s.releaseDone l).outside = s.outside := by
  simp only [State.releaseDone]
  split <;> simp

@[simp] theorem State.arrive_outside (l : Loc) :
    (s.arrive l).outside = s.outside := by
  rfl

@[simp] theorem State.nextStep_outside (st : Stage) (l : Loc) :
    (s.nextStep st l).outside = s.outside := by
  simp only [State.nextStep]
  split <;> simp

@[simp] theorem State.act_outside (o : Order) (reply : Reply) :
    (s.act o reply).outside = s.outside := by
  simp only [State.act]
  repeat' split
  all_goals simp

@[simp] theorem State.noteUnmount_outside (d : Drive) :
    (s.noteUnmount d).outside = s.outside := by
  simp only [State.noteUnmount]
  repeat' split
  all_goals simp

@[simp] theorem State.beginPreempt_outside (r : Req) (v : Drive) :
    (s.beginPreempt r v).outside = s.outside := by
  simp [State.beginPreempt, forEach_outside, apply_ite State.outside]

@[simp] theorem State.mountBlocked_outside (r : Req) :
    (s.mountBlocked r).outside = s.outside := by
  simp only [State.mountBlocked]
  repeat' split
  all_goals simp

@[simp] theorem State.activate_outside (r : Req) :
    (s.activate r).outside = s.outside := by
  simp only [State.activate]
  repeat' split
  all_goals simp

@[simp] theorem State.orphanTest_outside (ref : State) :
    (ref.orphanTest s).outside = s.outside := by
  simp only [State.orphanTest]
  apply forEach_outside
  intro x t
  repeat' split
  all_goals simp

@[simp] theorem State.preemptTest_outside (ref : State) :
    (ref.preemptTest s).outside = s.outside := by
  simp only [State.preemptTest]
  repeat' split
  all_goals simp

@[simp] theorem State.packStart_outside (t : Tag) (k : BufId) :
    (s.packStart t k).outside = s.outside := by
  simp [State.packStart]

@[simp] theorem State.handOff_outside (t : Tag) (id : Nat) (packed : Bool) :
    (s.handOff t id packed).outside = s.outside := by
  simp [State.handOff, forEach_outside, apply_ite State.outside]

@[simp] theorem State.faultJob_outside (j : PackJob) :
    (s.faultJob j).outside = s.outside := by
  simp only [State.faultJob]
  split <;> simp

@[simp] theorem State.issueHead_outside :
    (s.issueHead).outside = s.outside := by
  simp only [State.issueHead]
  split <;> simp

@[simp] theorem State.recordLost_outside (rest : List Record) : (s.recordLost rest).outside = s.outside := rfl

@[simp] theorem State.snapshotAnswered_outside (j : SnapshotJob) :
    (s.snapshotAnswered j).outside = s.outside := by
  simp only [State.snapshotAnswered]
  split <;> simp

@[simp] theorem State.rejectImage_outside :
    (s.rejectImage).outside = s.outside := by
  rfl

@[simp] theorem State.buildLocations_outside : s.buildLocations.outside = s.outside := by
  simp only [State.buildLocations]
  refine forEach_outside _ (fun l t => ?_) _ _
  split <;> simp

@[simp] theorem State.startLoader_outside :
    (s.startLoader).outside = s.outside := by
  simp [State.startLoader]

@[simp] theorem State.manualChange_outside (l : Loc) (full : Bool) : (s.manualChange l full).outside = s.outside := by
  simp only [State.manualChange]
  split <;> simp

@[simp] theorem State.presenceChange_outside (l : Loc) (full : Bool) :
    (s.presenceChange l full).outside = s.outside := by
  simp only [State.presenceChange]
  repeat' split
  all_goals simp

@[simp] theorem State.bayChange_outside (d : Drive) (old new : Level) :
    (s.bayChange d old new).outside = s.outside := by
  simp only [State.bayChange]
  repeat' split
  all_goals simp

@[simp] theorem State.placeChange_outside (l : Loc) (old new : Level) :
    (s.placeChange l old new).outside = s.outside := by
  simp only [State.placeChange]
  repeat' split
  all_goals simp

@[simp] theorem State.unlatch_outside (m : Fin 2) :
    (s.unlatch m).outside = s.outside := by
  simp only [State.unlatch]
  repeat' split
  all_goals simp

@[simp] theorem State.renewSlot_outside (l : Loc) : (s.renewSlot l).outside = s.outside := by
  simp only [State.renewSlot]
  split <;> simp

@[simp] theorem State.relatch_outside (m : Fin 2) :
    (s.relatch m).outside = s.outside := by
  simp [State.relatch, forEach_outside, apply_ite State.outside]

@[simp] theorem State.strayOrder_outside : s.strayOrder.outside = s.outside := by
  simp [State.strayOrder]

@[simp] theorem State.doorChange_outside (opened : Bool) :
    (s.doorChange opened).outside = s.outside := by
  simp only [State.doorChange]
  repeat' split
  all_goals simp

@[simp] theorem State.press_outside :
    (s.press).outside = s.outside := by
  simp only [State.press]
  repeat' split
  all_goals simp

@[simp] theorem State.powerChange_outside (d : Drive) (fault : Bool) :
    (s.powerChange d fault).outside = s.outside := by
  simp only [State.powerChange]
  split <;> simp

@[simp] theorem State.debounced_outside (x : Sensor) (old new : Level) :
    (s.debounced x old new).outside = s.outside := by
  simp only [State.debounced]
  repeat' split
  all_goals simp

@[simp] theorem State.endCleaning_outside (d : Drive) (clean : Bool) :
    (s.endCleaning d clean).outside = s.outside := by
  simp only [State.endCleaning]
  split <;> simp

@[simp] theorem State.rejudge_outside (l : Loc) :
    (s.rejudge l).outside = s.outside := by
  simp only [State.rejudge]
  split <;> simp

@[simp] theorem State.cancelAll_outside :
    (s.cancelAll).outside = s.outside := by
  simp [State.cancelAll, forEach_outside]

@[simp] theorem State.openImage_outside (d : Drive) :
    (s.openImage d).outside = s.outside := by
  rfl

@[simp] theorem State.startPlacement_outside (d : Drive) (r : ChunkRec) (held : Option Nat) (i : Image) :
    (s.startPlacement d r held i).outside = s.outside := by
  simp only [State.startPlacement]
  split <;> simp

@[simp] theorem State.assemble_outside (d : Drive) :
    (s.assemble d).outside = s.outside := by
  simp only [State.assemble]
  repeat' split
  all_goals simp

@[simp] theorem State.imageFreed_outside (d : Drive) (slot : Nat) :
    (s.imageFreed d slot).outside = s.outside := by
  simp only [State.imageFreed]
  split <;> simp

@[simp] theorem State.closeAfter_outside (d : Drive) :
    (s.closeAfter d).outside = s.outside := by
  simp only [State.closeAfter]
  repeat' split
  all_goals simp

@[simp] theorem State.drainStep_outside (d : Drive) (t : Nat) :
    (s.drainStep d t).outside = s.outside := by
  simp [State.drainStep]

@[simp] theorem State.readUnderCursor_outside (d : Drive) (len : Nat) :
    (s.readUnderCursor d len).outside = s.outside := by
  simp only [State.readUnderCursor]
  split <;> simp

@[simp] theorem State.startSend_outside (d : Drive) (i : Image) :
    (s.startSend d i).outside = s.outside := by
  simp [State.startSend]

@[simp] theorem State.emitMarks_outside (d : Drive) (code : Byte) (seq : Word) (sends : Nat) (marks : List Word) :
    (s.emitMarks d code seq sends marks).outside = s.outside := by
  simp [State.emitMarks, forEach_outside]

@[simp] theorem State.completeFirst_outside (d : Drive) (i : Image) :
    (s.completeFirst d i).outside = s.outside := by
  simp only [State.completeFirst]
  split <;> simp

@[simp] theorem State.completeSend_outside (d : Drive) (k : Cursor) :
    (s.completeSend d k).outside = s.outside := by
  simp only [State.completeSend]
  repeat' split
  all_goals simp

@[simp] theorem State.readDone_outside (d : Drive) (r : SendRead) :
    (s.readDone d r).outside = s.outside := by
  simp only [State.readDone]
  repeat' split
  all_goals simp

@[simp] theorem State.readFault_outside (d : Drive) (r : SendRead) :
    (s.readFault d r).outside = s.outside := by
  simp only [State.readFault]
  split <;> simp

@[simp] theorem State.goBack_outside (d : Drive) (head : VerifyEntry) (cause : Cause) :
    (s.goBack d head cause).outside = s.outside := by
  simp [State.goBack]

@[simp] theorem State.failHead_outside (d : Drive) (cause : Cause) :
    (s.failHead d cause).outside = s.outside := by
  simp only [State.failHead]
  repeat' split
  all_goals simp

@[simp] theorem State.readbackExpiry_outside (d : Drive) :
    (s.readbackExpiry d).outside = s.outside := by
  simp [State.readbackExpiry]

@[simp] theorem State.overdueTest_outside (d : Drive) :
    (s.overdueTest d).outside = s.outside := by
  simp only [State.overdueTest]
  repeat' split
  all_goals simp

@[simp] theorem State.verifyHead_outside (d : Drive) :
    (s.verifyHead d).outside = s.outside := by
  simp only [State.verifyHead]
  split <;> simp

@[simp] theorem State.readbackArrival_outside (d : Drive) (r : Readback) :
    (s.readbackArrival d r).outside = s.outside := by
  simp only [State.readbackArrival]
  repeat' split
  all_goals simp

@[simp] theorem State.readbackByte_outside (d : Drive) (b : Byte) : (State.readbackByte d s b).outside = s.outside := by
  simp only [State.readbackByte]
  repeat' split
  all_goals simp
@[simp] theorem State.takeReadback_outside (d : Drive) (data : List Byte) : (s.takeReadback d data).outside = s.outside := by
  unfold State.takeReadback
  induction data generalizing s with
  | nil => rfl
  | cons b bs ih => exact (ih _).trans (State.readbackByte_outside s d b)

@[simp] theorem State.setRx_outside (d : Drive) (rx : BlockRx) : (s.setRx d rx).outside = s.outside := rfl
@[simp] theorem State.fragHeaderDone_outside (d : Drive) (rx : BlockRx) (f : FragFields) :
    (s.fragHeaderDone d rx f).outside = s.outside := by
  unfold State.fragHeaderDone
  split
  · simp
  · simp only [State.setRx_outside]
    exact forEach_outside _ (fun id u => by rw [State.modRec_outside]) _ _

@[simp] theorem State.blockArrival_outside (d : Drive) :
    (s.blockArrival d).outside = s.outside := by
  simp [State.blockArrival]

@[simp] theorem State.ringFault_outside (word : Byte) (value own other : Half) :
    (s.ringFault word value own other).outside = s.outside := by
  simp [State.ringFault]

@[simp] theorem State.takeProducer_outside (v : Half) :
    (s.takeProducer v).outside = s.outside := by
  simp only [State.takeProducer]
  split <;> simp

@[simp] theorem State.takeConsumer_outside (v : Half) :
    (s.takeConsumer v).outside = s.outside := by
  simp only [State.takeConsumer]
  split <;> simp

@[simp] theorem State.stray_outside (ingest : Bool) (arg : Nat) (acc : Access) :
    (s.stray ingest arg acc).outside = s.outside := by
  simp only [State.stray]
  repeat' split
  all_goals simp

@[simp] theorem State.commitRec_outside (id : Nat) :
    (s.commitRec id).outside = s.outside := by
  simp only [State.commitRec]
  split <;> simp

@[simp] theorem State.modReader_outside (d : Drive) (f : Reader → Reader) : (s.modReader d f).outside = s.outside := rfl

@[simp] theorem State.verifyNew_outside (d : Drive) (id : Nat) :
    (s.verifyNew d id).outside = s.outside := by
  simp only [State.verifyNew]
  repeat' split
  all_goals simp

@[simp] theorem State.verifyTake_outside (d : Drive) (frags : List Frag) :
    (s.verifyTake d frags).outside = s.outside := by
  simp only [State.verifyTake]
  repeat' split
  all_goals simp [forEach_outside]

@[simp] theorem State.joinChunk_outside (i : SessionId) (r : ChunkRec) :
    (s.joinChunk i r).outside = s.outside := by
  rfl

@[simp] theorem State.loseChunks_outside (i : SessionId) (first : Word) (count len : Nat) (setend : Bool) :
    (s.loseChunks i first count len setend).outside = s.outside := by
  simp only [State.loseChunks]
  split <;> simp

@[simp] theorem State.fullyRead_outside (i : SessionId) :
    (s.fullyRead i).outside = s.outside := by
  simp only [State.fullyRead]
  repeat' split
  all_goals simp

@[simp] theorem State.fillBuffer_outside (i : SessionId) (b : Delivery) :
    (s.fillBuffer i b).outside = s.outside := by
  simp only [State.fillBuffer]
  split <;> simp

@[simp] theorem State.deliver_outside (i : SessionId) (len : Nat) :
    (s.deliver i len).outside = s.outside := by
  simp only [State.deliver]
  split <;> simp

@[simp] theorem State.sessionOutcome_outside (i : SessionId) (r : ChunkRec) (o : DecodeOutcome) (out : List Byte) :
    (s.sessionOutcome i r o out).outside = s.outside := by
  simp only [State.sessionOutcome]
  repeat' split
  all_goals simp

@[simp] theorem State.verifyOutcome_outside (d : Drive) (o : DecodeOutcome) :
    (s.verifyOutcome d o).outside = s.outside := by
  rfl

@[simp] theorem State.enterRead_outside (d : Drive) (options first : Word) :
    (s.enterRead d options first).outside = s.outside := by
  simp only [State.enterRead, State.enter_outside]
  rw [forEach_outside _ fun i t => by rw [State.modSession_outside]]
  simp

@[simp] theorem State.enterMode_outside (d : Drive) (m : Mode) (options first : Word) :
    (s.enterMode d m options first).outside = s.outside := by
  simp only [State.enterMode]
  split <;> simp

@[simp] theorem State.endReading_outside (d : Drive) :
    (s.endReading d).outside = s.outside := by
  simp [State.endReading]

@[simp] theorem State.resetState_outside (d : Drive) :
    (s.resetState d).outside = s.outside := by
  simp only [State.resetState]
  split <;> simp

@[simp] theorem State.resetChannel_outside (d : Drive) :
    (s.resetChannel d).outside = s.outside := by
  simp only [State.resetChannel]
  split <;> simp

@[simp] theorem State.resetVictim_outside (d : Drive) :
    (s.resetVictim d).outside = s.outside := by
  simp only [State.resetVictim]
  split <;> simp

@[simp] theorem State.overdueStall_outside (i : SessionId) :
    (s.overdueStall i).outside = s.outside := by
  simp only [State.overdueStall]
  repeat' split
  all_goals simp

@[simp] theorem State.limitOccupancy_outside (d : Drive) :
    (s.limitOccupancy d).outside = s.outside := by
  simp only [State.limitOccupancy]
  split <;> simp

@[simp] theorem State.clearPath_outside :
    (s.clearPath).outside = s.outside := by
  rfl

@[simp] theorem State.clearRing_outside :
    (s.clearRing).outside = s.outside := by
  rfl

@[simp] theorem State.clearPool_outside :
    (s.clearPool).outside = s.outside := by
  rfl

@[simp] theorem State.clearStreams_outside : s.clearStreams.outside = s.outside := rfl

@[simp] theorem State.clearChan_outside (d : Drive) :
    (s.clearChan d).outside = s.outside := by
  rfl

@[simp] theorem State.clearRestore_outside :
    (s.clearRestore).outside = s.outside := by
  rfl

@[simp] theorem State.clearLoader_outside :
    (s.clearLoader).outside = s.outside := by
  rfl


theorem unmountRule_outside (force : Bool) (d : Drive) : (unmountRule force d s).state.outside = s.outside := by
  simp only [unmountRule]
  repeat' split
  all_goals simp [State.ok, State.turnAway]

@[simp] theorem State.takeUnmount_outside (force : Bool) (d : Drive) : (s.takeUnmount force d).state.outside = s.outside := by
  simp only [State.takeUnmount]
  split <;> simp [unmountRule_outside]

@[simp] theorem State.judge_outside (q : Req) : (s.judge q).outside = s.outside := by
  unfold State.judge
  extract_lets r t wait
  have ht : t.outside = s.outside := rfl
  have hw : ∀ w u, (wait w u).outside = u.outside := fun _ _ => rfl
  clear_value r t wait
  split
  · split <;> simp [ht]
  · split <;> simp only [hw, State.endReq_outside, State.takeUnmount_outside, State.mountBlocked_outside,
      State.activate_outside, ht]
    split <;> simp [hw, ht]

theorem selectFrom_outside : ∀ (xs : List Nat) (s : State), (State.selectFrom xs s).outside = s.outside
  | [], _ => rfl
  | x :: xs, s => by
    simp only [State.selectFrom]
    repeat' split
    all_goals simp [selectFrom_outside]

@[simp] theorem State.selection_outside : s.selection.outside = s.outside := by
  simp only [State.selection]
  split <;> simp [selectFrom_outside]

theorem changeoverTest_outside (ref : State) (d : Drive) : (State.changeoverTest ref d s).outside = s.outside := by
  simp only [State.changeoverTest]
  repeat' split
  all_goals simp

theorem cleanTest_outside (ref : State) (d : Drive) : (State.cleanTest ref d s).outside = s.outside := by
  simp only [State.cleanTest]
  repeat' split
  all_goals simp

theorem settleLoop_outside : ∀ (n : Nat) (ref s : State), (State.settleLoop n ref s).outside = s.outside
  | 0, _, _ => rfl
  | n + 1, ref, s => by
    have h : ∀ u : State, (forEach allDrives (State.cleanTest ref)
        (forEach allDrives (State.changeoverTest ref) u)).outside = u.outside := fun u =>
      (forEach_outside _ (fun d t => cleanTest_outside t ref d) _ _).trans
        (forEach_outside _ (fun d t => changeoverTest_outside t ref d) _ _)
    simp only [State.settleLoop]
    split
    · simp [h]
    · rw [settleLoop_outside]; simp [h]

/-- The tests at the end of an event touch no block's outside. -/
@[simp] theorem State.settle_outside (ref : State) : (ref.settle s).outside = s.outside := by
  simp only [State.settle]
  split <;> simp [settleLoop_outside]

end Sys2Proof.Machine
end

