-- ==== Sys2Proof/Laws/Blocks.lean ====
section
/-! SUPPORT. Which blocks the shared operations leave alone, and what the end of a move request does. -/

-- Proofs one after another: many at once take more memory than the check allows.
set_option Elab.async false

namespace Sys2Proof.Machine

theorem forEach_same {α β : Type} (g : State → β) (f : α → State → State) (hf : ∀ x t, g (f x t) = g t) :
    ∀ (xs : List α) (s : State), g (forEach xs f s) = g s
  | [], _ => rfl
  | x :: xs, s => (forEach_same g f hf xs (f x s)).trans (hf x s)

variable (s : State)

/-! ## modRec -/

@[simp] theorem State.modRec_path (id : Nat) (f : ChunkRec → ChunkRec) : (s.modRec id f).path = s.path := rfl
@[simp] theorem State.modRec_ring (id : Nat) (f : ChunkRec → ChunkRec) : (s.modRec id f).ring = s.ring := rfl
@[simp] theorem State.modRec_pack (id : Nat) (f : ChunkRec → ChunkRec) : (s.modRec id f).pack = s.pack := rfl
@[simp] theorem State.modRec_streams (id : Nat) (f : ChunkRec → ChunkRec) : (s.modRec id f).streams = s.streams := rfl
@[simp] theorem State.modRec_chans (id : Nat) (f : ChunkRec → ChunkRec) : (s.modRec id f).chans = s.chans := rfl
@[simp] theorem State.modRec_restore (id : Nat) (f : ChunkRec → ChunkRec) : (s.modRec id f).restore = s.restore := rfl
@[simp] theorem State.modRec_loader (id : Nat) (f : ChunkRec → ChunkRec) : (s.modRec id f).loader = s.loader := rfl

/-! ## modPicker -/

@[simp] theorem State.modPicker_path (f : Picker → Picker) : (s.modPicker f).path = s.path := rfl
@[simp] theorem State.modPicker_ring (f : Picker → Picker) : (s.modPicker f).ring = s.ring := rfl
@[simp] theorem State.modPicker_pool (f : Picker → Picker) : (s.modPicker f).pool = s.pool := rfl
@[simp] theorem State.modPicker_pack (f : Picker → Picker) : (s.modPicker f).pack = s.pack := rfl
@[simp] theorem State.modPicker_streams (f : Picker → Picker) : (s.modPicker f).streams = s.streams := rfl
@[simp] theorem State.modPicker_chans (f : Picker → Picker) : (s.modPicker f).chans = s.chans := rfl
@[simp] theorem State.modPicker_restore (f : Picker → Picker) : (s.modPicker f).restore = s.restore := rfl

/-! ## answer -/

@[simp] theorem State.answer_ring (as : List Answer) : (s.answer as).ring = s.ring := rfl
@[simp] theorem State.answer_pool (as : List Answer) : (s.answer as).pool = s.pool := rfl
@[simp] theorem State.answer_pack (as : List Answer) : (s.answer as).pack = s.pack := rfl
@[simp] theorem State.answer_streams (as : List Answer) : (s.answer as).streams = s.streams := rfl
@[simp] theorem State.answer_chans (as : List Answer) : (s.answer as).chans = s.chans := rfl
@[simp] theorem State.answer_restore (as : List Answer) : (s.answer as).restore = s.restore := rfl
@[simp] theorem State.answer_loader (as : List Answer) : (s.answer as).loader = s.loader := rfl

/-! ## ownFault -/

@[simp] theorem State.ownFault_ring : (s.ownFault).ring = s.ring := rfl
@[simp] theorem State.ownFault_pool : (s.ownFault).pool = s.pool := rfl
@[simp] theorem State.ownFault_pack : (s.ownFault).pack = s.pack := rfl
@[simp] theorem State.ownFault_streams : (s.ownFault).streams = s.streams := rfl
@[simp] theorem State.ownFault_chans : (s.ownFault).chans = s.chans := rfl
@[simp] theorem State.ownFault_restore : (s.ownFault).restore = s.restore := rfl
@[simp] theorem State.ownFault_loader : (s.ownFault).loader = s.loader := rfl

/-! ## poolFault -/

@[simp] theorem State.poolFault_ring : (s.poolFault).ring = s.ring := rfl
@[simp] theorem State.poolFault_pack : (s.poolFault).pack = s.pack := rfl
@[simp] theorem State.poolFault_streams : (s.poolFault).streams = s.streams := rfl
@[simp] theorem State.poolFault_chans : (s.poolFault).chans = s.chans := rfl
@[simp] theorem State.poolFault_restore : (s.poolFault).restore = s.restore := rfl
@[simp] theorem State.poolFault_loader : (s.poolFault).loader = s.loader := rfl

/-! ## joinBuffer -/

@[simp] theorem State.joinBuffer_pool (r : Record) : (s.joinBuffer r).pool = s.pool := by
  simp only [State.joinBuffer]
  split <;> simp
@[simp] theorem State.joinBuffer_pack (r : Record) : (s.joinBuffer r).pack = s.pack := by
  simp only [State.joinBuffer]
  split <;> simp
@[simp] theorem State.joinBuffer_streams (r : Record) : (s.joinBuffer r).streams = s.streams := by
  simp only [State.joinBuffer]
  split <;> simp
@[simp] theorem State.joinBuffer_chans (r : Record) : (s.joinBuffer r).chans = s.chans := by
  simp only [State.joinBuffer]
  split <;> simp
@[simp] theorem State.joinBuffer_restore (r : Record) : (s.joinBuffer r).restore = s.restore := by
  simp only [State.joinBuffer]
  split <;> simp
@[simp] theorem State.joinBuffer_loader (r : Record) : (s.joinBuffer r).loader = s.loader := by
  simp only [State.joinBuffer]
  split <;> simp

/-! ## emit -/

@[simp] theorem State.emit_pool (r : Record) : (s.emit r).pool = s.pool := by
  simp only [State.emit]
  split <;> simp
@[simp] theorem State.emit_pack (r : Record) : (s.emit r).pack = s.pack := by
  simp only [State.emit]
  split <;> simp
@[simp] theorem State.emit_streams (r : Record) : (s.emit r).streams = s.streams := by
  simp only [State.emit]
  split <;> simp
@[simp] theorem State.emit_chans (r : Record) : (s.emit r).chans = s.chans := by
  simp only [State.emit]
  split <;> simp
@[simp] theorem State.emit_restore (r : Record) : (s.emit r).restore = s.restore := by
  simp only [State.emit]
  split <;> simp
@[simp] theorem State.emit_loader (r : Record) : (s.emit r).loader = s.loader := by
  simp only [State.emit]
  split <;> simp

/-! ## intakeTest -/

@[simp] theorem State.intakeTest_pool : (s.intakeTest).pool = s.pool := by
  simp only [State.intakeTest]
  repeat' split
  all_goals simp
@[simp] theorem State.intakeTest_pack : (s.intakeTest).pack = s.pack := by
  simp only [State.intakeTest]
  repeat' split
  all_goals simp
@[simp] theorem State.intakeTest_streams : (s.intakeTest).streams = s.streams := by
  simp only [State.intakeTest]
  repeat' split
  all_goals simp
@[simp] theorem State.intakeTest_chans : (s.intakeTest).chans = s.chans := by
  simp only [State.intakeTest]
  repeat' split
  all_goals simp
@[simp] theorem State.intakeTest_restore : (s.intakeTest).restore = s.restore := by
  simp only [State.intakeTest]
  repeat' split
  all_goals simp
@[simp] theorem State.intakeTest_loader : (s.intakeTest).loader = s.loader := by
  simp only [State.intakeTest]
  repeat' split
  all_goals simp

/-! ## endCommand -/

@[simp] theorem State.endCommand_pool (kind : Nat) (tag : Half) (o : CmdOutcome) (r : Results) (extra : Word) : (s.endCommand kind tag o r extra).pool = s.pool := by
  simp [State.endCommand]
@[simp] theorem State.endCommand_pack (kind : Nat) (tag : Half) (o : CmdOutcome) (r : Results) (extra : Word) : (s.endCommand kind tag o r extra).pack = s.pack := by
  simp [State.endCommand]
@[simp] theorem State.endCommand_streams (kind : Nat) (tag : Half) (o : CmdOutcome) (r : Results) (extra : Word) : (s.endCommand kind tag o r extra).streams = s.streams := by
  simp [State.endCommand]
@[simp] theorem State.endCommand_chans (kind : Nat) (tag : Half) (o : CmdOutcome) (r : Results) (extra : Word) : (s.endCommand kind tag o r extra).chans = s.chans := by
  simp [State.endCommand]
@[simp] theorem State.endCommand_restore (kind : Nat) (tag : Half) (o : CmdOutcome) (r : Results) (extra : Word) : (s.endCommand kind tag o r extra).restore = s.restore := by
  simp [State.endCommand]
@[simp] theorem State.endCommand_loader (kind : Nat) (tag : Half) (o : CmdOutcome) (r : Results) (extra : Word) : (s.endCommand kind tag o r extra).loader = s.loader := by
  simp [State.endCommand]

/-! ## holdTest -/

@[simp] theorem State.holdTest_pack : (s.holdTest).pack = s.pack := by
  simp only [State.holdTest]
  repeat' split
  all_goals simp
@[simp] theorem State.holdTest_streams : (s.holdTest).streams = s.streams := by
  simp only [State.holdTest]
  repeat' split
  all_goals simp
@[simp] theorem State.holdTest_chans : (s.holdTest).chans = s.chans := by
  simp only [State.holdTest]
  repeat' split
  all_goals simp
@[simp] theorem State.holdTest_restore : (s.holdTest).restore = s.restore := by
  simp only [State.holdTest]
  repeat' split
  all_goals simp
@[simp] theorem State.holdTest_loader : (s.holdTest).loader = s.loader := by
  simp only [State.holdTest]
  repeat' split
  all_goals simp

/-! ## setFree -/

@[simp] theorem State.setFree_pack (free : List Nat) : (s.setFree free).pack = s.pack := by
  simp [State.setFree]
@[simp] theorem State.setFree_streams (free : List Nat) : (s.setFree free).streams = s.streams := by
  simp [State.setFree]
@[simp] theorem State.setFree_chans (free : List Nat) : (s.setFree free).chans = s.chans := by
  simp [State.setFree]
@[simp] theorem State.setFree_restore (free : List Nat) : (s.setFree free).restore = s.restore := by
  simp [State.setFree]
@[simp] theorem State.setFree_loader (free : List Nat) : (s.setFree free).loader = s.loader := by
  simp [State.setFree]

/-! ## returnPages -/

@[simp] theorem State.returnPages_pack (pages : List Nat) : (s.returnPages pages).pack = s.pack := by
  simp only [State.returnPages]
  split <;> simp
@[simp] theorem State.returnPages_streams (pages : List Nat) : (s.returnPages pages).streams = s.streams := by
  simp only [State.returnPages]
  split <;> simp
@[simp] theorem State.returnPages_chans (pages : List Nat) : (s.returnPages pages).chans = s.chans := by
  simp only [State.returnPages]
  split <;> simp
@[simp] theorem State.returnPages_restore (pages : List Nat) : (s.returnPages pages).restore = s.restore := by
  simp only [State.returnPages]
  split <;> simp
@[simp] theorem State.returnPages_loader (pages : List Nat) : (s.returnPages pages).loader = s.loader := by
  simp only [State.returnPages]
  split <;> simp

/-! ## freeRec -/

@[simp] theorem State.freeRec_pack (id : Nat) : (s.freeRec id).pack = s.pack := by
  simp only [State.freeRec]
  split <;> simp
@[simp] theorem State.freeRec_streams (id : Nat) : (s.freeRec id).streams = s.streams := by
  simp only [State.freeRec]
  split <;> simp
@[simp] theorem State.freeRec_chans (id : Nat) : (s.freeRec id).chans = s.chans := by
  simp only [State.freeRec]
  split <;> simp
@[simp] theorem State.freeRec_restore (id : Nat) : (s.freeRec id).restore = s.restore := by
  simp only [State.freeRec]
  split <;> simp
@[simp] theorem State.freeRec_loader (id : Nat) : (s.freeRec id).loader = s.loader := by
  simp only [State.freeRec]
  split <;> simp

/-! ## giveUp -/

@[simp] theorem State.giveUp_pack (id : Nat) : (s.giveUp id).pack = s.pack := by
  simp only [State.giveUp]
  repeat' split
  all_goals simp
@[simp] theorem State.giveUp_streams (id : Nat) : (s.giveUp id).streams = s.streams := by
  simp only [State.giveUp]
  repeat' split
  all_goals simp
@[simp] theorem State.giveUp_chans (id : Nat) : (s.giveUp id).chans = s.chans := by
  simp only [State.giveUp]
  repeat' split
  all_goals simp
@[simp] theorem State.giveUp_restore (id : Nat) : (s.giveUp id).restore = s.restore := by
  simp only [State.giveUp]
  repeat' split
  all_goals simp
@[simp] theorem State.giveUp_loader (id : Nat) : (s.giveUp id).loader = s.loader := by
  simp only [State.giveUp]
  repeat' split
  all_goals simp

/-! ## giveUpAll -/

@[simp] theorem State.giveUpAll_pack (ids : List Nat) : (s.giveUpAll ids).pack = s.pack := by
  simp only [State.giveUpAll]
  exact forEach_same (·.pack) _ (fun _ _ => by simp) _ _
@[simp] theorem State.giveUpAll_streams (ids : List Nat) : (s.giveUpAll ids).streams = s.streams := by
  simp only [State.giveUpAll]
  exact forEach_same (·.streams) _ (fun _ _ => by simp) _ _
@[simp] theorem State.giveUpAll_chans (ids : List Nat) : (s.giveUpAll ids).chans = s.chans := by
  simp only [State.giveUpAll]
  exact forEach_same (·.chans) _ (fun _ _ => by simp) _ _
@[simp] theorem State.giveUpAll_restore (ids : List Nat) : (s.giveUpAll ids).restore = s.restore := by
  simp only [State.giveUpAll]
  exact forEach_same (·.restore) _ (fun _ _ => by simp) _ _
@[simp] theorem State.giveUpAll_loader (ids : List Nat) : (s.giveUpAll ids).loader = s.loader := by
  simp only [State.giveUpAll]
  exact forEach_same (·.loader) _ (fun _ _ => by simp) _ _

/-! ## returnReservation -/

@[simp] theorem State.returnReservation_pack : (s.returnReservation).pack = s.pack := by
  simp [State.returnReservation]
@[simp] theorem State.returnReservation_streams : (s.returnReservation).streams = s.streams := by
  simp [State.returnReservation]
@[simp] theorem State.returnReservation_chans : (s.returnReservation).chans = s.chans := by
  simp [State.returnReservation]
@[simp] theorem State.returnReservation_restore : (s.returnReservation).restore = s.restore := by
  simp [State.returnReservation]
@[simp] theorem State.returnReservation_loader : (s.returnReservation).loader = s.loader := by
  simp [State.returnReservation]

/-! ## waitTest -/

@[simp] theorem State.waitTest_path : (s.waitTest).path = s.path := by
  simp only [State.waitTest]
  repeat' split
  all_goals simp
@[simp] theorem State.waitTest_ring : (s.waitTest).ring = s.ring := by
  simp only [State.waitTest]
  repeat' split
  all_goals simp
@[simp] theorem State.waitTest_streams : (s.waitTest).streams = s.streams := by
  simp only [State.waitTest]
  repeat' split
  all_goals simp
@[simp] theorem State.waitTest_chans : (s.waitTest).chans = s.chans := by
  simp only [State.waitTest]
  repeat' split
  all_goals simp
@[simp] theorem State.waitTest_restore : (s.waitTest).restore = s.restore := by
  simp only [State.waitTest]
  repeat' split
  all_goals simp
@[simp] theorem State.waitTest_loader : (s.waitTest).loader = s.loader := by
  simp only [State.waitTest]
  repeat' split
  all_goals simp

/-! ## packChoose -/

@[simp] theorem State.packChoose_path : (s.packChoose).path = s.path := by
  simp only [State.packChoose]
  repeat' split
  all_goals simp
@[simp] theorem State.packChoose_ring : (s.packChoose).ring = s.ring := by
  simp only [State.packChoose]
  repeat' split
  all_goals simp
@[simp] theorem State.packChoose_streams : (s.packChoose).streams = s.streams := by
  simp only [State.packChoose]
  repeat' split
  all_goals simp
@[simp] theorem State.packChoose_chans : (s.packChoose).chans = s.chans := by
  simp only [State.packChoose]
  repeat' split
  all_goals simp
@[simp] theorem State.packChoose_restore : (s.packChoose).restore = s.restore := by
  simp only [State.packChoose]
  repeat' split
  all_goals simp
@[simp] theorem State.packChoose_loader : (s.packChoose).loader = s.loader := by
  simp only [State.packChoose]
  repeat' split
  all_goals simp

/-! ## suspendTest -/

@[simp] theorem State.suspendTest_pool (t : Tag) : (s.suspendTest t).pool = s.pool := by
  simp only [State.suspendTest]
  split <;> simp
@[simp] theorem State.suspendTest_pack (t : Tag) : (s.suspendTest t).pack = s.pack := by
  simp only [State.suspendTest]
  split <;> simp
@[simp] theorem State.suspendTest_chans (t : Tag) : (s.suspendTest t).chans = s.chans := by
  simp only [State.suspendTest]
  split <;> simp
@[simp] theorem State.suspendTest_restore (t : Tag) : (s.suspendTest t).restore = s.restore := by
  simp only [State.suspendTest]
  split <;> simp
@[simp] theorem State.suspendTest_loader (t : Tag) : (s.suspendTest t).loader = s.loader := by
  simp only [State.suspendTest]
  split <;> simp

/-! ## causesChanged -/

@[simp] theorem State.causesChanged_pool (t : Tag) : (s.causesChanged t).pool = s.pool := by
  simp only [State.causesChanged]
  repeat' split
  all_goals simp
@[simp] theorem State.causesChanged_pack (t : Tag) : (s.causesChanged t).pack = s.pack := by
  simp only [State.causesChanged]
  repeat' split
  all_goals simp
@[simp] theorem State.causesChanged_chans (t : Tag) : (s.causesChanged t).chans = s.chans := by
  simp only [State.causesChanged]
  repeat' split
  all_goals simp
@[simp] theorem State.causesChanged_restore (t : Tag) : (s.causesChanged t).restore = s.restore := by
  simp only [State.causesChanged]
  repeat' split
  all_goals simp
@[simp] theorem State.causesChanged_loader (t : Tag) : (s.causesChanged t).loader = s.loader := by
  simp only [State.causesChanged]
  repeat' split
  all_goals simp

/-! ## setPreempt -/

@[simp] theorem State.setPreempt_pool (on : Bool) (t : Tag) : (s.setPreempt on t).pool = s.pool := by
  simp only [State.setPreempt]
  split <;> simp
@[simp] theorem State.setPreempt_pack (on : Bool) (t : Tag) : (s.setPreempt on t).pack = s.pack := by
  simp only [State.setPreempt]
  split <;> simp
@[simp] theorem State.setPreempt_chans (on : Bool) (t : Tag) : (s.setPreempt on t).chans = s.chans := by
  simp only [State.setPreempt]
  split <;> simp
@[simp] theorem State.setPreempt_restore (on : Bool) (t : Tag) : (s.setPreempt on t).restore = s.restore := by
  simp only [State.setPreempt]
  split <;> simp
@[simp] theorem State.setPreempt_loader (on : Bool) (t : Tag) : (s.setPreempt on t).loader = s.loader := by
  simp only [State.setPreempt]
  split <;> simp

/-! ## endTest -/

@[simp] theorem State.endTest_pool (r : ChunkRec) : (s.endTest r).pool = s.pool := by
  simp only [State.endTest]
  repeat' split
  all_goals simp
@[simp] theorem State.endTest_pack (r : ChunkRec) : (s.endTest r).pack = s.pack := by
  simp only [State.endTest]
  repeat' split
  all_goals simp
@[simp] theorem State.endTest_chans (r : ChunkRec) : (s.endTest r).chans = s.chans := by
  simp only [State.endTest]
  repeat' split
  all_goals simp
@[simp] theorem State.endTest_restore (r : ChunkRec) : (s.endTest r).restore = s.restore := by
  simp only [State.endTest]
  repeat' split
  all_goals simp
@[simp] theorem State.endTest_loader (r : ChunkRec) : (s.endTest r).loader = s.loader := by
  simp only [State.endTest]
  repeat' split
  all_goals simp

/-! ## dropQueued -/

@[simp] theorem State.dropQueued_pack (t : Tag) (d : Drive) : (s.dropQueued t d).pack = s.pack := by
  simp [State.dropQueued]
@[simp] theorem State.dropQueued_streams (t : Tag) (d : Drive) : (s.dropQueued t d).streams = s.streams := by
  simp [State.dropQueued]
@[simp] theorem State.dropQueued_restore (t : Tag) (d : Drive) : (s.dropQueued t d).restore = s.restore := by
  simp [State.dropQueued]
@[simp] theorem State.dropQueued_loader (t : Tag) (d : Drive) : (s.dropQueued t d).loader = s.loader := by
  simp [State.dropQueued]

/-! ## purge -/

@[simp] theorem State.purge_path (ids : List Nat) : (s.purge ids).path = s.path := rfl
@[simp] theorem State.purge_ring (ids : List Nat) : (s.purge ids).ring = s.ring := rfl
@[simp] theorem State.purge_pool (ids : List Nat) : (s.purge ids).pool = s.pool := rfl
@[simp] theorem State.purge_pack (ids : List Nat) : (s.purge ids).pack = s.pack := rfl
@[simp] theorem State.purge_streams (ids : List Nat) : (s.purge ids).streams = s.streams := rfl
@[simp] theorem State.purge_restore (ids : List Nat) : (s.purge ids).restore = s.restore := rfl
@[simp] theorem State.purge_loader (ids : List Nat) : (s.purge ids).loader = s.loader := rfl

/-! ## dropOwner -/

@[simp] theorem State.dropOwner_path (q : Requester) : (s.dropOwner q).path = s.path := rfl
@[simp] theorem State.dropOwner_ring (q : Requester) : (s.dropOwner q).ring = s.ring := rfl
@[simp] theorem State.dropOwner_pool (q : Requester) : (s.dropOwner q).pool = s.pool := rfl
@[simp] theorem State.dropOwner_pack (q : Requester) : (s.dropOwner q).pack = s.pack := rfl
@[simp] theorem State.dropOwner_streams (q : Requester) : (s.dropOwner q).streams = s.streams := rfl
@[simp] theorem State.dropOwner_restore (q : Requester) : (s.dropOwner q).restore = s.restore := rfl
@[simp] theorem State.dropOwner_loader (q : Requester) : (s.dropOwner q).loader = s.loader := rfl

/-! ## freeWhere -/

@[simp] theorem State.freeWhere_pack (sel : ChunkRec → Bool) : (s.freeWhere sel).pack = s.pack := by
  simp only [State.freeWhere]
  exact forEach_same (·.pack) _ (fun _ _ => by simp) _ _
@[simp] theorem State.freeWhere_streams (sel : ChunkRec → Bool) : (s.freeWhere sel).streams = s.streams := by
  simp only [State.freeWhere]
  exact forEach_same (·.streams) _ (fun _ _ => by simp) _ _
@[simp] theorem State.freeWhere_restore (sel : ChunkRec → Bool) : (s.freeWhere sel).restore = s.restore := by
  simp only [State.freeWhere]
  exact forEach_same (·.restore) _ (fun _ _ => by simp) _ _
@[simp] theorem State.freeWhere_loader (sel : ChunkRec → Bool) : (s.freeWhere sel).loader = s.loader := by
  simp only [State.freeWhere]
  exact forEach_same (·.loader) _ (fun _ _ => by simp) _ _

/-! ## discardDecode -/

@[simp] theorem State.discardDecode_path (q : Requester) : (s.discardDecode q).path = s.path := rfl
@[simp] theorem State.discardDecode_ring (q : Requester) : (s.discardDecode q).ring = s.ring := rfl
@[simp] theorem State.discardDecode_pool (q : Requester) : (s.discardDecode q).pool = s.pool := rfl
@[simp] theorem State.discardDecode_pack (q : Requester) : (s.discardDecode q).pack = s.pack := rfl
@[simp] theorem State.discardDecode_streams (q : Requester) : (s.discardDecode q).streams = s.streams := rfl
@[simp] theorem State.discardDecode_chans (q : Requester) : (s.discardDecode q).chans = s.chans := rfl
@[simp] theorem State.discardDecode_loader (q : Requester) : (s.discardDecode q).loader = s.loader := rfl

/-! ## endSession -/

@[simp] theorem State.endSession_pack (i : SessionId) (e : SessionEnd) : (s.endSession i e).pack = s.pack := by
  simp only [State.endSession]
  split <;> simp
@[simp] theorem State.endSession_streams (i : SessionId) (e : SessionEnd) : (s.endSession i e).streams = s.streams := by
  simp only [State.endSession]
  split <;> simp
@[simp] theorem State.endSession_loader (i : SessionId) (e : SessionEnd) : (s.endSession i e).loader = s.loader := by
  simp only [State.endSession]
  split <;> simp

/-! ## awaitNext -/

@[simp] theorem State.awaitNext_pack (i : SessionId) : (s.awaitNext i).pack = s.pack := by
  simp [State.awaitNext]
@[simp] theorem State.awaitNext_streams (i : SessionId) : (s.awaitNext i).streams = s.streams := by
  simp [State.awaitNext]
@[simp] theorem State.awaitNext_loader (i : SessionId) : (s.awaitNext i).loader = s.loader := by
  simp [State.awaitNext]

/-! ## failAttached -/

@[simp] theorem State.failAttached_pack (d : Drive) (c : Cause) : (s.failAttached d c).pack = s.pack := by
  simp only [State.failAttached]
  exact forEach_same (·.pack) _ (fun _ _ => by split <;> simp) _ _
@[simp] theorem State.failAttached_streams (d : Drive) (c : Cause) : (s.failAttached d c).streams = s.streams := by
  simp only [State.failAttached]
  exact forEach_same (·.streams) _ (fun _ _ => by split <;> simp) _ _
@[simp] theorem State.failAttached_loader (d : Drive) (c : Cause) : (s.failAttached d c).loader = s.loader := by
  simp only [State.failAttached]
  exact forEach_same (·.loader) _ (fun _ _ => by split <;> simp) _ _

/-! ## awaitAttached -/

@[simp] theorem State.awaitAttached_pack (d : Drive) (st : SessionState) : (s.awaitAttached d st).pack = s.pack := by
  simp only [State.awaitAttached]
  exact forEach_same (·.pack) _ (fun _ _ => by split <;> simp) _ _
@[simp] theorem State.awaitAttached_streams (d : Drive) (st : SessionState) : (s.awaitAttached d st).streams = s.streams := by
  simp only [State.awaitAttached]
  exact forEach_same (·.streams) _ (fun _ _ => by split <;> simp) _ _
@[simp] theorem State.awaitAttached_loader (d : Drive) (st : SessionState) : (s.awaitAttached d st).loader = s.loader := by
  simp only [State.awaitAttached]
  exact forEach_same (·.loader) _ (fun _ _ => by split <;> simp) _ _

/-! ## discardRec -/

@[simp] theorem State.discardRec_pack (id : Nat) : (s.discardRec id).pack = s.pack := by
  simp only [State.discardRec]
  repeat' split
  all_goals simp
@[simp] theorem State.discardRec_streams (id : Nat) : (s.discardRec id).streams = s.streams := by
  simp only [State.discardRec]
  repeat' split
  all_goals simp
@[simp] theorem State.discardRec_chans (id : Nat) : (s.discardRec id).chans = s.chans := by
  simp only [State.discardRec]
  repeat' split
  all_goals simp
@[simp] theorem State.discardRec_restore (id : Nat) : (s.discardRec id).restore = s.restore := by
  simp only [State.discardRec]
  repeat' split
  all_goals simp
@[simp] theorem State.discardRec_loader (id : Nat) : (s.discardRec id).loader = s.loader := by
  simp only [State.discardRec]
  repeat' split
  all_goals simp

/-! ## discardBlock -/

@[simp] theorem State.discardBlock_pack (d : Drive) : (s.discardBlock d).pack = s.pack := by
  simp only [State.discardBlock]
  exact forEach_same (·.pack) _ (fun _ _ => by simp) _ _
@[simp] theorem State.discardBlock_streams (d : Drive) : (s.discardBlock d).streams = s.streams := by
  simp only [State.discardBlock]
  exact forEach_same (·.streams) _ (fun _ _ => by simp) _ _
@[simp] theorem State.discardBlock_restore (d : Drive) : (s.discardBlock d).restore = s.restore := by
  simp only [State.discardBlock]
  exact forEach_same (·.restore) _ (fun _ _ => by simp) _ _
@[simp] theorem State.discardBlock_loader (d : Drive) : (s.discardBlock d).loader = s.loader := by
  simp only [State.discardBlock]
  exact forEach_same (·.loader) _ (fun _ _ => by simp) _ _

/-! ## askClose -/

@[simp] theorem State.askClose_ring (d : Drive) (r : CloseReason) : (s.askClose d r).ring = s.ring := by
  simp only [State.askClose]
  repeat' split
  all_goals simp
@[simp] theorem State.askClose_pool (d : Drive) (r : CloseReason) : (s.askClose d r).pool = s.pool := by
  simp only [State.askClose]
  repeat' split
  all_goals simp
@[simp] theorem State.askClose_pack (d : Drive) (r : CloseReason) : (s.askClose d r).pack = s.pack := by
  simp only [State.askClose]
  repeat' split
  all_goals simp
@[simp] theorem State.askClose_streams (d : Drive) (r : CloseReason) : (s.askClose d r).streams = s.streams := by
  simp only [State.askClose]
  repeat' split
  all_goals simp
@[simp] theorem State.askClose_restore (d : Drive) (r : CloseReason) : (s.askClose d r).restore = s.restore := by
  simp only [State.askClose]
  repeat' split
  all_goals simp
@[simp] theorem State.askClose_loader (d : Drive) (r : CloseReason) : (s.askClose d r).loader = s.loader := by
  simp only [State.askClose]
  repeat' split
  all_goals simp

/-! ## forceRestart -/

@[simp] theorem State.forceRestart_path (d : Drive) : (s.forceRestart d).path = s.path := by
  simp only [State.forceRestart]
  split <;> simp
@[simp] theorem State.forceRestart_ring (d : Drive) : (s.forceRestart d).ring = s.ring := by
  simp only [State.forceRestart]
  split <;> simp
@[simp] theorem State.forceRestart_pool (d : Drive) : (s.forceRestart d).pool = s.pool := by
  simp only [State.forceRestart]
  split <;> simp
@[simp] theorem State.forceRestart_pack (d : Drive) : (s.forceRestart d).pack = s.pack := by
  simp only [State.forceRestart]
  split <;> simp
@[simp] theorem State.forceRestart_streams (d : Drive) : (s.forceRestart d).streams = s.streams := by
  simp only [State.forceRestart]
  split <;> simp
@[simp] theorem State.forceRestart_restore (d : Drive) : (s.forceRestart d).restore = s.restore := by
  simp only [State.forceRestart]
  split <;> simp
@[simp] theorem State.forceRestart_loader (d : Drive) : (s.forceRestart d).loader = s.loader := by
  simp only [State.forceRestart]
  split <;> simp

/-! ## enter -/

@[simp] theorem State.enter_pool (d : Drive) (st : ChanState) : (s.enter d st).pool = s.pool := by
  simp only [State.enter]
  split <;> simp
@[simp] theorem State.enter_pack (d : Drive) (st : ChanState) : (s.enter d st).pack = s.pack := by
  simp only [State.enter]
  split <;> simp
@[simp] theorem State.enter_streams (d : Drive) (st : ChanState) : (s.enter d st).streams = s.streams := by
  simp only [State.enter]
  split <;> simp
@[simp] theorem State.enter_restore (d : Drive) (st : ChanState) : (s.enter d st).restore = s.restore := by
  simp only [State.enter]
  split <;> simp
@[simp] theorem State.enter_loader (d : Drive) (st : ChanState) : (s.enter d st).loader = s.loader := by
  simp only [State.enter]
  split <;> simp

/-! ## doorEvent -/

@[simp] theorem State.doorEvent_pool (code : Nat) : (s.doorEvent code).pool = s.pool := by
  simp [State.doorEvent]
@[simp] theorem State.doorEvent_pack (code : Nat) : (s.doorEvent code).pack = s.pack := by
  simp [State.doorEvent]
@[simp] theorem State.doorEvent_streams (code : Nat) : (s.doorEvent code).streams = s.streams := by
  simp [State.doorEvent]
@[simp] theorem State.doorEvent_chans (code : Nat) : (s.doorEvent code).chans = s.chans := by
  simp [State.doorEvent]
@[simp] theorem State.doorEvent_restore (code : Nat) : (s.doorEvent code).restore = s.restore := by
  simp [State.doorEvent]
@[simp] theorem State.doorEvent_loader (code : Nat) : (s.doorEvent code).loader = s.loader := by
  simp [State.doorEvent]

/-! ## syncLock -/

@[simp] theorem State.syncLock_pool : (s.syncLock).pool = s.pool := by
  simp only [State.syncLock]
  split <;> simp
@[simp] theorem State.syncLock_pack : (s.syncLock).pack = s.pack := by
  simp only [State.syncLock]
  split <;> simp
@[simp] theorem State.syncLock_streams : (s.syncLock).streams = s.streams := by
  simp only [State.syncLock]
  split <;> simp
@[simp] theorem State.syncLock_chans : (s.syncLock).chans = s.chans := by
  simp only [State.syncLock]
  split <;> simp
@[simp] theorem State.syncLock_restore : (s.syncLock).restore = s.restore := by
  simp only [State.syncLock]
  split <;> simp

/-! ## setPicker -/

@[simp] theorem State.setPicker_pool (st : PickState) : (s.setPicker st).pool = s.pool := by
  simp [State.setPicker]
@[simp] theorem State.setPicker_pack (st : PickState) : (s.setPicker st).pack = s.pack := by
  simp [State.setPicker]
@[simp] theorem State.setPicker_streams (st : PickState) : (s.setPicker st).streams = s.streams := by
  simp [State.setPicker]
@[simp] theorem State.setPicker_chans (st : PickState) : (s.setPicker st).chans = s.chans := by
  simp [State.setPicker]
@[simp] theorem State.setPicker_restore (st : PickState) : (s.setPicker st).restore = s.restore := by
  simp [State.setPicker]

/-! ## The end of a request (R153) -/

@[simp] theorem State.moveEnd_loader (r : Req) (e : ReqEnd) : (s.moveEnd r e).loader = s.loader := by
  simp only [State.moveEnd]
  split <;> simp

@[simp] theorem State.cleanEnd_loader (r : Req) (e : ReqEnd) : (s.cleanEnd r e).loader = s.loader := by
  simp only [State.cleanEnd]
  split <;> simp

@[simp] theorem State.endWaiting_loader (stamp : Nat) (e : ReqEnd) : (s.endWaiting stamp e).loader = s.loader := by
  refine forEach_same (·.loader) _ (fun i t => ?_) _ _
  split
  · cases e <;> simp
  · rfl

/-- The sessions that wait on a MOUNT stay as they are where it is DONE. -/
@[simp] theorem State.endWaiting_done (stamp : Nat) : s.endWaiting stamp .done = s :=
  forEach_same id _ (fun i t => by dsimp only [id]; split <;> rfl) _ _

/-- What the end of a request does to the loader before a preempt has its say: the records written change nothing of it. -/
theorem State.closeReq_loader (r : Req) (e : ReqEnd) :
    (s.closeReq r e).loader.queue = s.loader.queue.filter (·.stamp ≠ r.stamp)
    ∧ (s.closeReq r e).loader.preempt = s.loader.preempt
    ∧ (s.closeReq r e).loader.picker =
        (if s.picker.active = some r.stamp then { s.picker with active := none, cut := false } else s.picker)
    ∧ (s.closeReq r e).loader.nextStamp = s.loader.nextStamp ∧ (s.closeReq r e).loader.nextId = s.loader.nextId := by
  simp only [State.closeReq, State.endWaiting_loader, State.moveEnd_loader]
  split
  · simp only [State.cleanEnd_loader]; exact ⟨rfl, rfl, rfl, rfl, rfl⟩
  · simp only [State.emit_loader]; exact ⟨rfl, rfl, rfl, rfl, rfl⟩
  · exact ⟨rfl, rfl, rfl, rfl, rfl⟩

/-- A request that ends DONE has no effect on a preempt. -/
theorem State.endReq_done (r : Req) : s.endReq r .done = s.closeReq r .done := by
  simp only [State.endReq]
  split <;> simp

/-- Without a preempt in progress the end of a request is all that happens. -/
theorem State.endReq_of_no_preempt (r : Req) (e : ReqEnd) (h : s.loader.preempt = none) :
    s.endReq r e = s.closeReq r e := by
  simp only [State.endReq, (s.closeReq_loader r e).2.1, h]

end Sys2Proof.Machine
end

