-- ==== Sys2Proof/Laws/Memory.lean ====
section
/-! SUPPORT. Staging memory: every write keeps the canonical form, a byte written is read back, and every other byte reads
as before. -/

-- Proofs one after another: many at once take more memory than the check allows.
set_option Elab.async false

namespace Sys2Proof.Machine

/-! ## The canonical form -/

theorem wfFrom_mono {lo hi : Nat} (h : lo ≤ hi) : ∀ {m : Memory}, m.wfFrom hi = true → m.wfFrom lo = true
  | [], _ => rfl
  | (x, b) :: rest, w => by
    simp only [Memory.wfFrom, Bool.and_eq_true, decide_eq_true_eq] at w ⊢
    exact ⟨⟨by omega, w.1.2⟩, w.2⟩

/-- Cells below `hi`, from `lo` on, followed by cells from `hi` on. -/
theorem wfFrom_append {hi : Nat} {n : Memory} (hn : n.wfFrom hi = true) :
    ∀ {lo : Nat} {m : Memory}, lo ≤ hi → m.wfFrom lo = true → (∀ c ∈ m, c.1 < hi) → Memory.wfFrom lo (m ++ n) = true
  | lo, [], h, _, _ => wfFrom_mono h hn
  | lo, (x, b) :: rest, _, w, hb => by
    simp only [Memory.wfFrom, Bool.and_eq_true, decide_eq_true_eq, List.cons_append] at w ⊢
    have hx : x < hi := hb _ (List.mem_cons_self ..)
    exact ⟨w.1, wfFrom_append hn (by omega) w.2 fun c hc => hb c (List.mem_cons_of_mem _ hc)⟩

theorem wfFrom_filter (p : Host.Cell → Bool) : ∀ {lo : Nat} {m : Memory}, m.wfFrom lo = true →
    Memory.wfFrom lo (m.filter p) = true
  | _, [], _ => rfl
  | lo, (x, b) :: rest, w => by
    simp only [Memory.wfFrom, Bool.and_eq_true, decide_eq_true_eq] at w
    have ih := wfFrom_filter p w.2
    by_cases hp : p (x, b)
    · simp only [List.filter_cons_of_pos hp, Memory.wfFrom, Bool.and_eq_true, decide_eq_true_eq]
      exact ⟨w.1, ih⟩
    · rw [List.filter_cons_of_neg hp]
      exact wfFrom_mono (by omega) ih

theorem wfFrom_filter_ge {k : Nat} : ∀ {lo : Nat} {m : Memory}, m.wfFrom lo = true →
    Memory.wfFrom k (m.filter fun c => k ≤ c.1) = true
  | _, [], _ => rfl
  | lo, (x, b) :: rest, w => by
    simp only [Memory.wfFrom, Bool.and_eq_true, decide_eq_true_eq] at w
    by_cases hp : k ≤ x
    · rw [List.filter_cons_of_pos (by simpa using hp)]
      simp only [Memory.wfFrom, Bool.and_eq_true, decide_eq_true_eq]
      exact ⟨⟨hp, w.1.2⟩, wfFrom_filter _ w.2⟩
    · rw [List.filter_cons_of_neg (by simpa using hp)]
      exact wfFrom_filter_ge w.2

theorem cellsOf_wf : ∀ (bs : List Byte) (a : Nat), Memory.wfFrom a (cellsOf a bs) = true
  | [], _ => rfl
  | b :: bs, a => by
    have ih := cellsOf_wf bs (a + 1)
    by_cases h : b = Config.unwritten
    · simp only [cellsOf, h, if_true]
      exact wfFrom_mono (by omega) ih
    · simp only [cellsOf, h, if_false, Memory.wfFrom, Bool.and_eq_true, decide_eq_true_eq, bne_iff_ne, ne_eq]
      exact ⟨⟨Nat.le_refl a, not_false⟩, ih⟩

theorem cellsOf_lt : ∀ (bs : List Byte) (a : Nat), ∀ c ∈ cellsOf a bs, c.1 < a + bs.length
  | [], _, c, h => by simp [cellsOf] at h
  | b :: bs, a, c, h => by
    have ih := cellsOf_lt bs (a + 1)
    simp only [cellsOf] at h
    split at h
    · have := ih c h; simp only [List.length_cons]; omega
    · rcases List.mem_cons.1 h with rfl | h
      · simp
      · have := ih c h; simp only [List.length_cons]; omega

/-- A write keeps the canonical form. -/
theorem Memory.put_wf {m : Memory} (h : m.wf = true) (a : Nat) (bs : List Byte) : (m.put a bs).wf = true := by
  have h3 : Memory.wfFrom (a + bs.length) (m.filter fun c => a + bs.length ≤ c.1) = true := wfFrom_filter_ge h
  have h2 : Memory.wfFrom a (cellsOf a bs ++ m.filter fun c => a + bs.length ≤ c.1) = true :=
    wfFrom_append h3 (by omega) (cellsOf_wf bs a) (cellsOf_lt bs a)
  refine wfFrom_append h2 (Nat.zero_le _) (wfFrom_filter _ h) fun c hc => ?_
  simpa using (List.mem_filter.1 hc).2

/-! ## Reading a byte -/

theorem get_append_left {n : Memory} {x : Nat} : ∀ {m : Memory}, (∀ c ∈ n, c.1 ≠ x) → Memory.get (m ++ n) x = m.get x
  | [], h => by
    induction n with
    | nil => rfl
    | cons c n ih =>
      obtain ⟨y, b⟩ := c
      have hy : y ≠ x := h (y, b) (List.mem_cons_self ..)
      simpa [Memory.get, hy] using ih fun c hc => h c (List.mem_cons_of_mem _ hc)
  | (y, b) :: m, h => by
    simp only [List.cons_append, Memory.get]
    split
    · rfl
    · exact get_append_left h

theorem get_append_right {n : Memory} {x : Nat} : ∀ {m : Memory}, (∀ c ∈ m, c.1 ≠ x) → Memory.get (m ++ n) x = n.get x
  | [], _ => rfl
  | (y, b) :: m, h => by
    have hy : y ≠ x := h (y, b) (List.mem_cons_self ..)
    simpa [Memory.get, hy] using get_append_right fun c hc => h c (List.mem_cons_of_mem _ hc)

theorem get_filter {p : Host.Cell → Bool} {x : Nat} (hp : ∀ b, p (x, b) = true) :
    ∀ m : Memory, Memory.get (m.filter p) x = m.get x
  | [] => rfl
  | (y, b) :: m => by
    by_cases hy : y = x
    · subst hy
      rw [List.filter_cons_of_pos (hp b)]
      simp [Memory.get]
    · by_cases hq : p (y, b)
      · rw [List.filter_cons_of_pos hq]
        simpa [Memory.get, hy] using get_filter hp m
      · rw [List.filter_cons_of_neg hq]
        simpa [Memory.get, hy] using get_filter hp m

theorem cellsOf_ge : ∀ (bs : List Byte) (a : Nat), ∀ c ∈ cellsOf a bs, a ≤ c.1
  | [], _, c, h => by simp [cellsOf] at h
  | b :: bs, a, c, h => by
    have ih := cellsOf_ge bs (a + 1)
    simp only [cellsOf] at h
    split at h
    · have := ih c h; omega
    · rcases List.mem_cons.1 h with rfl | h
      · exact Nat.le_refl _
      · have := ih c h; omega

theorem get_cellsOf : ∀ (bs : List Byte) (a x : Nat), a ≤ x → x < a + bs.length →
    Memory.get (cellsOf a bs) x = bs.getD (x - a) 0
  | [], a, x, h1, h2 => by simp at h2; omega
  | b :: bs, a, x, h1, h2 => by
    simp only [List.length_cons] at h2
    by_cases hx : x = a
    · subst hx
      simp only [cellsOf, Nat.sub_self, List.getD_cons_zero]
      split
      · next hb =>
        rw [hb]
        have : Memory.get (cellsOf (x + 1) bs ++ []) x = Memory.get [] x :=
          get_append_right fun c hc => by have := cellsOf_ge bs (x + 1) c hc; omega
        simpa [Memory.get] using this
      · simp [Memory.get]
    · have e : x - a = (x - (a + 1)) + 1 := by omega
      rw [e, List.getD_cons_succ, ← get_cellsOf bs (a + 1) x (by omega) (by omega)]
      simp only [cellsOf]
      split
      · rfl
      · simp only [Memory.get, if_neg (Ne.symm hx)]

/-- A byte that a write covers is read back. -/
theorem Memory.get_put_inside (m : Memory) (a : Nat) (bs : List Byte) (x : Nat) (h1 : a ≤ x) (h2 : x < a + bs.length) :
    (m.put a bs).get x = bs.getD (x - a) 0 := by
  unfold Memory.put
  rw [get_append_right, get_append_left, get_cellsOf bs a x h1 h2]
  · intro c hc; have := (List.mem_filter.1 hc).2; simp at this; omega
  · intro c hc; have := (List.mem_filter.1 hc).2; simp at this; omega

/-- A byte that a write does not cover reads as before. -/
theorem Memory.get_put_outside (m : Memory) (a : Nat) (bs : List Byte) (x : Nat) (h : x < a ∨ a + bs.length ≤ x) :
    (m.put a bs).get x = m.get x := by
  unfold Memory.put
  rcases h with h | h
  · rw [get_append_left, get_filter fun b => by simpa using h]
    intro c hc
    rcases List.mem_append.1 hc with hc | hc
    · have := cellsOf_ge bs a c hc; omega
    · have := (List.mem_filter.1 hc).2; simp at this; omega
  · rw [get_append_right, get_append_right, get_filter fun b => by simpa using h]
    · intro c hc; have := cellsOf_lt bs a c hc; omega
    · intro c hc; have := (List.mem_filter.1 hc).2; simp at this; omega

/-! ## Reading bytes -/

theorem get_dropWhile {a x : Nat} (h : a ≤ x) : ∀ m : Memory, Memory.get (m.dropWhile fun c => c.1 < a) x = m.get x
  | [] => rfl
  | (y, b) :: m => by
    by_cases hy : y < a
    · have hne : y ≠ x := by omega
      simpa [List.dropWhile, hy, Memory.get, hne] using get_dropWhile h m
    · simp [List.dropWhile, hy]

theorem get_of_lt_wf {x lo : Nat} : ∀ {m : Memory}, m.wfFrom lo = true → x < lo → m.get x = Config.unwritten
  | [], _, _ => rfl
  | (y, b) :: m, w, h => by
    simp only [Memory.wfFrom, Bool.and_eq_true, decide_eq_true_eq] at w
    have hne : y ≠ x := by omega
    simpa [Memory.get, hne] using get_of_lt_wf w.2 (by omega)

theorem wfFrom_dropWhile {a : Nat} : ∀ {lo : Nat} {m : Memory}, m.wfFrom lo = true →
    Memory.wfFrom a (m.dropWhile fun c => c.1 < a) = true
  | _, [], _ => rfl
  | lo, (y, b) :: m, w => by
    simp only [Memory.wfFrom, Bool.and_eq_true, decide_eq_true_eq] at w
    by_cases hy : y < a
    · simpa [List.dropWhile, hy] using wfFrom_dropWhile (a := a) w.2
    · simp only [List.dropWhile, hy, decide_false, Memory.wfFrom, Bool.and_eq_true, decide_eq_true_eq]
      exact ⟨⟨by omega, w.1.2⟩, w.2⟩

/-- Reading bytes of a canonical memory reads each byte. -/
theorem Memory.read_eq : ∀ (n a lo : Nat) (m : Memory), m.wfFrom lo = true →
    m.read a n = (List.range n).map fun i => m.get (a + i)
  | 0, _, _, _, _ => rfl
  | n + 1, a, lo, m, w => by
    have wd := wfFrom_dropWhile (a := a) w
    have key (k : Nat) (h : a ≤ k) : m.get k = Memory.get (m.dropWhile fun c => c.1 < a) k := (get_dropWhile h m).symm
    rw [List.range_succ_eq_map, List.map_cons, List.map_map]
    unfold Memory.read
    generalize hd : m.dropWhile (fun c => decide (c.1 < a)) = d at wd key
    match d, wd, key with
    | [], _, key =>
      rw [key (a + 0) (by omega)]
      have : (fun i => m.get (a + i)) ∘ Nat.succ = fun _ => Config.unwritten :=
        funext fun i => key (a + (i + 1)) (by omega)
      rw [this]
      simp [Memory.get, List.replicate_succ]
    | (y, b) :: rest, wd, key =>
      simp only [Memory.wfFrom, Bool.and_eq_true, decide_eq_true_eq] at wd
      by_cases hy : y = a
      · subst hy
        simp only [if_true]
        rw [key (y + 0) (by omega), Memory.read_eq n (y + 1) (y + 1) rest wd.2]
        refine congrArg₂ List.cons (by simp [Memory.get]) (List.map_congr_left fun i _ => ?_)
        have hne : y ≠ y + (i + 1) := by omega
        simp only [Function.comp_apply]
        rw [key (y + (i + 1)) (by omega)]
        simp [Memory.get, Nat.add_comm, Nat.add_left_comm]
      · have w' : Memory.wfFrom (a + 1) ((y, b) :: rest) = true := by
          simp only [Memory.wfFrom, Bool.and_eq_true, decide_eq_true_eq]
          exact ⟨⟨by omega, wd.1.2⟩, wd.2⟩
        simp only [if_neg hy]
        rw [key (a + 0) (by omega), Memory.read_eq n (a + 1) (a + 1) _ w']
        refine congrArg₂ List.cons ?_ (List.map_congr_left fun i _ => ?_)
        · exact (get_of_lt_wf w' (by omega)).symm
        · simp only [Function.comp_apply]
          rw [key (a + Nat.succ i) (by omega)]
          congr 1
          omega

/-- The bytes just written are read back. -/
theorem Memory.read_put {m : Memory} (w : m.wf = true) (a : Nat) (bs : List Byte) :
    (m.put a bs).read a bs.length = bs := by
  rw [Memory.read_eq bs.length a 0 _ (Memory.put_wf w a bs)]
  apply List.ext_getElem (by simp)
  intro i h1 h2
  rw [List.getElem_map, List.getElem_range, Memory.get_put_inside m a bs (a + i) (by omega) (by omega)]
  simp [h2]

end Sys2Proof.Machine
end

