-- ==== Sys2Proof/Laws/Ops.lean ====
section
/-! SUPPORT. What the shared operations do: byte orders, counters, memory, the memory port, status records, the intake,
chunk records, channel states and the passage of time. -/

-- Proofs one after another: many at once take more memory than the check allows.
set_option Elab.async false

namespace Sys2Proof.Machine

variable (s : State)

/-! ## Bytes and counters -/

@[simp] theorem leBytes_length : ∀ n v, (leBytes n v).length = n
  | 0, _ => rfl
  | n + 1, v => by simp [leBytes, leBytes_length n]

@[simp] theorem beBytes_length (n v : Nat) : (beBytes n v).length = n := by simp [beBytes]

theorem ofLE_leBytes : ∀ n v, ofLE (leBytes n v) = v % 256 ^ n
  | 0, v => by simp [leBytes, ofLE, Nat.mod_one]
  | n + 1, v => by
    have h := ofLE_leBytes n (v / 256)
    simp only [leBytes, ofLE, h, BitVec.toNat_ofNat]
    rw [show (256 : Nat) ^ (n + 1) = 256 * 256 ^ n from Nat.pow_succ', Nat.mod_mul]

theorem ofBE_beBytes (n v : Nat) : ofBE (beBytes n v) = v % 256 ^ n := by
  simp [ofBE, beBytes, ofLE_leBytes]

@[simp] theorem padTo_length (n : Nat) (bs : List Byte) : (padTo n bs).length = max n bs.length := by
  simp only [padTo, List.length_append, List.length_replicate]; omega

@[simp] theorem Record.frame_length (r : Record) : r.frame.length = 32 := by simp [Record.frame]

@[simp] theorem counter_add_zero (c : Counter) : c.add 0 = c := by
  have h := c.isLt
  apply BitVec.eq_of_toNat_eq
  simp only [Counter.add, Nat.add_zero, BitVec.toNat_ofNat]
  omega

theorem counter_add_toNat (c : Counter) (n : Nat) : (c.add n).toNat = min (c.toNat + n) 4294967295 := by
  simp only [Counter.add, BitVec.toNat_ofNat]
  omega

/-! ## Staging memory -/

/-- A byte string written is read back. -/
theorem State.poke_get_inside (a : Nat) (bs : List Byte) (k : Nat) (h : k < bs.length) :
    (s.poke a bs).mem.get (a + k) = bs.getD k 0 := by
  have := Memory.get_put_inside s.mem a bs (a + k) (by omega) (by omega)
  simpa [State.poke] using this

/-- A write leaves every other byte as it was. -/
theorem State.poke_get_outside (a : Nat) (bs : List Byte) (x : Nat) (h : x < a ∨ a + bs.length ≤ x) :
    (s.poke a bs).mem.get x = s.mem.get x := Memory.get_put_outside s.mem a bs x h

theorem State.poke_sound (a : Nat) (bs : List Byte) (h : s.memorySound) : (s.poke a bs).memorySound :=
  Memory.put_wf h a bs

/-! ## The memory port -/

/-- While memory owes an answer, no access is issued. -/
@[simp] theorem Port.issue_of_issued (p : Port) (x : Issued) (h : p.issued = some x) : p.issue = p := by
  simp [Port.issue, h]

/-- With nothing waiting, nothing is issued. -/
theorem Port.issue_of_empty (p : Port) (hf : p.fwdWait = []) (ho : p.ownWait = []) : p.issue = p := by
  cases h : p.issued <;> simp [Port.issue, h, hf, ho]

/-- An access that joins while memory owes an answer waits at the back of its queue. -/
theorem Port.joinOwned_of_issued (p : Port) (o : Owned) (x : Issued) (h : p.issued = some x) :
    p.joinOwned o = { p with ownWait := p.ownWait ++ [o] } :=
  Port.issue_of_issued { p with ownWait := p.ownWait ++ [o] } x h

theorem Port.joinForwarded_of_issued (p : Port) (f : Forwarded) (x : Issued) (h : p.issued = some x) :
    p.joinForwarded f = { p with fwdWait := p.fwdWait ++ [f] } :=
  Port.issue_of_issued { p with fwdWait := p.fwdWait ++ [f] } x h

/-- Where the access issued is wanted, no answer to a job's access comes before it. -/
theorem Port.upTo_of_wanted (want : Issued → Bool) (p : Port) (x : Issued) (h : p.issued = some x) (hw : want x = true) :
    p.upTo want = p := by
  simp [Port.upTo, Port.passJobs, h, hw]

/-- Where the access issued is neither wanted nor one of a job, memory's next answer is its own. -/
theorem Port.upTo_of_other (want : Issued → Bool) (p : Port) (h : p.jobIssued = none) : p.upTo want = p := by
  simp [Port.upTo, Port.passJobs, h]

/-- While memory answers a job's accesses, another access in the part-owned queue stays in it or is issued. -/
theorem Port.passJob_owned (p : Port) (o : Owned) (h : p.issued = some (.owned o) ∨ o ∈ p.ownWait) :
    p.passJob.issued = some (.owned o) ∨ o ∈ p.passJob.ownWait := by
  rcases p with ⟨fs, os, i, fav⟩
  rcases i with _ | f | o'
  · simpa [Port.passJob, Port.jobIssued] using h
  · simpa [Port.passJob, Port.jobIssued] using h
  · cases o' <;> simp_all [Port.passJob, Port.jobIssued]
    cases fs <;> cases os <;> cases fav <;> simp_all [Port.issue] <;> tauto

@[simp] theorem State.owes_of_issued (o : Owned) (h : s.path.port.issued = some (.owned o)) : s.owes o = true := by
  simp [State.owes, Port.upTo_of_wanted _ _ _ h, Issued.isOwned, h]

theorem State.answered_of_issued (o : Owned) (h : s.path.port.issued = some (.owned o)) :
    s.answered o = s.modPort Port.answered := by
  simp [State.answered, State.modPort, State.modPath, Port.upTo_of_wanted (Issued.isOwned o) _ _ h, Issued.isOwned]

/-! ## Status records -/

theorem State.emit_of_room (r : Record) (h : s.ring.room = true) : s.emit r = s.joinBuffer r := by
  simp [State.emit, h]

theorem State.emit_of_full (r : Record) (h : s.ring.room = false) :
    s.emit r = s.modRing fun g =>
      { g with d := bumpHalf g.d, counters := { g.counters with dropped := g.counters.dropped.add 1 } } := by
  simp [State.emit, h]

/-- A record joins the buffer at its back. -/
theorem State.joinBuffer_buffer (r : Record) :
    (s.joinBuffer r).ring.buffer = s.ring.buffer ++ [{ r with dropped := s.ring.d }] := by
  simp only [State.joinBuffer]
  split <;> rfl

/-- An event record changes nothing of the ring unit but the buffer, D and the records dropped counter. -/
theorem State.emit_ring (r : Record) :
    (s.emit r).ring.c = s.ring.c ∧ (s.emit r).ring.p = s.ring.p ∧ (s.emit r).ring.s = s.ring.s
      ∧ (s.emit r).ring.u = s.ring.u ∧ (s.emit r).ring.irq = s.ring.irq ∧ (s.emit r).ring.intake = s.ring.intake
      ∧ (s.emit r).ring.reserved = s.ring.reserved ∧ (s.emit r).ring.snapshot = s.ring.snapshot := by
  simp only [State.emit, State.joinBuffer]
  repeat' split
  all_goals exact ⟨rfl, rfl, rfl, rfl, rfl, rfl, rfl, rfl⟩

/-- The buffer only grows at its back. -/
theorem State.emit_buffer (r : Record) : ∃ l, (s.emit r).ring.buffer = s.ring.buffer ++ l := by
  by_cases h : s.ring.room = true
  · exact ⟨_, by rw [s.emit_of_room r h, s.joinBuffer_buffer]⟩
  · exact ⟨[], by rw [s.emit_of_full r (by simpa using h)]; simp⟩

/-- Of the path unit, a record changes only the memory port. -/
theorem State.emit_path (r : Record) : (s.emit r).path = { s.path with port := (s.emit r).path.port } := by
  simp only [State.emit, State.joinBuffer]
  repeat' split
  all_goals rfl

/-! ## The intake -/

theorem State.command_of_taken (c : Instr) (kind : Nat) (tag : Half) (owner : State → Effect) (h : s.takes c = true) :
    s.command c kind tag owner =
      (owner s.atOwner).state.endCommand kind tag (owner s.atOwner).outcome (owner s.atOwner).results 0 := by
  simp [State.command, h, State.atOwner]

theorem State.command_of_not_taken (c : Instr) (kind : Nat) (tag : Half) (owner : State → Effect) (h : s.takes c = false) :
    s.command c kind tag owner = s := by
  simp [State.command, h]

/-- A command that is taken is the one in progress, whose slot read memory answers. -/
theorem State.takes_reading (c : Instr) (h : s.takes c = true) :
    s.ring.intake = .reading ∧ s.owes (.slotRead s.ring.c) = true ∧ s.slotCommand = c := by
  simpa [State.takes, State.readsSlot, and_assoc] using h

/-- A command is taken where the slot of index C holds it and memory answers the read of that slot. -/
theorem State.takes_of_issued (c : Instr) (h : s.ring.intake = .reading)
    (hi : s.path.port.issued = some (.owned (.slotRead s.ring.c))) (hc : s.slotCommand = c) : s.takes c = true := by
  simp [State.takes, State.readsSlot, h, hc, s.owes_of_issued _ hi]

/-- What the intake's test can do. -/
theorem State.intakeTest_cases :
    ((s.ring.intake = .stopped ∨ s.ring.intake = .reading) ∧ s.intakeTest = s)
    ∨ ((s.ring.intake = .idle ∨ s.ring.intake = .blocked) ∧
        ((s.ring.p = s.ring.c ∧ s.intakeTest = s.modRing fun g => { g with intake := .idle })
        ∨ (s.ring.p ≠ s.ring.c ∧ s.ring.room = true ∧ s.intakeTest =
            (s.modRing fun g => { g with intake := .reading, reserved := true }).issue (.slotRead s.ring.c))
        ∨ (s.ring.p ≠ s.ring.c ∧ s.ring.room = false ∧ s.intakeTest = s.modRing fun g => { g with intake := .blocked }))) := by
  by_cases hp : s.ring.p = s.ring.c <;> cases hr : s.ring.room <;> cases hi : s.ring.intake <;>
    simp [State.intakeTest, hi, hp, hr]

theorem settled_refused (rule : State → Effect) (h : (rule s).outcome.refused = true) : settled rule s = rule s := by
  simp [settled, h]

theorem settled_taken (rule : State → Effect) (h : (rule s).outcome.refused = false) :
    settled rule s = { rule s with state := s.settle (rule s).state } := by
  simp [settled, h]

/-! ## Chunk records -/

theorem State.findRec_id {id : Nat} {r : ChunkRec} (h : s.findRec id = some r) : r.id = id := by
  simpa using List.find?_some h

theorem find_map_id (id : Nat) (f : ChunkRec → ChunkRec) (hf : ∀ r, (f r).id = r.id) (l : List ChunkRec) :
    (l.map fun r => if r.id = id then f r else r).find? (·.id == id) = (l.find? (·.id == id)).map f := by
  induction l with
  | nil => rfl
  | cons r l ih =>
    by_cases h : r.id = id
    · simp [h, hf]
    · simpa [h] using ih

/-- An update of a record that keeps its number is found at its number. -/
theorem State.findRec_modRec (id : Nat) (f : ChunkRec → ChunkRec) (hf : ∀ r, (f r).id = r.id) :
    (s.modRec id f).findRec id = (s.findRec id).map f := find_map_id id f hf s.pool.records

/-- A record that is freed is found no more. -/
theorem find_filter_self (id : Nat) (l : List ChunkRec) : (l.filter (·.id ≠ id)).find? (·.id == id) = none := by
  simp

theorem holdTest_records : s.holdTest.pool.records = s.pool.records ∧ s.holdTest.pool.free = s.pool.free
    ∧ s.holdTest.pool.reservation = s.pool.reservation := by
  simp only [State.holdTest, State.emit, State.joinBuffer]
  repeat' split
  all_goals exact ⟨rfl, rfl, rfl⟩

/-- A change of the free list leaves the records and the reservation, and gives the list it names. -/
theorem setFree_pool (free : List Nat) : (s.setFree free).pool.records = s.pool.records
    ∧ (s.setFree free).pool.free = free ∧ (s.setFree free).pool.reservation = s.pool.reservation :=
  holdTest_records (s.modPool fun p => { p with free := free, lowMark := min p.lowMark free.length })

/-- Pages that return stand at the tail of the free list. -/
theorem returnPages_pool (pages : List Nat) : (s.returnPages pages).pool.records = s.pool.records
    ∧ (s.returnPages pages).pool.free = s.pool.free ++ pages
    ∧ (s.returnPages pages).pool.reservation = s.pool.reservation := by
  cases pages with
  | nil => simp [State.returnPages]
  | cons k ks => exact setFree_pool s (s.pool.free ++ k :: ks)

/-- R28: a record that is freed leaves the table, and its pages stand at the tail of the free list. -/
theorem freeRec_pool {id : Nat} {r : ChunkRec} (h : s.findRec id = some r) :
    (s.freeRec id).pool.records = s.pool.records.filter (·.id ≠ id) ∧ (s.freeRec id).pool.free = s.pool.free ++ r.pages
      ∧ (s.freeRec id).pool.reservation = s.pool.reservation := by
  simp only [State.freeRec, h]
  exact returnPages_pool _ r.pages

theorem freeRec_absent {id : Nat} (h : s.findRec id = none) : s.freeRec id = s := by
  simp [State.freeRec, h]

/-! ## Channels -/

/-- R66: a channel that enters a state is in it. -/
theorem enter_state (d : Drive) (st : ChanState) : ((s.enter d st).chan d).state = st := by
  simp only [State.enter]
  split
  · assumption
  · simp [State.chan]

/-- A change of state leaves the channel's record, but for the cleaning mark. -/
theorem enter_chan (d : Drive) (st : ChanState) : ∃ m, (s.enter d st).chan d = { s.chan d with state := st, cleaningMark := m } := by
  simp only [State.enter]
  split
  · rename_i h
    exact ⟨(s.chan d).cleaningMark, by rw [← h]⟩
  · exact ⟨false, by simp [State.chan]⟩

/-- A change of state leaves the other channel. -/
theorem enter_other (d e : Drive) (st : ChanState) (h : e ≠ d) : (s.enter d st).chan e = s.chan e := by
  have h' : d.val ≠ e.val := fun x => h (Fin.ext x.symm)
  simp only [State.enter]
  split
  · rfl
  · simp [State.chan, h']

/-- R160: what a load makes of the channel: MOUNTING with the timer of its kind, and every other field as it was, the
first-fault record of a FAILED channel among them. -/
theorem startMounting_chan (d : Drive) (cleaning : Bool) : ∃ m, (s.startMounting d cleaning).chan d =
    if cleaning then { s.chan d with
      state := .mounting, cleaningMark := true, cleanTimer := some (s.timebase + timeoutMicros s.params.cleanTimeout) }
    else { s.chan d with
      state := .mounting, cleaningMark := m, mountTimer := some (s.timebase + timeoutMicros s.params.mountTimeout) } := by
  obtain ⟨m, h⟩ := enter_chan s d .mounting
  refine ⟨m, ?_⟩
  rw [State.startMounting, State.chan_modChan_self, h]

/-- R160: a load leaves the other channel. -/
theorem startMounting_other (d e : Drive) (cleaning : Bool) (h : e ≠ d) :
    (s.startMounting d cleaning).chan e = s.chan e := by
  rw [State.startMounting, State.chan_modChan_ne _ d e _ h.symm, enter_other s d e .mounting h]

/-- R69, R114: a load ends nothing of a channel that is in none of WRITE, UNMOUNTING and READ. -/
theorem leaveForLoad_of_halted (d : Drive) (hw : (s.chan d).state ≠ .write) (hu : (s.chan d).state ≠ .unmounting)
    (hr : (s.chan d).state ≠ .read) : s.leaveForLoad d = s := by
  unfold State.leaveForLoad
  split <;> simp_all

/-- R142: the record that the picker set down stands at the location, and the picker holds none. -/
theorem setDown_cart (l : Loc) : ((s.setDown l).loc l).cart = s.picker.cart ∧ (s.setDown l).picker.cart = none := by
  constructor <;> simp [State.setDown]

/-! ## The passage of time -/

theorem elapse_timebase (n : Nat) : (s.elapse n).timebase = s.timebase + n := rfl

theorem elapseTo_timebase (n : Nat) : (s.elapseTo n).timebase = max s.timebase n := by
  simp only [State.elapseTo, elapse_timebase]
  omega

@[simp] theorem elapse_mem (n : Nat) : (s.elapse n).mem = s.mem := rfl
@[simp] theorem elapse_path (n : Nat) : (s.elapse n).path = s.path := rfl
@[simp] theorem elapse_params (n : Nat) : (s.elapse n).params = s.params := rfl
@[simp] theorem elapse_pack (n : Nat) : (s.elapse n).pack = s.pack := rfl
@[simp] theorem elapse_chans (n : Nat) : (s.elapse n).chans = s.chans := rfl
@[simp] theorem elapse_restore (n : Nat) : (s.elapse n).restore = s.restore := rfl
@[simp] theorem elapse_loader (n : Nat) : (s.elapse n).loader = s.loader := rfl
@[simp] theorem elapse_pending (n : Nat) : (s.elapse n).pending = s.pending := rfl

/-- Only the held time of a stream passes. -/
theorem elapse_stream (n : Nat) (t : Tag) : ∃ ms us, (s.elapse n).stream t = { s.stream t with heldMs := ms, heldMicros := us } := by
  have e : (s.elapse n).stream t = s.elapseStream n t := by simp [State.elapse, State.stream]
  simp only [e, State.elapseStream]
  split
  · exact ⟨_, _, rfl⟩
  · exact ⟨(s.stream t).heldMs, (s.stream t).heldMicros, rfl⟩

/-! ## The end of an event -/

theorem settle_of_not_running (ref : State) (h : s.running = false) : ref.settle s = s := by
  simp [State.settle, h]

end Sys2Proof.Machine
end

