-- ==== Sys2Proof/Tests/Slice0.lean ====
section
/-! SUPPORT. Tests: the well-formedness checks, the formats and codecs on the manual's worked cases, single commands, and a
state with operands that meets the hypotheses of each statement. -/

-- Proofs one after another: many at once take more memory than the check allows.
set_option Elab.async false

namespace Sys2Proof.Tests

open Sys2Proof.Machine

/-! ## Well-formed commands -/

theorem test_wf_malformed_is_misshapen : (Instr.malformedAccess (.read 0x100 4)).wf = false := by decide
theorem test_wf_malformed_crosses_64_bytes : (Instr.malformedAccess (.read 0x13F 2)).wf = true := by decide
theorem test_wf_forwarded_is_shaped : (Instr.forwardedAccess (.write 0x100 [])).wf = false := by decide
theorem test_wf_refused_is_shaped : (Instr.refusedAccess (.read 0x120 33)).wf = false := by decide
theorem test_wf_ingest_write_is_shaped : (Instr.ingestWrite 0x13F [1, 2]).wf = false := by decide
theorem test_wf_ingest_read_is_shaped : (Instr.ingestRead 0x100 0).wf = false := by decide
theorem test_wf_tape_out_read_is_shaped : (Instr.tapeOutRead 0x100 65).wf = false := by decide
theorem test_wf_tape_in_write_is_shaped : (Instr.tapeInWrite 0x100 []).wf = false := by decide
theorem test_wf_restore_read_is_shaped : (Instr.restoreRead 0x101 64).wf = false := by decide
theorem test_wf_header_has_8_bytes : (Instr.configHeaderRead [0x4A, 0x56]).wf = false := by decide
theorem test_wf_image_rest_holds_a_crc : (Instr.configImageRead [1, 2, 3]).wf = false := by decide
theorem test_wf_unknown_kind_is_not_listed : (Instr.unknownCommand 0 0x4A).wf = false := by decide
theorem test_wf_only_bays_have_a_middle : (Instr.rawSensorChange .door .mid).wf = false := by decide
theorem test_wf_bay_at_mouth : (Instr.rawSensorChange (.bay 1) .mid).wf = true := by decide
theorem test_wf_order_numbers_run_from_1 : (Instr.motionReply 0 .done).wf = false := by decide
theorem test_wf_labels_hold_8_characters : (Instr.motionReply 1 (.label (List.replicate 9 0x41))).wf = false := by decide

/-! ## Formats and codecs -/

/-- The checked values of R13. -/
theorem test_crc_of_the_check_string :
    crc32 [0x31, 0x32, 0x33, 0x34, 0x35, 0x36, 0x37, 0x38, 0x39] = 0xCBF43926 ∧ crc32 [] = 0 := by decide +kernel

/-- Counters saturate (00_scope, Counters). -/
theorem test_counters_saturate : (0xFFFFFFFF : Counter).add 1 = 0xFFFFFFFF ∧ (7 : Counter).add 2 = 9 := by decide

/-- R5 at the ends of its range. -/
theorem test_precedes_at_its_bounds :
    precedes 0xFFFFFFFF 0 = true ∧ precedes 0 0x7FFFFFFF = true ∧ precedes 0 0x80000000 = false ∧ precedes 5 5 = false := by
  decide

/-- "ABCABCABCABCX", the first worked case of 1.5. -/
def abc : List Byte := [65, 66, 67, 65, 66, 67, 65, 66, 67, 65, 66, 67, 88]
def abcTokens : List Byte := [0x02, 0x41, 0x42, 0x43, 0x86, 0x00, 0x03, 0x00, 0x58]

theorem test_encoding_of_a_repeating_chunk : packBody .encode abc = (true, abcTokens) := by decide +kernel

/-- The worked case of a chunk that does not shrink (1.5). -/
theorem test_encoding_of_a_chunk_that_does_not_shrink :
    packBody .encode [65, 66, 67, 68, 69] = (false, [65, 66, 67, 68, 69]) := by decide +kernel

/-- The outcomes of the worked case of 1.7; the check is that of the first worked case. -/
def stored (orig : Nat) (body : List Byte) : List Byte := chunkHeader orig body.length true false (crc32 abc) ++ body

theorem test_decode_good : decodeStored (stored 13 abcTokens) = (.good, abc) := by decide +kernel
theorem test_decode_distance_bad :
    (decodeStored (stored 13 [0x02, 0x41, 0x42, 0x43, 0x86, 0x00, 0x0D, 0x00, 0x58])).1 = .distanceBad := by decide +kernel
theorem test_decode_truncated :
    (decodeStored (stored 13 [0x02, 0x41, 0x42, 0x43, 0x86, 0x00])).1 = .truncated := by decide +kernel
theorem test_decode_overrun : (decodeStored (stored 10 abcTokens)).1 = .overrun := by decide +kernel
theorem test_decode_short : (decodeStored (stored 14 abcTokens)).1 = .short := by decide +kernel
theorem test_decode_header_bad : (decodeStored (stored 9 abcTokens)).1 = .headerBad := by decide +kernel

/-- No word spells a command: the table gives no row any bits. -/
theorem test_no_word_spells_a_command : decodeTableWord 8 0 = none ∧ (State.reset.withFetchWord 8 0).pending = [] := by decide

/-! ## States for the tests -/

/-- The state of an outcome. -/
def after (o : Host.Outcome State Fault Refusal) : State := match o with | .next s => s | _ => State.reset

/-- A part in RUNNING, with the windows of the worked case of 9.1 and a small pool. -/
def base : State :=
  { State.reset with
    path := { State.reset.path with
      startup := .running, poolBase := 0x40000, poolPages := 8, imageBase := #v[0x40400, 0x40800], imageLimit := #v[64, 64]
      windows := [⟨0x100000, 0x4000, .control, 0⟩, ⟨0x40000000, 0xC00000, .pool, 0⟩, ⟨0x80000000, 0x1000, .ingest, 0⟩,
        ⟨0x80010000, 0x1000, .tapeOut, 0⟩, ⟨0x80020000, 0x1000, .tapeIn, 0⟩, ⟨0x80030000, 0x1000, .restore, 0⟩,
        ⟨0x90000000, 0x1000, .plain, 0⟩] }
    params := { State.reset.params with restoreReserve := 0, poolHoldOn := 0 }
    ring := { intake := .idle }, pool := { free := [0, 1, 2, 3, 4, 5, 6, 7] } }

/-- A part whose memory owes a part-owned access. -/
def owing (s : State) (o : Owned) : State := s.modPort fun p => { p with issued := some (.owned o) }

/-- A part whose memory owes a forwarded access. -/
def owingForwarded (f : Forwarded) : State := base.modPort fun p => { p with issued := some (.forwarded f) }

/-- A part that reads a command: memory owes the read of slot 0. -/
def reading : State := owing { base with ring := { intake := .reading, reserved := true, p := 1 } } (.slotRead 0)

/-- The record of a command stands in the slot that the intake reads. -/
def asked (c : Instr) (s : State) : State :=
  match encodeCommand c with
  | some r => s.poke (s.commandSlotAddr s.ring.c) r.frame
  | none => s

/-- The answer to the slot read brings a command. -/
abbrev Brings (c : Instr) (s : State) : Prop := (asked c s).takes c = true

/-- A mount of size code 0 at block sequence 40. -/
def mount40 : Mount := { size := 0, nextSeq := 40, capacity := 500, session := 7 }

/-- An OPEN stream to both channels that fills buffer A. -/
def openStream : Stream :=
  { state := .opened, setId := 5, targets := ⟨true, true⟩, bufA := { state := .filling, bytes := [1, 2, 3] } }

/-- A backup record of stream 0 in one page. -/
def packedRec : ChunkRec :=
  { id := 0, role := .backup 0, setId := 5, seq := 0, origLen := some 3, bodyLen := some 3, form := some 0, setend := some false
    check := some 0, pages := [0], state := .packed, outstanding := 2 }

/-- A data cartridge. -/
def dataCart : Cart := { uid := 3, label := some [0x41, 0x44], home := some 4 }
/-- A cleaning cartridge. -/
def cleanCart : Cart := { uid := 4, label := some [0x41, 0x43], uses := 9 }

def withChan (s : State) (c : Channel) : State := s.setChan 0 c
def withState (s : State) (st : ChanState) : State := withChan s { s.chan 0 with state := st, mount := some mount40 }
def withCart (s : State) (l : Loc) (c : Cart) : State := s.setLoc l { s.loc l with cart := some c }
def withSession (s : State) (x : Session) : State := s.setSession 0 x
def withPicker (s : State) (p : Picker) : State := s.modPicker fun _ => p
def withFilter (s : State) (x : Sensor) (f : Filter) : State := s.setFilter x f
/-- The accesses of an engine's job are at the memory port. -/
def working (s : State) (e : Engine) : State := s.startJob e

/-! ## Single commands -/

/-- The state after a command that the intake has read. -/
def ran (c : Instr) : State := after (exec c (asked c reading))

/-- R184: with the answer of the slot read the next command that waits is taken at once. -/
theorem test_next_command_is_taken_at_once :
    let s := asked (.getInfo 9) (reading.modRing fun r => { r with p := 2 })
    (after (exec (.getInfo 9) s)).ring.intake = .reading ∧ (after (exec (.getInfo 9) s)).path.port.ownWait = [.statusWrite, .slotRead 1]
    ∧ (after (exec (.getInfo 9) s)).path.port.issued = some (.owned (.commandIndex 1)) := by decide +kernel

/-- R184: another command than the one that the slot holds does nothing. -/
theorem test_only_the_command_of_the_slot_runs :
    let t := after (exec (.doorLock 9) (asked (.getInfo 9) reading))
    t.loader.doorLockFlag = false ∧ t.ring.intake = .reading ∧ t.ring.buffer = [] := by decide +kernel

/-- R136: the reply to an order that an opening of the door abandoned is stray. -/
theorem test_reply_after_the_door_opened_is_stray :
    let o : Order := { number := 4, stage := .toDest, loc := some 7, deadline := 50 }
    let s := (withPicker base { state := .travel, order := some o, inFlight := true }).doorChange true
    (after (exec (.motionReply 4 .done) s)).loader.counters.strayReplies = 1 := by decide +kernel

/-- R17: at its fifteenth byte the tokens of this input of 18 bytes take 18 bytes already: the engine stops, and stores no
entry for its sixteenth. -/
theorem test_hash_stops_with_the_engine :
    (hashAfter [1, 2, 3, 100, 1, 2, 3, 110, 1, 2, 3, 120, 1, 2, 3, 7, 8, 9]).all (·.2 < 15) = true := by decide +kernel

/-- R154: an INVENTORY whose cursor has passed its last location ends, whatever stands behind that location. -/
theorem test_inventory_past_its_last_location_ends :
    let r : Req := { newReq .inventory none 4 with last := 4, cursor := 5 }
    (withFilter base (.presence 5) { raw := .on, candidate := some .on, deadline := some 9 }).verdict r = .finish := by decide +kernel

theorem test_open_stream_fills_buffer_a :
    ((ran (.openStream 9 2 77 3 0)).stream 2).bufIn .filling = some .a := by decide +kernel

theorem test_get_info_reports_part_2420 :
    (ran (.getInfo 9)).ring.buffer.map (fun r => (r.tag, r.subject, r.e1, r.e2, r.e4)) = [(9, 0x53, 0, 2420, 8)] := by
  decide +kernel

theorem test_set_param_clamps_image_capacity :
    (ran (.setParam 9 0x2000 100)).params.imageCapacity[0] = 64 := by decide +kernel

theorem test_ingest_write_joins_the_buffer :
    ((after (exec (.ingestWrite 0x80000010 [9, 8]) (base.setStream 0 { openStream with targets := {} }))).stream 0).bufA.bytes
      = [1, 2, 3, 9, 8] := by decide +kernel

theorem test_ingest_write_to_a_held_stream_is_retried :
    (after (exec (.ingestWrite 0x80000010 [9, 8]) (base.setStream 0 openStream))).path.answers = [.retry] := by decide +kernel

theorem test_stray_restore_read_gives_zero_bytes :
    (after (exec (.restoreRead 0x80030000 2) base)).path.answers = [.done [0, 0]] := by decide +kernel

theorem test_forwarded_write_reaches_memory :
    (after (exec (.forwardedAnswer true) (owingForwarded ⟨.write 0x5000 [1, 0, 2], none, none⟩))).mem
      = [(0x5000, 1), (0x5002, 2)] := by decide +kernel

theorem test_command_producer_beyond_64_is_a_ring_fault :
    (after (exec .commandProducerWrite (owingForwarded ⟨.write 0x100000 [65, 0], some 65, none⟩))).ring.buffer.map (·.kind)
      = [.ringFault] := by decide +kernel

/-- The first placement of the worked case of 4.4: the block sequence advances to 41 and the slot to 6. -/
theorem test_placement_opens_an_image :
    ((after (exec (.placementStart 0) (withChan { base with pool := { base.pool with records := [packedRec] } }
      { state := .write, mount := some mount40, nextSlot := 5, placeQueue := [0] }))).chan 0).mount.map (·.nextSeq) = some 41 := by
  decide +kernel

theorem test_expiry_of_the_drain_timer_takes_one :
    ((after (exec (.drainTimerExpiry 0) (withChan base
      { state := .write, running := true, occupancy := 2, drainTimer := some 400 }))).chan 0).drainTimer = some 600 := by
  decide +kernel

theorem test_reset_pin_leaves_memory :
    (after (exec .resetPin { base with mem := [(5, 1)] })).mem = [(5, 1)] := by decide +kernel

theorem test_stray_reply_is_counted :
    (after (exec (.motionReply 3 .done) base)).loader.counters.strayReplies = 1 := by decide +kernel

theorem test_sensor_change_waits_for_its_debounce :
    ((after (exec (.rawSensorChange .button .on) base)).filter .button).deadline = some 50000 := by decide +kernel

/-- R121: a run of lost chunks stops at the session's last sequence, where the fragment that shows it lies 2^31 beyond. -/
theorem test_lost_run_stops_at_the_last_sequence :
    let x : Session := { state := .active, drive := some 0, setId := 5, nextSeq := 7, lastSeq := some 7, cont := true }
    let f : Frag := { setId := 5, seq := 0x80000007, last := true, number := 1, index := 0, records := [] }
    let y := ((withSession base x).sessionTake 0 [f] 0).session 0
    y.queue = [.zero 7 1 4096 false] ∧ y.nextSeq = 8 ∧ y.final = true := by decide +kernel

/-- R176: while an engine's job is at the port the two queues take turns, and its next access joins the back of its queue. -/
theorem test_job_accesses_take_turns :
    let p : Port := { issued := some (.owned (.job .pack)), fwdWait := [⟨.read 0 1, none, none⟩], ownWait := [.statusWrite] }
    p.passJob.issued = some (.forwarded ⟨.read 0 1, none, none⟩) ∧ p.passJob.ownWait = [.statusWrite, .job .pack]
    ∧ p.passJob.answered.issued = some (.owned .statusWrite) := by decide

/-! ## The configuration image of the worked case of 9.1 -/

def windowBytes (base size kind arg : Nat) : List Byte :=
  leBytes 5 base ++ leBytes 4 size ++ [BitVec.ofNat 8 kind, BitVec.ofNat 8 arg, 0]
def entryBytes (id v : Nat) : List Byte := leBytes 2 id ++ leBytes 4 v
def imageHead : List Byte := [0x4A, 0x56, 7, 0, 18, 5, 0, 0]
def imageBody : List Byte :=
  windowBytes 0x100000 0x4000 1 0 ++ windowBytes 0x40000000 0xC00000 2 0
    ++ ((List.range 8).flatMap fun t => windowBytes (0x80000000 + 0x1000 * t) 0x1000 3 t)
    ++ ((List.range 2).flatMap fun t => windowBytes (0x80010000 + 0x1000 * t) 0x1000 4 t)
    ++ ((List.range 2).flatMap fun t => windowBytes (0x80020000 + 0x1000 * t) 0x1000 5 t)
    ++ ((List.range 4).flatMap fun t => windowBytes (0x80030000 + 0x1000 * t) 0x1000 6 t)
    ++ entryBytes 0x0100 0x40000 ++ entryBytes 0x0200 8192 ++ entryBytes 0x0300 0x40400 ++ entryBytes 0x0301 0x40800
    ++ entryBytes 0x4600 1

/-- The two drives' images are limited to 64 slots, as the worked case of 9.1 says; its check field stands in the image
below, whose CRC is shorter to evaluate. -/
theorem test_image_limits_of_the_worked_case :
    imageLength imageHead = 258 ∧ (((parseWindows 18 imageBody).bind fun ws =>
      (parseEntries 5 (imageBody.drop 216)).map fun es => ({ version := 7, windows := ws, entries := es } : ConfigImage)).bind
        ConfigImage.check).map (·.limit) = some #v[64, 64] := by
  decide +kernel

def smallHead : List Byte := [0x4A, 0x56, 7, 0, 2, 4, 0, 0]
def smallBody : List Byte :=
  windowBytes 0x100000 0x4000 1 0 ++ windowBytes 0x40000000 0xC00000 2 0
    ++ entryBytes 0x0100 0x40000 ++ entryBytes 0x0200 1024 ++ entryBytes 0x0300 0x40400 ++ entryBytes 0x0301 0x40800
def smallRest : List Byte := smallBody ++ leBytes 4 (crc32 (smallHead ++ smallBody)).toNat

/-! ## Witnesses: a state and operands that meet the hypotheses of each statement -/

theorem witness_StepRunsTheFrontCommand : ({ base with pending := [.resetPin] } : State).pending = .resetPin :: [] := rfl

theorem witness_IdleStep : base.pending = [] ∧ base.dueExpiry = none
    ∧ (withChan base { ejectTimer := some 0 }).dueExpiry = some (.ejectTimeout 0) := by decide +kernel

theorem witness_StepKeeps : base.memorySound ∧ base.irqSound ∧ base.ringSound ∧ base.poolSound
    ∧ ∃ t, step { base with pending := [.i2cClockTimeout] } = .next t :=
  ⟨by unfold State.memorySound; decide, by unfold State.irqSound; decide, by unfold State.ringSound; decide,
    by unfold State.poolSound; decide, _, rfl⟩

theorem witness_CommandRecordsRoundTrip :
    encodeCommand (.getInfo 3) = some { kind := 0x53, flags := 0, tag := 3, params := [] } := by decide

theorem witness_StoredChunksDecodeToTheirInput : abc.length ≤ 4096 := by decide

theorem witness_BrokenTransfersAndTries : State.reset.path.startup = .loading ∧ State.reset.path.header = none
    ∧ imageHead.length = 8 ∧ State.reset.path.acked = false ∧ State.reset.pack.waiting = false
    ∧ State.reset.ring.intake = .stopped ∧ (∀ t : Tag, (State.reset.stream t).state = .closed)
    ∧ State.reset.timebase ≤ State.reset.path.attemptTime + 8192 := by decide +kernel

/-- The part in LOADING with a header read. -/
def headed (h : List Byte) : State := State.reset.modPath fun p => { p with header := some h }

theorem witness_ConfigurationImageDecidesStartup :
    (headed smallHead).path.startup = .loading ∧ (headed smallHead).path.header = some smallHead
    ∧ 8 + smallRest.length = imageLength smallHead ∧ (headed smallHead).ring = {}
    ∧ ((parseImage smallHead smallRest).bind ConfigImage.check).isSome = true
    ∧ 8 + (1 :: smallRest.tail).length = imageLength smallHead
    ∧ (parseImage smallHead (1 :: smallRest.tail)).bind ConfigImage.check = none := by decide +kernel

theorem witness_StartupParameters : ∀ d : Drive, 16 ≤ (#v[16, 128] : Vector Nat 2)[d] ∧ (#v[16, 128] : Vector Nat 2)[d] ≤ 128 := by
  decide

theorem witness_MalformedAndRefused : (Access.read 0x13F 2).shaped = false ∧ (Access.read 0x40000000 4).shaped = true
    ∧ (base.windowAt 0x40000000).map (·.kind) = some .pool ∧ (base.windowAt 0x80020000).map (·.kind) = some .tapeIn
    ∧ (Access.write 0x80010000 [1]).shaped = true ∧ (base.windowAt 0x80010000).map (·.kind) = some .tapeOut
    ∧ (base.windowAt 0x80030000).map (·.kind) = some .restore := by decide +kernel

theorem witness_PlainAccesses : (Access.read 0x5000 4).shaped = true ∧ base.windowAt 0x5000 = none
    ∧ (base.windowAt 0x90000000).map (·.kind) = some .plain ∧ (base.windowAt 0x100000).map (·.kind) = some .control
    ∧ (base.windowAt 0x10000C).map (·.kind) = some .control ∧ (base.windowAt 0x10000D).map (·.kind) = some .control
    ∧ (base.windowAt 0x100002).map (·.kind) = some .control ∧ 0x100002 + 10 ≤ 0x100000 + 0xC
    ∧ (base.watch (.write 0x100008 [9, 9, 9, 9, 0x34, 0x12])).1.consumer = some 0x1234
    ∧ (base.watch (.write 0x100001 [1])).2 = true := by decide +kernel

theorem witness_ForwardedAnswers :
    (owingForwarded ⟨.read 0x5000 4, none, none⟩).path.port.issued = some (.forwarded ⟨.read 0x5000 4, none, none⟩)
    ∧ (owingForwarded ⟨.write 0x5000 [1], none, none⟩).path.port.issued = some (.forwarded ⟨.write 0x5000 [1], none, none⟩) := by
  decide +kernel

theorem witness_IndexWordWrites :
    let blocked := (owingForwarded ⟨.write 0x10000C [1, 0], none, some 1⟩).modRing fun r =>
      { r with intake := .blocked, p := 1, s := 256 }
    (owingForwarded ⟨.write 0x100000 [64, 0], some 64, none⟩).path.port.issued
        = some (.forwarded ⟨.write 0x100000 [64, 0], some 64, none⟩)
    ∧ base.ring.intake = .idle ∧ (64 : Half) ≠ base.ring.c ∧ (0 : Half) = base.ring.c ∧ reading.ring.intake = .reading
    ∧ (base.modRing fun r => { r with s := 256 }).ring.room = false
    ∧ blocked.path.port.issued = some (.forwarded ⟨.write 0x10000C [1, 0], none, some 1⟩) ∧ blocked.ring.intake = .blocked
    ∧ blocked.ring.p ≠ blocked.ring.c ∧ blocked.ring.reserved = false ∧ blocked.ring.buffer.length < 32
    ∧ (blocked.ring.s - 1).toNat + blocked.ring.buffer.length < 256
    ∧ ((64 : Half) - base.ring.c).toNat ≤ 64 ∧ 64 < ((65 : Half) - base.ring.c).toNat ∧ base.ring.room = true
    ∧ (owingForwarded ⟨.write 0x10000C [0, 0], none, some 0⟩).path.port.issued
        = some (.forwarded ⟨.write 0x10000C [0, 0], none, some 0⟩)
    ∧ (base.ring.s - 65280).toNat ≤ 256 ∧ 256 < (base.ring.s - 65279).toNat := by decide +kernel

/-- One write of both words: both values sane, one or both not, a command that waits with and without a place for its record. -/
theorem witness_IndexWordWrites_both :
    let both (v w : Half) (s : State) : State :=
      s.modPort fun p => { p with issued := some (.forwarded ⟨.write 0x100000 (List.replicate 16 1), some v, some w⟩) }
    let s := both 64 0 base
    let full := (both 1 0 base).modRing fun r => { r with s := 256 }
    let opened := (both 1 1 base).modRing fun r => { r with s := 256 }
    s.path.port.issued = some (.forwarded ⟨.write 0x100000 (List.replicate 16 1), some 64, some 0⟩) ∧ s.ring.intake = .idle
    ∧ ((64 : Half) - s.ring.c).toNat ≤ 64 ∧ 64 < ((65 : Half) - s.ring.c).toNat
    ∧ (s.ring.s - 0).toNat ≤ 256 ∧ 256 < (s.ring.s - 1).toNat ∧ (0 : Half) = s.ring.c ∧ (64 : Half) ≠ s.ring.c
    ∧ s.ring.reserved.toNat + (s.ring.s - s.ring.u).toNat + s.ring.buffer.length + 3 ≤ 256
    ∧ s.ring.reserved.toNat + (s.ring.s - s.ring.u).toNat + s.ring.buffer.length < 256
    ∧ ¬ full.ring.reserved.toNat + (full.ring.s - 0).toNat + full.ring.buffer.length < 256 ∧ full.ring.u = 0
    ∧ ¬ opened.ring.reserved.toNat + (opened.ring.s - opened.ring.u).toNat + opened.ring.buffer.length < 256
    ∧ (opened.ring.s - 1).toNat ≤ 256
    ∧ opened.ring.reserved.toNat + (opened.ring.s - 1).toNat + opened.ring.buffer.length < 256 := by decide +kernel

theorem witness_Arbiter : ∃ (p q r b : Port) (f : Forwarded) (o : Owned),
    p.issued = none ∧ p.fwdWait = f :: [] ∧ p.ownWait = o :: [] ∧ p.favoured = .forwarded
    ∧ ({ p with favoured := .owned } : Port).favoured = .owned ∧ q.issued = none ∧ q.fwdWait = f :: [] ∧ q.ownWait = []
    ∧ r.issued = none ∧ r.fwdWait = [] ∧ r.ownWait = o :: [] ∧ b.issued = some (.owned o) :=
  ⟨{ fwdWait := [⟨.read 0 1, none, none⟩], ownWait := [.statusWrite] }, { fwdWait := [⟨.read 0 1, none, none⟩] },
   { ownWait := [.statusWrite] }, { issued := some (.owned .statusWrite) }, ⟨.read 0 1, none, none⟩, .statusWrite,
   rfl, rfl, rfl, rfl, rfl, rfl, rfl, rfl, rfl, rfl, rfl, rfl⟩

theorem witness_Arbiter_jobs :
    let p : Port := { issued := some (.owned (.job .pack)), ownWait := [.statusWrite] }
    p.issued = some (.owned (.job .pack)) ∧ Issued.isOwned .statusWrite (.owned (.job .pack)) = false
    ∧ p.passJob.issued = some (.owned .statusWrite) ∧ Issued.isOwned .statusWrite (.owned .statusWrite) = true
    ∧ ∃ q : Port, q.issued = some (.owned .statusWrite) ∧ ∀ e, Issued.owned .statusWrite ≠ .owned (.job e) :=
  ⟨rfl, by decide, by decide, by decide, { issued := some (.owned .statusWrite) }, rfl, fun _ h => by cases h⟩

theorem witness_StrayAccesses : (Access.read 0x80000000 4).shaped = true ∧ (Access.write 0x80000000 [1]).shaped = true
    ∧ base.ingestTag 0x80000000 = some 0 ∧ (base.stream 0).state = .closed ∧ base.path.armedIngest = true
    ∧ base.ring.room = true ∧ (base.modPath fun p => { p with armedIngest := false }).path.armedIngest = false
    ∧ (Access.read 0x80030000 4).shaped = true ∧ base.restoreSession 0x80030000 = some 0
    ∧ (base.session 0).state = .free := by decide +kernel

theorem witness_IngestWrites :
    let full (n : Nat) : Stream := { openStream with bufA := { state := .filling, bytes := List.replicate n 1 } }
    let s := base.setStream 0 { openStream with targets := {} }
    let held := base.setStream 0 openStream
    (Access.write 0x80000000 [1]).shaped = true ∧ s.ingestTag 0x80000000 = some 0 ∧ (s.stream 0).state = .opened
    ∧ (s.holdActive 0).any = false ∧ (s.stream 0).bufIn .filling = some .a
    ∧ ((s.stream 0).buf .a).bytes.length + 1 < 4096
    ∧ ((full 4092).bufA.bytes.length + 4 = 4096 ∧ (full 4092).bufIn .filling = some .a ∧ ((full 4092).buf BufId.a.other).state = .empty)
    ∧ 4096 < (full 4095).bufA.bytes.length + 4
    ∧ (({ full 4095 with bufB := { state := .packing } } : Stream).buf BufId.a.other).state ≠ .empty
    ∧ ({ full 0 with bufA := { state := .ready }, bufB := { state := .ready } } : Stream).bufIn .filling = none
    ∧ (held.stream 0).state ≠ .closed ∧ (held.holdActive 0).any = true
    ∧ (held.setStream 0 { openStream with state := .suspended }).ingestTag 0x80000000 = some 0 := by decide +kernel

/-- A command waits in the ring. -/
def waiting (i : Intake) : State := base.modRing fun r => { r with intake := i, p := 1 }

theorem witness_CommandsAreTaken : base.ring.p = base.ring.c ∧ base.ring.intake = .idle
    ∧ ((waiting .idle).modRing fun r => { r with s := 256 }).ring.room = false ∧ (waiting .idle).ring.intake = .idle ∧ (waiting .blocked).ring.intake = .blocked
    ∧ (waiting .idle).ring.p ≠ (waiting .idle).ring.c ∧ (waiting .idle).ring.room = true
    ∧ reading.ring.intake = .reading ∧ reading.path.port.issued = some (.owned (.slotRead reading.ring.c))
    ∧ (reading.poke (reading.commandSlotAddr 0) [0x29, 0, 5, 0]).takes (.unknownCommand 5 0x29) = true := by decide +kernel

/-- A part whose status ring is full. -/
def fullRing : State := base.modRing fun r => { r with s := 256, irq := true }
/-- A part whose record buffer is full. -/
def fullBuffer : State := base.modRing fun r => { r with buffer := List.replicate 32 { kind := .button } }

theorem witness_EventRecords :
    0 < 256 - (base.ring.s - base.ring.u).toNat - base.ring.buffer.length ∧ 0 < 32 - base.ring.buffer.length
    ∧ 256 - (fullRing.ring.s - fullRing.ring.u).toNat - fullRing.ring.buffer.length ≤ 0
    ∧ 32 - fullBuffer.ring.buffer.length ≤ 0
    ∧ 1 < 256 - (reading.ring.s - reading.ring.u).toNat - reading.ring.buffer.length
    ∧ (waiting .blocked).ring.intake = .blocked ∧ (waiting .blocked).ring.p ≠ (waiting .blocked).ring.c
    ∧ (waiting .blocked).ring.room = true := by decide +kernel

/-- A part whose memory owes the write of a record. -/
def writing : State := owing (base.modRing fun r => { r with buffer := [{ kind := .button }] }) .statusWrite

theorem witness_StatusRecordsAndIndexWords : writing.ring.buffer = { kind := .button } :: []
    ∧ writing.path.port.issued = some (.owned .statusWrite)
    ∧ (owing base (.commandIndex 1)).path.port.issued = some (.owned (.commandIndex 1))
    ∧ (owing base (.statusIndex 1)).path.port.issued = some (.owned (.statusIndex 1)) := by decide +kernel

/-- A BLOCKED intake as the record leaves: the written record leaves no place with S at 255, and one with S at 254; a lost one
leaves a place; and another record behind the one written. -/
theorem witness_StatusRecordsAndIndexWords_follow :
    let s (n : Half) : State := writing.modRing fun r => { r with intake := .blocked, p := 1, s := n }
    let two : State := writing.modRing fun r => { r with buffer := r.buffer ++ r.buffer }
    (s 255).ring.intake = .blocked ∧ (s 255).ring.p ≠ (s 255).ring.c ∧ (s 255).ring.buffer = { kind := .button } :: []
    ∧ (s 255).path.port.issued = some (.owned .statusWrite)
    ∧ ¬ (s 255).ring.reserved.toNat + ((s 255).ring.s + 1 - (s 255).ring.u).toNat + 0 < 256
    ∧ (s 255).ring.reserved.toNat + ((s 255).ring.s - (s 255).ring.u).toNat + 0 < 256
    ∧ (s 254).ring.reserved.toNat + ((s 254).ring.s + 1 - (s 254).ring.u).toNat + 0 < 256 ∧ writing.ring.p = writing.ring.c
    ∧ two.ring.buffer = { kind := .button } :: [{ kind := .button }] ∧ two.path.port.issued = some (.owned .statusWrite) := by
  decide +kernel

/-- A snapshot of which `n` answers have come. -/
def job (n : Nat) : SnapshotJob :=
  { tag := 1, page := 0, dest := 0x5000, data := List.replicate 512 1, answered := n, faulted := false }
def sampling (n : Nat) : State := owing (base.modRing fun r => { r with snapshot := some (job n) }) .snapshot

theorem witness_Snapshots : Brings (.snapshot 1 0x5000 0 0) reading ∧ Brings (.snapshot 1 0x5000 0 4) reading ∧ disjoint reading.path.windows = true
    ∧ (∃ w ∈ reading.path.windows, w.kind = .control ∧ 16384 ≤ w.size ∧ w.base ≤ 0x103000 ∧ 0x103000 < w.base + 0x3040)
    ∧ 0x5001 % 64 ≠ 0 ∧ 3 < (4 : Word).toNat ∧ reading.snapshotPlace 0x5000 = true ∧ reading.snapshotPlace 0x103040 = true
    ∧ reading.ring.snapshot = none
    ∧ (reading.modRing fun r => { r with snapshot := some (job 0) }).ring.snapshot.isSome = true
    ∧ (sampling 0).ring.snapshot = some (job 0) ∧ (sampling 7).ring.snapshot = some (job 7) ∧ (job 7).answered ≤ 7
    ∧ (job 0).data.length = 512 ∧ (sampling 7).path.port.issued = some (.owned .snapshot) ∧ (sampling 7).ring.room = true := by
  decide +kernel

/-- Where a snapshot may lie: outside every window, or in CONTROL past the rings; not in CONTROL before them, in another window,
across a window's edge, nor beyond 40 address bits. -/
theorem witness_Snapshots_place :
    let place (dest : Nat) : Prop := dest + 512 ≤ 1099511627776 ∧
      ((∀ w ∈ reading.path.windows, dest + 512 ≤ w.base ∨ w.base + w.size ≤ dest)
        ∨ ∃ w ∈ reading.path.windows, w.base ≤ dest ∧ dest + 512 ≤ w.base + w.size
            ∧ (w.kind = .plain ∨ (w.kind = .control ∧ w.base + 0x3040 ≤ dest)))
    (∀ dest ∈ [0x5000, 0xFFE00, 0x103040, 0x103E00, 0x104000, 0xFFFFFFFE00], place dest ∧ dest % 64 = 0)
    ∧ (∀ dest ∈ [0xFFE40, 0x103000, 0x103E40, 0x80000000, 0x40000000, 0xFFFFFFFE40], ¬ place dest)
    ∧ 255 < (256 : Word).toNat ∧ (4 : Word).toNat = 3 + 1 := by decide +kernel

theorem witness_ClearCounters : Brings (.clearCounters 1 255) reading ∧ Brings (.clearCounters 1 256) reading
    ∧ 255 < (256 : Word).toNat ∧ (255 : Word).toNat ≤ 255 := by decide +kernel

theorem witness_GetInfo : Brings (.getInfo 1) reading := by decide +kernel

theorem witness_SetParam : Brings (.setParam 1 0x1000 300) reading ∧ Brings (.setParam 1 0x2000 9) (withState reading .idle)
    ∧ Brings (.setParam 1 0x2002 9) reading
    ∧ (Param.poolHoldOn.bounds 8 0 #v[64, 64] reading.params).1 ≤ (Param.poolHoldOn.bounds 8 0 #v[64, 64] reading.params).2
    ∧ Param.ofId 0x2002 = none
    ∧ Param.ofId 0x0200 = some .poolPages ∧ Param.poolPages.isLayout = true
    ∧ Param.ofId 0x2000 = some (.imageCapacity 0) ∧ ((withState reading .idle).chan 0).state ≠ .unmounted
    ∧ Param.ofId 0x2800 = some (.checkMode 0) ∧ ((withState reading .write).chan 0).state = .write
    ∧ Param.ofId 0x1000 = some .poolHoldOn ∧ (reading.chan 0).state = .unmounted ∧ Param.poolHoldOn.isLayout = false := by
  decide +kernel

theorem witness_OpenStream :
    let other := reading.setStream 1 { openStream with setId := 77 }
    Brings (.openStream 1 7 77 3 1) reading ∧ Brings (.openStream 1 8 77 3 1) reading ∧ Brings (.openStream 1 7 77 3 1) other
    ∧ 7 < (8 : Word).toNat ∧ (0 : Word).toNat = 0 ∧ 3 < (4 : Word).toNat
    ∧ 1 < (2 : Word).toNat ∧ tagOf 7 = some 7 ∧ targetsOf 3 = some ⟨true, true⟩ ∧ policyOf 1 = some .store
    ∧ (∃ o : Tag, o ≠ 7 ∧ (other.stream o).state ≠ .closed ∧ (other.stream o).setId = 77)
    ∧ (∀ o : Tag, o ≠ 7 → (reading.stream o).state = .closed ∨ (reading.stream o).setId ≠ 77)
    ∧ (withState reading .failed).targetFailed ⟨true, true⟩ = true ∧ reading.targetFailed ⟨true, true⟩ = false
    ∧ (reading.stream 7).state = .closed ∧ (reading.stream 7).bufA.state = .empty
    ∧ (reading.stream 7).bufB.state ≠ .filling
    ∧ ((reading.setStream 7 { bufA := { state := .packing } }).stream 7).bufA.state = .packing := by decide +kernel

theorem witness_Suspension :
    let s := reading.setStream 0 openStream
    let suspended := reading.setStream 0 { openStream with state := .suspended, causeCommand := true }
    let both := reading.setStream 0 { openStream with state := .suspending, causeCommand := true, causePreempt := true }
    Brings (.suspendStream 1 0) s ∧ Brings (.resumeStream 1 0) suspended ∧ Brings (.suspendStream 1 8) s
    ∧ Brings (.resumeStream 1 0) both ∧ tagOf 8 = none ∧ tagOf 0 = some 0 ∧ (reading.stream 0).state = .closed
    ∧ (s.stream 0).state = .opened ∧ (s.stream 0).causeCommand = false
    ∧ (suspended.stream 0).state = .suspended ∧ (suspended.stream 0).causeCommand = true
    ∧ (suspended.stream 0).causePreempt = false ∧ (both.stream 0).causePreempt = true
    ∧ (both.stream 0).state = .suspending ∧ both.queued 0 = false ∧ (both.stream 0).bufA.state = .filling
    ∧ ((reading.setStream 0 { openStream with state := .suspending, bufA := { state := .ready } }).stream 0).bufA.state = .ready := by
  decide +kernel

theorem witness_EndStream :
    let s := reading.setStream 0 openStream
    Brings (.endStream 1 0) s ∧ Brings (.endStream 1 9) s ∧ tagOf 9 = none ∧ tagOf 0 = some 0 ∧ (reading.stream 0).state = .closed
    ∧ (s.stream 0).state = .opened ∧ (s.stream 0).bufIn .filling = some .a
    ∧ ((reading.setStream 0 { openStream with state := .suspended, bufA := { state := .ready } }).stream 0).bufIn .filling = none := by
  decide +kernel

theorem witness_Aborts :
    let s := reading.setStream 0 { openStream with bufB := { state := .packing } }
    Brings (.abortStream 1 0) s ∧ Brings (.resetStreams 1) s ∧ Brings (.abortStream 1 8) s ∧ tagOf 8 = none
    ∧ tagOf 0 = some 0 ∧ (reading.stream 0).state = .closed ∧ (s.stream 0).state ≠ .closed ∧ ((s.stream 0).buf .a).state ≠ .packing ∧ ((s.stream 0).buf .b).state = .packing := by
  decide +kernel

theorem witness_Aborts_queues :
    let s := withChan (({ reading with pool := { reading.pool with records := [packedRec] } } : State).setStream 0 openStream)
      { state := .write, mount := some mount40, placeQueue := [0] }
    Brings (.abortStream 1 0) s ∧ Brings (.resetStreams 1) s ∧ (s.stream 0).state ≠ .closed ∧ (s.chan 0).placeQueue = [0]
    ∧ s.findRec 0 = some packedRec ∧ packedRec.role = .backup 0
    ∧ (s.chan 0).placeQueue.length + (s.chan 1).placeQueue.length + 3 ≤ s.ring.freePlaces
    ∧ s.ring.buffer.length + ((s.chan 0).placeQueue.length + (s.chan 1).placeQueue.length + 3) ≤ 32 := by decide +kernel

theorem witness_AdminAndTargets :
    let s := reading.setStream 0 { openStream with state := .suspended }
    Brings (.holdStream 1 0) s ∧ Brings (.releaseStream 1 0) s ∧ Brings (.setTargets 1 0 1) s ∧ Brings (.setTargets 1 0 4) s
    ∧ tagOf 8 = none ∧ tagOf 0 = some 0 ∧ (reading.stream 0).state = .closed ∧ (s.stream 0).state ≠ .closed ∧ targetsOf 1 = some ⟨true, false⟩ ∧ (s.stream 0).state = .suspended
    ∧ (∀ d : Drive, (⟨true, false⟩ : Targets).has d = true → (s.chan d).state ≠ .failed)
    ∧ (∃ d : Drive, (⟨true, false⟩ : Targets).has d = true ∧ ((withState s .failed).chan d).state = .failed) := by decide +kernel

theorem witness_Arbitration :
    let phase (ws : List Word) (i : Nat) : Nat := ((ws.getD (i / 4) 0).toNat / 256 ^ (i % 4)) % 256
    let full : List Word := [0x03020100, 0x07060504, 0x03020100, 0x07060504]
    let s := base.setStream 7 { openStream with bufA := { state := .ready } }
    let pending : State := { s with pack := { s.pack with pendingTable := some (Vector.replicate 16 7) } }
    Brings (.setArbTable 1 0x03020100 0x07060504 0x03020100 0x07060504) reading ∧ Brings (.setArbTable 1 0 0 0 0) reading
    ∧ (∀ i < 16, phase full i ≤ 7) ∧ (∀ t < 8, ∃ i < 16, phase full i = t)
    ∧ (∃ i < 16, 7 < phase [0x08000000, 0, 0, 0] i) ∧ (∃ t < 8, ∀ i < 16, phase [0, 0, 0, 0] i ≠ t)
    ∧ s.pack.lastServed.val = 15 ∧ s.pack.job = none ∧ s.pack.chosen = none ∧ s.pack.pendingTable = none
    ∧ (∀ i < 8, 1 ≤ i → (s.stream s.pack.table[(⟨(15 + i) % 16, by omega⟩ : Fin 16)]).readyBuf = none)
    ∧ (s.stream s.pack.table[(7 : Fin 16)]).readyBuf = some .a
    ∧ (pending.stream (pending.pack.pendingTable.getD pending.pack.table)[(0 : Fin 16)]).readyBuf = some .a := by decide +kernel

/-- A part that has chosen a READY buffer. -/
def chosenPart : State :=
  { base.setStream 0 { openStream with bufA := { state := .ready, bytes := [1, 2, 3] } } with
    pack := { base.pack with chosen := some (0, .a) } }

theorem witness_PoolGrant : chosenPart.pack.chosen = some (0, .a) ∧ chosenPart.pack.job = none
    ∧ chosenPart.pack.draining = none ∧ (10 + 3 + 511) / 512 ≤ chosenPart.usable ∧ 64 < chosenPart.freeRecords
    ∧ ({ chosenPart with pool := {} } : State).usable < (10 + 3 + 511) / 512 := by decide +kernel

/-- A pack job in the engine. -/
def packJob : PackJob :=
  { tag := 0, buf := .a, setend := false, mode := .copy, input := [1, 2, 3], record := 0, discarded := false }
def packing : State :=
  { (working base .pack).setStream 0 { openStream with bufA := { state := .packing, bytes := [1, 2, 3] } } with
    pack := { base.pack with job := some packJob }
    pool := { base.pool with reservation := [9], records := [{ packedRec with pages := [], state := .packing, outstanding := 0 }] } }

theorem witness_PackCompletion : packing.pack.job = some packJob ∧ packing.hasJob .pack = true ∧ packJob.discarded = false
    ∧ (packing.findRec packJob.record).map (·.pages) = some []
    ∧ (∀ d ∈ (packing.stream packJob.tag).targets.list, (packing.chan d).state ≠ .failed)
    ∧ packing.pool.reservation.Nodup ∧ (storedChunk .copy false [1, 2, 3]).length = 13
    ∧ packing.pool.reservation.length = 1 := by decide +kernel

/-- The stream of a pack job whose buffer A is PACKING, in each form that its completion tells apart. -/
theorem witness_PackCompletion_buffers :
    let x (st : StreamState) (b : FillBuf) : Stream :=
      { openStream with state := st, bufA := { state := .packing, bytes := [1, 2, 3] }, bufB := b }
    let last : Stream := { x .ending {} with finalClose := true }
    let encode : PackJob := { packJob with mode := .encode }
    last.state = .ending ∧ last.finalClose = true
    ∧ (x .closed {}).state = .closed ∧ (x .ending {}).finalClose = false
    ∧ ((x .opened { state := .filling }).buf BufId.a.other).state = .filling
    ∧ ((x .opened { state := .ready }).buf BufId.a.other).state = .ready
    ∧ packJob.mode = .copy ∧ encode.mode = .encode
    ∧ (packBody .encode encode.input).1 = false ∧ (packBody .encode abc).1 = true
    ∧ ({ last with rawRun := 7 } : Stream).rawRun = 7 ∧ last.rawRun ≠ 7 := by decide +kernel

theorem witness_PackWriteFault : packing.pack.job = some packJob ∧ packing.hasJob .pack = true
    ∧ ({ packing with pack := { base.pack with draining := some 0 } } : State).pack.draining = some 0
    ∧ ({ packing with pack := { base.pack with draining := some 0 } } : State).hasJob .pack = true
    ∧ (packing.findRec 0).map (·.pages) = some [] ∧ packJob.record = 0 ∧ packJob.discarded = false
    ∧ (∀ d, packJob.record ∉ (packing.chan d).placeQueue) := by decide +kernel

/-- A discarded job whose stream is CLOSED, or has been opened again and is SUSPENDING. -/
theorem witness_PackWriteFault_discarded :
    let s (st : StreamState) : State :=
      { packing with pack := { packing.pack with job := some { packJob with discarded := true } } }.modStream packJob.tag
        fun x => { x with state := st }
    (∀ st, (s st).pack.job = some { packJob with discarded := true } ∧ (s st).hasJob .pack = true
      ∧ ((s st).stream packJob.tag).state = st) := by intro s st; cases st <;> decide +kernel

theorem witness_GiveUps :
    let s : State := { base with pool := { base.pool with records := [packedRec, { packedRec with id := 1, outstanding := 1 }] } }
    s.pool.records.Pairwise (fun a b => a.id ≠ b.id) ∧ s.findRec 0 = some packedRec ∧ 1 < packedRec.outstanding
    ∧ (s.findRec 1).map (·.outstanding) = some 1 := by decide +kernel

theorem witness_MountedAndSetMode : Brings (.mounted 1 0 3 40 500 7 2 1 40) (withState reading .mounting)
    ∧ Brings (.setMode 1 0 1 0 0) (withState reading .idle) ∧ Brings (.setMode 1 0 0 0 0) (withState reading .read)
    ∧ Brings (.setMode 1 0 0 0 0) (withState reading .write) ∧ Brings (.setMode 1 2 0 0 0) reading ∧ 1 < (2 : Word).toNat ∧ 3 < (4 : Word).toNat
    ∧ 2 < (3 : Word).toNat ∧ (0 : Word).toNat = (0 : Drive).val
    ∧ (reading.chan 0).state ≠ .mounting ∧ (reading.chan 0).state ≠ .idle
    ∧ ((withState reading .mounting).chan 0).cleaningMark = false ∧ ((withState reading .mounting).chan 0).state = .mounting
    ∧ ((withChan reading { state := .mounting, cleaningMark := true }).chan 0).cleaningMark = true
    ∧ ((withState reading .idle).chan 0).state = .idle ∧ ((withState reading .idle).chan 0).mount.isSome = true
    ∧ ((withChan reading { state := .idle }).chan 0).mount = none
    ∧ ((withState reading .write).chan 0).drained = true
    ∧ ((withChan reading { state := .write, held := some (0, 1) }).chan 0).drained = false
    ∧ ((withState reading .read).chan 0).state = .read
    ∧ ((withSession reading { state := .waitRead, drive := some 0 }).session 0).state = .waitRead := by decide +kernel

/-- The ASSEMBLING image of block 40 with one fragment. -/
def image40 : Image :=
  { slot := 5, state := .assembling, seq := 40, openTime := 0, frags := 1, payload := 100, marks := [], sends := 0, trailer := 0 }
/-- DC0 in WRITE with an ASSEMBLING image. -/
def assembling (a : Activity) : State :=
  withChan reading { state := .write, mount := some mount40, images := [image40], nextSlot := 6, activity := a }

theorem witness_FlushAndEarlyWarning : Brings (.flush 1 0) (assembling .idle) ∧ Brings (.earlyWarning 1 0) (assembling .idle)
    ∧ Brings (.flush 1 2) reading ∧ (0 : Word).toNat = (0 : Drive).val
    ∧ ((withState reading .unmounting).chan 0).state = .unmounting
    ∧ ((assembling .idle).chan 0).state = .write ∧ ((assembling .idle).chan 0).assembling = some image40
    ∧ 0 < image40.frags ∧ ((assembling .idle).chan 0).activity = .idle ∧ ((assembling .idle).chan 0).closeAsked = none
    ∧ ((assembling (.placing ⟨0, 0, true, 0, 3⟩)).chan 0).activity = .placing ⟨0, 0, true, 0, 3⟩
    ∧ ((withState reading .write).chan 0).assembling = none ∧ ((assembling .idle).chan 0).full = none
    ∧ ((withChan reading { state := .write, full := some .warning }).chan 0).full.isSome = true
    ∧ reading.ring.room = true ∧ ((assembling .idle).chan 0).mount = some mount40 := by decide +kernel

/-- A part whose bay 0 holds a cartridge. -/
def loaded (s : State) : State := withFilter (withCart s 25 dataCart) (.bay 0) { raw := .on, debounced := .on }

theorem witness_EndOfDataAndUnmount :
    let pass := withSession (withChan reading { state := .read, mount := some mount40, reader := { running := true } })
      { state := .active, drive := some 0 }
    Brings (.endOfData 1 0) pass ∧ Brings (.unmount 1 false 0) (loaded reading) ∧ Brings (.unmount 1 true 0) (assembling .idle)
    ∧ Brings (.unmount 1 false 0) (assembling .idle) ∧ Brings (.unmount 1 false 2) reading
    ∧ (0 : Word).toNat = (0 : Drive).val ∧ 1 < (2 : Word).toNat ∧ (reading.chan 0).state ≠ .read ∧ (pass.chan 0).state = .read ∧ (pass.chan 0).reader.running = true
    ∧ (pass.session 0).drive = some 0 ∧ (pass.session 0).state = .active ∧ (pass.session 0).final = false
    ∧ (pass.session 1).drive ≠ some 0
    ∧ (pass.modRestore fun y => { y with job := some { requester := .session 0, record := 0, headerBad := false, discarded := false } }).restore.job
        = some { requester := .session 0, record := 0, headerBad := false, discarded := false }
    ∧ ((withState reading .failed).chan 0).state = .failed
    ∧ ((withState reading .idle).chan 0).state = .idle
    ∧ (reading.chan 0).state = .unmounted ∧ (loaded reading).bayPos 0 = .on ∧ ((loaded reading).bayCart 0).isSome = true
    ∧ ((loaded reading).chan 0).state = .unmounted ∧ reading.bayPos 0 ≠ .on
    ∧ ((assembling .idle).chan 0).state = .write ∧ ((assembling .idle).chan 0).images ≠ [] := by decide +kernel

/-- A verify pass that ends clean and one that does not, UNMOUNT in its further states, and WRITE with nothing left. -/
theorem witness_EndOfDataAndUnmount_pass :
    let pass (t : Tallies) := withChan (loaded reading)
      { state := .read, mount := some mount40, reader := { running := true, verify := true, tallies := t } }
    let clean : Tallies := { accepted := 4 }
    let st (x : ChanState) := withState (loaded reading) x
    Brings (.endOfData 1 0) (pass clean) ∧ Brings (.endOfData 1 0) (pass {}) ∧ ((pass clean).chan 0).state = .read
    ∧ ((pass clean).chan 0).reader.running = true ∧ ((pass clean).chan 0).reader.verify = true
    ∧ ((pass clean).chan 0).reader.tallies = clean ∧ clean.accepted ≠ 0 ∧ clean.gaps = 0 ∧ clean.chunksBad = 0
    ∧ clean.unchecked.add 0 = 0 ∧ ((pass clean).chan 0).reader.recovering = false ∧ ({} : Tallies).accepted = 0
    ∧ (pass clean).pool.records = [] ∧ (pass clean).params.poolHoldOn ≤ (pass clean).params.poolHoldOff
    ∧ (pass clean).ring.reserved.toNat + 24 ≤ (pass clean).ring.freePlaces
    ∧ (pass clean).ring.reserved.toNat + (pass clean).ring.buffer.length + 24 ≤ 32
    ∧ (∀ x ∈ [ChanState.ejectWait, .unmounting, .mounting, .idle, .write], ((st x).chan 0).state = x
        ∧ ((st x).chan 0).cleaningMark = false ∧ (st x).bayPos 0 = .on ∧ Brings (.unmount 1 false 0) (st x))
    ∧ Brings (.unmount 1 true 0) (st .unmounting) ∧ ((st .write).chan 0).images = [] ∧ ((st .write).chan 0).held = none
    ∧ ((st .write).chan 0).activity = .idle := by decide +kernel

theorem witness_ResetChannel : Brings (.resetChannel 1 1) reading ∧ Brings (.resetChannel 1 0) (assembling .idle)
    ∧ Brings (.resetChannel 1 2) reading ∧ 1 < (2 : Word).toNat ∧ (1 : Word).toNat = (1 : Drive).val
    ∧ ((loaded reading).bayCart 0).isSome = true ∧ reading.bayCart 0 = none
    ∧ ((assembling .idle).chan 0).images ≠ [] := by decide +kernel

/-- DC0 in WRITE with a chunk in its placement queue. -/
def queued (c : Channel) : State :=
  withChan { base with pool := { base.pool with records := [packedRec] } }
    { c with state := .write, mount := some mount40, nextSlot := 5, placeQueue := [0] }

theorem witness_Assembler :
    let s := working (queued { images := [image40] }) (.assembler 0)
    let placing := withChan s { s.chan 0 with activity := .placing ⟨0, 0, true, 0, 13⟩, placeQueue := [] }
    let closing := withChan s { s.chan 0 with activity := .closing .flush }
    (s.chan 0).state = .write ∧ (s.chan 0).full = none ∧ (s.chan 0).activity = .idle ∧ (s.chan 0).held = none
    ∧ (s.chan 0).placeQueue = 0 :: [] ∧ s.findRec 0 = some packedRec ∧ (s.chan 0).assembling = some image40
    ∧ ¬ (packedRec.setend = some true ∧ image40.marks.length = 8)
    ∧ ((queued {}).chan 0).assembling = none ∧ ((queued {}).chan 0).mount = some mount40
    ∧ (∀ i ∈ ((queued {}).chan 0).images, i.slot ≠ ((queued {}).chan 0).nextSlot)
    ∧ placing.hasJob (.assembler 0) = true ∧ closing.hasJob (.assembler 0) = true ∧ (placing.chan 0).abandoned = [] ∧ (placing.chan 0).assembling = some image40 ∧ placing.mem.wf = true
    ∧ (placing.chan 0).activity = .placing ⟨0, 0, true, 0, 13⟩ ∧ placing.findRec 0 = some packedRec
    ∧ (closing.chan 0).activity = .closing .flush ∧ 16 + image40.payload + 4 ≤ blockSize (closing.chan 0).size := by
  decide +kernel

/-- DC0 in WRITE with an activity whose access is at the memory port. -/
def active (a : Activity) : State :=
  working (withChan base { state := .write, mount := some mount40, images := [image40], nextSlot := 6, activity := a })
    (.assembler 0)

theorem witness_Assembler_held :
    let s (images : List Image) := withChan { base with pool := { base.pool with records := [packedRec] } }
      { state := .write, mount := some mount40, nextSlot := 6, images := images, held := some (0, 5) }
    let last : ChunkRec := { packedRec with setend := some true }
    let marked : Image := { image40 with marks := List.replicate 8 1 }
    let limit := withChan { base with pool := { base.pool with records := [last] } }
      { state := .write, mount := some mount40, nextSlot := 6, images := [marked], placeQueue := [0] }
    ((s [image40]).chan 0).held = some (0, 5) ∧ (s [image40]).findRec 0 = some packedRec
    ∧ ((s [image40]).chan 0).activity = .idle ∧ ((s [image40]).chan 0).assembling = some image40
    ∧ ¬ (packedRec.setend = some true ∧ image40.marks.length = 8)
    ∧ ((s []).chan 0).assembling = none ∧ ((s []).chan 0).mount = some mount40
    ∧ (∀ i ∈ ((s []).chan 0).images, i.slot ≠ ((s []).chan 0).nextSlot)
    ∧ (limit.chan 0).assembling = some marked ∧ marked.marks.length = 8 ∧ last.setend = some true
    ∧ (limit.chan 0).closeAsked = none ∧ (limit.chan 0).placeQueue = 0 :: [] ∧ limit.findRec 0 = some last
    ∧ (limit.chan 0).held = none ∧ (limit.chan 0).full = none := by decide +kernel

/-- The end of a placement whose record another target still owes, that splits its chunk, and that is the last of an ENDING
stream's SETEND chunk, beside one of a stream that is not ENDING. -/
theorem witness_Assembler_end :
    let last : ChunkRec := { packedRec with setend := some true, outstanding := 1 }
    let s (r : ChunkRec) (st : StreamState) : State :=
      (({ active (.placing ⟨0, 0, true, 0, 13⟩) with pool := { base.pool with records := [r] } } : State)).setStream 0
        { openStream with state := st, endTag := some 6 }
    (∀ st ∈ [StreamState.ending, .opened], (s last st).hasJob (.assembler 0) = true ∧ ((s last st).stream 0).state = st)
    ∧ ((s last .ending).chan 0).abandoned = [] ∧ ((s last .ending).chan 0).assembling = some image40
    ∧ ((s last .ending).chan 0).activity = .placing ⟨0, 0, true, 0, 13⟩ ∧ (s last .ending).findRec 0 = some last
    ∧ (s last .ending).mem.wf = true ∧ (s last .ending).pool.records.Pairwise (fun a b => a.id ≠ b.id)
    ∧ last.setend = some true ∧ last.orphan = false ∧ last.role = .backup 0 ∧ last.outstanding ≤ 1
    ∧ (s packedRec .opened).findRec 0 = some packedRec ∧ 1 < packedRec.outstanding ∧ packedRec.setend ≠ some true
    ∧ ((active (.placing ⟨0, 0, false, 0, 3⟩)).chan 0).activity = .placing ⟨0, 0, false, 0, 3⟩
    ∧ (s last .ending).ring.reserved.toNat + 4 ≤ (s last .ending).ring.freePlaces
    ∧ (s last .ending).ring.reserved.toNat + (s last .ending).ring.buffer.length + 4 ≤ 32 := by decide +kernel

theorem witness_Failures :
    let placing := active (.placing ⟨0, 0, true, 0, 3⟩)
    let left (a : Option Nat) := withChan placing { placing.chan 0 with abandoned := [a] }
    placing.hasJob (.assembler 0) = true ∧ (placing.chan 0).state ≠ .failed ∧ (placing.chan 0).abandoned = []
    ∧ (placing.chan 0).activity = .placing ⟨0, 0, true, 0, 3⟩
    ∧ (active (.closing .flush)).hasJob (.assembler 0) = true ∧ ((active (.closing .flush)).chan 0).activity = .closing .flush
    ∧ (left (some 0)).hasJob (.assembler 0) = true ∧ ((left (some 0)).chan 0).abandoned = some 0 :: []
    ∧ (left none).hasJob (.assembler 0) = true ∧ ((left none).chan 0).abandoned = none :: []
    ∧ ((withChan base { state := .mounting, mountTimer := some 9 }).chan 0).mountTimer = some 9
    ∧ ((withChan base { state := .ejectWait, ejectTimer := some 9 }).chan 0).ejectTimer = some 9 := by decide +kernel

theorem witness_RegulatorTimers :
    let s := withChan base { state := .write, running := true, occupancy := 1, drainTimer := some 9 }
    let aged := withChan base { state := .write, mount := some mount40, images := [image40] }
    (s.chan 0).drainTimer = some 9 ∧ 1 ≤ (s.chan 0).occupancy ∧ (s.chan 0).running = true ∧ (s.chan 0).state = .write
    ∧ ((withChan base { state := .unmounting, occupancy := 2, drainTimer := some 9 }).chan 0).state = .unmounting
    ∧ (aged.chan 0).running = false ∧ aged.ageDue 0 = some 2000000 ∧ (aged.chan 0).assembling = some image40
    ∧ 0 < image40.frags ∧ (aged.chan 0).activity = .idle ∧ (aged.chan 0).closeAsked = none := by decide +kernel

/-- DC0 in WRITE with a QUEUED image. -/
def sending (k : Option Cursor) (r : Option SendRead) : State :=
  withChan base { state := .write, mount := some mount40, images := [{ image40 with state := .queued }], running := true
                  cursor := k, read := r, checkPeriod := true }

theorem witness_TapeOutReads :
    let k : Cursor := { slot := 5, offset := 0, ghost := false }
    let last : Cursor := { slot := 5, offset := 8128, ghost := false }
    let r : SendRead := { len := 64, slot := 5, offset := 0, live := true }
    (Access.read 0x80010000 64).shaped = true ∧ base.tapeOutDrive 0x80010000 = some 0 ∧ (base.chan 0).read = none
    ∧ (base.chan 0).state = .unmounted ∧ ((withState base .idle).chan 0).state = .idle
    ∧ ((withState base .write).chan 0).running = false ∧ ((withState base .write).chan 0).cursor = none
    ∧ ((sending (some k) none).chan 0).cursor = some k ∧ ((sending none none).chan 0).cursor = none
    ∧ ((sending none none).chan 0).running = true ∧ ((sending none none).chan 0).oldestQueued.isSome = true
    ∧ (owing (sending (some k) (some r)) (.imageRead 0)).path.port.issued = some (.owned (.imageRead 0))
    ∧ ((sending (some k) (some r)).chan 0).read = some r ∧ r.live = true
    ∧ ((sending (some k) (some r)).chan 0).waitingReads = [] ∧ k.offset + r.len < blockSize 0
    ∧ ((sending (some last) (some r)).chan 0).cursor = some last ∧ blockSize ((sending (some last) (some r)).chan 0).size ≤ 8128 + 64
    ∧ ((sending (some last) (some r)).chan 0).checkPeriod = true
    ∧ (((sending (some last) (some r)).chan 0).images.find? (·.slot == 5)).isSome = true
    ∧ ((sending (some last) (some r)).chan 0).mount = some mount40 := by decide +kernel

/-- Completions of a ghost, with check mode OFF, and of the last image in UNMOUNTING. -/
theorem witness_TapeOutReads_completions :
    let r : SendRead := { len := 64, slot := 5, offset := 8128, live := true }
    let s (ghost check : Bool) (st : ChanState) : State :=
      let x := sending (some { slot := 5, offset := 8128, ghost := ghost }) (some r)
      owing (withChan x { x.chan 0 with state := st, checkPeriod := check, nextSlot := 6 }) (.imageRead 0)
    let last := s false false .unmounting
    (∀ g : Bool, ∀ k : Bool, ∀ st ∈ [ChanState.write, .unmounting],
      (s g k st).path.port.issued = some (.owned (.imageRead 0)) ∧ ((s g k st).chan 0).read = some r
      ∧ ((s g k st).chan 0).cursor = some { slot := 5, offset := 8128, ghost := g } ∧ ((s g k st).chan 0).state = st
      ∧ ((s g k st).chan 0).checkPeriod = k ∧ ((s g k st).chan 0).images ≠ [])
    ∧ (last.chan 0).waitingReads = [] ∧ blockSize (last.chan 0).size ≤ 8128 + r.len ∧ (last.chan 0).mount = some mount40
    ∧ (last.chan 0).images.length = 1 ∧ (last.chan 0).held = none ∧ (last.chan 0).activity = .idle
    ∧ ((last.chan 0).images.find? (·.slot == 5)).isSome = true ∧ (last.chan 0).nextSlot ≠ 5
    ∧ last.params.cleaningInterval[(0 : Drive)] = 0 ∧ ({ image40 with state := .queued } : Image).marks.length ≤ 8
    ∧ last.ring.reserved.toNat + 8 ≤ last.ring.freePlaces ∧ last.ring.reserved.toNat + last.ring.buffer.length + 8 ≤ 32 := by
  decide +kernel

/-- An entry of the verify list, and a readback of its block's bytes. -/
def entry40 (sends : Nat) : VerifyEntry := { slot := 5, seq := 40, crc := 0xFFFFFFFF, marks := [], sends := sends, time := 0 }
def readback40 : Readback :=
  { count := 8192, crc := 0, header := blockHeader 0 1 40 7 100, trailer := [0xFF, 0xFF, 0xFF, 0xFF] }
def verifying (sends : Nat) : State :=
  withChan base { state := .write, mount := some mount40, images := [{ image40 with state := .verifyWait }]
                  verifyList := [entry40 sends], readbackTimer := true }

theorem witness_Readbacks : (Access.write 0x80020000 [1]).shaped = true ∧ base.tapeInDrive 0x80020000 = some 0
    ∧ (base.chan 0).state = .unmounted ∧ ((withState base .idle).chan 0).state = .idle
    ∧ ((withChan base { state := .read, reader := { rx := { decision := some true } } }).chan 0).reader.rx.decision.isSome = true
    ∧ ((verifying 1).chan 0).state = .write ∧ ((verifying 1).chan 0).readback.count + 1 < blockSize ((verifying 1).chan 0).size
    ∧ ((verifying 1).chan 0).verifyList = [entry40 1] ∧ ((verifying 1).chan 0).nextSlot ≠ (entry40 1).slot
    ∧ readback40.sound ((verifying 1).chan 0).size ((verifying 1).chan 0).writeSession = true
    ∧ headerSeq readback40.header = (entry40 1).seq ∧ ~~~ readback40.crc = (entry40 1).crc
    ∧ ((verifying 3).readbackDeadline 0).isSome = true ∧ (entry40 3).sends ≤ base.params.rewriteLimit[(0 : Drive)]
    ∧ base.params.rewriteLimit[(0 : Drive)] < (entry40 4).sends := by decide +kernel

/-- A readback for each row of R96, at the edges of the stale window, and a write that runs past a block's end. -/
theorem witness_Readbacks_rows :
    let of_ (seq : Nat) : Readback := { readback40 with header := blockHeader 0 1 seq 7 100 }
    let s (w : Option (Word × Word)) : State := withChan (verifying 1) { (verifying 1).chan 0 with stale := w }
    let c := (s (some (41, 42))).chan 0
    let late : State := withChan base { c with verifyList := [entry40 1, { entry40 1 with slot := 6, seq := 41, time := 9 }] }
    let filling : State := withChan base { c with state := .unmounting, readback := { readback40 with count := 8190 } }
    ((s none).chan 0).verifyList = entry40 1 :: [] ∧ (base.chan 0).verifyList = [] ∧ c.state = .write ∧ c.stale = some (41, 42)
    ∧ (late.chan 0).verifyList = entry40 1 :: [{ entry40 1 with slot := 6, seq := 41, time := 9 }]
    ∧ late.timebase < 9 + timeoutMicros late.params.readbackTimeout
    ∧ (of_ 39).sound c.size c.writeSession = true ∧ precedes (headerSeq (of_ 39).header) (entry40 1).seq = true
    ∧ headerSeq (of_ 40).header = (entry40 1).seq ∧ headerSeq (of_ 41).header = 41
    ∧ precedes 41 (headerSeq (of_ 42).header) = true ∧ precedes 42 (headerSeq (of_ 42).header) = false
    ∧ precedes 42 (headerSeq (of_ 43).header) = true ∧ precedes (headerSeq (of_ 43).header) (entry40 1).seq = false
    ∧ ({ readback40 with trailer := [0, 0, 0, 0] } : Readback).sound c.size c.writeSession = false
    ∧ (filling.chan 0).state = ChanState.unmounting ∧ (filling.chan 0).readback.count + [(1 : Byte), 2].length = blockSize c.size
    ∧ [(3 : Byte)].length < blockSize c.size ∧ precedes (40 : Word) 41 = true ∧ precedes (40 : Word) 40 = false
    ∧ 1 ≤ filling.ring.freePlaces ∧ filling.ring.buffer.length + 1 ≤ 32 := by decide +kernel

/-- DC0 in READ with a block in progress. -/
def receiving (rx : BlockRx) (records : List ChunkRec) (free : List Nat) : State :=
  withChan { base with pool := { base.pool with free := free, records := records } }
    { state := .read, mount := some mount40, reader := { running := true, rx := rx } }

theorem witness_Readbacks_reading :
    let want : ChunkRec :=
      { packedRec with role := .restore 0, state := .reassembling, pages := [4], committed := 0, provisional := 100 }
    let full : ChunkRec := { want with provisional := 512 }
    let held := withSession (receiving {} [] [0])
      { state := .active, drive := some 0, queue := List.replicate 8 (.zero 3 2 64 false) }
    let verified := receiving {} (List.replicate 16 { packedRec with role := .verify 0, state := .complete }) [0]
    let data : BlockRx := { count := 40, walk := .data 60, targets := [0] }
    let frag : Frag := { setId := 5, seq := 0, last := true, number := 0, index := 0, records := [] }
    let owned : BlockRx := { data with owners := [.session 0], frags := [frag], targets := [] }
    (held.chan 0).state = .read ∧ (held.chan 0).reader.rx.decision = none ∧ (held.chan 0).reader.rx.count = 0
    ∧ (held.session 0).state = .active ∧ (held.session 0).drive = some 0 ∧ 8 ≤ (held.session 0).queue.length
    ∧ (verified.chan 0).reader.rx.count = 0
    ∧ 16 ≤ (verified.pool.records.filter fun r => r.role == .verify 0 && r.state == .complete).length
    ∧ 0 < owned.count ∧ owned.decision = none ∧ owned.walk = .data 60 ∧ owned.owners ≠ [] ∧ owned.frags ≠ []
    ∧ 1024 ≤ (receiving owned (List.replicate 1024 packedRec) [0]).pool.records.length
    ∧ data.owners = [] ∧ (receiving data [full] []).pool.free = [] ∧ 0 ∈ data.targets
    ∧ (receiving data [full] []).findRec 0 = some full ∧ full.committed + full.provisional < 4106
    ∧ full.pages.length ≤ (full.committed + full.provisional) / 512
    ∧ 16 ≤ data.count ∧ data.targets = [0] ∧ (receiving data [want] [0]).findRec 0 = some want ∧ [(1 : Byte), 2].length < 60
    ∧ data.count + [(1 : Byte), 2].length < blockSize ((receiving data [want] [0]).chan 0).size - 4 ∧ want.pages.Nodup
    ∧ want.committed + want.provisional + [(1 : Byte), 2].length ≤ 512 * want.pages.length := by decide +kernel

theorem witness_Readbacks_judged :
    let ended : BlockRx := { count := 8190, walk := .finished }
    let block (seq : Nat) : BlockRx :=
      { count := 8192, walk := .finished, crc := 0xFFFFFFFF, header := blockHeader 0 0 seq 7 0, trailer := [0, 0, 0, 0] }
    let r : Reader := { running := true, expected := some 40 }
    ended.decision = none ∧ 16 ≤ ended.count ∧ ended.walk = .finished ∧ ended.count + 1 < blockSize 0
    ∧ ended.count + 2 = blockSize 0 ∧ (block 40).bad = false ∧ ofBE (block 40).trailer = (~~~ (block 40).crc).toNat
    ∧ r.expected = some (headerSeq (block 40).header) ∧ headerSeq (block 39).header ≠ 40
    ∧ precedes (headerSeq (block 39).header) 40 = true ∧ precedes 40 (headerSeq (block 41).header) = true
    ∧ ({ r with recovering := true } : Reader).recovering = true ∧ r.recovering = false
    ∧ r.recoveryCount < base.params.recoveryWindow
    ∧ base.params.recoveryWindow ≤ ({ r with recovering := true, recoveryCount := 4096 } : Reader).recoveryCount
    ∧ ({ block 40 with bad := true } : BlockRx).bad ≠ false := by decide +kernel

/-- DC0 in READ with a block of one fragment decided. -/
def decided (ok : Bool) (writes : Nat) : State :=
  withChan { base with pool := { base.pool with
      records := [{ packedRec with role := .restore 0, state := .reassembling, created := true }] } }
    { state := .read, mount := some mount40, reader := { running := true, rx :=
      { decision := some ok, writes := writes
        frags := [{ setId := 5, seq := 0, last := true, number := 0, index := 0, records := [0] }] } } }

theorem witness_Blocks : (owing (decided true 1) (.reassembly 0)).path.port.issued = some (.owned (.reassembly 0))
    ∧ ((decided true 1).chan 0).reader.staleWrites = 0 ∧ 1 ≤ ((decided true 1).chan 0).reader.rx.writes
    ∧ ((decided true 0).chan 0).reader.rx.decision = some true ∧ ((decided true 0).chan 0).reader.rx.writes = 0
    ∧ ((decided false 0).chan 0).reader.rx.decision = some false
    ∧ 0 ∈ ((decided false 0).chan 0).reader.rx.touched ∧ ((decided false 0).findRec 0).map (·.created) = some true := by
  decide +kernel

/-- DC0 in READ with an accepted block of one fragment, wanted by session 0 or by the verify pass. -/
def accepted (last : Bool) (role : Role) (verify : Bool) (x : Session) : State :=
  let r : ChunkRec := { packedRec with role := role, state := .reassembling, created := true, provisional := 13, lastIn := last }
  withChan (withSession { base with pool := { base.pool with records := [r] } } x)
    { state := .read, mount := some mount40, reader := { running := true, verify := verify, rx :=
      { decision := some true
        frags := [{ setId := 5, seq := 0, last := last, number := 0, index := 0, records := [0] }] } } }

theorem witness_Blocks_commit :
    let f (last : Bool) : Frag := { setId := 5, seq := 0, last := last, number := 0, index := 0, records := [0] }
    let x : Session := { state := .active, drive := some 0, setId := 5, lastSeq := some 3 }
    let s := accepted true (.restore 0) false x
    let v (last : Bool) := accepted last (.verify 0) true {}
    (s.chan 0).reader.rx.decision = some true ∧ (s.chan 0).reader.rx.writes = 0 ∧ (s.chan 0).reader.rx.frags = [f true]
    ∧ (s.findRec 0).map (fun r => (r.role, r.state, r.lastIn, r.seq)) = some (.restore 0, .reassembling, true, 0)
    ∧ (s.chan 0).reader.verify = false ∧ (s.session 0).state = .active ∧ (s.session 0).drive = some 0
    ∧ (s.session 0).final = false ∧ (s.session 0).pendingRec = none ∧ (s.session 0).setId = 5 ∧ (s.session 0).nextSeq = 0
    ∧ precedes 3 0 = false ∧ (∀ j : SessionId, j ≠ 0 → (s.session j).drive ≠ some 0)
    ∧ (∀ last, ((v last).chan 0).reader.verify = true ∧ ((v last).chan 0).reader.pendingVerify = none
      ∧ ((v last).chan 0).reader.rx.frags = [f last]
      ∧ ((v last).findRec 0).map (fun r => (r.role, r.state, r.lastIn)) = some (.verify 0, .reassembling, last)
      ∧ ∀ j : SessionId, ((v last).session j).drive ≠ some 0) := by decide +kernel

theorem witness_Blocks_pending :
    let f : Frag := { setId := 5, seq := 4, last := true, number := 0, index := 0, records := [0] }
    let r : ChunkRec := { packedRec with role := .restore 0, state := .reassembling, seq := 4 }
    let x (cont : Bool) : Session := { state := .active, drive := some 0, setId := 5, nextSeq := 2, cont := cont }
    let s (y : Session) := withSession { base with pool := { base.pool with records := [r] } } y
    let pass := withChan (s {}) { state := .read, reader := { running := true, verify := true, pendingVerify := some 0 } }
    (pass.chan 0).reader.verify = true ∧ (pass.chan 0).reader.pendingVerify = some 0 ∧ pass.findRec 0 = some r
    ∧ ({ f with number := 1 } : Frag).number = 1 ∧ 0 ∈ f.records
    ∧ (∀ cont, ((s { x cont with pendingRec := some 0 }).session 0).pendingRec = some 0
        ∧ ((s { x cont with pendingRec := some 0 }).session 0).state = .active
        ∧ ((s (x cont)).session 0).cont = cont ∧ ((s (x cont)).session 0).final = false
        ∧ ((s (x cont)).session 0).pendingRec = none ∧ ((s (x cont)).session 0).lastSeq = none)
    ∧ r.id ∈ f.records ∧ f.setId = (x true).setId ∧ precedes (x true).nextSeq f.seq = true ∧ f.records = [r.id]
    ∧ r.role = .restore 0 ∧ r.seq = f.seq ∧ ({ x true with lastSeq := some 3 } : Session).lastSeq = some 3
    ∧ ((3 : Word) - 2).toNat < 2147483649 := by decide +kernel

theorem witness_Sessions :
    let x : Session := { state := .active, drive := some 0, buffer := { bytes := [1, 2, 3, 4] }, stall := some 0 }
    let s := withSession reading x
    (Access.read 0x80030000 2).shaped = true ∧ s.restoreSession 0x80030000 = some 0 ∧ (s.session 0).state ≠ .free
    ∧ (s.session 0).buffer.offset + 2 < (s.session 0).buffer.bytes.length
    ∧ ((withSession s { x with buffer := {} }).session 0).buffer.bytes.length ≤ 0
    ∧ ((withSession s { x with buffer := {} }).session 0).queue = [] ∧ (s.session 0).stall = some 0
    ∧ Brings (.cancelRestore 1 0) s ∧ Brings (.cancelRestore 1 0) reading ∧ Brings (.cancelRestore 1 4) s ∧ 3 < (4 : Word).toNat ∧ (0 : Word).toNat = (0 : SessionId).val
    ∧ (reading.session 0).state = .free ∧ s.ring.room = true
    ∧ s.restore.job = none ∧ ((withSession s { x with buffer := {}, queue := [.zero 3 2 64 false] }).session 0).queue = .zero 3 2 64 false :: []
    ∧ (s.modRestore fun y => { y with job := some { requester := .session 0, record := 0, headerBad := false, discarded := false } }).restore.job.isSome
      = true := by decide +kernel

/-- Reads of 8 bytes that pass the end of the buffer, marked or not, and of a zero entry of 5 bytes, the last or not. -/
theorem witness_Sessions_end :
    let x (m : Bool) : Session := { state := .active, drive := some 0, buffer := { bytes := [1, 2, 3, 4], offset := 2, setend := m } }
    let y (n : Nat) : Session := { state := .active, drive := some 0, lastSeq := some 3, queue := [.zero 3 n 5 false] }
    (Access.read 0x80030000 8).shaped = true
    ∧ (∀ m, ((withSession reading (x m)).session 0) = x m ∧ (x m).buffer.offset < (x m).buffer.bytes.length
        ∧ (x m).buffer.bytes.length ≤ (x m).buffer.offset + 8 ∧ (x m).buffer.setend = m ∧ (x m).buffer.lastChunk = false)
    ∧ ((withSession reading (y 1)).session 0).queue = .zero 3 1 5 false :: [] ∧ (y 1).lastSeq = some 3 ∧ 5 ≤ 8 ∧ 1 ≤ 1
    ∧ ((withSession reading (y 2)).session 0).queue = .zero 3 2 5 false :: [] ∧ ¬ 2 ≤ 1
    ∧ (y 1).buffer.bytes.length ≤ (y 1).buffer.offset ∧ reading.restore.job = none ∧ reading.ring.room = true := by decide +kernel

/-- R124, R125: the worked end of a session: the bytes left, padded with zero bytes, and RESTORE_END with the bytes delivered. -/
theorem test_session_ends_with_its_last_chunk :
    let x : Session := { state := .active, tag := 9, setId := 7, nextSeq := 40, delivered := 5
                         buffer := { bytes := [1, 2, 3, 4], offset := 2, setend := true } }
    let t := after (exec (.restoreRead 0x80030000 4) (withSession base x))
    t.path.answers = [.done [3, 4, 0, 0]] ∧ t.ring.buffer = [{ kind := .restoreEnd, tag := 9, e1 := 7, e2 := 40, e3 := 7 }]
    ∧ (t.session 0).state = .free := by decide +kernel

/-- R40: a chunk in the unpack engine at AWAIT_NEXT goes on as a discarded job. -/
theorem test_await_next_discards_the_decode :
    let j : DecodeJob := { requester := .session 0, record := 0, headerBad := false, discarded := false }
    let s := (withSession base { state := .active, drive := some 0, queue := [.chunk 1] }).modRestore fun y => { y with job := some j }
    (s.awaitNext 0).restore.job = some { j with discarded := true } ∧ ((s.awaitNext 0).session 0).queue = [.chunk 1] := by
  decide +kernel

/-- A part with a MOUNT of the cartridge of slot 4 queued. -/
def mounting : State :=
  withCart { reading with loader := { reading.loader with
    queue := [{ newReq .mount (some 4) 25 with cart := some 3, internal := true }], nextStamp := 1 } } 4 dataCart

theorem witness_OpenRestore : Brings (.openRestore 1 true false 0 5 7 0 4 2) mounting
    ∧ Brings (.openRestore 1 true false 0 5 7 0 4 2) (withCart reading 4 dataCart)
    ∧ Brings (.openRestore 1 false true 0 5 7 9 25 0) (loaded reading) ∧ Brings (.openRestore 1 false true 0 5 7 9 24 0) reading ∧ 3 < (4 : Word).toNat ∧ (24 : Word).toNat = 24
    ∧ 26 < (27 : Word).toNat ∧ (0 : Word).toNat = (0 : SessionId).val ∧ (4 : Word).toNat = (4 : Loc).val ∧ (4 : Loc) ≠ 24
    ∧ (reading.session 0).state = .free ∧ (reading.loc 4).cart = none ∧ (mounting.loc 4).cart = some dataCart
    ∧ dataCart.media = .data ∧ cleanCart.media = .cleaning
    ∧ (25 : Loc).val = 25 + (0 : Drive).val ∧ ((loaded reading).loc 25).cart = some dataCart
    ∧ ((withState (loaded reading) .failed).chan 0).state = .failed ∧ ((loaded reading).chan 0).state ≠ .failed
    ∧ (mounting.loader.queue.find? (fun r => r.kind == .mount && r.cart == some dataCart.uid)).isSome = true
    ∧ ((withCart reading 4 dataCart).loader.queue.find? (fun r => r.kind == .mount && r.cart == some dataCart.uid)) = none
    ∧ (withCart reading 4 dataCart).loader.queue.length < 10 ∧ 10 ≤ (List.replicate 10 (newReq .move none 0)).length := by
  decide +kernel

theorem witness_Decodes :
    let r : ChunkRec := { packedRec with role := .restore 0, state := .complete, pages := [], committed := 0 }
    let s := withSession { base with pool := { base.pool with records := [r] } } { state := .active, queue := [.chunk 0] }
    let j (q : Requester) : DecodeJob := { requester := q, record := 0, headerBad := false, discarded := false }
    let busy (q : Requester) := working (s.modRestore fun x => { x with job := some (j q) }) .unpack
    let full := ((busy (.session 0)).poke (base.pageAddr 0) (storedChunk .copy false [1, 2, 3])).modPool fun p =>
      { p with records := [{ r with pages := [0], committed := 13 }] }
    s.restore.job = none ∧ s.restore.lastServed = .verify 1 ∧ (s.session 0).state ≠ .free
    ∧ (s.session 0).buffer.bytes.length ≤ (s.session 0).buffer.offset ∧ (s.session 0).queue.head? = some (.chunk 0)
    ∧ s.findRec 0 = some r ∧ (busy (.verify 1)).restore.job = some (j (.verify 1)) ∧ (busy (.verify 1)).hasJob .unpack = true
    ∧ (busy (.session 0)).restore.job = some (j (.session 0)) ∧ (busy (.session 0)).findRec 0 = some r ∧ r.lostLen ≠ 0
    ∧ (decodeStored ((busy (.session 0)).storedBytes r)).1 ≠ .good ∧ (s.session 0).cont = false
    ∧ ((withSession s { state := .active, cont := true }).session 0).cont = true
    ∧ (full.findRec 0).map (fun x => decodeStored (full.storedBytes x)) = some (.good, [1, 2, 3]) := by decide +kernel

theorem witness_MoveCommands :
    let busy : State := { reading with loader := { reading.loader with queue := List.replicate 8 (newReq .move (some 1) 2) } }
    let r : Req := { newReq .move (some 1) 2 with id := 6 }
    let one : State := { reading with loader := { reading.loader with queue := [r] } }
    Brings (.move 1 false 1 2) reading ∧ Brings (.move 1 false 1 2) busy ∧ Brings (.exportCart 1 true 1) reading
    ∧ Brings (.inventory 1 1 2) reading ∧ Brings (.cancelMove 1 6 0) one ∧ Brings (.cancelMove 1 6 1) reading
    ∧ Brings (.move 1 false 27 2) reading ∧ Brings (.exportCart 1 false 24) reading ∧ Brings (.inventory 1 2 1) reading
    ∧ 26 < (27 : Word).toNat ∧ (24 : Word).toNat = 24 ∧ 24 < (25 : Word).toNat
    ∧ (1 : Word).toNat = (1 : Loc).val ∧ (2 : Word).toNat = (2 : Loc).val ∧ (1 : Loc) ≠ 2 ∧ (1 : Loc) ≠ 24
    ∧ 8 ≤ (busy.loader.queue.filter (!·.internal)).length ∧ reading.loader.queue.length < 8
    ∧ (1 : Loc).val ≤ (24 : Loc).val ∧ (24 : Loc).val ≤ 24 ∧ 1 < (2 : Word).toNat
    ∧ (∀ q ∈ reading.loader.queue, q.id.toNat = 6 → q.internal ≠ true)
    ∧ one.loader.queue.find? (fun q => q.id.toNat == 6 && q.internal == false) = some r ∧ r.kind ≠ .returnCart
    ∧ r.state ≠ .active ∧ one.loader.preempt = none := by decide +kernel

theorem witness_LoaderSettings :
    let slot (ws : List Word) (k : Nat) : Nat := ((ws.getD (k / 4) 0).toNat / 256 ^ (k % 4)) % 256
    Brings (.setScratch 1 3 0x170500 0 0 0 0 0) reading ∧ Brings (.doorLock 1) reading ∧ Brings (.doorUnlock 1) reading
    ∧ Brings (.drivePower 1 0 1) reading ∧ Brings (.drivePower 1 0 2) reading ∧ Brings (.setScratch 1 25 0 0 0 0 0 0) reading
    ∧ 24 < (25 : Word).toNat ∧ (∃ k < 2, 23 < slot [0x1800] k)
    ∧ slot [0x0505] 0 = slot [0x0505] 1 ∧ (∀ k < 3, slot [0x170500] k ≤ 23)
    ∧ (∀ j < 3, ∀ k < 3, j < k → slot [0x170500] j ≠ slot [0x170500] k)
    ∧ 1 < (2 : Word).toNat ∧ (0 : Word).toNat = (0 : Drive).val ∧ (reading.chan 0).state = .unmounted
    ∧ ((withState reading .idle).chan 0).state ≠ .unmounted ∧ (reading.filter (.power 0)).debounced ≠ .on
    ∧ ((withFilter reading (.power 0) { raw := .on, debounced := .on }).filter (.power 0)).debounced = .on := by decide +kernel

theorem witness_Cleaning :
    let cleaning := withChan reading { state := .mounting, cleaningMark := true, cleanTimer := some 9 }
    Brings (.clean 1 0) reading ∧ Brings (.cleanDone 1 0) cleaning ∧ Brings (.setCleanUses 1 4 255) (withCart reading 4 cleanCart)
    ∧ Brings (.clean 1 2) reading ∧ Brings (.setCleanUses 1 4 256) reading ∧ Brings (.cleanDone 1 0) reading
    ∧ 1 < (2 : Word).toNat ∧ 26 < (27 : Word).toNat ∧ 255 < (256 : Word).toNat
    ∧ (0 : Word).toNat = (0 : Drive).val ∧ (4 : Word).toNat = (4 : Loc).val ∧ (255 : Word).toNat ≤ 255
    ∧ ((withCart reading 4 cleanCart).loc 4).cart = some cleanCart
    ∧ (cleanCart.label.bind (·.getLast?)) = some 0x43 ∧ (dataCart.label.bind (·.getLast?)) ≠ some 0x43
    ∧ (reading.loc 4).cart = none ∧ (reading.chan 0).state ≠ .mounting ∧ (cleaning.chan 0).state = .mounting
    ∧ (cleaning.chan 0).cleaningMark = true ∧ (cleaning.chan 0).cleanTimer = some 9 := by decide +kernel

theorem witness_PickerOrders :
    let o : Order := { number := 4, stage := .toDest, loc := some 7, deadline := 50 }
    let moving := withPicker base { state := .travel, order := some o, inFlight := true }
    let abandoned := withPicker base { state := .faulted, order := some o }
    base.running = true ∧ base.picker.order = none ∧ abandoned.picker.order = some o ∧ abandoned.picker.inFlight = false
    ∧ (withPicker base { state := .homing, order := some o }).picker.state = .homing ∧ base.doorOpen = false
    ∧ abandoned.picker.state ≠ .homing ∧ moving.picker.order = some o ∧ moving.picker.inFlight = true ∧ o.stage = .toDest
    ∧ o.loc = some 7 ∧ moving.picker.cut = false ∧ moving.inOpenMagazine 7 = false ∧ moving.picker.active = none
    ∧ Brings (.recoverPicker 1) reading ∧ Brings (.recoverPicker 1) (withPicker reading { state := .faulted })
    ∧ Brings (.resetLoader 1) reading ∧ reading.picker.state ≠ .faulted
    ∧ (withPicker reading { state := .faulted }).picker.state = .faulted := by decide +kernel

/-- A request ACTIVE on a leg from slot 3. -/
def legReq (k : MoveKind) (dst : Loc) : Req := { newReq k (some 3) dst with stamp := 5, id := 77, state := .active }

/-- A request is served, and one of its orders is in flight. -/
def inLeg (stage : Stage) (l : Loc) (c : Option Cart) (r : Req) : State :=
  let o : Order := { number := 4, stage := stage, loc := some l, deadline := 50 }
  (withPicker base { state := stage.pickState, order := some o, inFlight := true, active := some 5, cart := c }).modLoader
    fun x => { x with queue := [{ newReq .inventory none 24 with stamp := 2 }, r] }

/-- The request served and the order in flight of a leg. -/
theorem witness_PickerOrders_leg :
    let s := inLeg .grip 3 none (legReq .move 17)
    s.running = true ∧ s.activeReq = some (legReq .move 17)
    ∧ s.picker.order = some { number := 4, stage := .grip, loc := some 3, deadline := 50 } ∧ s.picker.inFlight = true
    ∧ s.picker.cut = false ∧ s.loader.preempt = none ∧ s.inOpenMagazine 3 = false ∧ s.inOpenMagazine 17 = false
    ∧ (∀ i, (s.session i).mountReq ≠ some 5) ∧ 8 ≤ s.ring.freePlaces ∧ s.ring.buffer.length + 8 ≤ 32
    ∧ (legReq .move 17).marked = false ∧ s.loader.queue.length ≤ 10 ∧ (s.picker.legSource.getD mailLoc).val < 25
    ∧ (s.loc 3).cart = none ∧ ((withCart s 3 dataCart).loc 3).cart = some dataCart ∧ dataCart.label ≠ none
    ∧ ((withCart s 3 { uid := 6 }).loc 3).cart = some { uid := 6 } ∧ (inLeg .toSource 3 none (legReq .move 17)).picker.cart = none
    ∧ (inLeg .toSource 3 none { legReq .move 17 with marked := true }).activeReq = some { legReq .move 17 with marked := true } := by
  decide +kernel

/-- A label that is read: none, no label, a new one, the one held, and one that another record holds. -/
theorem witness_PickerOrders_label :
    let s := inLeg .readLabel 3 (some { uid := 6 }) (legReq .move 17)
    let t : List Byte := [0x41, 0x43]
    s.picker.cart = some { uid := 6 } ∧ 1 ≤ t.length ∧ t.length ≤ 8 ∧ t.all labelChar = true ∧ ([0x20] : List Byte).all labelChar = false
    ∧ (inLeg .readLabel 3 (some cleanCart) (legReq .move 17)).picker.cart = some cleanCart ∧ cleanCart.label = some t
    ∧ (∀ m, (s.loc m).cart = none) ∧ ((withCart s 8 cleanCart).loc 8).cart = some cleanCart ∧ cleanCart.uid ≠ 6
    ∧ (∀ n, n ≠ 8 → ((withCart s 8 cleanCart).loc n).cart = none) := by decide +kernel

/-- Releases into a slot, between two legs, and into a bay, of a data cartridge and of a cleaner. -/
theorem witness_PickerOrders_release :
    let two : Req := { legReq .mount 17 with second := some (4, 25) }
    let s (k : MoveKind) := inLeg .release 26 (some cleanCart) { legReq k 26 with drive := some 1 }
    (∀ k ∈ [MoveKind.move, .exportCart, .importCart, .returnCart], (inLeg .release 17 (some dataCart) (legReq k 17)).activeReq
      = some (legReq k 17))
    ∧ (inLeg .release 17 (some dataCart) two).activeReq = some two ∧ (17 : Loc).val < 25 ∧ (26 : Loc) = bayLoc 1
    ∧ (legReq .move 17).second = none ∧ (legReq .move 17).recorded = none
    ∧ (∀ st ∈ [ChanState.unmounted, .failed, .write, .unmounting, .read, .mounting],
        (((s .move).modChan 1 fun c => { c with state := st }).chan 1).state = st
        ∧ ((s .move).modChan 1 fun c => { c with state := st }).activeReq = (s .move).activeReq)
    ∧ dataCart.media ≠ .cleaning ∧ cleanCart.media = .cleaning ∧ dataCart.home = some 4 ∧ (s .mount).loader.preempt = none
    ∧ ((withSession (s .mount) { state := .waitMount, mountReq := some 5 }).session 0).mountReq = some 5
    ∧ ((s .clean).activeReq.bind (·.drive)) = some 1 ∧ (s .clean).activeReq.map (·.legsDone) = some 0 := by decide +kernel

/-- R160, R87: a load into the bay of a channel that a power fault has failed during the leg makes it MOUNTING, with the mount
timer of code 13, and keeps its first-fault record. -/
theorem test_load_into_a_failed_channel_is_mounting :
    let f : FirstFault := { cause := .power, time := 5, seq := 0, named := false, header := List.replicate 16 0 }
    let s := withChan (inLeg .release 25 (some dataCart) (legReq .move 25)) { state := .failed, firstFault := some f }
    let c := (after (exec (.motionReply 4 .done) s)).chan 0
    c.state = .mounting ∧ c.mountTimer = some (2 ^ 26) ∧ c.firstFault = some f := by decide +kernel

/-- R114: a load into the bay of a channel in READ stops its reader. -/
theorem test_load_stops_a_reader :
    let s := withChan (inLeg .release 25 (some dataCart) (legReq .move 25)) { state := .read, reader := { running := true } }
    let c := (after (exec (.motionReply 4 .done) s)).chan 0
    c.state = .mounting ∧ c.reader.running = false := by decide +kernel

/-- The first leg of a CHANGEOVER with a slot of the scratch list usable, with none, and the last leg of a CLEAN that ends well,
also with a preempt in progress, and of one that ends with the failure recorded for it. -/
theorem witness_PickerOrders_rounds :
    let change : Req := { legReq .changeover 17 with drive := some 0 }
    let s (l : List (Fin 24)) := withFilter (withCart ((inLeg .release 17 (some cleanCart) change).modLoader fun x =>
      { x with scratch := l }) 6 dataCart) (.presence 6) { raw := .on, debounced := .on }
    let back : Req := { legReq .clean 6 with drive := some 0, legsDone := 1, firstSrc := some 6, cart := some 4 }
    let t (q : Req) := inLeg .release 6 (some cleanCart) q
    let busy : Preempt := { victim := 1, cart := none, mount := 2, phase := .restoring }
    (∀ l ∈ [[], [5], [5, 6]], (s l).activeReq = some change ∧ (s l).picker.cart = some cleanCart ∧ (s l).loader.scratch = l)
    ∧ change.legsDone = 0 ∧ change.second = none ∧ change.recorded = none ∧ (s [5, 6]).presence (slotLoc 6) = .full
    ∧ ((s [5, 6]).loc (slotLoc 6)).reserved = none ∧ (s [5, 6]).inOpenMagazine (slotLoc 6) = false
    ∧ ((s [5, 6]).loc (slotLoc 6)).cart = some dataCart ∧ dataCart.media = .data ∧ dataCart.suspect = false
    ∧ (s [5, 6]).presence (slotLoc 5) ≠ .full
    ∧ (∀ q ∈ [back, { back with recorded := some .timeout }], (t q).activeReq = some q ∧ q.kind = .clean ∧ 1 ≤ q.legsDone
        ∧ q.second = none ∧ q.cart = some cleanCart.uid ∧ (t q).loader.preempt = none)
    ∧ back.recorded = none ∧ ((t back).setPreemptRec (some busy)).loader.preempt = some busy
    ∧ ((t back).setPreemptRec (some busy)).activeReq = some back ∧ back.drive = some 0 ∧ back.firstSrc = some 6
    ∧ (∀ i, ((t back).session i).mountReq ≠ some 5) ∧ (∀ m, ((t back).loc m).cart = none) ∧ (t back).picker.cut = false
    ∧ (6 : Loc).val < 25 ∧ (t back).ring.reserved.toNat + 8 ≤ (t back).ring.freePlaces := by decide +kernel

/-- A visit, one at the range's end, a cut leg with and without a cartridge, and homing. -/
theorem witness_PickerOrders_other :
    let v : Req := { newReq .inventory none 24 with stamp := 5, state := .active, first := 3, last := 4, cursor := 3 }
    let cut := (inLeg .toDest 17 (some dataCart) (legReq .returnCart 17)).modPicker fun p => { p with cut := true }
    let home (l : Level) := withFilter (withPicker base { order := some { number := 1, stage := .home, loc := none, deadline := 9 }
                                                          inFlight := true, recovery := some 3, cart := some dataCart }) .gripper { debounced := l }
    (inLeg .visit 3 none v).activeReq = some v ∧ v.marked = false ∧ v.cursor + 1 ≤ v.last ∧ v.last < 4 + 1 ∧ v.kind = .inventory
    ∧ cut.picker.cut = true ∧ cut.picker.cart.isSome = true ∧ (cut.activeReq.map (·.kind)) = some .returnCart
    ∧ ((home .on).filter .gripper).debounced = .on ∧ ((home .off).filter .gripper).debounced ≠ .on
    ∧ (home .on).loader.queue.length < 10 ∧ (home .on).picker.inFlight = true := by decide +kernel

/-- Cut legs: a grip of a cartridge with and without a label, a label read, a visit's reading, a release, and a grip whose
destination's magazine alone is open. -/
theorem witness_PickerOrders_cut :
    let cut (s : State) : State := s.modPicker fun p => { p with cut := true }
    let v : Req := { newReq .inventory none 24 with stamp := 5, state := .active, first := 3, last := 4, cursor := 3 }
    let grip (c : Cart) := withCart (cut (inLeg .grip 3 none (legReq .move 17))) 3 c
    let opened := (inLeg .grip 3 none (legReq .move 17)).modLoader fun x => { x with magOpen := #v[false, true] }
    let reads := cut (inLeg .readLabel 3 (some dataCart) (legReq .returnCart 17))
    (grip dataCart).picker.cut = true ∧ ((grip dataCart).loc 3).cart = some dataCart ∧ ((grip { uid := 6 }).loc 3).cart = some { uid := 6 }
    ∧ (grip dataCart).activeReq = some (legReq .move 17) ∧ (grip dataCart).loader.preempt = none
    ∧ opened.inOpenMagazine 17 = true ∧ opened.picker.cut = false ∧ reads.activeReq.map (·.kind) = some .returnCart
    ∧ reads.picker.cut = true ∧ reads.picker.cart = some dataCart ∧ (reads.picker.legSource.getD mailLoc).val < 25
    ∧ (cut (inLeg .visitRead 3 none v)).activeReq = some v ∧ (cut (inLeg .visitRead 3 none v)).picker.cart = none
    ∧ (cut (inLeg .release 17 (some dataCart) (legReq .move 17))).picker.cart = some dataCart
    ∧ (cut (inLeg .release 17 (some dataCart) (legReq .move 17))).running = true := by decide +kernel

theorem witness_Sensors :
    let f : Filter := { raw := .on, candidate := some .on, deadline := some 9 }
    let s := withFilter base (.presence 3) f
    let awaited := s.setLoc 3 { expected := some true }
    base.running = true ∧ (Sensor.presence 3).takes .on = true ∧ Level.off = (base.filter (.presence 3)).debounced
    ∧ Level.on ≠ (base.filter (.presence 3)).debounced ∧ (s.filter (.presence 3)).candidate = some .on
    ∧ (base.filter (.presence 3)).candidate ≠ some .on ∧ (s.filter (.presence 3)).deadline = some 9
    ∧ (s.filter (.presence 3)).debounced = .off ∧ (awaited.loc 3).expected = some true ∧ (s.loc 3).expected = none
    ∧ (s.loc 3).cart = none ∧ presenceSensor 3 = .presence 3 ∧ ((withCart s 3 dataCart).loc 3).cart = some dataCart
    ∧ 13 ≤ s.ring.freePlaces ∧ s.ring.buffer.length + 13 ≤ 32 := by decide +kernel

/-- A change that is about to settle, for each input. -/
def settling (s : State) (x : Sensor) (old new : Level) : State :=
  withFilter s x { raw := new, debounced := old, candidate := some new, deadline := some 9 }

theorem witness_Sensors_places :
    let gone := settling (withCart base 24 dataCart) (.presence 24) .on .off
    (gone.filter (.presence 24)).candidate = some .off ∧ (gone.filter (.presence 24)).debounced ≠ .off
    ∧ presenceSensor 24 = .presence 24 ∧ (gone.loc 24).expected ≠ some false ∧ (gone.loc 24).cart = some dataCart
    ∧ ((gone.setLoc 24 { expected := some false }).loc 24).expected = some false ∧ presenceSensor 25 = .bay 0
    ∧ (∀ st ∈ [ChanState.ejectWait, .mounting, .idle, .write, .read, .unmounting, .unmounted, .failed],
        ((settling (withState base st) (.bay 0) .on .off).chan 0).state = st
        ∧ ((settling (withState base st) (.bay 0) .on .off).filter (.bay 0)).debounced = .on
        ∧ ((withState base st).chan 0).firstFault = none) := by decide +kernel

theorem witness_Sensors_panel :
    let o : Order := { number := 1, stage := .grip, loc := some 14, deadline := 3 }
    let latch := settling (withPicker base { order := some o, inFlight := true }) (.latch 1) .on .off
    (latch.filter (.latch 1)).candidate = some .off ∧ latch.picker.order = some o ∧ latch.picker.inFlight = true
    ∧ magOf 14 = some 1 ∧ magOf 3 ≠ some 1 ∧ base.params.autoInventory = 1 ∧ base.loader.queue.length < 10
    ∧ ((settling (withCart base 3 dataCart) (.latch 0) .off .on).loc 3).cart = some dataCart
    ∧ ((settling base .door .off .on).filter .door).candidate = some .on ∧ base.picker.order = none ∧ base.picker.state = .homing
    ∧ ((settling base .door .on .off).filter .door).candidate = some .off := by decide +kernel

theorem witness_Sensors_button_and_power :
    let s := settling (withFilter base (.presence 24) { raw := .on, debounced := .on }) .button .off .on
    base.presence mailLoc ≠ .full ∧ s.presence mailLoc = .full ∧ s.loader.exportWaiting = false
    ∧ (∀ r ∈ s.loader.queue, r.involves mailLoc = false) ∧ (newReq .move (some 1) 24).involves mailLoc = true
    ∧ (s.presence (slotLoc 0) = .empty ∧ (s.loc (slotLoc 0)).reserved = none ∧ s.inOpenMagazine (slotLoc 0) = false)
    ∧ (∀ k, (s.modLoader fun l => { l with magOpen := #v[true, true] }).inOpenMagazine (slotLoc k) = true)
    ∧ ((settling (withState base .idle) (.power 0) .off .on).chan 0).state ≠ .failed
    ∧ ((settling (withState base .failed) (.power 0) .off .on).chan 0).state = .failed
    ∧ (base.chan 0).placeQueue = [] ∧ (base.chan 0).held = none ∧ (base.chan 0).reader.running = false
    ∧ (∀ i, (base.session i).drive ≠ some 0) ∧ (∀ o, (base.stream o).state = .closed) := by decide +kernel

/-- A PARKED picker, a MOVE that waits on an UNSURE place, an EXPORT that can run, and an INVENTORY behind it. -/
def twoMoves : State :=
  let s := withFilter (withFilter (withPicker base { state := .parked }) (.presence 1) { raw := .on, candidate := some .on, deadline := some 9 })
    (.presence 4) { raw := .on, debounced := .on }
  { s with loader := { s.loader with
    queue := [{ newReq .move (some 1) 2 with stamp := 3 }, { newReq .exportCart (some 4) 24 with stamp := 5 },
      { newReq .inventory none 24 with stamp := 6, last := 24 }] } }

theorem witness_EventsEnd :
    let due := base.modLoader fun l => { l with cleaningDue := #v[true, false] }
    let full := withChan base { state := .write, mount := some mount40, full := some .warning }
    State.reset.running = false ∧ base.loader.queue = [] ∧ base.loader.preempt = none
    ∧ (∀ d : Drive, base.loader.cleaningDue[d] = false) ∧ base.params.autoChangeover = 0
    ∧ (twoMoves.loader.queue.map (·.stamp)).Pairwise (· < ·) ∧ twoMoves.running = true ∧ twoMoves.picker.state = .parked
    ∧ twoMoves.picker.order = none ∧ twoMoves.picker.active = none ∧ twoMoves.doorOpen = false
    ∧ twoMoves.selectionOrder = [3] ++ 5 :: [6] ∧ twoMoves.presence 1 = .unsure ∧ twoMoves.presence 4 = .full
    ∧ twoMoves.inOpenMagazine 4 = false ∧ twoMoves.presence 24 = .empty ∧ twoMoves.inOpenMagazine 24 = false
    ∧ (twoMoves.loc 24).cart = none ∧ (twoMoves.loc 24).reserved = none
    ∧ due.loader.cleaningDue[(0 : Drive)] = true ∧ due.loader.noCleaner[(0 : Drive)] = false
    ∧ (due.chan 0).state = .unmounted ∧ due.presence (bayLoc 0) = .empty ∧ due.cleanQueued 0 = false
    ∧ due.loader.queue.length < 10 ∧ (base.chan 0).full = none ∧ (full.chan 0).full.isSome = true
    ∧ (full.chan 0).drained = true ∧ (full.chan 0).changeoverAsked = false
    ∧ ({ full.params with autoChangeover := 1 } : Params).autoChangeover = 1
    ∧ 10 ≤ (List.replicate 10 (newReq .move none 0)).length := by decide +kernel

/-- A bay as source and as destination of a MOVE and of a MOUNT, at each row of R152. -/
theorem witness_EventsEnd_bays :
    let full (x : State) (p : Sensor) := withFilter x p { raw := .on, debounced := .on }
    let q : Req := { newReq .move (some 25) 3 with stamp := 3 }
    let m (pref : Option Drive) : Req := { newReq .mount (some 4) 25 with stamp := 3, pref := pref }
    let with_ (r : Req) (x : State) : State := x.modLoader fun l => { l with queue := [r] }
    let parked := full (withPicker base { state := .parked }) (.presence 4)
    let out (st : ChanState) := with_ q (withState (loaded base) st)
    let into (x : State) := with_ (m (some 0)) x
    (∀ st ∈ [ChanState.idle, .read, .write, .unmounting, .mounting, .ejectWait, .failed, .unmounted],
      (out st).findReq 3 = some q ∧ ((out st).chan 0).state = st ∧ (out st).presence 25 = .full ∧ (out st).bayPos 0 = .on
      ∧ ((out st).chan 0).images = [] ∧ ((out st).chan 0).held = none ∧ ((out st).chan 0).activity = .idle)
    ∧ q.src = some (bayLoc 0) ∧ (out .idle).presence 3 = .empty ∧ (out .idle).loader.preempt = none
    ∧ ((assembling .idle).chan 0).state = .write ∧ ((assembling .idle).chan 0).images ≠ []
    ∧ (into base).presence 4 = .empty ∧ (into parked).findReq 3 = some (m (some 0)) ∧ (into parked).presence 4 = .full
    ∧ ((into parked).chan 0).state = .unmounted ∧ (into parked).cleanQueued 0 = false ∧ (into parked).presence 25 = .empty
    ∧ (into parked).bayCart 0 = none ∧ ((into parked).loc 25).reserved = none ∧ (into parked).picker.state = .parked
    ∧ ((into (withState parked .idle)).chan 0).state ≠ .unmounted ∧ (into (full parked (.bay 0))).presence 25 = .full
    ∧ ((into (withCart parked 25 dataCart)).loc 25).cart.isSome = true
    ∧ ((into (parked.setLoc 25 { reserved := some (.request 9) })).loc 25).reserved = some (.request 9)
    ∧ ((into parked).modLoader fun l => { l with queue := [{ newReq .clean none 25 with drive := some 0 }] }).cleanQueued 0 = true
    ∧ (m none).pref = none ∧ ((withState parked .idle).chan 1).state = .unmounted ∧ (withState parked .idle).presence 26 = .empty
    ∧ (m none).rewritten = false ∧ (m none).preempt = false := by decide +kernel

/-- A MOUNT of either drive that neither bay takes, a CLEAN without a cleaner, and a MOUNT that its last session leaves. -/
theorem witness_EventsEnd_waits :
    let either : Req := { newReq .mount (some 4) 25 with stamp := 3 }
    let busy := (withFilter (withState base .idle) (.presence 4) { raw := .on, debounced := .on }).setChan 1 { state := .read }
    let clean : Req := { newReq .clean none 25 with stamp := 3, drive := some 0 }
    let left := base.modLoader fun l => { l with queue := [{ newReq .inventory none 24 with stamp := 2 }, either] }
    let ref := withSession left { state := .waitMount, mountReq := some 3 }
    either.pref = none ∧ (∀ d : Drive, (busy.chan d).state ≠ .unmounted) ∧ busy.presence (bayLoc 1) ≠ .unsure
    ∧ busy.presence 4 = .full ∧ busy.inOpenMagazine 4 = false ∧ (4 : Loc).val < 25
    ∧ clean.legsDone = 0 ∧ (∀ i, (base.session i).mountReq ≠ some 3) ∧ (∀ k : Fin 24, (base.loc (slotLoc k)).cart = none)
    ∧ (left.loader.queue.map (·.stamp)).Pairwise (· < ·) ∧ left.loader.preempt = none ∧ either.state ≠ .active
    ∧ (ref.session 0).mountReq = some 3 ∧ (∀ i, (left.session i).mountReq ≠ some 3) ∧ either.kind = .mount := by decide +kernel

theorem witness_Preempts :
    let r : Req := { newReq .mount (some 4) 25 with preempt := true, cart := some 3 }
    let s := withCart (withChan base { state := .idle }) 25 dataCart
    let one : State := (s.setChan 1 { state := .read }).modLoader fun l => { l with queue := [r] }
    let p (ph : Phase) : Preempt := { victim := 0, cart := some 3, mount := 0, phase := ph }
    let inPhase (ph : Phase) : State := one.modLoader fun l => { l with preempt := some (p ph) }
    let leg : Req := { r with src := some 25, dst := 4, second := some (4, 25), rewritten := true }
    let other := withCart (withCart (withFilter (inPhase .restoring) (.bay 0) { raw := .on, debounced := .on }) 25
      { cleanCart with home := some 6 }) 4 dataCart
    one.findReq r.stamp = some r ∧ one.loader.preempt = none ∧ (0 : Drive) ∈ r.prefers ∧ (one.chan 0).state = .idle
    ∧ (∀ d ∈ r.prefers, (one.chan d).state ≠ .unmounted ∨ one.presence (bayLoc d) ≠ .empty)
    ∧ (∀ d ∈ r.prefers, d ≠ 0 → ¬ ((one.chan d).state = .idle ∨ (one.chan d).state = .write))
    ∧ (inPhase .draining).loader.preempt = some (p .draining) ∧ leg.src = some (bayLoc 0)
    ∧ (inPhase .draining).presence (bayLoc 0) ≠ .unsure ∧ (inPhase .draining).presence leg.dst ≠ .unsure
    ∧ (inPhase .draining).inOpenMagazine leg.dst = false
    ∧ (((inPhase .draining).setStream 0 { openStream with causePreempt := true }).stream 0).causePreempt = true
    ∧ (∀ x : Tag, ((inPhase .draining).stream x).causePreempt = false) ∧ leg.second.isSome = true
    ∧ ({ leg with second := none, dst := 25 } : Req).dst = bayLoc 0
    ∧ (∀ i, ((inPhase .restoring).session i).link = none) ∧ (inPhase .restoring).bayCart 0 = some dataCart
    ∧ other.bayCart 0 = some { cleanCart with home := some 6 } ∧ other.presence (bayLoc 0) ≠ .empty ∧ other.cartLoc 3 = some 4
    ∧ other.loader.queue.length < 10 ∧ ((inPhase .remounting).chan 0).state ≠ .mounting
    ∧ ((withChan (inPhase .remounting) { state := .failed }).chan 0).state = .failed := by decide +kernel

theorem witness_Preempts_remount :
    let p : Preempt := { victim := 0, cart := some 3, mount := 2, phase := .remounting, remount := some 9 }
    let own : Req := { newReq .remount (some 25) 25 with stamp := 9 }
    let s : State := base.modLoader fun l => { l with preempt := some p }
    ({ newReq .mount (some 4) 25 with preempt := true } : Req).preempt = true ∧ s.loader.preempt.isSome = true
    ∧ s.loader.preempt = some p ∧ p.victim = 0 ∧ p.phase = .remounting ∧ p.remount = some own.stamp
    ∧ own.kind = .remount ∧ own.dst = bayLoc 0 ∧ own.second = none
    ∧ p.remount ≠ some ({ own with stamp := 4 } : Req).stamp ∧ p.mount ≠ ({ own with stamp := 4 } : Req).stamp
    ∧ ({ p with released := true } : Preempt).released = true ∧ (s.chan 0).state ≠ .mounting
    ∧ ((withChan s { state := .failed }).chan 0).state = .failed ∧ (s.chan 0).state ≠ .failed := by decide +kernel

end Sys2Proof.Tests
end

section
/-! The sequence arithmetic of R5. -/

namespace Sys2Proof.Machine

/-- The two bounds of R5, on the distance from `a` to `b` as a word. -/
theorem precedes_iff (a b : Word) : precedes a b = true ↔ 1 ≤ (b - a).toNat ∧ (b - a).toNat ≤ 2147483647 := by
  simp only [precedes, Bool.and_eq_true, decide_eq_true_eq, Nat.lt_succ_iff]

/-- The distance as a number: 2^32 stands on the side of `b`, so that the subtraction of naturals does not stop at 0. -/
theorem sequenceDistance_toNat (a b : Word) : (b - a).toNat = (b.toNat + 4294967296 - a.toNat) % 4294967296 := by
  have ha : a.toNat < 4294967296 := a.isLt
  rw [BitVec.toNat_sub]
  congr 1
  omega

/-- Settles O9: the bounds of R5 on the distance as a word, read as a number. -/
theorem sequencesPrecedeModuloTwoToThe32 : Obligations.SequencesPrecedeModuloTwoToThe32 := by
  intro a b
  rw [← sequenceDistance_toNat]
  exact ⟨precedes_iff a b, BitVec.toNat_add a 1⟩

end Sys2Proof.Machine
end

section
/-! What GET_INFO reports (R192). -/

namespace Sys2Proof.Machine

/-- A command that runs an owner's rule ends with that rule's outcome and results, in the state that the rule leaves (R184). -/
theorem ends_of_command {c : Instr} {kind : Nat} {tag : Half} {s : State} (owner : State → Effect)
    (h : exec c s = .next (s.command c kind tag owner)) :
    Ends c kind tag (owner s.atOwner).outcome (owner s.atOwner).results s (owner s.atOwner).state := by
  intro taken
  rw [h, s.command_of_taken c kind tag owner taken]

theorem exec_getInfo (tag : Half) (s : State) :
    exec (.getInfo tag) s = .next (s.command (.getInfo tag) 0x53 tag getInfoRule) := rfl

/-- Taking the slot read off the memory port changes nothing that GET_INFO reports: the capacities are those in force. -/
theorem info_atOwner (s : State) : s.atOwner.info = s.info := by
  simp only [State.info, State.atOwner, State.answered_path, State.answered_params]

/-- The words of R192, with the part number and the revision as numbers. -/
theorem info_words (s : State) : s.info =
    { e2 := 2420, e3 := BitVec.ofNat 32 (3 + 65536 * s.path.imageVersion.toNat), e4 := BitVec.ofNat 32 s.path.poolPages
      e5 := BitVec.ofNat 32 (s.params.imageCapacity[0] + 65536 * s.params.imageCapacity[1]) } := rfl

/-- Settles O28: the rule of GET_INFO leaves its state as it is, and its results are the words of R192 before the answer. -/
theorem getInfoReportsThePart : Obligations.GetInfoReportsThePart := by
  intro s tag
  have ends : Ends (.getInfo tag) 0x53 tag .done s.atOwner.info s s.atOwner :=
    ends_of_command getInfoRule (exec_getInfo tag s)
  rwa [info_atOwner, info_words] at ends

end Sys2Proof.Machine
end

section
/-! The chunk table and the pool's pages (R26, R28): what a change of one record, a new record and a freed one make of the
record numbers and of the pages held. -/

namespace Sys2Proof.Machine

/-- Pages that the records of a table hold. -/
def heldPages (l : List ChunkRec) : Nat := (l.map fun r => r.pages.length).sum

/-- The record numbers of a table rise. -/
def idsRise (l : List ChunkRec) : Prop := (l.map (·.id)).Pairwise (· < ·)

/-- Two tables with the same numbers, one by one. -/
theorem idsRise_congr {l m : List ChunkRec} (h : m.map (·.id) = l.map (·.id)) (hl : idsRise l) : idsRise m := by
  unfold idsRise at hl ⊢
  rwa [h]

theorem idsRise_filter (p : ChunkRec → Bool) {l : List ChunkRec} (h : idsRise l) : idsRise (l.filter p) :=
  h.sublist (List.filter_sublist.map _)

/-- The records behind the first one have greater numbers. -/
theorem idsRise_cons {r : ChunkRec} {l : List ChunkRec} : idsRise (r :: l) ↔ (∀ x ∈ l, r.id < x.id) ∧ idsRise l := by
  simp [idsRise, List.pairwise_cons]

theorem idsRise.distinct {l : List ChunkRec} (h : idsRise l) : l.Pairwise fun a b => a.id ≠ b.id :=
  (List.pairwise_map.1 h).imp Nat.ne_of_lt

/-- A record that leaves the table takes its pages along, and no others. -/
theorem heldPages_filter_ne {id : Nat} {r : ChunkRec} {l : List ChunkRec} (hl : l.Pairwise fun a b => a.id ≠ b.id)
    (hr : l.find? (·.id == id) = some r) : heldPages l = r.pages.length + heldPages (l.filter (·.id ≠ id)) := by
  induction l with
  | nil => simp at hr
  | cons x l ih =>
    obtain ⟨hx, hl⟩ := List.pairwise_cons.1 hl
    by_cases e : x.id = id
    · have hrx : x = r := by simpa [e] using hr
      have keep : (x :: l).filter (·.id ≠ id) = l := by
        rw [List.filter_cons_of_neg (by simpa using e), List.filter_eq_self]
        intro y hy
        have := hx y hy
        simp only [ne_eq, decide_not, Bool.not_eq_eq_eq_not, Bool.not_true, decide_eq_false_iff_not]
        exact fun k => this (e.trans k.symm)
      rw [keep, ← hrx]
      simp [heldPages]
    · have hr' : l.find? (·.id == id) = some r := by simpa [e] using hr
      rw [List.filter_cons_of_pos (by simpa using e)]
      have := ih hl hr'
      simp only [heldPages, List.map_cons, List.sum_cons] at this ⊢
      omega

theorem ids_modify (id : Nat) (f : ChunkRec → ChunkRec) (hf : ∀ r, (f r).id = r.id) (l : List ChunkRec) :
    (l.map fun r => if r.id = id then f r else r).map (·.id) = l.map (·.id) := by
  rw [List.map_map]
  refine List.map_congr_left fun r _ => ?_
  simp only [Function.comp_apply]
  split
  · exact hf r
  · rfl

/-- A record that changes its page list changes the count by that record's pages alone. -/
theorem heldPages_modify {id : Nat} {r : ChunkRec} (f : ChunkRec → ChunkRec) {l : List ChunkRec} (hl : idsRise l)
    (hr : l.find? (·.id == id) = some r) :
    heldPages (l.map fun r => if r.id = id then f r else r) + r.pages.length = heldPages l + (f r).pages.length := by
  induction l with
  | nil => simp at hr
  | cons x l ih =>
    obtain ⟨hx, hl⟩ := idsRise_cons.1 hl
    by_cases e : x.id = id
    · have hrx : x = r := by simpa [e] using hr
      have keep : (l.map fun r => if r.id = id then f r else r) = l := by
        conv_rhs => rw [← List.map_id l]
        refine List.map_congr_left fun y hy => ?_
        have := hx y hy
        rw [if_neg (by omega)]
        rfl
      subst hrx
      simp only [heldPages, List.map_cons, e, if_true, List.sum_cons] at keep ⊢
      rw [keep]
      omega
    · have hr' : l.find? (·.id == id) = some r := by simpa [e] using hr
      have := ih hl hr'
      simp only [heldPages, List.map_cons, e, if_false, List.sum_cons] at this ⊢
      omega

/-- A change that leaves every page list leaves the count. -/
theorem heldPages_map (f : ChunkRec → ChunkRec) (hf : ∀ r, (f r).pages = r.pages) (l : List ChunkRec) :
    heldPages (l.map f) = heldPages l := by
  simp only [heldPages, List.map_map]
  congr 1
  exact List.map_congr_left fun r _ => congrArg List.length (hf r)

theorem heldPages_insertRec (x : ChunkRec) : ∀ l, heldPages (insertRec x l) = x.pages.length + heldPages l
  | [] => rfl
  | r :: l => by
    have ih := heldPages_insertRec x l
    simp only [insertRec]
    split
    · simp [heldPages]
    · simp only [heldPages, List.map_cons, List.sum_cons] at ih ⊢
      omega

theorem mem_insertRec {x y : ChunkRec} : ∀ {l : List ChunkRec}, y ∈ insertRec x l ↔ y = x ∨ y ∈ l
  | [] => by simp [insertRec]
  | r :: l => by
    have ih := mem_insertRec (x := x) (y := y) (l := l)
    simp only [insertRec]
    split
    · simp
    · simp only [List.mem_cons, ih]
      tauto

/-- A record with a number of its own takes its place in the rising order. -/
theorem idsRise_insertRec {x : ChunkRec} : ∀ {l : List ChunkRec}, idsRise l → (∀ r ∈ l, r.id ≠ x.id) →
    idsRise (insertRec x l)
  | [], _, _ => by simp [insertRec, idsRise]
  | r :: l, h, hx => by
    obtain ⟨hr, hl⟩ := idsRise_cons.1 h
    have hrx : r.id ≠ x.id := hx r List.mem_cons_self
    have hlx : ∀ y ∈ l, y.id ≠ x.id := fun y hy => hx y (List.mem_cons_of_mem _ hy)
    simp only [insertRec]
    split
    · next lt =>
      refine idsRise_cons.2 ⟨fun y hy => ?_, h⟩
      rcases List.mem_cons.1 hy with rfl | hy
      · exact lt
      · exact lt.trans (hr y hy)
    · next ge =>
      refine idsRise_cons.2 ⟨fun y hy => ?_, idsRise_insertRec hl hlx⟩
      rcases mem_insertRec.1 hy with rfl | hy
      · omega
      · exact hr y hy

/-- R28: the lowest-numbered FREE record is not in use. -/
theorem lowestFree_fresh : ∀ {n : Nat} {l : List ChunkRec}, idsRise l → (∀ r ∈ l, n ≤ r.id) →
    n ≤ lowestFree n l ∧ ∀ r ∈ l, r.id ≠ lowestFree n l
  | n, [], _, _ => by simp [lowestFree]
  | n, r :: l, h, hn => by
    obtain ⟨hr, hl⟩ := idsRise_cons.1 h
    have hnr : n ≤ r.id := hn r List.mem_cons_self
    simp only [lowestFree]
    split
    · next e =>
      obtain ⟨h1, h2⟩ := lowestFree_fresh (n := n + 1) hl fun y hy => by have := hr y hy; omega
      refine ⟨by omega, fun y hy => ?_⟩
      rcases List.mem_cons.1 hy with rfl | hy
      · omega
      · exact h2 y hy
    · next e =>
      refine ⟨Nat.le_refl n, fun y hy => ?_⟩
      rcases List.mem_cons.1 hy with rfl | hy
      · exact e
      · have := hr y hy; omega

/-- A new record under the lowest FREE number keeps the order of the table. -/
theorem idsRise_insert_lowestFree {x : ChunkRec} {l : List ChunkRec} (h : idsRise l) (hx : x.id = lowestFree 0 l) :
    idsRise (insertRec x l) :=
  idsRise_insertRec h (hx ▸ (lowestFree_fresh h fun _ _ => Nat.zero_le _).2)

end Sys2Proof.Machine
end

section
/-! What the work of the blocks within an event keeps. Every operation of the blocks is an update that takes nothing of the
ring unit but records, of the path unit nothing of the layout, and of the pool no page; the invariants of the part follow from
that alone. One lemma for each operation, in the order of the model. -/

namespace Sys2Proof.Machine

/-! ## The relation -/

/-- The registers of the ring unit that its own steps alone change. -/
def Ring.control (g : Ring) : Half × Half × Half × Half × Bool × Intake × Bool :=
  (g.c, g.p, g.s, g.u, g.irq, g.intake, g.reserved)

/-- What the path unit takes from the configuration image. -/
def Path.layout (p : Path) : Startup × List Window × Nat × Nat × Vector Nat 2 × Vector Nat 2 :=
  (p.startup, p.windows, p.poolBase, p.poolPages, p.imageBase, p.imageLimit)

/-- The record buffer has room for the records in it and the reserved COMMAND_DONE (R182, R186). -/
def Ring.fits (g : Ring) : Prop := g.buffer.length + g.reserved.toNat ≤ Config.recordBuffer

/-- What the invariants speak of, but for memory. -/
def State.account (s : State) :=
  (s.ring.control, s.ring.buffer, s.path.layout, (s.pool.free, s.pool.reservation, s.pool.records),
    s.pack.job.isNone, s.pack.draining)

/-- The state `t` follows from `s` by work of the blocks: the ring unit's registers and the layout are unchanged, the record
buffer has grown at its back within its bound, and the soundness of memory and of the pool is kept. -/
structure Works (s t : State) : Prop where
  memory : s.memorySound → t.memorySound
  control : t.ring.control = s.ring.control
  layout : t.path.layout = s.path.layout
  buffer : s.ring.buffer <+: t.ring.buffer
  fits : s.ring.fits → t.ring.fits
  pool : s.poolSound → t.poolSound
  unreserved : s.pool.reservation = [] → t.pool.reservation = []

theorem Works.refl (s : State) : Works s s := ⟨id, rfl, rfl, List.prefix_rfl, id, id, id⟩

theorem Works.trans {s t u : State} (h : Works s t) (k : Works t u) : Works s u :=
  ⟨k.memory ∘ h.memory, k.control.trans h.control, k.layout.trans h.layout, h.buffer.trans k.buffer, k.fits ∘ h.fits,
    k.pool ∘ h.pool, k.unreserved ∘ h.unreserved⟩

variable {s t : State}

theorem layout_startup {p q : Path} (h : p.layout = q.layout) : p.startup = q.startup := congrArg (·.1) h
theorem layout_windows {p q : Path} (h : p.layout = q.layout) : p.windows = q.windows := congrArg (·.2.1) h
theorem layout_poolBase {p q : Path} (h : p.layout = q.layout) : p.poolBase = q.poolBase := congrArg (·.2.2.1) h
theorem layout_poolPages {p q : Path} (h : p.layout = q.layout) : p.poolPages = q.poolPages := congrArg (·.2.2.2.1) h

theorem control_status {g k : Ring} (h : g.control = k.control) : g.s = k.s ∧ g.u = k.u ∧ g.irq = k.irq :=
  ⟨congrArg (·.2.2.1) h, congrArg (·.2.2.2.1) h, congrArg (·.2.2.2.2.1) h⟩

theorem control_commands {g k : Ring} (h : g.control = k.control) :
    g.c = k.c ∧ g.p = k.p ∧ g.intake = k.intake ∧ g.reserved = k.reserved :=
  ⟨congrArg (·.1) h, congrArg (·.2.1) h, congrArg (·.2.2.2.2.2.1) h, congrArg (·.2.2.2.2.2.2) h⟩

/-- The soundness of the pool speaks of the start-up state, the layout, the pool's pages and records, and the pack engine. -/
theorem poolSound_congr (hp : t.path.layout = s.path.layout)
    (hl : (t.pool.free, t.pool.reservation, t.pool.records) = (s.pool.free, s.pool.reservation, s.pool.records))
    (hj : t.pack.job.isNone = s.pack.job.isNone) (hd : t.pack.draining = s.pack.draining) (h : s.poolSound) :
    t.poolSound := by
  obtain ⟨hfree, hrest⟩ := Prod.mk.inj hl
  obtain ⟨hres, hrec⟩ := Prod.mk.inj hrest
  have job : t.pack.job = none ↔ s.pack.job = none := by rw [← Option.isNone_iff_eq_none, hj, Option.isNone_iff_eq_none]
  simpa only [State.poolSound, State.pageCount, layout_startup hp, layout_poolPages hp, hfree, hres, hrec, job, hd] using h

/-- An update that the invariants do not speak of. -/
theorem Works.frame {u : State} (h : Works s t) (hm : u.mem = t.mem) (ha : u.account = t.account) : Works s u := by
  simp only [State.account, Prod.mk.injEq] at ha
  obtain ⟨hc, hb, hp, ⟨hf, hr, hl⟩, hj, hd⟩ := ha
  refine h.trans ⟨fun w => ?_, hc, hp, hb ▸ List.prefix_rfl, fun w => ?_, poolSound_congr hp ?_ hj hd, fun w => hr.trans w⟩
  · simpa only [State.memorySound, hm] using w
  · simpa only [Ring.fits, hb, (control_commands hc).2.2.2] using w
  · rw [hf, hr, hl]

/-- The one of two states that a test picks. -/
theorem Works.ite {c : Prop} [Decidable c] {a b : State} (ha : Works s a) (hb : Works s b) :
    Works s (if c then a else b) := by
  split <;> assumption

/-- An update for each element of a list. -/
theorem Works.forEach {α : Type} {f : α → State → State} (hf : ∀ x t, Works s t → Works s (f x t)) :
    ∀ (xs : List α) {t : State}, Works s t → Works s (forEach xs f t)
  | [], _, h => h
  | x :: xs, _, h => Works.forEach hf xs (hf x _ h)

/-! ## The updates of the blocks -/

section
variable (h : Works s t)
include h

theorem Works.setChan (d : Drive) (c : Channel) : Works s (t.setChan d c) := h.frame rfl rfl
theorem Works.modChan (d : Drive) (f : Channel → Channel) : Works s (t.modChan d f) := h.frame rfl rfl
theorem Works.setStream (k : Tag) (x : Stream) : Works s (t.setStream k x) := h.frame rfl rfl
theorem Works.modStream (k : Tag) (f : Stream → Stream) : Works s (t.modStream k f) := h.frame rfl rfl
theorem Works.setSession (i : SessionId) (x : Session) : Works s (t.setSession i x) := h.frame rfl rfl
theorem Works.modSession (i : SessionId) (f : Session → Session) : Works s (t.modSession i f) := h.frame rfl rfl
theorem Works.modLoc (l : Loc) (f : Location → Location) : Works s (t.modLoc l f) := h.frame rfl rfl
theorem Works.modRestore (f : Restore → Restore) : Works s (t.modRestore f) := h.frame rfl rfl
theorem Works.modLoader (f : Loader → Loader) : Works s (t.modLoader f) := h.frame rfl rfl
theorem Works.modPicker (f : Picker → Picker) : Works s (t.modPicker f) := h.frame rfl rfl
theorem Works.modPort (f : Port → Port) : Works s (t.modPort f) := h.frame rfl rfl
theorem Works.countPath (f : PathCounters → PathCounters) : Works s (t.countPath f) := h.frame rfl rfl
theorem Works.countRing (f : RingCounters → RingCounters) : Works s (t.countRing f) := h.frame rfl rfl
theorem Works.countLoader (f : LoaderCounters → LoaderCounters) : Works s (t.countLoader f) := h.frame rfl rfl
theorem Works.countChan (d : Drive) (f : ChanCounters → ChanCounters) : Works s (t.countChan d f) := h.frame rfl rfl
theorem Works.issue (o : Owned) : Works s (t.issue o) := h.frame rfl rfl
theorem Works.answered (o : Owned) : Works s (t.answered o) := h.frame rfl rfl
theorem Works.startJob (e : Engine) : Works s (t.startJob e) := h.frame rfl rfl
theorem Works.endJob (e : Engine) : Works s (t.endJob e) := h.frame rfl rfl
theorem Works.passJob (e : Engine) : Works s (t.passJob e) := h.frame rfl rfl
theorem Works.ownFault : Works s t.ownFault := h.frame rfl rfl
theorem Works.poolFault : Works s t.poolFault := h.frame rfl rfl
theorem Works.answer (as : List Answer) : Works s (t.answer as) := h.frame rfl rfl
theorem Works.draw : Works s t.draw := h.frame rfl rfl
theorem Works.newCart : Works s t.newCart.2 := h.frame rfl rfl
theorem Works.setFilter (x : Sensor) (f : Filter) : Works s (t.setFilter x f) := h.frame rfl rfl
theorem Works.storeParam (p : Param) (v : Nat) : Works s (t.storeParam p v) := h.frame rfl rfl

/-- A write into staging memory. -/
theorem Works.poke (a : Nat) (bs : List Byte) : Works s (t.poke a bs) :=
  h.trans ⟨t.poke_sound a bs, rfl, rfl, List.prefix_rfl, id, id, id⟩

/-- An update of the pack engine that keeps its job and what it drains. -/
theorem Works.modPack {f : Pack → Pack} (hj : (f t.pack).job.isNone = t.pack.job.isNone)
    (hd : (f t.pack).draining = t.pack.draining) : Works s (t.modPack f) :=
  h.frame rfl (by simp only [State.account, State.modPack_ring, State.modPack_path, State.modPack_pool, State.modPack_pack, hj, hd])

/-- An update of the path unit that keeps the layout. -/
theorem Works.modPath {f : Path → Path} (hf : (f t.path).layout = t.path.layout) : Works s (t.modPath f) :=
  h.frame rfl (by simp only [State.account, State.modPath_ring, State.modPath_path, State.modPath_pool, State.modPath_pack, hf])

/-- The passing of time. -/
theorem Works.elapse (n : Nat) : Works s (t.elapse n) := by
  refine h.frame rfl ?_
  simp only [State.account, State.elapse]
  congr 1
  · split <;> rfl
  · congr 1
    · split <;> rfl
    · congr 2
      split <;> rfl

theorem Works.elapseTo (n : Nat) : Works s (t.elapseTo n) := h.elapse _

end

/-! ## Status records -/

/-- A record that finds room leaves the buffer within its bound. -/
theorem fits_of_room {g : Ring} (h : g.room = true) : g.buffer.length + g.reserved.toNat < Config.recordBuffer := by
  simp only [Ring.room, Bool.and_eq_true, decide_eq_true_eq] at h
  cases hr : g.reserved <;> simp [hr] at h ⊢ <;> omega

theorem joinBuffer_account (t : State) (r : Record) : (t.joinBuffer r).ring.control = t.ring.control
    ∧ (t.joinBuffer r).path.layout = t.path.layout := by
  simp only [State.joinBuffer]
  split <;> exact ⟨rfl, rfl⟩

/-- R186: an event record. -/
theorem Works.emit (h : Works s t) (r : Record) : Works s (t.emit r) := by
  by_cases hr : t.ring.room = true
  · rw [t.emit_of_room r hr]
    obtain ⟨hc, hl⟩ := joinBuffer_account t r
    have room := fits_of_room hr
    refine h.trans ⟨fun w => ?_, hc, hl, t.joinBuffer_buffer r ▸ List.prefix_append .., fun _ => ?_, ?_, ?_⟩
    · simpa only [State.memorySound, mem_of_outside (t.joinBuffer_outside r)] using w
    · simp only [Ring.fits, t.joinBuffer_buffer r, (control_commands hc).2.2.2, List.length_append, List.length_singleton]
      omega
    · exact poolSound_congr hl (by rw [t.joinBuffer_pool]) (by rw [t.joinBuffer_pack]) (by rw [t.joinBuffer_pack])
    · rw [t.joinBuffer_pool]; exact id
  · rw [t.emit_of_full r (by simpa using hr)]
    exact h.frame rfl rfl

end Sys2Proof.Machine
end

section
/-! What the operations of the pool keep (chapter 2). -/

namespace Sys2Proof.Machine

variable {s t : State}

/-! ## The soundness of the pool, by its pages -/

/-- An update of the pool that moves pages among the free list, the reservation and the records. -/
def State.repool (t : State) (free reservation : List Nat) (records : List ChunkRec) : State :=
  t.modPool fun p => { p with free := free, reservation := reservation, records := records }

theorem poolSound_idsRise (h : s.poolSound) : idsRise s.pool.records := h.2.2.1

theorem findRec_isSome_running {id : Nat} {r : ChunkRec} (h : t.poolSound) (hr : t.findRec id = some r) :
    t.path.startup = .running := by
  by_contra hn
  obtain ⟨-, -, hrec⟩ := h.2.1 hn
  simp [State.findRec, hrec] at hr

/-- While RUNNING, a move of pages that loses none keeps the pool sound. -/
theorem poolSound_repool {free reservation : List Nat} {records : List ChunkRec} (h : t.poolSound)
    (hrun : t.path.startup = .running) (hid : idsRise records)
    (hn : free.length + reservation.length + heldPages records =
      t.pool.free.length + t.pool.reservation.length + heldPages t.pool.records)
    (hres : t.pool.reservation = [] → reservation = []) : (t.repool free reservation records).poolSound := by
  obtain ⟨hcount, -, -, hjob⟩ := h
  exact ⟨fun _ => hn.trans (hcount hrun), fun k => absurd hrun k, hid, fun a b => hres (hjob a b)⟩

theorem Works.repool {free reservation : List Nat} {records : List ChunkRec} (h : Works s t)
    (hp : t.poolSound → (t.repool free reservation records).poolSound)
    (hres : t.pool.reservation = [] → reservation = []) : Works s (t.repool free reservation records) :=
  h.trans ⟨id, rfl, rfl, List.prefix_rfl, id, hp, hres⟩

/-- A change of a record that keeps its number and its pages. -/
theorem Works.modRec (h : Works s t) (id : Nat) {f : ChunkRec → ChunkRec} (hid : ∀ r, (f r).id = r.id)
    (hp : ∀ r, (f r).pages = r.pages) : Works s (t.modRec id f) := by
  refine h.trans ⟨fun a => a, rfl, rfl, List.prefix_rfl, fun a => a, fun w => ?_, fun a => a⟩
  obtain ⟨hcount, hout, hids, hjob⟩ := w
  refine ⟨fun k => ?_, fun k => ?_, idsRise_congr (ids_modify id f hid _) hids, hjob⟩
  · refine Eq.trans ?_ (hcount k)
    have := heldPages_map (fun r => if r.id = id then f r else r) (fun r => by split <;> simp [hp]) t.pool.records
    simp only [heldPages] at this
    simp only [State.pageCount, State.modRec, State.modPool_pool, this]
  · obtain ⟨hf, hr, hl⟩ := hout k
    exact ⟨hf, hr, by simp [State.modRec, hl]⟩

/-- A change of every record that keeps its number and its pages. -/
theorem Works.modRecs (h : Works s t) {f : ChunkRec → ChunkRec} (hid : ∀ r, (f r).id = r.id)
    (hp : ∀ r, (f r).pages = r.pages) : Works s (t.modPool fun p => { p with records := p.records.map f }) := by
  refine h.trans ⟨fun a => a, rfl, rfl, List.prefix_rfl, fun a => a, fun w => ?_, fun a => a⟩
  obtain ⟨hcount, hout, hids, hjob⟩ := w
  have ids : (t.pool.records.map f).map (·.id) = t.pool.records.map (·.id) := by
    rw [List.map_map]; exact List.map_congr_left fun r _ => hid r
  refine ⟨fun k => ?_, fun k => ?_, idsRise_congr ids hids, hjob⟩
  · refine Eq.trans ?_ (hcount k)
    have := heldPages_map f hp t.pool.records
    simp only [heldPages] at this
    simp only [State.pageCount, State.modPool_pool, this]
  · obtain ⟨hf, hr, hl⟩ := hout k
    exact ⟨hf, hr, by simp [hl]⟩

/-- R42: the test of the POOL hold. -/
theorem Works.holdTest (h : Works s t) : Works s t.holdTest := by
  unfold State.holdTest
  extract_lets rec_
  split
  · split
    · refine Works.emit ?_ _
      exact h.frame rfl rfl
    · exact h
  · split
    · refine Works.emit ?_ _
      exact h.frame rfl rfl
    · exact h

/-- A move of pages that ends in a new free list, with the low mark and the test of the POOL hold. -/
theorem Works.setFree {u : State} {free : List Nat} (h : Works s (u.repool free u.pool.reservation u.pool.records)) :
    Works s (u.setFree free) :=
  Works.holdTest (h.frame rfl rfl)

/-- Pages that return to the free list, as a part of a move. -/
theorem Works.returnPages {u : State} {pages : List Nat}
    (h : Works s (u.repool (u.pool.free ++ pages) u.pool.reservation u.pool.records)) : Works s (u.returnPages pages) := by
  unfold State.returnPages
  split
  · next e =>
    rw [List.isEmpty_iff.1 e, List.append_nil] at h
    exact h
  · exact Works.setFree h

/-- R28: a record is freed. -/
theorem Works.freeRec (h : Works s t) (id : Nat) : Works s (t.freeRec id) := by
  unfold State.freeRec
  split
  · exact h
  · next r hr =>
    refine Works.returnPages (h.repool (fun w => ?_) fun a => a)
    have held := heldPages_filter_ne (poolSound_idsRise w).distinct hr
    refine poolSound_repool w (findRec_isSome_running w hr) (idsRise_filter _ (poolSound_idsRise w)) ?_ fun a => a
    simp only [State.modPool_pool, List.length_append]
    omega

/-- R34: a placement is given up. -/
theorem Works.giveUp (h : Works s t) (id : Nat) : Works s (t.giveUp id) := by
  unfold State.giveUp
  split
  · exact h
  · have hm := h.modRec id (f := fun x => { x with outstanding := x.outstanding - 1 }) (fun _ => rfl) (fun _ => rfl)
    exact Works.ite (hm.freeRec id) hm

theorem Works.giveUpAll (h : Works s t) (ids : List Nat) : Works s (t.giveUpAll ids) :=
  Works.forEach (fun id _ k => k.giveUp id) ids h

/-- R33: the reservation returns. -/
theorem Works.returnReservation (h : Works s t) : Works s t.returnReservation := by
  have moved : Works s (t.repool (t.pool.free ++ t.pool.reservation) [] t.pool.records) := by
    refine h.repool (fun w => ?_) fun _ => rfl
    by_cases hrun : t.path.startup = .running
    · exact poolSound_repool w hrun (poolSound_idsRise w)
        (by simp only [List.length_append, List.length_nil]; omega) fun _ => rfl
    · obtain ⟨hf, hr, hl⟩ := w.2.1 hrun
      exact ⟨fun a => absurd a hrun, fun _ => ⟨by simp [State.repool, hf, hr], rfl, hl⟩, w.2.2.1, fun _ _ => rfl⟩
  exact Works.returnPages moved

theorem returnReservation_none (t : State) : t.returnReservation.pool.reservation = [] := by
  simp only [State.returnReservation, State.returnPages]
  split
  · rfl
  · exact (setFree_pool _ _).2.2

/-- R38: a record without what the block in progress gave it; `keep` pages stay. -/
def ChunkRec.unprovided (keep : Nat) (x : ChunkRec) : ChunkRec :=
  { x with pages := x.pages.take keep, provisional := 0, provPages := 0, lastIn := false }

/-- R38: one record loses what the block in progress gave it. -/
theorem Works.discardRec (h : Works s t) (id : Nat) : Works s (t.discardRec id) := by
  unfold State.discardRec
  split
  · exact h
  · next r hr =>
    split
    · exact h.freeRec id
    · have moved : Works s (t.repool (t.pool.free ++ r.pages.drop (r.pages.length - r.provPages)) t.pool.reservation
          (t.pool.records.map fun x => if x.id = id then x.unprovided (r.pages.length - r.provPages) else x)) := by
        refine h.repool (fun w => ?_) fun a => a
        have held := heldPages_modify (ChunkRec.unprovided (r.pages.length - r.provPages)) (poolSound_idsRise w) hr
        refine poolSound_repool w (findRec_isSome_running w hr)
          (idsRise_congr (ids_modify id (ChunkRec.unprovided _) (fun _ => rfl) _) (poolSound_idsRise w)) ?_ fun a => a
        simp only [ChunkRec.unprovided, List.length_append, List.length_take, List.length_drop] at held ⊢
        omega
      exact Works.returnPages moved

/-! ## Stored chunks in pages -/

theorem Works.writePages : ∀ {t : State} (pages : List Nat) (bs : List Byte), Works s t → Works s (t.writePages pages bs)
  | _, [], _, h => h
  | _, k :: ks, bs, h => by
    unfold State.writePages
    exact Works.ite h (Works.writePages ks _ (h.poke _ _))

theorem Works.pokeChunk (h : Works s t) (pages : List Nat) (off : Nat) (b : Byte) : Works s (t.pokeChunk pages off b) := by
  unfold State.pokeChunk
  split
  · exact h.poke _ _
  · exact h

end Sys2Proof.Machine
end

section
/-! What the operations of the streams, the sessions, the channels and the move queue keep (chapters 3, 4, 6 and 8). -/

namespace Sys2Proof.Machine

variable {s t : State}

@[simp] theorem State.ok_state (t : State) : t.ok.state = t := rfl
@[simp] theorem State.turnAway_state (t : State) (o : CmdOutcome) : (t.turnAway o).state = t := rfl

/-! ## Streams (chapter 3) -/

theorem Works.suspendTest (h : Works s t) (k : Tag) : Works s (t.suspendTest k) := by
  unfold State.suspendTest
  extract_lets x busy
  exact Works.ite ((h.setStream k _).emit _) h

theorem Works.causesChanged (h : Works s t) (k : Tag) : Works s (t.causesChanged k) := by
  unfold State.causesChanged
  extract_lets x any
  split
  · exact Works.ite ((h.setStream k _).suspendTest k) h
  · exact Works.ite h (h.setStream k _)
  · exact Works.ite h (h.setStream k _)
  · exact h

theorem Works.setPreempt (h : Works s t) (on : Bool) (k : Tag) : Works s (t.setPreempt on k) :=
  Works.ite h ((h.modStream k _).causesChanged k)

theorem Works.waitTest (h : Works s t) : Works s t.waitTest := by
  unfold State.waitTest
  split
  · exact h
  · refine Works.ite h ?_
    exact (h.modPack (f := fun p => { p with waiting := true }) rfl rfl).frame rfl rfl

theorem Works.packChoose (h : Works s t) : Works s t.packChoose := by
  unfold State.packChoose
  split
  · exact h
  · split
    · exact h
    · refine Works.waitTest (h.modPack ?_ ?_) <;> rfl

theorem Works.dropQueued (h : Works s t) (k : Tag) (d : Drive) : Works s (t.dropQueued k d) :=
  (h.modChan d _).giveUpAll _

theorem Works.abortCore (h : Works s t) (k : Tag) (cause : Cause) (chan : Option Drive) :
    Works s (t.abortCore k cause chan) := by
  unfold State.abortCore
  extract_lets x s1 s2 s3 s4 s5 s6
  have h1 : Works s s1 := h.setStream k _
  have h2 : Works s s2 := h1.modPack (by simp) rfl
  have h3 : Works s s3 := Works.forEach (fun d _ w => w.dropQueued k d) _ h2
  have h4 : Works s s4 := h3.modRecs (fun r => by split <;> rfl) (fun r => by split <;> rfl)
  have h5 : Works s s5 := Works.ite (h4.emit _) h4
  exact Works.ite h ((h5.emit _).modStream k _)

theorem Works.abortStream (h : Works s t) (k : Tag) (cause : Cause) (chan : Option Drive) :
    Works s (t.abortStream k cause chan) :=
  (h.abortCore k cause chan).packChoose

theorem Works.abortWhere (h : Works s t) (sel : Stream → Bool) (cause : Cause) (chan : Option Drive) :
    Works s (t.abortWhere sel cause chan) :=
  (Works.forEach (fun k _ w => Works.ite (w.abortCore k cause chan) w) _ h).packChoose

theorem Works.abortTargeting (h : Works s t) (d : Drive) (cause : Cause) : Works s (t.abortTargeting d cause) :=
  h.abortWhere _ cause (some d)

theorem Works.endTest (h : Works s t) (r : ChunkRec) : Works s (t.endTest r) := by
  unfold State.endTest
  split
  · exact Works.ite ((h.emit _).setStream _ _) h
  · exact h

/-! ## Sessions and readers (chapter 6) -/

theorem Works.purge (h : Works s t) (ids : List Nat) : Works s (t.purge ids) :=
  Works.forEach (fun d _ w => w.modChan d _) _ h

theorem Works.dropOwner (h : Works s t) (q : Requester) : Works s (t.dropOwner q) :=
  Works.forEach (fun d _ w => w.modChan d _) _ h

theorem Works.freeWhere (h : Works s t) (sel : ChunkRec → Bool) : Works s (t.freeWhere sel) :=
  Works.forEach (fun id _ w => w.freeRec id) _ (h.purge _)

theorem Works.discardDecode (h : Works s t) (q : Requester) : Works s (t.discardDecode q) := h.modRestore _

theorem Works.endSession (h : Works s t) (i : SessionId) (e : SessionEnd) : Works s (t.endSession i e) :=
  Works.ite h ((((((h.emit _).freeWhere _).discardDecode _).dropOwner _).setSession i _).modRestore _)

theorem Works.failAttached (h : Works s t) (d : Drive) (c : Cause) : Works s (t.failAttached d c) :=
  Works.forEach (fun i _ w => Works.ite (w.endSession i _) w) _ h

theorem Works.awaitNext (h : Works s t) (i : SessionId) : Works s (t.awaitNext i) := by
  unfold State.awaitNext
  exact ((((h.emit _).freeWhere _).discardDecode _).modSession i _).modRestore _

theorem Works.awaitAttached (h : Works s t) (d : Drive) (st : SessionState) : Works s (t.awaitAttached d st) :=
  Works.forEach (fun i _ w => Works.ite (w.awaitNext i) w) _ h

theorem Works.discardBlock (h : Works s t) (d : Drive) : Works s (t.discardBlock d) := by
  unfold State.discardBlock
  exact (Works.forEach (fun id _ w => w.discardRec id) _ h).modChan d _

theorem Works.modBayCart (h : Works s t) (d : Drive) (f : Cart → Cart) : Works s (t.modBayCart d f) := h.modLoc _ _

theorem Works.endPass (h : Works s t) (d : Drive) (normal : Bool) : Works s (t.endPass d normal) :=
  Works.ite ((h.emit _).modBayCart d _) (h.emit _)

theorem Works.stopReader (h : Works s t) (d : Drive) (normal : Bool) : Works s (t.stopReader d normal) := by
  unfold State.stopReader
  extract_lets s1 unchecked verify s2 s3 s4 s5 s6
  have h1 : Works s s1 := h.discardBlock d
  have h2 : Works s s2 := Works.ite (h1.modChan d _) h1
  have h4 : Works s s4 := ((h2.freeWhere _).discardDecode _).modChan d _
  have h6 : Works s s6 := (Works.ite (h4.endPass d normal) h4).modChan d _
  exact Works.ite h (Works.ite (h6.awaitAttached d .active) h6)

/-! ## Channels (chapter 4) -/

theorem Works.askClose (h : Works s t) (d : Drive) (r : CloseReason) : Works s (t.askClose d r) := by
  unfold State.askClose
  extract_lets c
  refine Works.ite h ?_
  split
  · exact h
  · exact (h.setChan d _).startJob _
  · exact Works.ite h (h.setChan d _)

theorem Works.forceRestart (h : Works s t) (d : Drive) : Works s (t.forceRestart d) := Works.ite h (h.setChan d _)

theorem Works.ageRelease (h : Works s t) (d : Drive) : Works s (t.ageRelease d) :=
  Works.ite ((h.modChan d _).askClose d .age) (h.modChan d _)

theorem Works.markTest (h : Works s t) (d : Drive) : Works s (t.markTest d) := Works.ite (h.setChan d _) h

theorem Works.ageTest (h : Works s t) (d : Drive) : Works s (t.ageTest d) := by
  unfold State.ageTest
  extract_lets c
  refine Works.ite ?_ h
  split
  · exact Works.ite (h.ageRelease d) h
  · exact h

theorem Works.restartTest (h : Works s t) (d : Drive) : Works s (t.restartTest d) := (h.markTest d).ageTest d

theorem Works.earlyTest (h : Works s t) (d : Drive) : Works s (t.earlyTest d) :=
  Works.ite ((h.countChan d _).askClose d .early) h

theorem Works.stopTest (h : Works s t) (d : Drive) : Works s (t.stopTest d) :=
  Works.ite ((h.setChan d _).restartTest d) h

theorem Works.raiseOccupancy (h : Works s t) (d : Drive) : Works s (t.raiseOccupancy d) :=
  Works.ite (h.countChan d _) (h.setChan d _)

theorem Works.setFull (h : Works s t) (d : Drive) (r : FullReason) : Works s (t.setFull d r) :=
  (((h.setChan d _).emit _).askClose d .fullOrUnmount).forceRestart d

theorem Works.fullTest (h : Works s t) (d : Drive) : Works s (t.fullTest d) := by
  unfold State.fullTest
  extract_lets c
  split
  · exact Works.ite (h.setFull d .capacity) h
  · exact h

theorem Works.enter (h : Works s t) (d : Drive) (st : ChanState) : Works s (t.enter d st) :=
  Works.ite h ((h.setChan d _).emit _)

theorem Works.enterWrite (h : Works s t) (d : Drive) : Works s (t.enterWrite d) :=
  ((h.modChan d _).enter d .write).fullTest d

theorem Works.enterUnmounted (h : Works s t) (d : Drive) : Works s (t.enterUnmounted d) :=
  (h.modChan d _).enter d .unmounted

theorem Works.enterEject (h : Works s t) (d : Drive) (forced : Bool) : Works s (t.enterEject d forced) := by
  unfold State.enterEject
  extract_lets left s1 suspect s2 s3
  have h3 : Works s s3 := (((h.modChan d _).enter d .ejectWait).emit _).awaitAttached d .waitRead
  exact Works.ite h3 (h3.enterUnmounted d)

theorem Works.drainTest (h : Works s t) (d : Drive) : Works s (t.drainTest d) :=
  Works.ite ((h.modChan d _).enterEject d false) h

theorem Works.dropAssembler (h : Works s t) (d : Drive) : Works s (t.dropAssembler d) :=
  Works.forEach (fun k _ w => w.suspendTest k) _ ((h.setChan d _).giveUpAll _)

theorem Works.failChannel (h : Works s t) (d : Drive) (cause : Cause) (named : Option Image) :
    Works s (t.failChannel d cause named) :=
  Works.ite h ((((((h.dropAssembler d).modChan d _).emit _).abortTargeting d .drive).stopReader d false).failAttached d .drive)

theorem Works.blockMoved (h : Works s t) (d : Drive) : Works s (t.blockMoved d) :=
  Works.ite ((h.modChan d _).modLoader _) (h.modChan d _)

theorem Works.forcedUnmount (h : Works s t) (d : Drive) : Works s (t.forcedUnmount d) := by
  unfold State.forcedUnmount
  extract_lets c dirty s1 s2
  have h1 : Works s s1 := (h.dropAssembler d).modChan d _
  have h2 : Works s s2 := Works.ite (h1.modBayCart d _) h1
  exact (h2.abortTargeting d .forced).enterEject d true

theorem Works.enterUnmounting (h : Works s t) (d : Drive) : Works s (t.enterUnmounting d) :=
  ((((h.enter d .unmounting).modChan d _).askClose d .fullOrUnmount).forceRestart d).drainTest d

theorem Works.unmountRule (h : Works s t) (force : Bool) (d : Drive) : Works s (unmountRule force d t).state := by
  unfold Machine.unmountRule
  extract_lets c
  cases c.state <;> simp only [apply_ite Effect.state, State.ok_state, State.turnAway_state]
  case unmounted => exact Works.ite (h.enterEject d false) h
  case mounting => exact Works.ite h (h.enterEject d false)
  case idle => exact h.enterEject d false
  case read => exact (h.stopReader d true).enterEject d false
  case write => exact Works.ite (h.forcedUnmount d) (h.enterUnmounting d)
  case unmounting => exact Works.ite (h.forcedUnmount d) h
  case ejectWait => exact h
  case failed => exact h

/-! ## The move queue (8.1, 8.3) -/

theorem Works.doorEvent (h : Works s t) (code : Nat) : Works s (t.doorEvent code) := h.emit _

theorem Works.syncLock (h : Works s t) : Works s t.syncLock := Works.ite h ((h.modLoader _).doorEvent _)

theorem Works.setPicker (h : Works s t) (st : PickState) : Works s (t.setPicker st) := (h.modPicker _).syncLock

theorem Works.releaseReserved (h : Works s t) (r : Reservation) : Works s (t.releaseReserved r) := h.modLoader _

theorem Works.modReq (h : Works s t) (stamp : Nat) (f : Req → Req) : Works s (t.modReq stamp f) := h.modLoader _

theorem Works.joinQueue (h : Works s t) (r : Req) : Works s (t.joinQueue r) := h.modLoader _

theorem Works.joinInternal (h : Works s t) (r : Req) : Works s (t.joinInternal r) := (h.joinQueue _).modLoader _

theorem Works.raiseInternal (h : Works s t) (r : Req) : Works s (t.raiseInternal r) :=
  Works.ite (h.countLoader _) (h.joinInternal r)

theorem Works.setPreemptRec (h : Works s t) (p : Option Preempt) : Works s (t.setPreemptRec p) := h.modLoader _

theorem Works.endPreempt (h : Works s t) : Works s t.endPreempt :=
  Works.forEach (fun k _ w => w.setPreempt false k) _ (Works.forEach (fun i _ w => w.modSession i _) _ (h.setPreemptRec none))

theorem Works.moveEnd (h : Works s t) (r : Req) (e : ReqEnd) : Works s (t.moveEnd r e) :=
  Works.ite (h.emit _).draw (h.emit _)

theorem Works.cleanEnd (h : Works s t) (r : Req) (e : ReqEnd) : Works s (t.cleanEnd r e) :=
  Works.ite (h.emit _).draw.draw (h.emit _)

theorem Works.endWaiting (h : Works s t) (stamp : Nat) (e : ReqEnd) : Works s (t.endWaiting stamp e) := by
  refine Works.forEach (fun i u w => Works.ite ?_ w) _ h
  cases e with
  | done => exact w
  | failed c => exact w.endSession i _
  | cancelled => exact w.endSession i _

theorem Works.closeReq (h : Works s t) (r : Req) (e : ReqEnd) : Works s (t.closeReq r e) := by
  unfold State.closeReq
  extract_lets s1 s2 s3
  have h2 : Works s s2 := (h.modLoader _).releaseReserved _
  have h3 : Works s s3 := by
    simp only [s3]
    split
    · exact h2.cleanEnd r e
    · exact h2.emit _
    · exact h2
  exact (h3.moveEnd r e).endWaiting r.stamp e

theorem Works.beginRemount (h : Works s t) (p : Preempt) : Works s (t.beginRemount p) := by
  unfold State.beginRemount
  extract_lets s1 still r s2
  have h1 : Works s s1 := Works.forEach (fun i _ w => w.modSession i _) _ h
  have h2 : Works s s2 := (h1.setPreemptRec _).joinInternal r
  refine Works.ite h1.endPreempt (Works.ite (h1.raiseInternal r).endPreempt (Works.ite ?_ h2))
  split
  · exact (h2.closeReq _ _).endPreempt
  · exact h2

theorem Works.endReq (h : Works s t) (r : Req) (e : ReqEnd) : Works s (t.endReq r e) := by
  unfold State.endReq
  extract_lets u
  have hu : Works s u := h.closeReq r e
  split
  · exact hu
  · exact Works.ite hu (Works.ite hu.endPreempt (Works.ite (Works.ite (hu.beginRemount _) hu.endPreempt) hu))

theorem Works.endStamp (h : Works s t) (stamp : Nat) (e : ReqEnd) : Works s (t.endStamp stamp e) := by
  unfold State.endStamp
  split
  · exact h.endReq _ e
  · exact h

theorem Works.queueReturn (h : Works s t) (dst : Loc) : Works s (t.queueReturn dst) := by
  unfold State.queueReturn
  refine Works.ite ?_ (h.joinInternal _)
  split
  · exact ((h.endReq _ _).countLoader _).joinInternal _
  · exact h.countLoader _

theorem Works.queueReturnToSource (h : Works s t) : Works s t.queueReturnToSource := h.queueReturn _

end Sys2Proof.Machine
end

section
/-! What the operations of the picker, the selection and the sensors keep (chapters 7 and 8). -/

namespace Sys2Proof.Machine

variable {s t : State}

/-! ## The picker (7.7) -/

theorem Works.sendOrder (h : Works s t) (st : Stage) (l : Option Loc) : Works s (t.sendOrder st l) := by
  unfold State.sendOrder
  extract_lets s1 s2
  have h1 : Works s s1 := by
    simp only [s1]
    split
    · exact h.modLoc _ _
    · exact h
  exact ((h1.modPicker _).countLoader _).setPicker _

theorem Works.requeue (h : Works s t) (r : Req) (st : ReqState) (blocked : Option Loc) :
    Works s (t.requeue r st blocked) :=
  ((h.modPicker _).releaseReserved _).modReq _ _

theorem Works.cutEnd (h : Works s t) : Works s t.cutEnd := by
  unfold State.cutEnd
  split
  · exact h
  · have ht (st : PickState) : Works s ((t.modPicker fun p => { p with cut := false }).setPicker st) :=
      (h.modPicker _).setPicker st
    refine Works.ite (Works.ite ((ht .holding).requeue _ _ _) ((ht .holding).endReq _ _).queueReturnToSource) ?_
    exact Works.ite ((ht .parked).endReq _ _) (Works.ite ((ht .parked).requeue _ _ _) ((ht .parked).endReq _ _))

theorem Works.sendLeg (h : Works s t) (st : Stage) (l : Loc) : Works s (t.sendLeg st l) :=
  Works.ite h.cutEnd (h.sendOrder st (some l))

theorem Works.homeTest (h : Works s t) : Works s t.homeTest := Works.ite (h.sendOrder .home none) h

theorem Works.startHoming (h : Works s t) (goal : HomeTo) : Works s (t.startHoming goal) :=
  ((h.modPicker _).setPicker .homing).homeTest

theorem Works.endRecovery (h : Works s t) (o : CmdOutcome) (e0 : Word) : Works s (t.endRecovery o e0) := by
  unfold State.endRecovery
  split
  · exact h
  · exact (h.emit _).modPicker _

theorem Works.homeDone (h : Works s t) : Works s t.homeDone := by
  unfold State.homeDone
  extract_lets s1 s2
  have h1 : Works s s1 := h.modPicker _
  split
  · have finish {u : State} (hu : Works s u) (c : Cart) : Works s
        (match (((u.modPicker fun p => { p with cart := some (p.cart.getD c) }).setPicker .holding).endRecovery .done
            (w32 PickState.holding.code)).picker.homeTo with
          | .mail => (((u.modPicker fun p => { p with cart := some (p.cart.getD c) }).setPicker .holding).endRecovery .done
              (w32 PickState.holding.code)).queueReturn mailLoc
          | .legSource => (((u.modPicker fun p => { p with cart := some (p.cart.getD c) }).setPicker .holding).endRecovery .done
              (w32 PickState.holding.code)).queueReturnToSource) := by
      have hv := (((hu.modPicker fun p => { p with cart := some (p.cart.getD c) }).setPicker .holding).endRecovery .done
        (w32 PickState.holding.code))
      split
      · exact hv.queueReturn _
      · exact hv.queueReturnToSource
    by_cases hc : s1.picker.cart.isSome = true
    · simp only [hc, if_true]
      exact finish h1 _
    · simp only [hc]
      exact finish h1.newCart _
  · have h2 : Works s s2 := by
      simp only [s2]
      split
      · exact h1
      · exact ((h1.modPicker _).releaseReserved _).emit _
    exact (h2.setPicker .parked).endRecovery _ _

theorem Works.clearExpectation (h : Works s t) (o : Order) : Works s (t.clearExpectation o) := by
  unfold State.clearExpectation
  split
  · exact h.modLoc _ _
  · exact h

theorem Works.faultPicker (h : Works s t) (cause : Cause) (o : Order) : Works s (t.faultPicker cause o) := by
  unfold State.faultPicker
  extract_lets left req s1 s2 s3 recovery
  have h1 : Works s s1 := (h.clearExpectation o).modPicker _
  have h2 : Works s s2 := by
    simp only [s2]
    split
    · exact h1.endReq _ _
    · exact h1
  exact (((h2.countLoader _).setPicker .faulted).emit _).modPicker _

theorem Works.modCartAt (h : Works s t) (l : Option Loc) (f : Cart → Cart) : Works s (t.modCartAt l f) := by
  cases l with
  | some l => exact h.frame rfl rfl
  | none => exact h.frame rfl rfl

theorem Works.cleanerTest (h : Works s t) (before after : Media) : Works s (t.cleanerTest before after) :=
  Works.ite (h.modLoader _) h

theorem Works.takeLabel (h : Works s t) (l : Option Loc) (text : List Byte) : Works s (t.takeLabel l text) := by
  unfold State.takeLabel
  split
  · exact h
  · refine Works.ite h ?_
    simp only []
    refine Works.cleanerTest (Works.modCartAt ?_ l _) _ _
    split
    · exact h
    · exact ((h.modCartAt _ _).emit _).countLoader _

theorem Works.labelReply (h : Works s t) (l : Option Loc) (r : Reply) : Works s (t.labelReply l r) := by
  unfold State.labelReply
  extract_lets s1 s2 code
  have h1 : Works s s1 := Works.ite (h.countLoader _) h
  have h2 : Works s s2 := by
    simp only [s2]
    split
    · exact h1.takeLabel l _
    · exact h1.modCartAt l _
  exact Works.ite (h2.emit _).draw (h2.emit _)

theorem Works.startMounting (h : Works s t) (d : Drive) (cleaning : Bool) : Works s (t.startMounting d cleaning) :=
  (h.enter d .mounting).modChan d _

theorem Works.bayLoad (h : Works s t) (d : Drive) : Works s (t.bayLoad d) := by
  unfold State.bayLoad
  split
  · exact h
  · extract_lets cleaning s1 s2
    have h1 : Works s s1 := Works.ite (h.modBayCart d _) h
    have h2 : Works s s2 := by
      simp only [s2]
      split
      · exact h1.modLoc _ _
      · exact h1
    exact h2.startMounting d cleaning

theorem Works.chooseScratch (h : Works s t) (r : Req) (d : Drive) : Works s (t.chooseScratch r d) := by
  unfold State.chooseScratch
  split
  · exact (h.modLoader _).modReq _ _
  · exact h.emit _

theorem Works.attachWaiting (h : Works s t) (stamp : Nat) (d : Drive) (link : Option (Drive × Option Nat)) :
    Works s (t.attachWaiting stamp d link) :=
  Works.forEach (fun i _ w => Works.ite (w.modSession i _) w) _ h

theorem Works.mountLegEnd (h : Works s t) (r : Req) : Works s (t.mountLegEnd r) := by
  unfold State.mountLegEnd
  extract_lets mine
  clear_value mine
  split
  · split
    · exact h.setPreemptRec _
    · exact h
  · split
    · exact (h.setPreemptRec _).attachWaiting _ _ _
    · exact h.attachWaiting _ _ _
    · exact h

theorem Works.legKind (h : Works s t) (r : Req) : Works s (t.legKind r) := by
  unfold State.legKind
  split
  · exact h.modLoader _
  · exact h.mountLegEnd r
  · split
    · exact h.chooseScratch r _
    · exact h
  · split
    · exact h.modReq _ _
    · exact h
  · split
    · exact Works.ite (h.setPreemptRec _) h
    · exact h
  · exact h

theorem Works.legEnd (h : Works s t) : Works s t.legEnd := by
  unfold State.legEnd
  split
  · exact h
  · next r _ =>
    extract_lets s1 s2
    have h2 : Works s s2 := (((h.modPicker _).releaseReserved _).legKind r).modReq _ _
    split
    · exact h2
    · split
      · exact h2.modReq _ _
      · exact h2.endReq _ _

theorem Works.visitEnd (h : Works s t) (labelled : Bool) : Works s (t.visitEnd labelled) := by
  unfold State.visitEnd
  split
  · exact h
  · extract_lets x s1
    have h1 : Works s s1 := (h.modPicker _).modReq _ _
    exact Works.ite (h1.endReq x _) (Works.ite (h1.endReq x _) h1)

theorem Works.gripDone (h : Works s t) (l : Loc) : Works s (t.gripDone l) := by
  unfold State.gripDone
  by_cases hc : (t.loc l).cart.isSome = true
  · simp only [hc, if_true]
    split
    · exact ((h.modLoc _ _).modPicker _).modReq _ _
    · exact (h.modLoc _ _).modPicker _
  · simp only [hc]
    split
    · exact ((h.newCart.modLoc _ _).modPicker _).modReq _ _
    · exact (h.newCart.modLoc _ _).modPicker _

theorem Works.leaveForLoad (h : Works s t) (d : Drive) : Works s (t.leaveForLoad d) := by
  unfold State.leaveForLoad
  split
  · exact h.modChan d _
  · exact h.modChan d _
  · exact h.stopReader d true
  · exact h

theorem Works.setDown (h : Works s t) (l : Loc) : Works s (t.setDown l) := (h.modLoc l _).modPicker _

theorem Works.releaseDone (h : Works s t) (l : Loc) : Works s (t.releaseDone l) := by
  unfold State.releaseDone
  split
  · exact ((h.leaveForLoad _).setDown l).bayLoad _
  · exact (h.setDown l).releaseReserved _
  · exact h.setDown l

theorem Works.arrive (h : Works s t) (l : Loc) : Works s (t.arrive l) := h.modPicker _

theorem Works.nextStep (h : Works s t) (st : Stage) (l : Loc) : Works s (t.nextStep st l) :=
  Works.ite h.cutEnd (h.sendLeg st l)

/-- R142 to R145: the reply to an order. -/
theorem Works.act (h : Works s t) (o : Order) (reply : Reply) : Works s (t.act o reply) := by
  unfold State.act
  split
  · next l _ _ =>
    have ha := h.arrive l
    refine Works.ite ha.cutEnd ?_
    split
    · exact Works.ite ((ha.setPicker .parked).endReq _ _) (ha.sendLeg _ _)
    · exact ha
  · next l _ _ =>
    have hg := h.gripDone l
    simp only []
    split
    · exact Works.ite (hg.nextStep _ _) (hg.nextStep _ _)
    · exact hg
  · exact (h.labelReply _ _).nextStep _ _
  · exact (h.labelReply _ _).nextStep _ _
  · exact (h.arrive _).nextStep _ _
  · exact ((h.releaseDone _).setPicker .parked).legEnd
  · exact (h.arrive _).nextStep _ _
  · exact Works.ite h.cutEnd (((h.labelReply _ _).setPicker .parked).visitEnd _)
  · exact Works.ite h.cutEnd (((h.labelReply _ _).setPicker .parked).visitEnd _)
  · exact h.homeDone
  · have hc := (h.clearExpectation o).setPicker .parked
    simp only []
    split
    · exact hc.endReq _ _
    · exact hc
  · have hc := (h.clearExpectation o).setPicker .holding
    simp only []
    split
    · exact Works.ite (hc.requeue _ _ _) (hc.endReq _ _).queueReturnToSource
    · exact hc
  · exact h.faultPicker _ _
  · exact h.faultPicker _ _

/-! ## The selection and the tests at an event's end (8.2) -/

theorem Works.noteUnmount (h : Works s t) (d : Drive) : Works s (t.noteUnmount d) := by
  unfold State.noteUnmount
  split
  · exact Works.ite (h.setPreemptRec _) h
  · exact h

theorem Works.takeUnmount (h : Works s t) (force : Bool) (d : Drive) : Works s (t.takeUnmount force d).state := by
  unfold State.takeUnmount
  extract_lets e
  have he : Works s e.state := h.unmountRule force d
  split
  · exact he.noteUnmount d
  · exact he

theorem Works.beginPreempt (h : Works s t) (r : Req) (v : Drive) : Works s (t.beginPreempt r v) := by
  have hs := Works.forEach (f := fun k (u : State) => if (u.stream k).targets.has v then u.setPreempt true k else u)
    (fun k _ w => Works.ite (w.setPreempt true k) w) allTags ((h.setPreemptRec
      (some { victim := v, cart := (t.bayCart v).map (·.uid), mount := r.stamp, phase := .draining })).countLoader
      fun c => { c with preempts := c.preempts.add 1 })
  exact (hs.failAttached v .preempted).modReq _ _

theorem Works.mountBlocked (h : Works s t) (r : Req) : Works s (t.mountBlocked r) := by
  unfold State.mountBlocked
  extract_lets wait
  have hw (w : WaitReason) : Works s (wait w) := h.modReq _ _
  refine Works.ite (Works.ite (hw _) (Works.ite (hw _) ?_)) (hw _)
  split
  · exact h.beginPreempt r _
  · exact hw _

theorem Works.activate (h : Works s t) (r : Req) : Works s (t.activate r) := by
  unfold State.activate
  extract_lets cart keep s1 s2 visiting placed
  have h2 : Works s s2 := (h.modReq _ _).modPicker _
  split
  · have h3 : Works s visiting := h2.modReq _ _
    split
    · exact h3.sendLeg _ _
    · exact h3
  · have h3 : Works s placed := h2.modLoc _ _
    split
    · exact h3.sendLeg _ _
    · exact h3.sendLeg _ _

theorem Works.judge (h : Works s t) (q : Req) : Works s (t.judge q) := by
  unfold State.judge
  extract_lets r u wait
  have hu : Works s u := h.modReq _ _
  have hw (w : WaitReason) {v : State} (hv : Works s v) : Works s (wait w v) := hv.modReq _ _
  clear_value wait
  split
  · split
    · exact (hu.modLoader _).endReq _ _
    · exact hu
  · split
    · exact hw _ hu
    · exact hu.endReq _ _
    · exact hu.endReq _ _
    · exact hw _ (hu.takeUnmount _ _)
    · exact hw _ (hu.takeUnmount _ _)
    · exact hu.mountBlocked r
    · split
      · exact (hu.modReq _ _).activate _
      · exact hw _ hu
    · exact hu.activate r

theorem Works.selectFrom : ∀ (xs : List Nat) {t : State}, Works s t → Works s (State.selectFrom xs t)
  | [], _, h => h
  | x :: xs, _, h => by
    unfold State.selectFrom
    refine Works.ite h ?_
    split
    · exact Works.selectFrom xs (Works.ite (h.judge _) h)
    · exact Works.selectFrom xs h

theorem Works.selection (h : Works s t) : Works s t.selection := Works.ite (Works.selectFrom _ h) h

theorem Works.changeoverTest (h : Works s t) (ref : State) (d : Drive) : Works s (State.changeoverTest ref d t) :=
  Works.ite (Works.ite (h.raiseInternal _) (((h.modChan d _).joinInternal _).countLoader _)) h

theorem Works.cleanTest (h : Works s t) (ref : State) (d : Drive) : Works s (State.cleanTest ref d t) :=
  Works.ite (Works.ite (h.raiseInternal _) ((h.joinInternal _).countLoader _)) h

theorem Works.orphanTest (h : Works s t) (ref : State) : Works s (ref.orphanTest t) := by
  refine Works.forEach (fun x u w => ?_) _ h
  split
  · exact Works.ite (w.endReq _ _) w
  · exact w

theorem Works.preemptTest (h : Works s t) (ref : State) : Works s (ref.preemptTest t) := by
  unfold State.preemptTest
  split
  · exact h
  · split
    · exact Works.ite (h.beginRemount _) h
    · exact Works.ite h.endPreempt h
    · exact h

theorem Works.settleLoop : ∀ (n : Nat) (ref : State) {t : State}, Works s t → Works s (State.settleLoop n ref t)
  | 0, _, _, h => h
  | n + 1, ref, t, h => by
    unfold State.settleLoop
    extract_lets s1 s2 s3
    have h2 : Works s s2 := Works.forEach (fun d _ w => w.cleanTest ref d) _
      (Works.forEach (fun d _ w => w.changeoverTest ref d) _ ((h.preemptTest ref).orphanTest ref))
    exact Works.ite h2.selection (Works.settleLoop n s2 h2.selection)

/-- The tests at the end of an event. -/
theorem Works.settle (h : Works s t) (ref : State) : Works s (ref.settle t) := Works.ite (Works.settleLoop 64 ref h) h

/-- A command's own rule, with the tests that follow it. -/
theorem Works.settled {rule : State → Effect} (h : Works s (rule t).state) : Works s (settled rule t).state := by
  unfold Machine.settled
  simp only [apply_ite Effect.state]
  exact Works.ite h (h.settle t)

/-! ## Sensors (7.2) -/

theorem Works.manualChange (h : Works s t) (l : Loc) (full : Bool) : Works s (t.manualChange l full) := by
  unfold State.manualChange
  extract_lets s1
  have h1 : Works s s1 := h.countLoader _
  split
  · exact (h1.newCart.modLoc _ _).emit _
  · exact h1.emit _
  · exact h1.emit _
  · exact ((h1.modLoc _ _).releaseReserved _).emit _

theorem Works.presenceChange (h : Works s t) (l : Loc) (full : Bool) : Works s (t.presenceChange l full) := by
  have h1 : Works s (if (t.loc l).expected = some full then t.modLoc l fun x => { x with expected := none }
      else t.manualChange l full) := Works.ite (h.modLoc _ _) (h.manualChange l full)
  exact Works.ite (h1.modLoader _) h1

theorem Works.bayChange (h : Works s t) (d : Drive) (old new : Level) : Works s (t.bayChange d old new) := by
  unfold State.bayChange
  split
  · exact Works.ite h (h.enterUnmounted d)
  · exact Works.ite (h.failChannel d _ _) h
  · exact Works.ite (h.failChannel d _ _) h
  · exact Works.ite (h.failChannel d _ _) h
  · exact Works.ite (h.failChannel d _ _) h
  · exact Works.ite (h.failChannel d _ _) h
  · exact h

theorem Works.placeChange (h : Works s t) (l : Loc) (old new : Level) : Works s (t.placeChange l old new) := by
  unfold State.placeChange
  extract_lets s1
  have h1 : Works s s1 := Works.ite (h.presenceChange l _) h
  split
  · exact h1.bayChange _ old new
  · exact h1

theorem Works.unlatch (h : Works s t) (m : Fin 2) : Works s (t.unlatch m) := by
  unfold State.unlatch
  extract_lets s1
  have h1 : Works s s1 := (h.modLoader _).doorEvent _
  split
  · exact Works.ite (h1.modPicker _) h1
  · exact h1

theorem Works.renewSlot (h : Works s t) (l : Loc) : Works s (t.renewSlot l) := by
  unfold State.renewSlot
  split
  · exact h
  · exact ((h.newCart.modLoc _ _).releaseReserved _).emit _

theorem Works.relatch (h : Works s t) (m : Fin 2) : Works s (t.relatch m) := by
  unfold State.relatch
  extract_lets s1 s2
  have h1 : Works s s1 := h.modLoader _
  have h2 : Works s s2 := (Works.forEach (fun l _ w => w.renewSlot l) _ h1).doorEvent _
  exact Works.ite (h2.raiseInternal _) h2

theorem Works.strayOrder (h : Works s t) : Works s t.strayOrder := h.modPicker _

theorem Works.doorChange (h : Works s t) (opened : Bool) : Works s (t.doorChange opened) := by
  unfold State.doorChange
  refine Works.ite ?_ (h.doorEvent 0).homeTest
  have h1 := h.doorEvent 1
  simp only []
  split
  · exact Works.ite (h1.faultPicker _ _).strayOrder h1
  · exact h1

theorem Works.press (h : Works s t) : Works s t.press := by
  unfold State.press
  extract_lets s1 rec_
  have h1 (n : Nat) : Works s (s1.emit (rec_ n)) := (h.countLoader _).emit _
  refine Works.ite (h1 1) (Works.ite (h1 2) (Works.ite (h1 3) ?_))
  split
  · exact h1 4
  · exact Works.ite ((h1 5).raiseInternal _) ((h1 0).joinInternal _)

theorem Works.powerChange (h : Works s t) (d : Drive) (fault : Bool) : Works s (t.powerChange d fault) :=
  Works.ite (((h.modLoader _).failChannel d .power none).emit _) (h.emit _)

theorem Works.debounced (h : Works s t) (x : Sensor) (old new : Level) : Works s (t.debounced x old new) := by
  cases x with
  | presence l => exact h.placeChange _ old new
  | bay d => exact h.placeChange _ old new
  | gripper => exact h
  | door => exact h.doorChange _
  | latch m => exact Works.ite (h.unlatch m) (h.relatch m)
  | button => exact Works.ite h.press h
  | power d => exact h.powerChange d _

end Sys2Proof.Machine
end

section
/-! What the operations of the assembler, the sends, the checks, the reader, the restore and the parameters keep (chapters 4,
5 and 6, 10.4). -/

namespace Sys2Proof.Machine

variable {s t : State}

/-! ## The assembler (4.4) -/

theorem Works.openImage (h : Works s t) (d : Drive) : Works s (t.openImage d) := h.modChan d _

theorem Works.startPlacement (h : Works s t) (d : Drive) (r : ChunkRec) (held : Option Nat) (i : Image) :
    Works s (t.startPlacement d r held i) := by
  unfold State.startPlacement
  extract_lets p s1 s2
  have h2 : Works s s2 := (h.modChan d _).startJob _
  split
  · exact h2.suspendTest _
  · exact h2

theorem Works.assemble (h : Works s t) (d : Drive) : Works s (t.assemble d) := by
  unfold State.assemble
  extract_lets c
  split
  · split
    · exact h
    · extract_lets held
      split
      · exact Works.ite (h.askClose d _) (h.startPlacement d _ _ _)
      · refine Works.ite ?_ h
        split
        · exact (h.openImage d).startPlacement d _ _ _
        · exact h.openImage d
  · exact h

theorem Works.imageFreed (h : Works s t) (d : Drive) (slot : Nat) : Works s (t.imageFreed d slot) :=
  Works.ite (h.assemble d) h

theorem Works.closeAfter (h : Works s t) (d : Drive) : Works s (t.closeAfter d) := by
  unfold State.closeAfter
  extract_lets c s1
  split
  · exact h
  · extract_lets s2
    have h1 : Works s s1 := by
      simp only [s1]
      split
      · exact h.askClose d _
      · exact h
    have h2 : Works s s2 := Works.ite (h1.askClose d _) h1
    exact Works.ite (h2.askClose d _) h2

theorem Works.endPlacement (h : Works s t) (d : Drive) (p : Placement) : Works s (t.endPlacement d p) := by
  unfold State.endPlacement
  split
  · extract_lets s1 s2 s3 s4
    have h3 : Works s s3 := ((h.poke _ _).modChan d _).modRec _ (fun _ => rfl) fun _ => rfl
    have h4 : Works s s4 := Works.ite ((h3.endTest _).giveUp _) h3
    exact ((h4.closeAfter d).earlyTest d).drainTest d
  · exact h

theorem Works.writeBlock (h : Works s t) (d : Drive) (i : Image) : Works s (t.writeBlock d i).1 :=
  ((h.poke _ _).poke _ _).poke _ _

theorem Works.endClose (h : Works s t) (d : Drive) (r : CloseReason) : Works s (t.endClose d r) := by
  unfold State.endClose
  split
  · exact h
  · next i _ =>
    exact (((h.writeBlock d i).modChan d _).markTest d).drainTest d

theorem Works.asmFault (h : Works s t) (acc : AsmAccess) : Works s (t.asmFault acc) := by
  cases acc with
  | chunkRead => exact h.poolFault
  | imageWrite => exact h.ownFault

theorem Works.drainStep (h : Works s t) (d : Drive) (n : Nat) : Works s (t.drainStep d n) :=
  ((h.modChan d _).stopTest d).earlyTest d

/-! ## Sending (4.5) -/

theorem Works.readUnderCursor (h : Works s t) (d : Drive) (len : Nat) : Works s (t.readUnderCursor d len) := by
  unfold State.readUnderCursor
  split
  · exact h
  · exact (h.modChan d _).issue _

theorem Works.startSend (h : Works s t) (d : Drive) (i : Image) : Works s (t.startSend d i) :=
  (h.modChan d _).earlyTest d

theorem Works.judgeRead (h : Works s t) (d : Drive) (len : Nat) : Works s (t.judgeRead d len).1 := by
  unfold State.judgeRead
  extract_lets c
  have sent : Works s (if c.cursor.isSome then (t.readUnderCursor d len, none)
      else if !c.running then (t, some Answer.retry)
      else match c.oldestQueued with
        | none => (t, some Answer.retry)
        | some i => ((t.startSend d i).readUnderCursor d len, none)).1 := by
    split
    · exact h.readUnderCursor d len
    · split
      · exact h
      · split
        · exact h
        · exact (h.startSend d _).readUnderCursor d len
  cases c.state with
  | write => exact sent
  | unmounting => exact sent
  | unmounted => exact h
  | mounting => exact h
  | idle => exact h
  | read => exact h
  | ejectWait => exact h
  | failed => exact h

theorem Works.emitMarks (h : Works s t) (d : Drive) (code : Byte) (seq : Word) (sends : Nat) (marks : List Word) :
    Works s (t.emitMarks d code seq sends marks) :=
  Works.forEach (fun _ _ w => w.emit _) marks h

theorem Works.completeFirst (h : Works s t) (d : Drive) (i : Image) : Works s (t.completeFirst d i) := by
  unfold State.completeFirst
  extract_lets n s1
  have h1 : Works s s1 := h.countChan d _
  exact Works.ite (h1.modChan d _) ((((h1.modChan d _).emitMarks d _ _ _ _).countChan d _).imageFreed d _)

theorem Works.completeSend (h : Works s t) (d : Drive) (k : Cursor) : Works s (t.completeSend d k) := by
  unfold State.completeSend
  extract_lets s1 s2 s3
  have h2 : Works s s2 := ((h.modChan d _).blockMoved d).raiseOccupancy d
  have h3 : Works s s3 := by
    refine Works.ite (h2.countChan d _) ?_
    split
    · exact h2.completeFirst d _
    · exact h2
  exact ((h3.fullTest d).earlyTest d).drainTest d

theorem Works.readDone (h : Works s t) (d : Drive) (r : SendRead) : Works s (t.readDone d r) := by
  unfold State.readDone
  split
  · exact h
  · refine Works.ite h ?_
    extract_lets left s1
    have h1 : Works s s1 := Works.ite (h.countChan d _) h
    exact Works.ite (h1.completeSend d _) (h1.modChan d _)

theorem Works.readFault (h : Works s t) (d : Drive) (r : SendRead) : Works s (t.readFault d r) :=
  Works.ite (h.ownFault.failChannel d _ _) h.ownFault

theorem Works.judgeWaiting (d : Drive) : ∀ (ns : List Nat) {t : State}, Works s t → Works s (State.judgeWaiting d ns t).1
  | [], _, h => by
    unfold State.judgeWaiting
    dsimp only
    exact h.modChan d _
  | n :: ns, t, h => by
    have hj : Works s (t.judgeRead d n).1 := h.judgeRead d n
    unfold State.judgeWaiting
    split
    · next u x e =>
      rw [e] at hj
      exact Works.judgeWaiting d ns hj
    · next u e =>
      rw [e] at hj
      dsimp only at hj ⊢
      exact hj.modChan d _

/-! ## Checks (chapter 5) -/

theorem Works.goBack (h : Works s t) (d : Drive) (head : VerifyEntry) (cause : Cause) : Works s (t.goBack d head cause) :=
  ((h.setChan d _).forceRestart d).emit _

theorem Works.failHead (h : Works s t) (d : Drive) (cause : Cause) : Works s (t.failHead d cause) := by
  unfold State.failHead
  split
  · exact h
  · exact Works.ite ((h.countChan d _).failChannel d _ _) (h.goBack d _ _)

theorem Works.readbackExpiry (h : Works s t) (d : Drive) : Works s (t.readbackExpiry d) :=
  (h.countChan d _).failHead d .timeout

theorem Works.overdueTest (h : Works s t) (d : Drive) : Works s (t.overdueTest d) := by
  unfold State.overdueTest
  split
  · exact Works.ite (h.readbackExpiry d) h
  · exact h

theorem Works.verifyHead (h : Works s t) (d : Drive) : Works s (t.verifyHead d) := by
  unfold State.verifyHead
  split
  · exact h
  · exact ((((h.modChan d _).emitMarks d _ _ _ _).imageFreed d _).overdueTest d).drainTest d

theorem Works.readbackArrival (h : Works s t) (d : Drive) (r : Readback) : Works s (t.readbackArrival d r) := by
  unfold State.readbackArrival
  extract_lets c sound seq s1
  have h1 : Works s s1 := Works.ite h (h.countChan d _)
  split
  · exact h1.countChan d _
  · exact Works.ite (h1.verifyHead d)
      (Works.ite (h1.countChan d _) (Works.ite (h1.countChan d _) ((h1.countChan d _).failHead d _)))

theorem Works.readbackByte (h : Works s t) (d : Drive) (b : Byte) : Works s (State.readbackByte d t b) := by
  unfold State.readbackByte
  extract_lets c
  split
  · exact Works.ite ((h.setChan d _).readbackArrival d _) (h.setChan d _)
  · exact Works.ite ((h.setChan d _).readbackArrival d _) (h.setChan d _)
  · exact h

theorem Works.takeReadback : ∀ {t : State} (d : Drive) (data : List Byte), Works s t → Works s (t.takeReadback d data)
  | _, _, [], h => h
  | _, d, b :: bs, h => Works.takeReadback d bs (h.readbackByte d b)

/-! ## The reader (6.1, 2.5) -/

theorem Works.setRx (h : Works s t) (d : Drive) (rx : BlockRx) : Works s (t.setRx d rx) := h.modChan d _

theorem Works.modReader (h : Works s t) (d : Drive) (f : Reader → Reader) : Works s (t.modReader d f) := h.modChan d _

/-- R36: a record made for an owner holds no page. -/
theorem Works.createRec (h : Works s t) {f : Frag} {q : Requester} {id : Nat} {u : State}
    (hrun : t.path.startup = .running) (e : t.createRec f q = some (id, u)) : Works s u := by
  unfold State.createRec at e
  split at e
  · cases e
  · simp only [Option.some.injEq, Prod.mk.injEq] at e
    obtain ⟨-, rfl⟩ := e
    refine h.repool (free := t.pool.free) (reservation := t.pool.reservation) (fun w => ?_) fun a => a
    refine poolSound_repool w hrun (idsRise_insert_lowestFree (poolSound_idsRise w) rfl) ?_ fun a => a
    rw [heldPages_insertRec]
    simp

theorem Works.createRecs (f : Frag) : ∀ (qs : List Requester) {t u : State} {ids : List Nat}, Works s t →
    t.path.startup = .running → State.createRecs f qs t = some (ids, u) → Works s u
  | [], t, u, _, h, _, e => by
    simp only [State.createRecs, Option.some.injEq, Prod.mk.injEq] at e
    exact e.2 ▸ h
  | q :: qs, t, u, ids, h, hrun, e => by
    unfold State.createRecs at e
    split at e
    · cases e
    · next id v e1 =>
      have hv := h.createRec hrun e1
      have hrun' : v.path.startup = .running :=
        (layout_startup ((Works.refl t).createRec hrun e1).layout).trans hrun
      split at e
      · cases e
      · next ids' w e2 =>
        simp only [Option.some.injEq, Prod.mk.injEq] at e
        exact e.2 ▸ Works.createRecs f qs hv hrun' e2

/-- R36: the record that takes a page of the free list. -/
def ChunkRec.covered (k : Nat) (x : ChunkRec) : ChunkRec :=
  { x with pages := x.pages ++ [k], provPages := x.provPages + 1, provisional := x.provisional + 1 }

/-- R36, R39: one byte joins a record; the page that it may take leaves the free list for the record. -/
theorem Works.copyByte (h : Works s t) {b : Byte} {id : Nat} {u : State} (e : t.copyByte b id = some u) : Works s u := by
  unfold State.copyByte at e
  split at e
  · cases e; exact h
  · next r hr =>
    simp only [] at e
    split at e
    · cases e
    · next k ks _ hfree =>
      cases e
      refine Works.pokeChunk ?_ _ _ _
      have moved : Works s (t.repool ks t.pool.reservation
          (t.pool.records.map fun x => if x.id = id then x.covered k else x)) := by
        refine h.repool (fun w => ?_) fun a => a
        have held := heldPages_modify (ChunkRec.covered k) (poolSound_idsRise w) hr
        refine poolSound_repool w (findRec_isSome_running w hr)
          (idsRise_congr (ids_modify id (ChunkRec.covered k) (fun _ => rfl) _) (poolSound_idsRise w)) ?_ fun a => a
        simp only [ChunkRec.covered, hfree, List.length_cons, List.length_append, List.length_nil] at held ⊢
        omega
      exact moved
    · have hm := h.modRec id (f := fun x => { x with provisional := x.provisional + 1 }) (fun _ => rfl) fun _ => rfl
      cases e
      exact Works.ite (hm.pokeChunk _ _ _) hm

theorem Works.copyAll (b : Byte) : ∀ (ids : List Nat) {t u : State}, Works s t → State.copyAll b ids t = some u → Works s u
  | [], _, _, h, e => by cases e; exact h
  | id :: ids, t, u, h, e => by
    unfold State.copyAll at e
    split at e
    · cases e
    · next v e1 => exact Works.copyAll b ids (h.copyByte e1) e

theorem Works.fragHeaderDone (h : Works s t) (d : Drive) (rx : BlockRx) (f : FragFields) :
    Works s (t.fragHeaderDone d rx f) := by
  unfold State.fragHeaderDone
  extract_lets owners pend rec_ u
  have hu : Works s u := Works.forEach
    (fun id _ w => w.modRec id (f := fun x => { x with lastIn := true }) (fun _ => rfl) fun _ => rfl) _ h
  exact Works.ite (h.setRx d _) (hu.setRx d _)

theorem Works.fragData (h : Works s t) {d : Drive} {rx : BlockRx} {left : Nat} {b : Byte} {u : State} {c : Bool}
    (hrun : t.path.startup = .running) (e : t.fragData d rx left b = some (u, c)) : Works s u := by
  unfold State.fragData at e
  simp only [] at e
  split at e
  · cases e
  · next ids v made =>
    have hv : Works s v := by
      split at made
      · cases made; exact h
      · exact Works.createRecs _ _ h hrun made
      · cases made; exact h
    split at e
    · cases e
    · next w hw =>
      have hc := Works.copyAll b ids hv hw
      cases e
      exact hc.setRx d _

theorem Works.blockArrival (h : Works s t) (d : Drive) : Works s (t.blockArrival d) := by
  unfold State.blockArrival
  exact (h.blockMoved d).modChan d _

theorem Works.rxByte (h : Works s t) {d : Drive} {b : Byte} {copied c : Bool} {u : State}
    (hrun : t.path.startup = .running) (e : State.rxByte d (some (t, copied)) b = some (u, c)) : Works s u := by
  unfold State.rxByte at e
  simp only [] at e
  split at e
  · cases e; exact h.countChan d _
  · split at e
    · cases e
    · next v c' next =>
      have hv : Works s v := by
        split at next
        · cases next; exact h.setRx d _
        · split at next
          · cases next; exact h.fragHeaderDone d _ _
          · cases next; exact h.setRx d _
        · exact h.fragData hrun next
        · cases next; exact h.setRx d _
      cases e
      exact Works.ite (hv.blockArrival d) hv

theorem rxByte_foldl_none (d : Drive) : ∀ data : List Byte, data.foldl (State.rxByte d) none = none
  | [] => rfl
  | _ :: bs => rxByte_foldl_none d bs

theorem Works.rxBytes (d : Drive) : ∀ (data : List Byte) {t u : State} {copied c : Bool}, Works s t →
    t.path.startup = .running → data.foldl (State.rxByte d) (some (t, copied)) = some (u, c) → Works s u
  | [], _, _, _, _, h, _, e => by cases e; exact h
  | b :: bs, t, u, copied, c, h, hrun, e => by
    rw [List.foldl_cons] at e
    cases hb : State.rxByte d (some (t, copied)) b with
    | none => rw [hb, rxByte_foldl_none] at e; cases e
    | some r =>
      obtain ⟨v, c'⟩ := r
      rw [hb] at e
      have hrun' : v.path.startup = .running :=
        (layout_startup ((Works.refl t).rxByte hrun hb).layout).trans hrun
      exact Works.rxBytes d bs (h.rxByte hrun hb) hrun' e

theorem Works.takeBlockBytes (h : Works s t) {d : Drive} {data : List Byte} {u : State} (hrun : t.path.startup = .running)
    (e : t.takeBlockBytes d data = some u) : Works s u := by
  unfold State.takeBlockBytes at e
  split at e
  · cases e
  · next v copied hv =>
    have hw := Works.rxBytes d data h hrun hv
    simp only [Option.some.injEq] at e
    subst e
    have hfree : Works s (if v.pool.free.length = t.pool.free.length then v else v.setFree v.pool.free) :=
      Works.ite hw (Works.setFree hw)
    exact Works.ite ((hfree.modChan d _).issue _) hfree

theorem Works.readWrite (h : Works s t) (d : Drive) (data : List Byte) (hrun : t.path.startup = .running) :
    Works s (t.readWrite d data) := by
  unfold State.readWrite
  extract_lets rx
  refine Works.ite (h.answer _) (Works.ite (h.answer _) ?_)
  split
  · exact (h.answer [.retry]).frame rfl rfl
  · next u hu => exact (h.takeBlockBytes hrun hu).answer _

/-! ## The commit and the sessions (2.5, 6.4) -/

theorem Works.commitRec (h : Works s t) (id : Nat) : Works s (t.commitRec id) := by
  unfold State.commitRec
  split
  · exact h
  · exact h.modRec id (fun _ => rfl) fun _ => rfl

theorem Works.verifyNew (h : Works s t) (d : Drive) (id : Nat) : Works s (t.verifyNew d id) := by
  unfold State.verifyNew
  split
  · exact Works.ite (h.modReader d _) h
  · exact h

theorem Works.verifyTake (h : Works s t) (d : Drive) (frags : List Frag) : Works s (t.verifyTake d frags) := by
  unfold State.verifyTake
  refine Works.ite h (Works.forEach (fun id _ w => w.verifyNew d id) _ ?_)
  split
  · exact h
  · exact Works.ite ((h.modReader d _).modReader d _) (((h.modReader d _).freeRec _).modReader d _)

theorem Works.joinChunk (h : Works s t) (i : SessionId) (r : ChunkRec) : Works s (t.joinChunk i r) := h.modSession i _

theorem Works.loseChunks (h : Works s t) (i : SessionId) (first : Word) (count len : Nat) (setend : Bool) :
    Works s (t.loseChunks i first count len setend) :=
  Works.ite (h.modSession i _) (h.endSession i _)

theorem Works.takePending (h : Works s t) (i : SessionId) (frags : List Frag) : Works s (t.takePending i frags).1 := by
  unfold State.takePending
  split
  · exact h
  · split
    · exact h.joinChunk i _
    · exact ((h.modSession i _).freeRec _).loseChunks i _ _ _ _

theorem Works.collectFrag (h : Works s t) (d : Drive) (i : SessionId) (f : Frag) : Works s (State.collectFrag d i f t) := by
  unfold State.collectFrag
  extract_lets x u
  have hu : Works s u := Works.ite (h.loseChunks i _ _ _ _) h
  refine Works.ite h (Works.ite ?_ (Works.ite h (h.loseChunks i _ _ _ _)))
  split
  · exact h
  · exact Works.ite hu (Works.ite (hu.joinChunk i _) (hu.modSession i _))

theorem Works.sessionTake (h : Works s t) (d : Drive) (frags : List Frag) (i : SessionId) :
    Works s (State.sessionTake d frags i t) := by
  unfold State.sessionTake
  exact Works.ite h (Works.forEach (fun f _ w => w.collectFrag d i f) _ (h.takePending i frags))

/-! ## Delivery and decodes (6.5) -/

theorem Works.fullyRead (h : Works s t) (i : SessionId) : Works s (t.fullyRead i) :=
  Works.ite (h.endSession i _) (Works.ite (h.setSession i _) h)

theorem Works.fillBuffer (h : Works s t) (i : SessionId) (b : Delivery) : Works s (t.fillBuffer i b) :=
  Works.ite ((h.modSession i _).fullyRead i) (h.modSession i _)

theorem Works.deliver (h : Works s t) (i : SessionId) (len : Nat) : Works s (t.deliver i len) :=
  Works.ite (((h.modSession i _).answer _).fullyRead i) ((h.modSession i _).answer _)

theorem Works.dropHead (h : Works s t) (q : Requester) : Works s (t.dropHead q) := by
  cases q with
  | session i => exact h.frame rfl rfl
  | verify d => exact h.frame rfl rfl

theorem Works.sessionOutcome (h : Works s t) (i : SessionId) (r : ChunkRec) (o : DecodeOutcome) (out : List Byte) :
    Works s (t.sessionOutcome i r o out) := by
  unfold State.sessionOutcome
  exact Works.ite (h.fillBuffer i _) (Works.ite ((h.setSession i _).fillBuffer i _) (h.endSession i _))

theorem Works.verifyOutcome (h : Works s t) (d : Drive) (o : DecodeOutcome) : Works s (t.verifyOutcome d o) :=
  h.modReader d _

/-! ## Modes and resets (4.2, 4.8) -/

theorem Works.enterRead (h : Works s t) (d : Drive) (options first : Word) : Works s (t.enterRead d options first) :=
  (Works.forEach (fun i _ w => w.modSession i _) _ (h.modReader d _)).enter d .read

theorem Works.enterMode (h : Works s t) (d : Drive) (m : Mode) (options first : Word) :
    Works s (t.enterMode d m options first) := by
  cases m with
  | idle => exact h.enter d .idle
  | write => exact h.enterWrite d
  | read => exact h.enterRead d options first

theorem Works.endReading (h : Works s t) (d : Drive) : Works s (t.endReading d) := (h.stopReader d true).enter d .idle

theorem Works.resetState (h : Works s t) (d : Drive) : Works s (t.resetState d) :=
  Works.ite (h.enter d .idle) (h.enterUnmounted d)

theorem Works.resetChannel (h : Works s t) (d : Drive) : Works s (t.resetChannel d) := by
  unfold State.resetChannel
  extract_lets c dirty s1 s2 s3
  have h1 : Works s s1 := (h.dropAssembler d).modChan d _
  have h2 : Works s s2 := Works.ite (h1.modBayCart d _) h1
  exact (((h2.abortTargeting d .reset).stopReader d false).failAttached d .reset).resetState d

theorem Works.resetVictim (h : Works s t) (d : Drive) : Works s (t.resetVictim d) := Works.ite h.endPreempt h

theorem Works.endCleaning (h : Works s t) (d : Drive) (clean : Bool) : Works s (t.endCleaning d clean) := by
  unfold State.endCleaning
  extract_lets s1
  have h1 : Works s s1 := Works.ite ((h.modLoader _).modChan d _) (h.modLoader _)
  exact h1.enterEject d false

theorem Works.rejudge (h : Works s t) (l : Loc) : Works s (t.rejudge l) := by
  unfold State.rejudge
  exact Works.ite (h.setFilter _ _) ((h.setFilter _ _).placeChange l _ _)

theorem Works.cancelAll (h : Works s t) : Works s t.cancelAll := Works.forEach (fun x _ w => w.endStamp x _) _ h

/-! ## Parameters (10.4) -/

theorem Works.overdueStall (h : Works s t) (i : SessionId) : Works s (t.overdueStall i) := by
  unfold State.overdueStall
  split
  · exact Works.ite (h.endSession i _) h
  · exact h

theorem Works.limitOccupancy (h : Works s t) (d : Drive) : Works s (t.limitOccupancy d) :=
  Works.ite ((h.modChan d _).earlyTest d) h

theorem Works.paramChanged (h : Works s t) (p : Param) : Works s (t.paramChanged p) := by
  unfold State.paramChanged
  split
  · exact h.holdTest
  · exact h.holdTest
  · exact h.holdTest.waitTest
  · exact h.modChan _ _
  · exact h.limitOccupancy _
  · exact h.markTest _
  · exact h.ageTest _
  · exact h.fullTest _
  · exact Works.forEach (fun d _ w => w.overdueTest d) _ h
  · exact Works.forEach (fun i _ w => w.overdueStall i) _ h
  · exact h

/-! ## Stray accesses (R179) -/

theorem Works.stray (h : Works s t) (ingest : Bool) (arg : Nat) (acc : Access) : Works s (t.stray ingest arg acc) := by
  unfold State.stray
  extract_lets ti tr
  have hi : Works s ti := h.countPath _
  have hr : Works s tr := h.countPath _
  exact Works.ite (Works.ite ((hi.modPath rfl).emit _) hi) (Works.ite ((hr.modPath rfl).emit _) hr)

end Sys2Proof.Machine
end

section
/-! What the events keep that change the ring unit's registers, take or return the reservation of a pack job, or enter RUNNING;
with the work of the blocks, every event of the part. -/

namespace Sys2Proof.Machine

variable {s t u : State}

/-! ## Events -/

/-- The event that leads from `s` to `t` keeps every invariant of the part. -/
structure Keeps (s t : State) : Prop where
  memory : s.memorySound → t.memorySound
  irq : s.irqSound → t.irqSound
  ring : s.ringSound → t.ringSound
  pool : s.poolSound → t.poolSound

theorem Keeps.trans (h : Keeps s t) (k : Keeps t u) : Keeps s u :=
  ⟨k.memory ∘ h.memory, k.irq ∘ h.irq, k.ring ∘ h.ring, k.pool ∘ h.pool⟩

theorem Works.irq (h : Works s t) : s.irqSound → t.irqSound := by
  obtain ⟨hs, hu, hi⟩ := control_status h.control
  simp only [State.irqSound, hs, hu, hi]
  exact id

theorem Works.ring (h : Works s t) : s.ringSound → t.ringSound := by
  obtain ⟨-, -, hi, hr⟩ := control_commands h.control
  have hf := h.fits
  simp only [State.ringSound, Ring.fits, hi, hr, layout_startup h.layout] at hf ⊢
  exact fun ⟨a, b, c⟩ => ⟨a, hf b, c⟩

theorem Works.keeps (h : Works s t) : Keeps s t := ⟨h.memory, h.irq, h.ring, h.pool⟩

/-- An event that changes the ring unit alone, and the memory port. -/
theorem Keeps.ofRing (hm : t.mem = s.mem) (hl : t.path.layout = s.path.layout) (hp : t.pool = s.pool)
    (hk : t.pack = s.pack) (hi : s.irqSound → t.irqSound) (hr : s.ringSound → t.ringSound) : Keeps s t :=
  ⟨fun w => by rwa [State.memorySound, hm], hi, hr,
    poolSound_congr hl (by rw [hp]) (by rw [hk]) (by rw [hk])⟩

/-! ## The intake (R184) -/

theorem intakeTest_layout (s : State) : s.intakeTest.path.layout = s.path.layout := by
  rcases s.intakeTest_cases with ⟨-, e⟩ | ⟨-, ⟨-, e⟩ | ⟨-, -, e⟩ | ⟨-, -, e⟩⟩ <;> rw [e] <;> rfl

theorem intakeTest_irq (s : State) (h : s.irqSound) : s.intakeTest.irqSound := by
  rcases s.intakeTest_cases with ⟨-, e⟩ | ⟨-, ⟨-, e⟩ | ⟨-, -, e⟩ | ⟨-, -, e⟩⟩ <;> rw [e] <;> exact h

/-- The intake takes a command where a place can be reserved for its COMMAND_DONE, and then reserves it. -/
theorem intakeTest_ring (s : State) (h : s.ringSound) : s.intakeTest.ringSound := by
  obtain ⟨hr, hb, ho⟩ := h
  rcases s.intakeTest_cases with ⟨-, e⟩ | ⟨hi, he⟩
  · rw [e]; exact ⟨hr, hb, ho⟩
  · have hrun : s.path.startup = .running := by
      by_contra k
      have := ho k
      rcases hi with hi | hi <;> simp [hi] at this
    have hno : s.ring.reserved = false := by rcases hi with hi | hi <;> simp [hr, hi]
    rcases he with ⟨-, e⟩ | ⟨-, room, e⟩ | ⟨-, -, e⟩
    · rw [e]; exact ⟨hno, hb, fun k => absurd hrun k⟩
    · rw [e]
      have fit := fits_of_room room
      refine ⟨rfl, ?_, fun k => absurd hrun k⟩
      simp only [hno, Bool.toNat_false] at fit
      simp only [State.issue_ring, State.modRing_ring, Bool.toNat_true]
      omega
    · rw [e]; exact ⟨hno, hb, fun k => absurd hrun k⟩

theorem Keeps.intakeTest (h : Keeps s t) : Keeps s t.intakeTest :=
  h.trans (.ofRing (mem_of_outside t.intakeTest_outside) (intakeTest_layout t) t.intakeTest_pool t.intakeTest_pack
    (intakeTest_irq t) (intakeTest_ring t))

/-! ## Status records and index words (R183, R187) -/

theorem Keeps.takeProducer (h : Keeps s t) (v : Half) : Keeps s (t.takeProducer v) := by
  unfold State.takeProducer
  split
  · refine Keeps.intakeTest (h.trans (.ofRing rfl rfl rfl rfl id id))
  · exact h.trans (((Works.refl t).countRing _).emit _).keeps

/-- R188: the line follows the status consumer index. -/
theorem Keeps.takeConsumer (h : Keeps s t) (v : Half) : Keeps s (t.takeConsumer v) := by
  unfold State.takeConsumer
  split
  · refine Keeps.intakeTest (h.trans (.ofRing rfl rfl rfl rfl (fun _ => rfl) id))
  · exact h.trans (((Works.refl t).countRing _).emit _).keeps

theorem Works.memoryAccess (h : Works s t) (acc : Access) : Works s (t.memoryAccess acc).1 := by
  cases acc with
  | read a n => exact h
  | write a ds => exact h.poke _ _

theorem Keeps.forwardedDone (h : Works s t) (f : Forwarded) (ok : Bool) : Keeps s (t.forwardedDone f ok) := by
  unfold State.forwardedDone
  split
  · extract_lets r s1 s2
    have h1 : Keeps s s1 := ((h.memoryAccess f.acc).answer _).keeps
    have h2 : Keeps s s2 := by
      simp only [s2]
      split
      · exact h1.takeProducer _
      · exact h1
    split
    · exact h2.takeConsumer _
    · exact h2
  · exact ((h.answer _).countPath _).keeps

theorem Keeps.answerForwarded (s : State) (want : Forwarded → Bool) (ok : Bool) : Keeps s (s.answerForwarded want ok) := by
  unfold State.answerForwarded
  extract_lets p
  split
  · split
    · exact Keeps.forwardedDone ((Works.refl s).modPort _) _ ok
    · exact (Works.refl s).keeps
  · exact (Works.refl s).keeps

theorem Works.ringWriteFault (h : Works s t) : Works s t.ringWriteFault := (h.ownFault.modPath rfl).countPath _

theorem Works.issueHead (h : Works s t) : Works s t.issueHead := Works.ite h (h.issue _)

/-- A record that leaves the buffer leaves more room in it. -/
theorem ringSound_shorter {g : State} {r : Record} {rest : List Record} (hb : g.ring.buffer = r :: rest)
    (h : g.ringSound) (hc : (t.ring.intake, t.ring.reserved) = (g.ring.intake, g.ring.reserved))
    (hl : t.path.startup = g.path.startup) (ht : t.ring.buffer = rest) : t.ringSound := by
  obtain ⟨hi, hr⟩ := Prod.mk.inj hc
  obtain ⟨a, b, c⟩ := h
  rw [hb, List.length_cons] at b
  refine ⟨by rw [hr, hi]; exact a, ?_, by rw [hl, hi]; exact c⟩
  rw [ht, hr]
  omega

theorem Keeps.recordWritten {r : Record} {rest : List Record} (hb : t.ring.buffer = r :: rest) (h : Keeps s t) :
    Keeps s (t.recordWritten r rest) :=
  h.trans ⟨fun w => t.poke_sound _ _ w, fun _ => rfl, fun w => ringSound_shorter hb w rfl rfl rfl,
    poolSound_congr rfl rfl rfl rfl⟩

theorem Keeps.recordLost {r : Record} {rest : List Record} (hb : t.ring.buffer = r :: rest) (h : Keeps s t) :
    Keeps s (t.recordLost rest) :=
  h.trans ⟨id, id, fun w => ringSound_shorter hb w rfl rfl rfl, poolSound_congr rfl rfl rfl rfl⟩

/-! ## Commands (R184, R185) -/

/-- The end of the command that was read: its record takes the reserved place. -/
theorem Keeps.endCommand (s : State) (kind : Nat) (tag : Half) (o : CmdOutcome) (r : Results) (extra : Word)
    (hi : s.ring.intake = .reading) : Keeps s (s.endCommand kind tag o r extra) := by
  unfold State.endCommand
  extract_lets done t1 t2
  refine Keeps.intakeTest ?_
  obtain ⟨hc, hl⟩ := joinBuffer_account (t1.issue (.commandIndex t1.ring.c)) done
  obtain ⟨hs, hu, hirq⟩ := control_status hc
  obtain ⟨-, -, hint, -⟩ := control_commands hc
  refine .ofRing (mem_of_outside (State.joinBuffer_outside ..)) hl (State.joinBuffer_pool ..) (State.joinBuffer_pack ..)
    (fun w => ?_) fun w => ?_
  · simp only [State.irqSound, State.modRing_ring, t2, hs, hu, hirq]
    exact w
  · obtain ⟨a, b, c⟩ := w
    have hrun : s.path.startup = .running := by
      by_contra k
      have := c k
      simp [hi] at this
    simp only [State.ringSound, State.modRing_ring, State.modRing_path, t2, hint, layout_startup hl, State.joinBuffer_buffer,
      List.length_append, List.length_singleton, Bool.toNat_false]
    simp only [a, hi, beq_self_eq_true, Bool.toNat_true] at b
    exact ⟨rfl, b, fun k => absurd hrun k⟩

/-- A command that acts only where the slot read brings it. -/
theorem Keeps.command (s : State) (c : Instr) (kind : Nat) (tag : Half) {owner : State → Effect}
    (h : ∀ t, Works t (owner t).state) : Keeps s (s.command c kind tag owner) := by
  by_cases ht : s.takes c = true
  · rw [s.command_of_taken c kind tag owner ht]
    have hw : Works s (owner s.atOwner).state := ((Works.refl s).answered _).trans (h _)
    have hi : (owner s.atOwner).state.ring.intake = .reading :=
      (control_commands hw.control).2.2.1.trans (s.takes_reading c ht).1
    exact hw.keeps.trans (Keeps.endCommand _ _ _ _ _ _ hi)
  · rw [s.command_of_not_taken c kind tag owner (by simpa using ht)]
    exact (Works.refl s).keeps

/-! ## The pack engine (1.5, 2.3) -/

theorem Works.handOff (h : Works s t) (k : Tag) (id : Nat) (packed : Bool) : Works s (t.handOff k id packed) := by
  unfold State.handOff
  extract_lets targets s1 s2
  have h2 : Works s s2 := (h.modRec id (f := fun r => { r with outstanding := targets.count }) (fun _ => rfl)
    fun _ => rfl).modStream k _
  exact Works.forEach (fun d _ w => Works.ite (w.giveUp id) (w.modChan d _)) _ h2

theorem pagesFor_pos (n : Nat) : 0 < pagesFor n := by
  simp only [pagesFor, ceilDiv]
  omega

/-- R31: a grant needs free pages, which there are in RUNNING alone. -/
theorem running_of_grantable {n : Nat} (h : s.poolSound) (hg : s.grantable (pagesFor n) = true) :
    s.path.startup = .running := by
  by_contra hn
  have hp := pagesFor_pos n
  simp [State.grantable, State.usable, State.freePages, (h.2.1 hn).1] at hg
  omega

/-- The state in which a pack start takes its pages, before the test of the POOL hold. -/
def State.packReserved (s : State) (k : Tag) (buf : BufId) : State :=
  let x := s.stream k
  let f := x.buf buf
  let n := f.bytes.length
  let mode := x.jobMode n
  let id := lowestFree 0 s.pool.records
  let s1 := s.setStream k ({ x with skip := x.skipAtStart n }.setBuf buf { f with state := .packing })
  let s2 := s1.modPool fun p =>
    { p with reservation := p.free.take (pagesFor n), records := insertRec (startedRecord k x f id) p.records }
  let s3 := s2.modPack fun p =>
    { p with
      job := some { tag := k, buf := buf, setend := f.setend, mode := mode, input := f.bytes, record := id, discarded := false }
      chosen := none, waiting := false
      hash := if mode = .encode then [] else p.hash
      encoded := p.encoded.add (if mode = .encode then 1 else 0)
      copied := p.copied.add (if mode = .encode then 0 else 1) }
  s3.modPool fun p => { p with
    free := s.pool.free.drop (pagesFor n), lowMark := min p.lowMark (s.pool.free.drop (pagesFor n)).length }

theorem packStart_eq (s : State) (k : Tag) (buf : BufId) : s.packStart k buf = ((s.packReserved k buf).holdTest).startJob .pack := rfl

/-- R31: the pages of a grant pass from the free list to the reservation, which was empty. -/
theorem Keeps.packStart (s : State) (k : Tag) (buf : BufId) (hj : s.pack.job = none) (hd : s.pack.draining = none)
    (hg : s.grantable (pagesFor ((s.stream k).buf buf).bytes.length) = true) : Keeps s (s.packStart k buf) := by
  rw [packStart_eq]
  refine Keeps.trans (t := s.packReserved k buf) ⟨id, id, id, fun w => ?_⟩ ((Works.refl _).holdTest.startJob .pack).keeps
  have hrun := running_of_grantable w hg
  have hres := w.2.2.2 hj hd
  have hcount := w.1 hrun
  refine ⟨fun _ => Eq.trans ?_ hcount, fun e => absurd hrun e,
    idsRise_insert_lowestFree (poolSound_idsRise w) rfl, fun e => by cases e⟩
  have held := heldPages_insertRec (startedRecord k (s.stream k) ((s.stream k).buf buf) (lowestFree 0 s.pool.records)) s.pool.records
  simp only [heldPages, startedRecord, List.length_nil, Nat.zero_add] at held
  simp only [State.pageCount, State.packReserved, State.modPool_pool, State.modPack_pool, State.setStream_pool, startedRecord, held,
    hres, List.length_nil, List.length_drop, List.length_take]
  omega

theorem writePages_pool : ∀ (s : State) (pages : List Nat) (bs : List Byte), (s.writePages pages bs).pool = s.pool
  | _, [], _ => rfl
  | s, k :: ks, bs => by
    unfold State.writePages
    split
    · rfl
    · exact writePages_pool _ ks _

theorem modify_of_find?_none {id : Nat} (f : ChunkRec → ChunkRec) {l : List ChunkRec} (h : l.find? (·.id == id) = none) :
    (l.map fun r => if r.id = id then f r else r) = l := by
  conv_rhs => rw [← List.map_id l]
  refine List.map_congr_left fun r hr => ?_
  have : r.id ≠ id := by simpa using List.find?_eq_none.1 h r hr
  rw [if_neg this]
  rfl

/-- R32: the chunk record's pages and those that return are the pages of the reservation, and those that the record held. -/
theorem poolSound_split (j : PackJob) (n : Nat) (f : ChunkRec → ChunkRec) (hid : ∀ r, (f r).id = r.id)
    (hf : ∀ r, (f r).pages = (t.splitReservation j n).1) (w : t.poolSound) :
    (t.repool (t.pool.free ++ (t.splitReservation j n).2) []
      (t.pool.records.map fun r => if r.id = j.record then f r else r)).poolSound := by
  have ids := idsRise_congr (ids_modify j.record f hid _) (poolSound_idsRise w)
  cases hr : t.findRec j.record with
  | some r =>
    have held := heldPages_modify f (poolSound_idsRise w) hr
    refine poolSound_repool w (findRec_isSome_running w hr) ids ?_ fun _ => rfl
    simp only [hf, State.splitReservation, hr, List.length_take] at held
    simp only [State.splitReservation, hr, List.length_append, List.length_drop, List.length_nil]
    omega
  | none =>
    have held := modify_of_find?_none f hr
    by_cases hrun : t.path.startup = .running
    · refine poolSound_repool w hrun ids ?_ fun _ => rfl
      rw [held]
      simp only [State.splitReservation, hr, List.length_append, List.length_nil]
      omega
    · obtain ⟨hfree, hres, hrec⟩ := w.2.1 hrun
      refine ⟨fun a => absurd a hrun, fun _ => ⟨?_, rfl, ?_⟩, ids, fun _ _ => rfl⟩
      · simp [State.repool, State.splitReservation, hr, hfree, hres]
      · simp [State.repool, hrec]

/-- R20: the chunk record, once the stored chunk stands in its pages. -/
def PackJob.packedRec (j : PackJob) (pages : List Nat) (x : ChunkRec) : ChunkRec :=
  { x with
    pages := pages, bodyLen := some (packBody j.mode j.input).2.length
    form := some (if (packBody j.mode j.input).1 then 1 else 0), check := some (crc32 j.input), state := .packed }

/-- The pages that a completion gives the chunk record, and those that return. -/
def State.jobPages (s : State) (j : PackJob) : List Nat × List Nat :=
  s.splitReservation j (ceilDiv (storedChunk j.mode j.setend j.input).length Config.pageSize)

/-- R20, R32: the state in which a completed job's chunk stands in the pool. -/
def State.chunkStored (s : State) (j : PackJob) : State :=
  let s1 := s.writePages (s.jobPages j).1 (storedChunk j.mode j.setend j.input)
  let s3 := (s1.modPool fun p => { p with reservation := [] }).modRec j.record (j.packedRec (s.jobPages j).1)
  s3.setFree (s3.pool.free ++ (s.jobPages j).2)

theorem settleJob_eq (s : State) (j : PackJob) : s.settleJob j =
    (((s.chunkStored j).modStream j.tag fun x => (x.countOutcome j.mode (packBody j.mode j.input).1).emptied j.buf).handOff
      j.tag j.record (packBody j.mode j.input).1).suspendTest j.tag := rfl

theorem Works.chunkStored (h : Works s t) (j : PackJob) : Works s (t.chunkStored j) := by
  unfold State.chunkStored
  extract_lets s1 s3
  have hpool : s1.pool = t.pool := writePages_pool t _ _
  have same : s1.jobPages j = t.jobPages j := by
    simp only [State.jobPages, State.splitReservation, State.findRec, hpool]
  have h1 : Works s s1 := Works.writePages _ _ h
  refine Works.setFree (u := s3) (h1.repool (free := s1.pool.free ++ (t.jobPages j).2) (reservation := [])
    (records := s1.pool.records.map fun x : ChunkRec => if x.id = j.record then j.packedRec (t.jobPages j).1 x else x)
    (fun w => ?_) fun _ => rfl)
  rw [← same]
  exact poolSound_split j _ _ (fun _ => rfl) (fun _ => rfl) w

/-- R20, R32: the completion of a job takes nothing of the pool, and leaves no reservation. -/
theorem Works.settleJob (h : Works s t) (j : PackJob) :
    Works s (t.settleJob j) ∧ (t.settleJob j).pool.reservation = [] := by
  rw [settleJob_eq]
  have rest := (((Works.refl (t.chunkStored j)).modStream j.tag fun x =>
    (x.countOutcome j.mode (packBody j.mode j.input).1).emptied j.buf).handOff j.tag j.record
      (packBody j.mode j.input).1).suspendTest j.tag
  exact ⟨(h.chunkStored j).trans rest, rest.unreserved (setFree_pool _ _).2.2⟩

/-- R20, R33: the completion of a discarded job returns the reservation. -/
theorem Works.returnJob (h : Works s t) (j : PackJob) :
    Works s (t.returnJob j) ∧ (t.returnJob j).pool.reservation = [] := by
  unfold State.returnJob
  extract_lets s1 s2
  have h1 : Works s s1.returnReservation := (Works.writePages _ _ h).returnReservation
  have rest := ((((Works.refl s1.returnReservation).freeRec j.record).modStream j.tag fun x => x.emptied j.buf).modPack
    (f := fun p => { p with discardedJobs := p.discardedJobs.add 1 }) rfl rfl).suspendTest j.tag
  exact ⟨h1.trans rest, rest.unreserved (returnReservation_none s1)⟩

/-- Without a reservation the pack engine may be idle. -/
theorem Keeps.modPack {f : Pack → Pack} (h : t.pool.reservation = []) : Keeps t (t.modPack f) :=
  ⟨id, id, id, fun ⟨a, b, c, _⟩ => ⟨a, b, c, fun _ _ => h⟩⟩

/-- R20: while the writes of a faulted job are not all answered, its reservation stands. -/
theorem Keeps.modPack_draining {f : Pack → Pack} (h : (f t.pack).draining ≠ none) : Keeps t (t.modPack f) :=
  ⟨id, id, id, fun ⟨a, b, c, _⟩ => ⟨a, b, c, fun _ e => absurd e h⟩⟩

theorem Keeps.faultJob (h : Works s t) (j : PackJob) : Keeps s (t.faultJob j) := by
  unfold State.faultJob
  extract_lets s1 s2
  have h1 : Keeps s s1 := h.poolFault.keeps.trans (Keeps.modPack_draining (by simp))
  have h2 : Works s1 s2 := ((Works.refl s1).modStream j.tag _).suspendTest j.tag
  exact h1.trans (Works.ite h2 (h2.abortStream j.tag .memory none)).packChoose.keeps

/-! ## Start-up (9.1) -/

/-- R171: a rejected image leaves the intake STOPPED and the pool without pages, as LOADING has them. -/
theorem Keeps.rejectImage (h : s.loading = true) (hw : Works s t) : Keeps s t.rejectImage := by
  have hs : s.path.startup ≠ .running := by
    simp only [State.loading, beq_iff_eq] at h
    simp [h]
  have ht : t.path.startup ≠ .running := by rwa [layout_startup hw.layout]
  refine hw.keeps.trans ⟨id, id, fun ⟨a, b, c⟩ => ⟨a, b, fun _ => c ht⟩, fun ⟨_, b, c, d⟩ => ⟨fun e => ?_, fun _ => b ht, c, d⟩⟩
  simp [State.rejectImage] at e

/-- The state at the entry to RUNNING, before the loader becomes active. -/
def State.layoutTaken (s : State) (g : ConfigImage) (y : Layout) : State :=
  let s1 := s.modPath fun p =>
    { p with
      startup := .running, windows := g.windows, imageVersion := g.version, paramEntries := g.entries.length
      poolBase := y.poolBase, poolPages := y.poolPages, imageBase := y.imageBase, imageLimit := y.limit }
  let s2 : State := { s1 with params := startParams y.poolPages y.limit g.entries }
  s2.modPool fun p => { p with free := List.range y.poolPages, lowMark := y.poolPages }

theorem Works.buildLocations (h : Works s t) : Works s t.buildLocations :=
  Works.forEach (fun _ _ w => Works.ite (w.newCart.modLoc _ _) w) _ h

theorem Works.startLoader (h : Works s t) : Works s t.startLoader := ((h.modLoader _).modLoader _).buildLocations

theorem enterRunning_eq (s : State) (g : ConfigImage) (y : Layout) : s.enterRunning g y =
    (((((s.layoutTaken g y).startLoader.modRing fun r => { r with intake := .idle }).issue (.commandIndex 0)).emit
      (((s.layoutTaken g y).startLoader.modRing fun r => { r with intake := .idle }).issue
        (.commandIndex 0)).readyRecord).holdTest).startHoming .mail := rfl

/-- R170: every page of the pool is free at the entry to RUNNING, and the intake becomes IDLE. -/
theorem Keeps.enterRunning (h : s.loading = true) (g : ConfigImage) (y : Layout) : Keeps s (s.enterRunning g y) := by
  have hs : s.path.startup ≠ .running := by
    simp only [State.loading, beq_iff_eq] at h
    simp [h]
  have awake : ∀ z, Works (s.layoutTaken g y) z → Keeps s (z.modRing fun r => { r with intake := .idle }) := by
    refine fun z loader => ⟨fun w => loader.memory w, fun w => loader.irq w, fun w => ?_, fun w => ?_⟩
    · obtain ⟨a, b, c⟩ := w
      obtain ⟨-, -, -, hr⟩ := control_commands loader.control
      have free : s.ring.reserved = false := by rw [a, c hs]; rfl
      exact ⟨hr.trans free, loader.fits b, fun k => absurd (layout_startup loader.layout) k⟩
    · obtain ⟨-, hres, hrec⟩ := w.2.1 hs
      refine loader.pool ⟨fun _ => ?_, fun k => absurd rfl k, w.2.2.1, fun _ _ => hres⟩
      simp [State.pageCount, State.layoutTaken, hres, hrec]
  rw [enterRunning_eq]
  exact (awake _ (Works.refl _).startLoader).trans ((((Works.refl _).issue _).emit _).holdTest.startHoming .mail).keeps

theorem Keeps.resetPin (s : State) (filters : Vector Filter 34) : Keeps s { State.reset with
    pending := s.pending, mem := s.mem, drawn := s.drawn, loader := { State.reset.loader with filters := filters } } :=
  ⟨id, fun _ => rfl, fun _ => ⟨rfl, Nat.zero_le _, fun _ => rfl⟩,
    fun _ => ⟨fun e => Startup.noConfusion e, fun _ => ⟨rfl, rfl, rfl⟩, List.Pairwise.nil, fun _ _ => rfl⟩⟩

end Sys2Proof.Machine
end

section
/-! What every command of the command ring keeps while its owner acts (R185). -/

namespace Sys2Proof.Machine

variable {s t u : State}

/-! ## The owners' rules -/

section
variable (h : Works s t)
include h

theorem Works.openStreamRule (p0 p1 p2 p3 : Word) : Works s (openStreamRule p0 p1 p2 p3 t).state := by
  unfold Machine.openStreamRule
  split
  · simp only [apply_ite Effect.state, State.ok_state, State.turnAway_state]
    exact Works.ite h (Works.ite h (Works.ite h (h.modStream _ _)))
  · exact h

theorem Works.adminRule (on : Bool) (p0 : Word) : Works s (adminRule on p0 t).state := by
  unfold Machine.adminRule
  split
  · exact h
  · simp only [apply_ite Effect.state, State.ok_state, State.turnAway_state]
    exact Works.ite h (h.modStream _ _)

theorem Works.setTargetsRule (p0 p1 : Word) : Works s (setTargetsRule p0 p1 t).state := by
  unfold Machine.setTargetsRule
  split
  · simp only [apply_ite Effect.state, State.ok_state, State.turnAway_state]
    exact Works.ite h (h.modStream _ _)
  · exact h

theorem Works.setArbTableRule (p0 p1 p2 p3 : Word) : Works s (setArbTableRule p0 p1 p2 p3 t).state := by
  unfold Machine.setArbTableRule
  split
  · exact h
  · exact h.modPack (f := fun p => { p with pendingTable := _ }) rfl rfl

theorem Works.suspendRule (on : Bool) (p0 : Word) : Works s (suspendRule on p0 t).state := by
  unfold Machine.suspendRule
  split
  · exact h
  · split
    · exact h
    · exact h
    · simp only [apply_ite Effect.state, State.ok_state]
      exact Works.ite h ((h.modStream _ _).causesChanged _)

theorem Works.endStreamRule (tag : Half) (p0 : Word) : Works s (endStreamRule tag p0 t).state := by
  unfold Machine.endStreamRule
  split
  · exact h
  · split
    · exact (h.modStream _ _).packChoose
    · exact (h.modStream _ _).packChoose
    · exact h

theorem Works.abortStreamRule (p0 : Word) : Works s (abortStreamRule p0 t).state := by
  unfold Machine.abortStreamRule
  split
  · exact h
  · simp only [apply_ite Effect.state, State.ok_state, State.turnAway_state]
    exact Works.ite h (h.abortStream _ _ _)

theorem Works.resetStreamsRule : Works s (resetStreamsRule t).state := by
  simp only [Machine.resetStreamsRule, State.ok_state]
  exact h.abortWhere _ _ _

theorem Works.openOnBay (i : SessionId) (x : Session) (d : Drive) : Works s (t.openOnBay i x d).state := by
  simp only [State.openOnBay, apply_ite Effect.state, State.turnAway_state]
  exact Works.ite h (h.setSession _ _)

theorem Works.openOnSlot (i : SessionId) (x : Session) (l : Loc) (uid : Nat) (pref : Option Drive) (preempt : Bool) :
    Works s (t.openOnSlot i x l uid pref preempt).state := by
  unfold State.openOnSlot
  split
  · exact h.setSession _ _
  · simp only [apply_ite Effect.state, State.turnAway_state]
    exact Works.ite h ((h.setSession _ _).joinInternal _)

theorem Works.openRestoreRule (tag : Half) (preempt cont : Bool) (p0 p1 p2 p3 p4 p5 : Word) :
    Works s (openRestoreRule tag preempt cont p0 p1 p2 p3 p4 p5 t).state := by
  unfold Machine.openRestoreRule
  split
  next i pref l _ _ _ =>
    simp only [apply_ite Effect.state, State.turnAway_state]
    refine Works.ite h (Works.ite h ?_)
    generalize (t.loc l).cart = cart
    cases cart with
    | none => exact h
    | some c =>
      simp only [apply_ite Effect.state, State.turnAway_state]
      refine Works.ite h ?_
      cases bayOf l with
      | some d => exact h.openOnBay _ _ _
      | none => exact h.openOnSlot _ _ _ _ _ _
  next => exact h

theorem Works.cancelRestoreRule (p0 : Word) : Works s (cancelRestoreRule p0 t).state := by
  unfold Machine.cancelRestoreRule
  split
  · exact h
  · simp only [apply_ite Effect.state, State.ok_state, State.turnAway_state]
    exact Works.ite h (h.endSession _ _)

theorem Works.mountedRule (p0 p1 p2 p3 p4 p5 p6 p7 : Word) : Works s (mountedRule p0 p1 p2 p3 p4 p5 p6 p7 t).state := by
  unfold Machine.mountedRule
  split
  · split
    · simp only [apply_ite Effect.state, State.ok_state, State.turnAway_state]
      exact Works.ite ((h.setChan _ _).enterMode _ _ _ _) h
    · exact h
  · exact h

theorem Works.setModeRule (p0 p1 p2 p3 : Word) : Works s (setModeRule p0 p1 p2 p3 t).state := by
  unfold Machine.setModeRule
  split
  · dsimp only
    split <;> simp only [apply_ite Effect.state, State.ok_state, State.turnAway_state]
    case h_4 => exact Works.ite (h.enterMode _ _ _ _) h
    case h_5 => exact Works.ite ((h.modChan _ _).enter _ _) h
    case h_6 => exact h.endReading _
    all_goals exact h
  · exact h

theorem Works.endOfDataRule (p0 : Word) : Works s (endOfDataRule p0 t).state := by
  unfold Machine.endOfDataRule
  split
  · exact h
  · simp only [apply_ite Effect.state, State.ok_state, State.turnAway_state]
    exact Works.ite (h.endReading _) h

theorem Works.flushRule (p0 : Word) : Works s (flushRule p0 t).state := by
  unfold Machine.flushRule
  split
  · exact h
  · split
    · exact (Works.ite (h.askClose _ _) h).forceRestart _
    · exact h
    · exact h

theorem Works.earlyWarningRule (p0 : Word) : Works s (earlyWarningRule p0 t).state := by
  unfold Machine.earlyWarningRule
  split
  · exact h
  · split
    · simp only [apply_ite Effect.state, State.ok_state]
      exact Works.ite h (h.setFull _ _)
    · exact h
    · exact h

theorem Works.unmountCommand (force : Bool) (p0 : Word) : Works s (unmountCommand force p0 t).state := by
  unfold Machine.unmountCommand
  split
  · exact h
  · exact h.takeUnmount force _

theorem Works.resetChannelRule (p0 : Word) : Works s (resetChannelRule p0 t).state := by
  unfold Machine.resetChannelRule
  split
  · exact h
  · simp only [State.ok_state]
    exact (h.resetChannel _).resetVictim _

theorem Works.queueCommand (tag : Half) (r : Req) : Works s (t.queueCommand tag r).state := by
  simp only [State.queueCommand, apply_ite Effect.state, State.turnAway_state]
  exact Works.ite h (h.joinQueue _)

theorem Works.moveRule (tag : Half) (force : Bool) (p0 p1 : Word) : Works s (moveRule tag force p0 p1 t).state := by
  unfold Machine.moveRule
  split
  · simp only [apply_ite Effect.state, State.turnAway_state]
    exact Works.ite h (h.queueCommand _ _)
  · exact h

theorem Works.exportRule (tag : Half) (force : Bool) (p0 : Word) : Works s (exportRule tag force p0 t).state := by
  unfold Machine.exportRule
  split
  · simp only [apply_ite Effect.state, State.turnAway_state]
    exact Works.ite h (h.queueCommand _ _)
  · exact h

theorem Works.inventoryRule (tag : Half) (p0 p1 : Word) : Works s (inventoryRule tag p0 p1 t).state := by
  unfold Machine.inventoryRule
  split
  · simp only [apply_ite Effect.state, State.turnAway_state]
    exact Works.ite (h.queueCommand _ _) h
  · exact h

theorem Works.cancelMoveRule (p0 p1 : Word) : Works s (cancelMoveRule p0 p1 t).state := by
  unfold Machine.cancelMoveRule
  simp only [apply_ite Effect.state, State.turnAway_state]
  refine Works.ite h ?_
  split
  · exact h
  · simp only [apply_ite Effect.state, State.turnAway_state]
    refine Works.ite h (Works.ite h ?_)
    split
    · exact h.endReq _ _
    · exact h.endReq _ _
    · simp only [apply_ite Effect.state, State.ok_state, State.turnAway_state]
      exact Works.ite (h.modReq _ _) h

theorem Works.setScratchRule (p0 p1 p2 p3 p4 p5 p6 : Word) : Works s (setScratchRule p0 p1 p2 p3 p4 p5 p6 t).state := by
  unfold Machine.setScratchRule
  simp only [apply_ite Effect.state, State.turnAway_state]
  refine Works.ite h ?_
  split
  · exact h
  · simp only [apply_ite Effect.state, State.ok_state, State.turnAway_state]
    exact Works.ite (h.modLoader _) h

theorem Works.cleanRule (p0 : Word) : Works s (cleanRule p0 t).state := by
  unfold Machine.cleanRule
  split
  · exact h
  · simp only [State.ok_state]
    exact h.modLoader _

theorem Works.setCleanUsesRule (p0 p1 : Word) : Works s (setCleanUsesRule p0 p1 t).state := by
  unfold Machine.setCleanUsesRule
  split
  · exact h
  · simp only [apply_ite Effect.state, State.turnAway_state]
    refine Works.ite h ?_
    split
    · exact h
    · simp only [apply_ite Effect.state, State.ok_state, State.turnAway_state]
      exact Works.ite ((h.modLoc _ _).cleanerTest _ _) h

theorem Works.cleanDoneRule (p0 : Word) : Works s (cleanDoneRule p0 t).state := by
  unfold Machine.cleanDoneRule
  split
  · exact h
  · simp only [apply_ite Effect.state, State.ok_state, State.turnAway_state]
    exact Works.ite (h.endCleaning _ _) h

theorem Works.doorLockRule (on : Bool) : Works s (doorLockRule on t).state := (h.modLoader _).syncLock

theorem Works.drivePowerRule (p0 p1 : Word) : Works s (drivePowerRule p0 p1 t).state := by
  unfold Machine.drivePowerRule
  split
  · exact h
  · simp only [apply_ite Effect.state, State.ok_state, State.turnAway_state]
    exact Works.ite h (Works.ite h (Works.ite h (h.modLoader _)))

theorem Works.recoverRule (tag : Half) : Works s (recoverRule tag t).state := by
  unfold Machine.recoverRule
  simp only [apply_ite Effect.state, State.turnAway_state]
  exact Works.ite ((h.modPicker _).startHoming _) h

theorem Works.resetLoaderRule : Works s (resetLoaderRule t).state := by
  have ended : Works s (if t.loader.preempt.isSome then t.endPreempt else t) := Works.ite h.endPreempt h
  simp only [Machine.resetLoaderRule, State.ok_state]
  exact (Works.forEach (fun l _ w => w.rejudge l) allLocs
    (((ended.cancelAll.endRecovery _ _).modPicker _).modLoader _)).startHoming .mail

theorem Works.setParamRule (p0 p1 : Word) : Works s (setParamRule p0 p1 t).state := by
  unfold Machine.setParamRule
  split
  · exact h
  · simp only [apply_ite Effect.state, State.turnAway_state]
    exact Works.ite h ((h.storeParam _ _).paramChanged _)

theorem Works.snapshotRule (tag : Half) (p0 p1 p2 : Word) : Works s (snapshotRule tag p0 p1 p2 t).state := by
  unfold Machine.snapshotRule
  simp only [apply_ite Effect.state, State.turnAway_state]
  exact Works.ite h (Works.ite h (Works.forEach (fun o _ w => w.issue o) _ (h.frame rfl rfl)))

theorem Works.clearIf {clear : State → State} (hc : ∀ t, Works t (clear t)) (p0 : Word) (bit : Nat) :
    Works s (clearIf p0 bit clear t) := Works.ite (h.trans (hc t)) h

theorem Works.clearCountersRule (p0 : Word) : Works s (clearCountersRule p0 t).state := by
  have clears : ∀ f ∈ [State.clearPath, State.clearRing, State.clearPool, State.clearStreams, (·.clearChan 0), (·.clearChan 1),
      State.clearRestore, State.clearLoader], ∀ t, Works t (f t) := by
    simp only [List.forall_mem_cons]
    exact ⟨fun t => (Works.refl t).frame rfl rfl, fun t => (Works.refl t).frame rfl rfl, fun t => (Works.refl t).frame rfl rfl,
      fun t => (Works.refl t).frame rfl rfl, fun t => (Works.refl t).modChan _ _, fun t => (Works.refl t).modChan _ _,
      fun t => (Works.refl t).modRestore _, fun t => (Works.refl t).modLoader _, fun _ e => nomatch e⟩
  simp only [List.forall_mem_cons] at clears
  obtain ⟨h0, h1, h2, h3, h4, h5, h6, h7, -⟩ := clears
  simp only [Machine.clearCountersRule, apply_ite Effect.state, State.ok_state, State.turnAway_state]
  exact Works.ite h ((((((((h.clearIf h0 p0 0).clearIf h1 p0 1).clearIf h2 p0 2).clearIf h3 p0 3).clearIf h4 p0 4).clearIf
    h5 p0 5).clearIf h6 p0 6).clearIf h7 p0 7)

end

end Sys2Proof.Machine
end

section
/-! Every event of the part keeps its invariants: one case for each row of the command table. -/

namespace Sys2Proof.Machine

variable {s t u : State}

/-! ## Outcomes -/

/-- The state that follows from `s`, if one does, keeps the invariants of the part. -/
def OutcomeKeeps (s : State) (o : Host.Outcome State Fault Refusal) : Prop := ∀ t, o = .next t → Keeps s t

theorem Keeps.outcome (h : Keeps s t) : OutcomeKeeps s (.next t) := by
  intro u e
  cases e
  exact h

theorem Works.outcome (h : Works s t) : OutcomeKeeps s (.next t) := h.keeps.outcome

theorem OutcomeKeeps.same (s : State) : OutcomeKeeps s (.next s) := (Works.refl s).outcome

theorem OutcomeKeeps.ite {c : Prop} [Decidable c] {a b : Host.Outcome State Fault Refusal} (ha : c → OutcomeKeeps s a)
    (hb : ¬c → OutcomeKeeps s b) : OutcomeKeeps s (if c then a else b) := by
  split
  · exact ha ‹_›
  · exact hb ‹_›

/-- A command of the command ring whose owner does work of the blocks. -/
theorem command_keeps (s : State) (c : Instr) (kind : Nat) (tag : Half) {owner : State → Effect}
    (h : ∀ t, Works t (owner t).state) : OutcomeKeeps s (.next (s.command c kind tag owner)) :=
  (Keeps.command s c kind tag h).outcome

/-- A command of the command ring after whose owner the loader's tests follow. -/
theorem settledCommand_keeps (s : State) (c : Instr) (kind : Nat) (tag : Half) {rule : State → Effect}
    (h : ∀ t, Works t (rule t).state) : OutcomeKeeps s (.next (s.command c kind tag (settled rule))) :=
  command_keeps s c kind tag fun t => (h t).settled

/-! ## Start-up (9.1) -/

theorem execEepromNoAckRetry_keeps (acked : Bool) (s : State) : OutcomeKeeps s (execEepromNoAckRetry acked s) := by
  unfold execEepromNoAckRetry
  refine .ite (fun h => ?_) fun _ => .same s
  have hu := ((Works.refl s).elapseTo (s.path.attemptTime + Config.eepromRetry)).modPath
    (f := fun p => { p with
      attempts := p.attempts + 1, attemptTime := (s.elapseTo (s.path.attemptTime + Config.eepromRetry)).timebase
      acked := acked }) rfl
  dsimp only
  split
  · exact (Keeps.rejectImage h.1 hu).outcome
  · exact hu.outcome

theorem rejectImage_keeps (s : State) : OutcomeKeeps s (if s.loading then .next s.rejectImage else .next s) :=
  .ite (fun h => (Keeps.rejectImage h (Works.refl s)).outcome) fun _ => .same s

theorem execConfigHeaderRead_keeps (head : List Byte) (s : State) : OutcomeKeeps s (execConfigHeaderRead head s) := by
  unfold execConfigHeaderRead
  refine .ite (fun h => ?_) fun _ => .same s
  split
  · exact (Keeps.rejectImage h.1 (Works.refl s)).outcome
  · exact ((Works.refl s).modPath rfl).outcome

theorem execConfigImageRead_keeps (rest : List Byte) (s : State) : OutcomeKeeps s (execConfigImageRead rest s) := by
  unfold execConfigImageRead
  split
  · exact .same s
  · refine .ite (fun h => ?_) fun _ => .same s
    have rejected := (Keeps.rejectImage h.1 (Works.refl s)).outcome
    split
    · exact rejected
    · split
      · exact rejected
      · exact (Keeps.enterRunning h.1 _ _).outcome

/-! ## Accesses (9.2, 9.4) -/

theorem execMalformedAccess_keeps (acc : Access) (s : State) : OutcomeKeeps s (execMalformedAccess acc s) :=
  .ite (fun _ => .same s) fun _ => (((Works.refl s).answer _).countPath _).outcome

theorem execRefusedAccess_keeps (acc : Access) (s : State) : OutcomeKeeps s (execRefusedAccess acc s) :=
  .ite (fun _ => (((Works.refl s).answer _).countPath _).outcome) fun _ => .same s

theorem execForwardedAccess_keeps (acc : Access) (s : State) : OutcomeKeeps s (execForwardedAccess acc s) :=
  .ite (fun _ => .same s) fun _ => (((Works.refl s).modPort _).countPath _).outcome

theorem answerForwarded_keeps (s : State) (want : Forwarded → Bool) (ok : Bool) :
    OutcomeKeeps s (.next (s.answerForwarded want ok)) := (Keeps.answerForwarded s want ok).outcome

theorem execIngestWrite_keeps (a : Addr) (ds : List Byte) (s : State) : OutcomeKeeps s (execIngestWrite a ds s) := by
  unfold execIngestWrite
  split
  · exact .same s
  · refine .ite (fun _ => .same s) fun _ => .ite (fun _ => (((Works.refl s).stray _ _ _).answer _).outcome) fun _ => ?_
    split
    · exact ((Works.refl s).answer _).outcome
    · exact (((Works.refl s).modStream _ _).packChoose.answer _).outcome

theorem execIngestRead_keeps (a : Addr) (len : Nat) (s : State) : OutcomeKeeps s (execIngestRead a len s) := by
  unfold execIngestRead
  split
  · exact .same s
  · exact .ite (fun _ => .same s) fun _ => (((Works.refl s).stray _ _ _).answer _).outcome

theorem execTapeOutRead_keeps (a : Addr) (len : Nat) (s : State) : OutcomeKeeps s (execTapeOutRead a len s) := by
  unfold execTapeOutRead
  split
  · exact .same s
  next d _ =>
    refine .ite (fun _ => .same s) fun _ => .ite (fun _ => ((Works.refl s).modChan _ _).outcome) fun _ => ?_
    have judged := (Works.refl s).judgeRead d len
    split
    · next e => rw [e] at judged; exact (judged.answer _).outcome
    · next e => rw [e] at judged; exact (judged.settle s).outcome

theorem execImageReadAnswer_keeps (d : Drive) (ok : Bool) (s : State) : OutcomeKeeps s (execImageReadAnswer d ok s) := by
  unfold execImageReadAnswer
  split
  · exact .same s
  next r _ =>
    refine .ite (fun _ => ?_) fun _ => .same s
    have ht := ((Works.refl s).answered (.imageRead d)).modChan d fun c => { c with read := none }
    exact ((Works.judgeWaiting d _ (Works.ite (ht.readDone d r) (ht.readFault d r))).answer _ |>.settle s).outcome

/-- A TAPE_IN access exists in RUNNING alone: outside it there is no window. -/
theorem running_of_tapeInDrive {a : Addr} {d : Drive} (h : s.tapeInDrive a = some d) : s.path.startup = .running := by
  by_contra hn
  have none : s.windowAt a = none := by simp [State.windowAt, State.running, hn]
  simp [State.tapeInDrive, State.windowArg, none] at h

theorem execTapeInWrite_keeps (a : Addr) (ds : List Byte) (s : State) : OutcomeKeeps s (execTapeInWrite a ds s) := by
  unfold execTapeInWrite
  split
  · exact .same s
  next d hd =>
    have w := Works.refl s
    refine .ite (fun _ => .same s) fun _ => ?_
    split
    · exact (((w.takeReadback d ds).answer _).settle s).outcome
    · exact (((w.takeReadback d ds).answer _).settle s).outcome
    · exact ((w.readWrite d ds (running_of_tapeInDrive hd)).settle s).outcome
    · exact ((w.countChan d _).answer _).outcome
    · exact ((w.countChan d _).answer _).outcome
    · exact ((w.countChan d _).answer _).outcome
    · exact (w.answer _).outcome
    · exact (w.answer _).outcome

theorem execRestoreRead_keeps (a : Addr) (len : Nat) (s : State) : OutcomeKeeps s (execRestoreRead a len s) := by
  unfold execRestoreRead
  split
  · exact .same s
  next i _ =>
    have w := Works.refl s
    refine .ite (fun _ => .same s) fun _ => .ite (fun _ => ((w.stray _ _ _).answer _).outcome) fun _ =>
      .ite (fun _ => ((w.deliver i len).settle s).outcome) fun _ => .ite (fun _ => (w.answer _).outcome) fun _ => ?_
    split
    · exact (((w.setSession i _).deliver i len).settle s).outcome
    · exact (w.answer _).outcome

/-! ## The write side and the readback of a channel (chapters 4 and 5) -/

theorem execPlacementEnd_keeps (d : Drive) (s : State) : OutcomeKeeps s (execPlacementEnd d s) := by
  unfold execPlacementEnd
  have ended := (Works.refl s).endJob (.assembler d)
  refine .ite (fun _ => .same s) fun _ => ?_
  split
  · exact (((ended.modChan d _).giveUp _).settle s).outcome
  · exact .same s
  · split
    · exact ((ended.endPlacement d _).settle s).outcome
    · exact .same s

theorem execCloseEnd_keeps (d : Drive) (s : State) : OutcomeKeeps s (execCloseEnd d s) := by
  unfold execCloseEnd
  have ended := (Works.refl s).endJob (.assembler d)
  refine .ite (fun _ => .same s) fun _ => ?_
  split
  · exact (ended.modChan d _).outcome
  · exact .same s
  · split
    · exact ((ended.endClose d _).settle s).outcome
    · exact .same s

theorem execAssemblerMemoryFault_keeps (d : Drive) (acc : AsmAccess) (s : State) :
    OutcomeKeeps s (execAssemblerMemoryFault d acc s) := by
  unfold execAssemblerMemoryFault
  have faulted := ((Works.refl s).passJob (.assembler d)).asmFault acc
  have failed := (faulted.failChannel d .memory (s.chan d).assembling).settle s
  refine .ite (fun _ => .same s) fun _ => ?_
  split
  · exact (Works.ite faulted (Works.refl s)).outcome
  · exact .same s
  · exact failed.outcome
  · exact (Works.ite failed (Works.refl s)).outcome

theorem execDrainTimerExpiry_keeps (d : Drive) (s : State) : OutcomeKeeps s (execDrainTimerExpiry d s) := by
  unfold execDrainTimerExpiry
  split
  · exact .same s
  · exact ((((Works.refl s).elapseTo _).drainStep d _).settle s).outcome

theorem execAgeRelease_keeps (d : Drive) (s : State) : OutcomeKeeps s (execAgeRelease d s) := by
  unfold execAgeRelease
  refine .ite (fun _ => ?_) fun _ => .same s
  split
  · exact ((((Works.refl s).elapseTo _).ageRelease d).settle s).outcome
  · exact .same s

theorem execReadbackTimeout_keeps (d : Drive) (s : State) : OutcomeKeeps s (execReadbackTimeout d s) := by
  unfold execReadbackTimeout
  split
  · exact .same s
  · exact ((((Works.refl s).elapseTo _).readbackExpiry d).settle s).outcome

/-! ## The reader and the restore sessions (chapters 2 and 6) -/

theorem execReassemblyWriteAnswer_keeps (d : Drive) (ok : Bool) (s : State) :
    OutcomeKeeps s (execReassemblyWriteAnswer d ok s) := by
  unfold execReassemblyWriteAnswer
  have answered := (Works.refl s).answered (.reassembly d)
  exact .ite (fun _ => .same s) fun _ => ((Works.ite answered answered.poolFault).modChan d _).outcome

theorem execBlockCommit_keeps (d : Drive) (s : State) : OutcomeKeeps s (execBlockCommit d s) := by
  unfold execBlockCommit
  refine .ite (fun _ => ?_) fun _ => .same s
  have committed := Works.forEach (fun id _ w => w.commitRec id) (s.chan d).reader.rx.touched (Works.refl s)
  have collected := Works.forEach (fun i _ w => w.sessionTake d (s.chan d).reader.rx.frags i) allSessions
    (committed.verifyTake d (s.chan d).reader.rx.frags)
  exact ((collected.modReader d _).settle s).outcome

theorem execBlockDiscard_keeps (d : Drive) (s : State) : OutcomeKeeps s (execBlockDiscard d s) :=
  .ite (fun _ => (((Works.refl s).discardBlock d).settle s).outcome) fun _ => .same s

theorem execRestoreStallTimeout_keeps (i : SessionId) (s : State) : OutcomeKeeps s (execRestoreStallTimeout i s) := by
  unfold execRestoreStallTimeout
  split
  · exact .same s
  · exact ((((Works.refl s).elapseTo _).endSession i _).settle s).outcome

theorem execDecodeStart_keeps (s : State) : OutcomeKeeps s (execDecodeStart s) := by
  unfold execDecodeStart
  refine .ite (fun _ => .same s) fun _ => ?_
  split
  · exact .same s
  next q id _ =>
    split
    · exact .same s
    · exact (((((Works.refl s).dropHead q).modRec id (f := fun x => { x with state := .decoding }) (fun _ => rfl)
        fun _ => rfl).modRestore _).startJob .unpack).outcome

theorem execDecodeCompletion_keeps (readFault : Bool) (s : State) : OutcomeKeeps s (execDecodeCompletion readFault s) := by
  unfold execDecodeCompletion
  split
  · exact .same s
  next j _ =>
    refine .ite (fun _ => .same s) fun _ => ?_
    extract_lets t
    have ended := (Works.refl s).endJob .unpack
    have ht : Works s t := Works.ite ended.poolFault ended
    split
    · exact (ht.modRestore _).outcome
    · extract_lets dec outcome u v
      have hu : Works s u := ht.modRestore _
      have hv : Works s v := by
        refine Works.ite hu ?_
        split
        · exact hu.sessionOutcome _ _ _ _
        · exact hu.verifyOutcome _ _
      exact ((hv.freeRec _).settle s).outcome

/-! ## The pack engine (1.5, 2.3) -/

theorem execPoolGrant_keeps (s : State) : OutcomeKeeps s (execPoolGrant s) := by
  unfold execPoolGrant
  split
  · exact .same s
  · refine .ite (fun _ => .same s) fun idle => .ite (fun grant => ?_) fun _ => (Works.refl s).waitTest.outcome
    simp only [not_or, Bool.not_eq_true, Option.isSome_eq_false_iff, Option.isNone_iff_eq_none] at idle
    exact (Keeps.packStart s _ _ idle.1 idle.2 grant).outcome

/-- R20: the completion of a job leaves no reservation, so that the engine may be idle. -/
theorem execPackCompletion_keeps (s : State) : OutcomeKeeps s (execPackCompletion s) := by
  unfold execPackCompletion
  split
  · exact .same s
  next j _ =>
    refine .ite (fun _ => ?_) fun _ => .same s
    extract_lets t u
    have ended : Works s t := (Works.refl s).endJob .pack
    have hu : Works s u ∧ u.pool.reservation = [] := by
      simp only [u]
      split
      · exact ended.returnJob j
      · exact ended.settleJob j
    exact (hu.1.keeps.trans ((Keeps.modPack hu.2).trans ((Works.refl _).packChoose.settle s).keeps)).outcome

theorem execPackWriteFault_keeps (s : State) : OutcomeKeeps s (execPackWriteFault s) := by
  unfold execPackWriteFault
  have passed := (Works.refl s).passJob .pack
  refine .ite (fun _ => .same s) fun _ => ?_
  split
  · exact ((Keeps.faultJob passed _).trans ((Works.refl _).settle s).keeps).outcome
  · exact .ite (fun _ => passed.poolFault.outcome) fun _ => .same s

theorem execPackFaultReservationReturn_keeps (s : State) : OutcomeKeeps s (execPackFaultReservationReturn s) := by
  unfold execPackFaultReservationReturn
  split
  · exact .same s
  next id _ =>
    refine .ite (fun _ => ?_) fun _ => .same s
    have returned := ((Works.refl s).endJob .pack).returnReservation
    have freed := (Works.refl (s.endJob .pack).returnReservation).freeRec id
    have empty := freed.unreserved (returnReservation_none _)
    exact ((returned.trans freed).keeps.trans ((Keeps.modPack empty).trans (Works.refl _).waitTest.keeps)).outcome

/-! ## The rings (chapter 10) -/

theorem execCommandSlotReadFault_keeps (s : State) : OutcomeKeeps s (execCommandSlotReadFault s) := by
  refine .ite (fun h => ?_) fun _ => .same s
  have hi : s.ring.intake = .reading := by
    simp only [State.readsSlot, Bool.and_eq_true, beq_iff_eq] at h
    exact h.1
  exact (((Works.refl s).answered _).ownFault.keeps.trans (Keeps.endCommand _ _ _ _ _ _ hi)).outcome

theorem execUnknownCommand_keeps (tag : Half) (kind : Byte) (s : State) :
    OutcomeKeeps s (execUnknownCommand tag kind s) :=
  .ite (fun h => (((Works.refl s).answered _).keeps.trans (Keeps.endCommand _ _ _ _ _ _ (s.takes_reading _ h).1)).outcome)
    fun _ => .same s

theorem execStatusRecordWriteAnswer_keeps (ok : Bool) (s : State) : OutcomeKeeps s (execStatusRecordWriteAnswer ok s) := by
  unfold execStatusRecordWriteAnswer
  split
  · exact .same s
  next r rest hb =>
    refine .ite (fun _ => ?_) fun _ => .same s
    extract_lets t u
    have answered : Keeps s t := ((Works.refl s).answered _).keeps
    have hu : Keeps s u := by
      simp only [u]
      split
      · exact answered.recordWritten hb
      · exact answered.recordLost hb
    exact (hu.trans (Works.refl u).issueHead.keeps).intakeTest.outcome

theorem execIndexWordWriteAnswer_keeps (w : IndexWord) (ok : Bool) (s : State) :
    OutcomeKeeps s (execIndexWordWriteAnswer w ok s) := by
  unfold execIndexWordWriteAnswer
  split
  · exact .same s
  · have answered := (Works.refl s).answered (indexWrite w ‹Half›)
    exact (Works.ite (answered.poke _ _) answered.ringWriteFault).outcome

theorem Works.snapshotAnswered (h : Works s t) (j : SnapshotJob) : Works s (t.snapshotAnswered j) := by
  refine Works.ite (h.frame rfl rfl) (Works.emit ?_ _)
  exact h.frame rfl rfl

theorem execSnapshotWriteAnswer_keeps (ok : Bool) (s : State) : OutcomeKeeps s (execSnapshotWriteAnswer ok s) := by
  unfold execSnapshotWriteAnswer
  split
  · exact .same s
  · refine .ite (fun _ => ?_) fun _ => .same s
    have answered := (Works.refl s).answered .snapshot
    exact ((Works.ite (answered.poke _ _) answered.ownFault).snapshotAnswered _).outcome

/-! ## Sensors, the picker and the loader's timers (chapters 7 and 8) -/

theorem execRawSensorChange_keeps (x : Sensor) (v : Level) (s : State) : OutcomeKeeps s (execRawSensorChange x v s) :=
  .ite (fun _ => .same s) fun _ => .ite (fun _ => (((Works.refl s).setFilter x _).settle s).outcome) fun _ =>
    ((Works.refl s).setFilter x _).outcome

theorem execSensorSettleExpiry_keeps (x : Sensor) (s : State) : OutcomeKeeps s (execSensorSettleExpiry x s) := by
  unfold execSensorSettleExpiry
  extract_lets f
  split
  · exact .ite (fun _ => (((((Works.refl s).elapseTo _).setFilter x _).debounced x _ _).settle s).outcome) fun _ => .same s
  · exact .same s

theorem execMotionReply_keeps (n : Nat) (r : Reply) (s : State) : OutcomeKeeps s (execMotionReply n r s) := by
  unfold execMotionReply
  refine .ite (fun _ => .same s) fun _ => ?_
  have stray := (Works.refl s).countLoader fun c => { c with strayReplies := c.strayReplies.add 1 }
  dsimp only
  split
  · exact stray.outcome
  · refine .ite (fun _ => ?_) fun _ => stray.outcome
    have ht := (Works.refl s).modPicker fun p => { p with order := none, inFlight := false }
    exact ((Works.ite (ht.act _ r) (Works.ite (ht.countLoader _).homeTest ht.homeTest)).settle s).outcome

theorem execMotionTimeout_keeps (s : State) : OutcomeKeeps s (execMotionTimeout s) := by
  unfold execMotionTimeout
  split
  · exact .same s
  next o _ =>
    have ht := ((Works.refl s).elapseTo o.deadline).modPicker fun p => { p with order := none, inFlight := false }
    exact ((Works.ite (ht.faultPicker .timeout o) ht.homeTest).settle s).outcome

theorem execMountTimeout_keeps (d : Drive) (s : State) : OutcomeKeeps s (execMountTimeout d s) := by
  unfold execMountTimeout
  split
  · exact .same s
  · exact ((((Works.refl s).elapseTo _).failChannel d _ none).settle s).outcome

theorem execEjectTimeout_keeps (d : Drive) (s : State) : OutcomeKeeps s (execEjectTimeout d s) := by
  unfold execEjectTimeout
  split
  · exact .same s
  · exact ((((Works.refl s).elapseTo _).failChannel d _ none).settle s).outcome

theorem execCleanTimeout_keeps (d : Drive) (s : State) : OutcomeKeeps s (execCleanTimeout d s) := by
  unfold execCleanTimeout
  split
  · exact .same s
  · exact ((((Works.refl s).elapseTo _).endCleaning d false).settle s).outcome

/-! ## Every command of the part -/

theorem exec_keeps (c : Instr) (s : State) : OutcomeKeeps s (exec c s) := by
  cases c with
  | resetPin => exact (Keeps.resetPin s _).outcome
  | eepromNoAckRetry acked => exact execEepromNoAckRetry_keeps acked s
  | i2cClockTimeout => exact rejectImage_keeps s
  | eepromTransferNoAck => exact rejectImage_keeps s
  | configHeaderRead header => exact execConfigHeaderRead_keeps header s
  | configImageRead rest => exact execConfigImageRead_keeps rest s
  | malformedAccess acc => exact execMalformedAccess_keeps acc s
  | forwardedAccess acc => exact execForwardedAccess_keeps acc s
  | forwardedAnswer ok => exact answerForwarded_keeps s _ ok
  | commandProducerWrite => exact answerForwarded_keeps s _ true
  | statusConsumerWrite => exact answerForwarded_keeps s _ true
  | refusedAccess acc => exact execRefusedAccess_keeps acc s
  | ingestWrite a ds => exact execIngestWrite_keeps a ds s
  | ingestRead a len => exact execIngestRead_keeps a len s
  | tapeOutRead a len => exact execTapeOutRead_keeps a len s
  | imageReadAnswer d ok => exact execImageReadAnswer_keeps d ok s
  | tapeInWrite a ds => exact execTapeInWrite_keeps a ds s
  | readbackTimeout d => exact execReadbackTimeout_keeps d s
  | reassemblyWriteAnswer d ok => exact execReassemblyWriteAnswer_keeps d ok s
  | blockCommit d => exact execBlockCommit_keeps d s
  | blockDiscard d => exact execBlockDiscard_keeps d s
  | restoreRead a len => exact execRestoreRead_keeps a len s
  | restoreStallTimeout i => exact execRestoreStallTimeout_keeps i s
  | poolGrant => exact execPoolGrant_keeps s
  | packCompletion => exact execPackCompletion_keeps s
  | packWriteFault => exact execPackWriteFault_keeps s
  | packFaultReservationReturn => exact execPackFaultReservationReturn_keeps s
  | placementStart d => exact (((Works.refl s).assemble d).settle s).outcome
  | placementEnd d => exact execPlacementEnd_keeps d s
  | closeEnd d => exact execCloseEnd_keeps d s
  | assemblerMemoryFault d acc => exact execAssemblerMemoryFault_keeps d acc s
  | drainTimerExpiry d => exact execDrainTimerExpiry_keeps d s
  | ageRelease d => exact execAgeRelease_keeps d s
  | decodeStart => exact execDecodeStart_keeps s
  | decodeCompletion readFault => exact execDecodeCompletion_keeps readFault s
  | commandTake => exact (Works.refl s).keeps.intakeTest.outcome
  | commandSlotReadFault => exact execCommandSlotReadFault_keeps s
  | unknownCommand tag kind => exact execUnknownCommand_keeps tag kind s
  | statusRecordWriteAnswer ok => exact execStatusRecordWriteAnswer_keeps ok s
  | indexWordWriteAnswer w ok => exact execIndexWordWriteAnswer_keeps w ok s
  | snapshotWriteAnswer ok => exact execSnapshotWriteAnswer_keeps ok s
  | openStream tag p0 p1 p2 p3 => exact command_keeps s _ _ _ fun t => (Works.refl t).openStreamRule ..
  | suspendStream tag p0 => exact settledCommand_keeps s _ _ _ fun t => (Works.refl t).suspendRule ..
  | resumeStream tag p0 => exact settledCommand_keeps s _ _ _ fun t => (Works.refl t).suspendRule ..
  | endStream tag p0 => exact settledCommand_keeps s _ _ _ fun t => (Works.refl t).endStreamRule ..
  | abortStream tag p0 => exact settledCommand_keeps s _ _ _ fun t => (Works.refl t).abortStreamRule ..
  | holdStream tag p0 => exact command_keeps s _ _ _ fun t => (Works.refl t).adminRule ..
  | releaseStream tag p0 => exact command_keeps s _ _ _ fun t => (Works.refl t).adminRule ..
  | setTargets tag p0 p1 => exact command_keeps s _ _ _ fun t => (Works.refl t).setTargetsRule ..
  | resetStreams tag => exact settledCommand_keeps s _ _ _ fun t => (Works.refl t).resetStreamsRule
  | setArbTable tag p0 p1 p2 p3 => exact command_keeps s _ _ _ fun t => (Works.refl t).setArbTableRule ..
  | mounted tag p0 p1 p2 p3 p4 p5 p6 p7 => exact settledCommand_keeps s _ _ _ fun t => (Works.refl t).mountedRule ..
  | setMode tag p0 p1 p2 p3 => exact settledCommand_keeps s _ _ _ fun t => (Works.refl t).setModeRule ..
  | flush tag p0 => exact settledCommand_keeps s _ _ _ fun t => (Works.refl t).flushRule ..
  | earlyWarning tag p0 => exact settledCommand_keeps s _ _ _ fun t => (Works.refl t).earlyWarningRule ..
  | endOfData tag p0 => exact settledCommand_keeps s _ _ _ fun t => (Works.refl t).endOfDataRule ..
  | unmount tag force p0 => exact settledCommand_keeps s _ _ _ fun t => (Works.refl t).unmountCommand ..
  | cleanDone tag p0 => exact settledCommand_keeps s _ _ _ fun t => (Works.refl t).cleanDoneRule ..
  | drivePower tag p0 p1 => exact command_keeps s _ _ _ fun t => (Works.refl t).drivePowerRule ..
  | resetChannel tag p0 => exact settledCommand_keeps s _ _ _ fun t => (Works.refl t).resetChannelRule ..
  | openRestore tag preempt cont p0 p1 p2 p3 p4 p5 =>
    exact settledCommand_keeps s _ _ _ fun t => (Works.refl t).openRestoreRule ..
  | cancelRestore tag p0 => exact settledCommand_keeps s _ _ _ fun t => (Works.refl t).cancelRestoreRule ..
  | move tag force p0 p1 => exact settledCommand_keeps s _ _ _ fun t => (Works.refl t).moveRule ..
  | exportCart tag force p0 => exact settledCommand_keeps s _ _ _ fun t => (Works.refl t).exportRule ..
  | inventory tag p0 p1 => exact settledCommand_keeps s _ _ _ fun t => (Works.refl t).inventoryRule ..
  | cancelMove tag p0 p1 => exact settledCommand_keeps s _ _ _ fun t => (Works.refl t).cancelMoveRule ..
  | setScratch tag p0 p1 p2 p3 p4 p5 p6 => exact command_keeps s _ _ _ fun t => (Works.refl t).setScratchRule ..
  | clean tag p0 => exact settledCommand_keeps s _ _ _ fun t => (Works.refl t).cleanRule ..
  | setCleanUses tag p0 p1 => exact settledCommand_keeps s _ _ _ fun t => (Works.refl t).setCleanUsesRule ..
  | doorLock tag => exact command_keeps s _ _ _ fun t => (Works.refl t).doorLockRule ..
  | doorUnlock tag => exact command_keeps s _ _ _ fun t => (Works.refl t).doorLockRule ..
  | recoverPicker tag => exact settledCommand_keeps s _ _ _ fun t => (Works.refl t).recoverRule ..
  | resetLoader tag => exact settledCommand_keeps s _ _ _ fun t => (Works.refl t).resetLoaderRule
  | setParam tag p0 p1 => exact settledCommand_keeps s _ _ _ fun t => (Works.refl t).setParamRule ..
  | snapshot tag p0 p1 p2 => exact command_keeps s _ _ _ fun t => (Works.refl t).snapshotRule ..
  | clearCounters tag p0 => exact command_keeps s _ _ _ fun t => (Works.refl t).clearCountersRule ..
  | getInfo tag => exact command_keeps s _ _ _ fun t => Works.refl t
  | rawSensorChange x v => exact execRawSensorChange_keeps x v s
  | sensorSettleExpiry x => exact execSensorSettleExpiry_keeps x s
  | motionReply n r => exact execMotionReply_keeps n r s
  | motionTimeout => exact execMotionTimeout_keeps s
  | mountTimeout d => exact execMountTimeout_keeps d s
  | ejectTimeout d => exact execEjectTimeout_keeps d s
  | cleanTimeout d => exact execCleanTimeout_keeps d s

/-- What a step keeps: the command at the front of the queue, an expiry that is due, or the passing of a microsecond. -/
theorem step_keeps (s : State) : OutcomeKeeps s (step s) := by
  unfold step
  split
  next c rest _ =>
    exact fun t e => ((Works.refl s).frame (u := s.setPending rest) rfl rfl).keeps.trans (exec_keeps c _ t e)
  next =>
    unfold State.idle
    split
    · exact exec_keeps _ s
    · exact ((Works.refl s).elapse 1).outcome

/-! ## The invariants (O5 to O8) -/

/-- Settles O5: every update of memory is a store of bytes, or none. -/
theorem stepKeepsMemoryCanonical : Obligations.StepKeepsMemoryCanonical :=
  fun s t h e => (step_keeps s t e).memory h

/-- Settles O6: S, U and the line change together, at the write of a record and at a sane consumer value. -/
theorem stepKeepsInterruptLine : Obligations.StepKeepsInterruptLine :=
  fun s t h e => (step_keeps s t e).irq h

/-- Settles O7: a command is taken with its reservation and ends with its record in that place. -/
theorem stepKeepsRingReservation : Obligations.StepKeepsRingReservation :=
  fun s t h e => (step_keeps s t e).ring h

/-- Settles O8: pages move between the free list, the reservation and the chunk records, and none is lost. -/
theorem stepKeepsThePageAccounting : Obligations.StepKeepsThePageAccounting :=
  fun s t h e => (step_keeps s t e).pool h

end Sys2Proof.Machine
end

section
/-! The step, the passing of time, the reset pin and the rejection of a configuration image (9.1). -/

namespace Sys2Proof.Machine

/-! ## The step -/

theorem step_of_pending {s : State} {c : Instr} {q : List Instr} (h : s.pending = c :: q) :
    step s = exec c (s.setPending q) := by
  simp only [step, h]

theorem step_of_idle {s : State} (h : s.pending = []) : step s = s.idle := by
  simp only [step, h]

/-- Settles O1: the arm of the step for a queue that is not empty. -/
theorem stepRunsTheFrontCommand : Obligations.StepRunsTheFrontCommand := fun _ _ _ h => step_of_pending h

/-- Settles O2: the two arms of the step for an empty queue. -/
theorem idleStepRunsADueExpiryOrPassesAMicrosecond : Obligations.IdleStepRunsADueExpiryOrPassesAMicrosecond := by
  intro s h
  rw [step_of_idle h]
  constructor
  · intro c hc
    simp only [State.idle, hc]
  · intro hn
    refine ⟨s.elapse 1, ?_, rfl, h, rfl, rfl, rfl, rfl, rfl, rfl, rfl⟩
    simp only [State.idle, hn]

/-! ## The reset pin -/

theorem reset_stream (t : Tag) : State.reset.stream t = {} := by
  simp [State.stream, State.reset]

theorem reset_chan (d : Drive) : State.reset.chan d = {} := by
  simp [State.chan, State.reset]

theorem reset_session (i : SessionId) : State.reset.session i = {} := by
  simp [State.session, State.reset]

theorem reset_loc (l : Loc) : State.reset.loc l = {} := by
  simp [State.loc, State.reset]

theorem reset_table : ∀ k : Fin 16, (State.reset.pack.table[k]).val = k.val % 8 := by
  decide

/-- The state that the reset pin leaves. -/
def State.afterReset (s : State) : State :=
  { State.reset with
    pending := s.pending, mem := s.mem, drawn := s.drawn
    loader := { State.reset.loader with filters := s.loader.filters.map fun f => { raw := f.raw } } }

theorem exec_resetPin (s : State) : exec .resetPin s = .next s.afterReset := rfl

theorem afterReset_filter (s : State) (x : Sensor) : s.afterReset.filter x = { raw := (s.filter x).raw } := by
  simp [State.afterReset, State.filter]

/-- Settles O3: the values of the state that the model names as reset, and the state that the reset pin leaves. -/
theorem resetPinReturnsEveryBlockToItsValue : Obligations.ResetPinReturnsEveryBlockToItsValue := by
  refine ⟨?_, fun s => ⟨s.afterReset, exec_resetPin s, rfl, rfl, afterReset_filter s, rfl⟩⟩
  refine ⟨rfl, rfl, rfl, rfl, rfl, rfl, rfl, rfl, rfl, rfl, rfl, rfl, rfl, rfl, rfl, rfl, rfl, rfl, rfl, rfl, rfl,
    reset_table, rfl, rfl, rfl, rfl, fun t => ?_, fun d => ?_, fun i => ?_, fun l => ?_, rfl, rfl, rfl, rfl, rfl, rfl⟩
  · rw [reset_stream]; exact ⟨rfl, rfl, rfl⟩
  · rw [reset_chan]; exact ⟨rfl, rfl, rfl, rfl, rfl, rfl, rfl, rfl, rfl, rfl, rfl⟩
  · rw [reset_session]; exact ⟨rfl, rfl⟩
  · rw [reset_loc]; exact ⟨rfl, rfl, rfl⟩

/-- Settles O4: after reset there is no page, no record and no command, and memory lists nothing. -/
theorem resetStateIsSound : Obligations.ResetStateIsSound :=
  ⟨rfl, rfl, ⟨rfl, Nat.zero_le _, fun _ => rfl⟩,
    ⟨fun e => Startup.noConfusion e, fun _ => ⟨rfl, rfl, rfl⟩, List.Pairwise.nil, fun _ _ => rfl⟩⟩

/-! ## The passing of time while the part is LOADING -/

theorem elapseStream_of_closed {s : State} {t : Tag} (n : Nat) (h : (s.stream t).state = .closed) :
    s.elapseStream n t = s.stream t := by
  have none : (s.holdActive t).any = false := by simp only [State.holdActive, h, if_true]; rfl
  simp only [State.elapseStream, none]
  rfl

/-- Outside RUNNING nothing gathers time: every stream is CLOSED, nothing waits for pages, and the intake is STOPPED. -/
theorem elapse_of_quiet {s : State} (n : Nat) (hw : s.pack.waiting = false) (hi : s.ring.intake = .stopped)
    (hc : ∀ t : Tag, (s.stream t).state = .closed) : s.elapse n = { s with timebase := s.timebase + n } := by
  have streams : Vector.ofFn (s.elapseStream n) = s.streams := by
    ext k hk
    simp only [Vector.getElem_ofFn, elapseStream_of_closed n (hc ⟨k, hk⟩)]
    rfl
  simp only [State.elapse, streams, hw, hi]
  rfl

/-! ## Rejections (R168, R171) -/

theorem exec_i2cClockTimeout {s : State} (h : s.path.startup = .loading) : exec .i2cClockTimeout s = .next s.rejectImage := by
  have hl : s.loading = true := by simp [State.loading, h]
  exact if_pos hl

theorem exec_eepromTransferNoAck {s : State} (h : s.path.startup = .loading) :
    exec .eepromTransferNoAck s = .next s.rejectImage := by
  have hl : s.loading = true := by simp [State.loading, h]
  exact if_pos hl

/-- R10: at most 24 windows and 255 entries always fit in 2,048 bytes. -/
theorem imageLength_le {head : List Byte} (h : (head.getD 4 0).toNat ≤ 24) : imageLength head ≤ 2048 := by
  have entries : (head.getD 5 0).toNat < 256 := BitVec.isLt _
  simp only [imageLength]
  omega

theorem exec_configHeaderRead {s : State} {head : List Byte} (h : s.path.startup = .loading) (hn : s.path.header = none)
    (hl : head.length = 8) : exec (.configHeaderRead head) s = .next (if 24 < (head.getD 4 0).toNat then s.rejectImage
      else s.modPath fun p => { p with acked := true, header := some head }) := by
  have guard : s.loading = true ∧ s.path.header.isNone = true ∧ head.length = 8 := ⟨by simp [State.loading, h], by simp [hn], hl⟩
  refine (if_pos guard).trans (congrArg _ (if_congr ⟨fun w => ?_, Or.inl⟩ rfl rfl))
  rcases w with w | w
  · exact w
  · by_contra hw
    have := imageLength_le (Nat.le_of_not_lt hw)
    omega

theorem exec_eepromNoAckRetry {s : State} (acked : Bool) (h : s.path.startup = .loading) (ha : s.path.acked = false) :
    exec (.eepromNoAckRetry acked) s =
      let t := s.elapseTo (s.path.attemptTime + 8192)
      let u := t.modPath fun p => { p with attempts := p.attempts + 1, attemptTime := t.timebase, acked := acked }
      .next (if !acked ∧ 8 ≤ s.path.attempts + 1 then u.rejectImage else u) := by
  have guard : s.loading = true ∧ (!s.path.acked) = true := ⟨by simp [State.loading, h], by simp [ha]⟩
  exact if_pos guard

/-- Settles O12: each rejection is the entry to CONFIG_FAULT, and an attempt is one more of the eight. -/
theorem brokenTransfersAndTriesRejectTheImage : Obligations.BrokenTransfersAndTriesRejectTheImage := by
  refine ⟨fun s h => ⟨exec_i2cClockTimeout h, exec_eepromTransferNoAck h, fun head hn hl => exec_configHeaderRead h hn hl⟩,
    fun s ok h ha hw hi hc ht => ?_⟩
  have passed : s.elapseTo (s.path.attemptTime + 8192) = { s with timebase := s.path.attemptTime + 8192 } := by
    rw [State.elapseTo, elapse_of_quiet _ hw hi hc, Nat.add_sub_cancel' ht]
  rw [exec_eepromNoAckRetry ok h ha, passed]
  have eighth : 8 ≤ s.path.attempts + 1 ↔ 7 ≤ s.path.attempts := by omega
  cases ok <;> by_cases hl : 7 ≤ s.path.attempts <;>
    simp [eighth, hl, State.rejectImage, State.modPath, h]

end Sys2Proof.Machine
end

section
/-! The configuration image that passes, and the parameters that start-up leaves (9.1, 10.4). -/

namespace Sys2Proof.Machine

variable {s t : State}

/-! ## What the picker's orders leave unchanged -/

/-- The blocks other than the loader, the path unit and the ring. -/
def State.datapath (s : State) : Pool × Pack × Vector Stream 8 × Vector Channel 2 × Restore :=
  (s.pool, s.pack, s.streams, s.chans, s.restore)

theorem pool_of_datapath (h : t.datapath = s.datapath) : t.pool = s.pool := congrArg (·.1) h
theorem pack_of_datapath (h : t.datapath = s.datapath) : t.pack = s.pack := congrArg (·.2.1) h
theorem streams_of_datapath (h : t.datapath = s.datapath) : t.streams = s.streams := congrArg (·.2.2.1) h
theorem chans_of_datapath (h : t.datapath = s.datapath) : t.chans = s.chans := congrArg (·.2.2.2.1) h
theorem restore_of_datapath (h : t.datapath = s.datapath) : t.restore = s.restore := congrArg (·.2.2.2.2) h

theorem setPicker_datapath (s : State) (st : PickState) : (s.setPicker st).datapath = s.datapath := by
  simp [State.datapath]

theorem sendOrder_datapath (s : State) (st : Stage) (l : Option Loc) : (s.sendOrder st l).datapath = s.datapath := by
  unfold State.sendOrder
  extract_lets s1 s2
  have h1 : s1.datapath = s.datapath := by
    simp only [s1]
    split <;> rfl
  exact (setPicker_datapath _ _).trans h1

theorem homeTest_datapath (s : State) : s.homeTest.datapath = s.datapath := by
  unfold State.homeTest
  split
  · exact sendOrder_datapath s _ _
  · rfl

theorem startHoming_datapath (s : State) (goal : HomeTo) : (s.startHoming goal).datapath = s.datapath :=
  (homeTest_datapath _).trans (setPicker_datapath _ _)

theorem buildLocations_datapath (s : State) : s.buildLocations.datapath = s.datapath :=
  forEach_same State.datapath _ (fun l t => by dsimp only; split <;> rfl) _ _

theorem startLoader_datapath (s : State) : s.startLoader.datapath = s.datapath := buildLocations_datapath _

/-! ## An access that memory owes stays issued -/

theorem joinOwned_issued {p : Port} {x : Issued} (o : Owned) (h : p.issued = some x) : (p.joinOwned o).issued = some x := by
  rw [p.joinOwned_of_issued o x h]
  exact h

theorem joinBuffer_issued {x : Issued} (r : Record) (h : s.path.port.issued = some x) :
    (s.joinBuffer r).path.port.issued = some x := by
  simp only [State.joinBuffer]
  split
  · exact joinOwned_issued _ h
  · exact h

theorem emit_issued {x : Issued} (r : Record) (h : s.path.port.issued = some x) : (s.emit r).path.port.issued = some x := by
  unfold State.emit
  split
  · exact joinBuffer_issued r h
  · exact h

theorem holdTest_issued {x : Issued} (h : s.path.port.issued = some x) : s.holdTest.path.port.issued = some x := by
  unfold State.holdTest
  extract_lets rec_
  split
  · split
    · exact emit_issued (s := s.modPool _) _ h
    · exact h
  · split
    · exact emit_issued (s := s.modPool _) _ h
    · exact h

theorem setPicker_issued {x : Issued} (st : PickState) (h : s.path.port.issued = some x) :
    (s.setPicker st).path.port.issued = some x := by
  unfold State.setPicker State.syncLock
  split
  · exact h
  · exact emit_issued (s := (s.modPicker _).modLoader _) _ h

theorem sendOrder_issued {x : Issued} (st : Stage) (l : Option Loc) (h : s.path.port.issued = some x) :
    (s.sendOrder st l).path.port.issued = some x := by
  unfold State.sendOrder
  extract_lets s1 s2
  have h1 : s1.path = s.path := by
    simp only [s1]
    split <;> rfl
  refine setPicker_issued _ (?_ : s1.path.port.issued = some x)
  rw [h1]
  exact h

theorem startHoming_issued {x : Issued} (goal : HomeTo) (h : s.path.port.issued = some x) :
    (s.startHoming goal).path.port.issued = some x := by
  have hp := setPicker_issued (s := s.modPicker fun p => { p with homeTo := goal }) .homing h
  unfold State.startHoming State.homeTest
  split
  · exact sendOrder_issued _ _ hp
  · exact hp

/-- An access that joins an idle port is issued. -/
theorem joinOwned_of_idle {p : Port} (o : Owned) (hi : p.issued = none) (hf : p.fwdWait = []) (ho : p.ownWait = []) :
    (p.joinOwned o).issued = some (.owned o) := by
  simp [Port.joinOwned, Port.issue, hi, hf, ho]

/-! ## The whole image (R169 to R171) -/

theorem exec_configImageRead {head rest : List Byte} (h : s.path.startup = .loading) (hh : s.path.header = some head)
    (hl : 8 + rest.length = imageLength head) : exec (.configImageRead rest) s =
      match parseImage head rest with
      | none => .next s.rejectImage
      | some g =>
        match g.check with
        | none => .next s.rejectImage
        | some y => .next (s.enterRunning g y) := by
  have guard : s.loading = true ∧ 8 + rest.length = imageLength head := ⟨by simp [State.loading, h], hl⟩
  change execConfigImageRead rest s = _
  simp only [execConfigImageRead, hh]
  exact if_pos guard

/-- The state at the entry to RUNNING, when the intake is IDLE and the first access of the part is issued. -/
def State.intakeOpened (s : State) (g : ConfigImage) (y : Layout) : State :=
  ((s.layoutTaken g y).startLoader.modRing fun r => { r with intake := .idle }).issue (.commandIndex 0)

/-- The READY record of an image. -/
def readyOf (g : ConfigImage) (y : Layout) : Record :=
  { kind := .ready, e0 := g.version.setWidth 32, e1 := w32 y.poolPages
    e2 := w32 (startParams y.poolPages y.limit g.entries).imageCapacity[0]
    e3 := w32 (startParams y.poolPages y.limit g.entries).imageCapacity[1], e4 := w32 g.windows.length
    e5 := w32 g.entries.length }

theorem startLoader_path (s : State) : s.startLoader.path = s.path :=
  forEach_same State.path _ (fun l t => by dsimp only; split <;> rfl) _ _

theorem startLoader_ring (s : State) : s.startLoader.ring = s.ring :=
  forEach_same State.ring _ (fun l t => by dsimp only; split <;> rfl) _ _

theorem startLoader_params (s : State) : s.startLoader.params = s.params :=
  forEach_same State.params _ (fun l t => by dsimp only; split <;> rfl) _ _

theorem startLoader_mem (s : State) : s.startLoader.mem = s.mem :=
  forEach_same State.mem _ (fun l t => by dsimp only; split <;> rfl) _ _

theorem intakeOpened_ready (g : ConfigImage) (y : Layout) : (s.intakeOpened g y).readyRecord = readyOf g y := by
  simp only [State.readyRecord, State.intakeOpened, State.issue_path, State.issue_params, State.modRing_path,
    State.modRing_params, startLoader_path, startLoader_params]
  rfl

theorem enterRunning_opened (s : State) (g : ConfigImage) (y : Layout) :
    s.enterRunning g y = (((s.intakeOpened g y).emit (readyOf g y)).holdTest).startHoming .mail := by
  rw [← intakeOpened_ready (s := s)]
  rfl

theorem intakeOpened_ring (g : ConfigImage) (y : Layout) : (s.intakeOpened g y).ring = { s.ring with intake := .idle } := by
  simp only [State.intakeOpened, State.issue_ring, State.modRing_ring, startLoader_ring]
  rfl

/-- The work between the opening of the intake and the end of the event. -/
theorem Works.enterRunning (s : State) (g : ConfigImage) (y : Layout) :
    Works ((s.intakeOpened g y).emit (readyOf g y)) (s.enterRunning g y) := by
  rw [enterRunning_opened]
  exact (Works.refl _).holdTest.startHoming .mail

theorem enterRunning_outside (s : State) (g : ConfigImage) (y : Layout) :
    (s.enterRunning g y).params = startParams y.poolPages y.limit g.entries ∧ (s.enterRunning g y).mem = s.mem := by
  have outside : (s.enterRunning g y).outside = (s.intakeOpened g y).outside := by simp [enterRunning_opened]
  refine ⟨(params_of_outside outside).trans ?_, (mem_of_outside outside).trans ?_⟩
  · simp only [State.intakeOpened, State.issue_params, State.modRing_params, startLoader_params]
    rfl
  · simp only [State.intakeOpened, State.issue_mem, State.modRing_mem, startLoader_mem]
    rfl

theorem enterRunning_layout (s : State) (g : ConfigImage) (y : Layout) : (s.enterRunning g y).path.layout =
    (.running, g.windows, y.poolBase, y.poolPages, y.imageBase, y.limit) := by
  rw [(Works.enterRunning s g y).layout, State.emit_path]
  simp only [Path.layout, State.intakeOpened, State.issue_path, State.modRing_path, startLoader_path]
  rfl

theorem enterRunning_free (s : State) (g : ConfigImage) (y : Layout) :
    (s.enterRunning g y).pool.free = List.range y.poolPages := by
  rw [enterRunning_opened, pool_of_datapath (startHoming_datapath _ _), (holdTest_records _).2.1, State.emit_pool,
    State.intakeOpened, State.issue_pool, State.modRing_pool, pool_of_datapath (startLoader_datapath _)]
  rfl

theorem enterRunning_chans (s : State) (g : ConfigImage) (y : Layout) : (s.enterRunning g y).chans = s.chans := by
  rw [enterRunning_opened, chans_of_datapath (startHoming_datapath _ _), State.holdTest_chans, State.emit_chans,
    State.intakeOpened, State.issue_chans, State.modRing_chans, chans_of_datapath (startLoader_datapath _)]
  rfl

/-- R170: with the ring at its reset value, READY is the first record. -/
theorem enterRunning_ring (hr : s.ring = {}) (g : ConfigImage) (y : Layout) :
    (s.enterRunning g y).ring.intake = .idle ∧ (s.enterRunning g y).ring.c = 0
      ∧ (s.enterRunning g y).ring.buffer.head? = some (readyOf g y) := by
  have works := Works.enterRunning s g y
  obtain ⟨hc, -, hi, -⟩ := control_commands works.control
  obtain ⟨ec, -, -, -, -, ei, -⟩ := State.emit_ring (s.intakeOpened g y) (readyOf g y)
  rw [intakeOpened_ring, hr] at ec ei
  have room : (s.intakeOpened g y).ring.room = true := by rw [intakeOpened_ring, hr]; rfl
  have first : ((s.intakeOpened g y).emit (readyOf g y)).ring.buffer = [readyOf g y] := by
    rw [State.emit_of_room _ _ room, State.joinBuffer_buffer, intakeOpened_ring, hr]
    rfl
  refine ⟨hi.trans ei, hc.trans ec, ?_⟩
  obtain ⟨more, e⟩ := works.buffer
  rw [← e, first]
  rfl

theorem enterRunning_issued (hi : s.path.port.issued = none) (hf : s.path.port.fwdWait = []) (ho : s.path.port.ownWait = [])
    (g : ConfigImage) (y : Layout) : (s.enterRunning g y).path.port.issued = some (.owned (.commandIndex 0)) := by
  have opened : (s.intakeOpened g y).path.port.issued = some (.owned (.commandIndex 0)) := by
    simp only [State.intakeOpened, State.issue_path, State.modRing_path, startLoader_path]
    exact joinOwned_of_idle _ hi hf ho
  rw [enterRunning_opened]
  exact startHoming_issued _ (holdTest_issued (emit_issued _ opened))

/-- Settles O13: the checks of the image, and each field that the entry to RUNNING leaves. -/
theorem configurationImageDecidesStartup : Obligations.ConfigurationImageDecidesStartup := by
  intro s head rest h hh hl
  have arm := exec_configImageRead h hh hl
  constructor
  · intro hn
    rw [arm]
    cases hp : parseImage head rest with
    | none => rfl
    | some g =>
      rw [hp, Option.bind_some] at hn
      simp only [hn]
      rfl
  · intro g y hp hc hr
    obtain ⟨hparams, hmem⟩ := enterRunning_outside s g y
    obtain ⟨hintake, hindex, hready⟩ := enterRunning_ring hr g y
    have layout := enterRunning_layout s g y
    simp only [Path.layout, Prod.mk.injEq] at layout
    obtain ⟨h1, h2, h3, h4, h5, h6⟩ := layout
    refine ⟨s.enterRunning g y, ?_, h1, h2, h3, h4, h5, h6, hparams, enterRunning_free s g y, hintake, hindex,
      enterRunning_chans s g y, hmem, ?_, fun hi hf ho => enterRunning_issued hi hf ho g y⟩
    · simp only [arm, hp, hc]
    · rw [hready, hparams]
      rfl

end Sys2Proof.Machine
end

section
/-! How a command of the command ring ends, from its owner's rule (R184, R185). -/

namespace Sys2Proof.Machine

variable {s : State} {c : Instr} {kind : Nat} {tag : Half} {o : CmdOutcome} {r : Results} {v : State}

/-- A command ends as its owner's rule says. -/
theorem ends_of_owner {owner : State → Effect} (h : exec c s = .next (s.command c kind tag owner))
    (e : owner s.atOwner = { state := v, outcome := o, results := r }) : Ends c kind tag o r s v := by
  have ends := ends_of_command owner h
  rwa [e] at ends

/-- A command that its owner turns away. -/
theorem turnedAway_of_owner {owner : State → Effect} (h : exec c s = .next (s.command c kind tag owner))
    (e : owner s.atOwner = s.atOwner.turnAway o) : TurnedAway c kind tag o s :=
  ends_of_owner h e

/-- A command after whose rule the loader's tests follow. -/
theorem ends_of_settled {rule : State → Effect} (h : exec c s = .next (s.command c kind tag (settled rule)))
    (e : rule s.atOwner = { state := v, outcome := o, results := r }) (ho : o.refused = false) :
    Ends c kind tag o r s (s.atOwner.settle v) := by
  refine ends_of_owner h ?_
  rw [settled_taken _ rule (by rw [e]; exact ho), e]

theorem endsSettled_of_settled {rule : State → Effect} (h : exec c s = .next (s.command c kind tag (settled rule)))
    (e : rule s.atOwner = { state := v, outcome := o }) (ho : o.refused = false) : EndsSettled c kind tag o s v :=
  ends_of_settled h e ho

/-- A command that a rule turns away: the loader's tests do not follow. -/
theorem turnedAway_of_settled {rule : State → Effect} (h : exec c s = .next (s.command c kind tag (settled rule)))
    (e : rule s.atOwner = s.atOwner.turnAway o) (ho : o.refused = true) : TurnedAway c kind tag o s := by
  refine turnedAway_of_owner h ?_
  rw [settled_refused _ rule (by rw [e]; exact ho), e]

/-! ## What an owner sees of the state in which the slot read is answered -/

@[simp] theorem atOwner_pending (s : State) : s.atOwner.pending = s.pending := rfl
@[simp] theorem atOwner_mem (s : State) : s.atOwner.mem = s.mem := rfl
@[simp] theorem atOwner_timebase (s : State) : s.atOwner.timebase = s.timebase := rfl
@[simp] theorem atOwner_ring (s : State) : s.atOwner.ring = s.ring := rfl
@[simp] theorem atOwner_params (s : State) : s.atOwner.params = s.params := rfl
@[simp] theorem atOwner_pool (s : State) : s.atOwner.pool = s.pool := rfl
@[simp] theorem atOwner_pack (s : State) : s.atOwner.pack = s.pack := rfl
@[simp] theorem atOwner_streams (s : State) : s.atOwner.streams = s.streams := rfl
@[simp] theorem atOwner_chans (s : State) : s.atOwner.chans = s.chans := rfl
@[simp] theorem atOwner_restore (s : State) : s.atOwner.restore = s.restore := rfl
@[simp] theorem atOwner_loader (s : State) : s.atOwner.loader = s.loader := rfl
@[simp] theorem atOwner_chan (s : State) (d : Drive) : s.atOwner.chan d = s.chan d := rfl
@[simp] theorem atOwner_stream (s : State) (t : Tag) : s.atOwner.stream t = s.stream t := rfl
@[simp] theorem atOwner_session (s : State) (i : SessionId) : s.atOwner.session i = s.session i := rfl
@[simp] theorem atOwner_loc (s : State) (l : Loc) : s.atOwner.loc l = s.loc l := rfl
@[simp] theorem atOwner_picker (s : State) : s.atOwner.picker = s.picker := rfl

end Sys2Proof.Machine
end

section
/-! The parameters at start-up and under SET_PARAM (R189, 10.4). -/

namespace Sys2Proof.Machine

/-! ## Parameters as a table -/

theorem Params.get_set_self (q : Params) {p : Param} (v : Nat) (h : p.isLayout = false) : (q.set p v).get p = v := by
  cases p
  case poolBase | poolPages | imageBase => cases h
  case imageCapacity | regulatorBuffer | drainInterval | lowMark | restartMark | maxHold | verifyLimit | rewriteLimit
    | checkMode | ewReserve | cleaningInterval => exact Vector.getElem_set_self _
  all_goals rfl

/-- A parameter of another kind, or of the other drive, keeps its value: the fields of the record are apart, and so are the
two places of a field. -/
theorem Params.get_set_ne (q : Params) {p k : Param} (v : Nat) (h : k ≠ p) : (q.set p v).get k = q.get k := by
  have other : ∀ {d e : Drive} (x : Vector Nat 2), e ≠ d → (x.set d v)[e] = x[e] := fun x hne =>
    Vector.getElem_set_ne _ _ fun e => hne (Fin.ext e.symm)
  cases p <;> cases k <;> first | rfl | exact other _ fun e => h (by rw [e]) | exact absurd rfl h

/-- The parameters of lower id that a parameter depends on (R189). -/
def Param.lower : Param → List Param
  | .poolHoldOff => [.poolHoldOn]
  | .lowMark d => [.regulatorBuffer d]
  | .restartMark d | .verifyLimit d => [.imageCapacity d]
  | _ => []

theorem Params.clampLower_congr {q r : Params} {p : Param} (v : Nat) (h : ∀ k ∈ p.lower, q.get k = r.get k) :
    q.clampLower p v = r.clampLower p v := by
  cases p <;> simp only [Param.lower, List.forall_mem_cons, Params.get] at h <;> simp only [Params.clampLower, h]

theorem Param.notMem_lower (p : Param) : p ∉ p.lower := by
  cases p <;> simp [Param.lower]

/-! ## The second pass of start-up -/

/-- The value of a parameter is one that its clamps leave. -/
def Clamped (pages : Nat) (limit : Vector Nat 2) (q : Params) (p : Param) : Prop :=
  ∃ v, q.get p = q.clampLower p (clampTo (p.range pages limit) v)

variable {pages : Nat} {limit : Vector Nat 2}

/-- A parameter that has just been clamped. -/
theorem clamped_applyEntry (q : Params) {p : Param} (v : Nat) (h : p.isLayout = false) :
    Clamped pages limit (applyEntry pages limit q (p, v)) p := by
  refine ⟨v, (Params.get_set_self q _ h).trans (Params.clampLower_congr _ fun k hk => ?_)⟩
  exact (Params.get_set_ne q _ fun e : k = p => p.notMem_lower (e ▸ hk)).symm

/-- It stays so at the clamp of a parameter that it does not depend on. -/
theorem Clamped.applyEntry {q : Params} {p k : Param} (h : Clamped pages limit q p) (v : Nat) (hne : k ≠ p)
    (hl : k ∉ p.lower) : Clamped pages limit (applyEntry pages limit q (k, v)) p := by
  obtain ⟨w, hw⟩ := h
  refine ⟨w, (Params.get_set_ne q _ hne.symm).trans (hw.trans (Params.clampLower_congr _ fun j hj => ?_))⟩
  exact (Params.get_set_ne q _ fun e : j = k => hl (e ▸ hj)).symm

/-- One pass over a list of parameters, each clamped from the value that it has. -/
def clampPass (pages : Nat) (limit : Vector Nat 2) (ps : List Param) (q : Params) : Params :=
  ps.foldl (fun r p => applyEntry pages limit r (p, r.get p)) q

/-- The parameters behind `p` in a list are none that it depends on. -/
def After (p k : Param) : Prop := k ≠ p ∧ k ∉ p.lower

theorem Clamped.clampPass {p : Param} : ∀ (ps : List Param) {q : Params}, (∀ k ∈ ps, After p k) →
    Clamped pages limit q p → Clamped pages limit (clampPass pages limit ps q) p
  | [], _, _, h => h
  | k :: ks, _, hs, h =>
    Clamped.clampPass ks (fun j hj => hs j (List.mem_cons_of_mem _ hj))
      (h.applyEntry _ (hs k (List.mem_cons_self ..)).1 (hs k (List.mem_cons_self ..)).2)

theorem clamped_clampPass {p : Param} (hp : p.isLayout = false) : ∀ (ps : List Param) (q : Params),
    ps.Pairwise After → p ∈ ps → Clamped pages limit (clampPass pages limit ps q) p
  | k :: ks, q, hs, hm => by
    obtain ⟨hk, hks⟩ := List.pairwise_cons.1 hs
    rcases List.mem_cons.1 hm with rfl | hm
    · exact Clamped.clampPass ks hk (clamped_applyEntry q _ hp)
    · exact clamped_clampPass hp ks _ hks hm

theorem ordered_pairwise : Param.ordered.Pairwise After := by
  unfold After
  decide

theorem mem_ordered {p : Param} (h : p.isLayout = false) : p ∈ Param.ordered := by
  cases p
  case poolBase | poolPages | imageBase => cases h
  case imageCapacity d | regulatorBuffer d | drainInterval d | lowMark d | restartMark d | maxHold d | verifyLimit d
    | rewriteLimit d | checkMode d | ewReserve d | cleaningInterval d => revert d; decide
  all_goals decide

theorem startParams_clamped (entries : List (Param × Nat)) {p : Param} (h : p.isLayout = false) :
    Clamped pages limit (startParams pages limit entries) p :=
  clamped_clampPass h Param.ordered _ ordered_pairwise (mem_ordered h)

/-! ## The rows of 10.4 -/

/-- Settles O14: after the second pass each parameter has a value that its clamps leave, and those lie in its row. -/
theorem startupParametersKeepTheirRanges : Obligations.StartupParametersKeepTheirRanges := by
  intro pages limit entries area
  extract_lets q
  have clamped : ∀ p : Param, p.isLayout = false → Clamped pages limit q p := fun p => startParams_clamped entries
  obtain ⟨on, hon⟩ := clamped .poolHoldOn rfl
  obtain ⟨off, hoff⟩ := clamped .poolHoldOff rfl
  simp only [Params.get, Params.clampLower, Param.range, clampTo] at hon hoff
  refine ⟨by omega, fun p hp => ?_⟩
  obtain ⟨v, hv⟩ := clamped p hp
  have capacity : ∀ d : Drive, 16 ≤ q.imageCapacity[d] ∧ q.imageCapacity[d] ≤ 128 := by
    intro d
    obtain ⟨w, hw⟩ := clamped (.imageCapacity d) rfl
    have := area d
    simp only [Params.get, Params.clampLower, Param.range, clampTo] at hw
    omega
  have buffer : ∀ d : Drive, 4 ≤ q.regulatorBuffer[d] := by
    intro d
    obtain ⟨w, hw⟩ := clamped (.regulatorBuffer d) rfl
    simp only [Params.get, Params.clampLower, Param.range, clampTo] at hw
    omega
  cases p <;> simp only [Params.get, Params.clampLower, Param.range, clampTo] at hv <;>
    simp only [Params.get, Param.bounds, reduceCtorEq, false_and, or_false, true_and]
  case poolBase | poolPages | imageBase => cases hp
  case imageCapacity d => have := area d; omega
  case restartMark d | verifyLimit d => have := capacity d; omega
  case lowMark d => have := buffer d; omega
  all_goals omega

end Sys2Proof.Machine
end

section
/-! The path unit: accesses, the memory port, index words and stray accesses (chapter 9, R183). -/

namespace Sys2Proof.Machine

variable {s t : State}

/-! ## Answers at the system port -/

/-- Answers other than RETRY count nothing. -/
theorem answer_of_no_retry (s : State) (as : List Answer) (h : as.filter (· == .retry) = []) :
    s.answer as = { s with path := { s.path with answers := as } } := by
  simp only [State.answer, State.countPath, State.modPath, h, List.length_nil, counter_add_zero]

theorem answer_fault (s : State) : s.answer [.fault] = { s with path := { s.path with answers := [.fault] } } :=
  answer_of_no_retry s _ rfl

theorem answer_done (s : State) (bs : List Byte) :
    s.answer [.done bs] = { s with path := { s.path with answers := [.done bs] } } := answer_of_no_retry s _ rfl

theorem answer_retry (s : State) : s.answer [.retry] = { s with path := { s.path with
    answers := [.retry], counters := { s.path.counters with retries := s.path.counters.retries.add 1 } } } := rfl

/-! ## Malformed and refused accesses (R172, R173) -/

theorem exec_malformedAccess {acc : Access} (h : acc.shaped = false) : exec (.malformedAccess acc) s =
    .next ((s.answer [.fault]).countPath fun c => { c with malformed := c.malformed.add 1 }) :=
  if_neg (by simp [h])

theorem exec_refusedAccess {acc : Access} (h : acc.shaped = true) (hr : s.refuses acc = true) :
    exec (.refusedAccess acc) s =
      .next ((s.answer [.fault]).countPath fun c => { c with refused := c.refused.add 1 }) :=
  if_pos (by simp [h, hr])

/-- Settles O15: the answer FAULT with the count of its kind; the table of R173 is the model's test. -/
theorem malformedAndRefusedAccessesAreAnsweredFault : Obligations.MalformedAndRefusedAccessesAreAnsweredFault := by
  constructor
  · intro s acc h
    rw [exec_malformedAccess h, answer_fault]
    rfl
  · intro s acc w h hw hk
    have refused : s.refuses acc = true := by
      cases acc <;> simpa [State.refuses, hw, or_assoc] using hk
    rw [exec_refusedAccess h refused, answer_fault]
    rfl

/-! ## Forwarded accesses (R174, R175) -/

theorem watch_acc (s : State) (acc : Access) : (s.watch acc).1.acc = acc := by
  unfold State.watch
  split
  · split <;> rfl
  · rfl

theorem watch_outside_control {acc : Access} (h : ∀ w, s.windowAt acc.addr = some w → w.kind ≠ .control) :
    s.watch acc = ({ acc := acc, producer := none, consumer := none }, false) := by
  unfold State.watch
  split
  next w hw => rw [if_neg (h w hw)]
  next => rfl

theorem watch_control {acc : Access} {w : Window} (hw : s.windowAt acc.addr = some w) (hk : w.kind = .control) :
    s.watch acc = ({ acc := acc, producer := (watched acc w.base).1, consumer := (watched acc (w.base + 0xC)).1 },
      (watched acc w.base).2 || (watched acc (w.base + 0xC)).2) := by
  simp only [State.watch, hw, hk, if_true]

theorem forwards_of_window {acc : Access} (h : ∀ w, s.windowAt acc.addr = some w → w.kind = .plain ∨ w.kind = .control) :
    s.forwards acc = true := by
  unfold State.forwards
  split
  next => rfl
  next w hw => simpa using h w hw

/-- The two bytes at a place within a byte string, as a number. -/
theorem ofLE_slice_two (ds : List Byte) (k : Nat) (h : k + 1 < ds.length) :
    ofLE (slice ds k 2) = (ds.getD k 0).toNat + 256 * (ds.getD (k + 1) 0).toNat := by
  have e : slice ds k 2 = [ds[k], ds[k + 1]] := by
    rw [slice, List.drop_eq_getElem_cons (by omega), List.drop_eq_getElem_cons h]
    rfl
  have h0 : k < ds.length := by omega
  simp [e, ofLE, List.getD_eq_getElem?_getD, h0, h]

/-- R175: the value of a watched word that a write covers whole, and whether it covers one of the two bytes alone. -/
theorem watched_write (a : Addr) (ds : List Byte) (x : Nat) :
    let covers (y : Nat) : Prop := a.toNat ≤ y ∧ y < a.toNat + ds.length
    (covers x → covers (x + 1) → (watched (.write a ds) x).1 = some (BitVec.ofNat 16
        ((ds.getD (x - a.toNat) 0).toNat + 256 * (ds.getD (x + 1 - a.toNat) 0).toNat)))
      ∧ (¬ (covers x ∧ covers (x + 1)) → (watched (.write a ds) x).1 = none)
      ∧ ((watched (.write a ds) x).2 = true ↔ ¬ (covers x ↔ covers (x + 1))) := by
  intro covers
  by_cases h0 : covers x <;> by_cases h1 : covers (x + 1)
  all_goals have c0 := h0; have c1 := h1; simp only [covers] at c0 c1
  · have pair := ofLE_slice_two ds (x - a.toNat) (by omega)
    have next : x - a.toNat + 1 = x + 1 - a.toNat := by omega
    rw [next] at pair
    simp only [watched, c0, c1, and_self, decide_true, Bool.and_self, if_true, pair, h0, h1]
    simp
  · simp [watched, ← Bool.decide_and, c0, c1, h0, h1]
  · simp [watched, ← Bool.decide_and, c0, c1, h0, h1]
  · simp [watched, ← Bool.decide_and, c0, c1, h0, h1]

/-- Settles O16: an access that is forwarded joins its queue as the watch of the index words gives it. -/
theorem plainAccessesAreForwardedAndIndexWordsWatched : Obligations.PlainAccessesAreForwardedAndIndexWordsWatched := by
  constructor
  · intro s acc h hw
    refine ⟨watch_acc s acc, fun hc => ?_, if_neg (by simp [h, forwards_of_window hw])⟩
    rw [watch_outside_control hc]
    exact ⟨rfl, rfl, rfl⟩
  · intro s w a ds hw hk
    have both := watch_control (acc := .write a ds) hw hk
    obtain ⟨hp, hpn, hpp⟩ := watched_write a ds w.base
    obtain ⟨hc, hcn, hcp⟩ := watched_write a ds (w.base + 0xC)
    simp only [both, Bool.or_eq_true]
    exact ⟨hp, hc, hpn, hcn, or_congr hpp hcp⟩

/-! ## The memory port (R176) -/

/-- Settles O19: the arbiter's cases, and the passing of a job's accesses. -/
theorem arbiterAlternatesWhileBothQueuesHoldAccesses : Obligations.ArbiterAlternatesWhileBothQueuesHoldAccesses := by
  intro p f fs o os
  refine ⟨fun x h => p.issue_of_issued x h, fun h hf ho => ⟨fun hv => ?_, fun hv => ?_⟩, fun h hf ho => ?_, fun h hf ho => ?_,
    fun hf ho => p.issue_of_empty hf ho, rfl, rfl, rfl, fun _ _ => rfl, fun e h => ⟨?_, fun want x hw hx hwx => ?_⟩,
    fun want x h hw => ?_⟩
  · simp only [Port.issue, h, hf, ho, hv]
  · simp only [Port.issue, h, hf, ho, hv]
  · simp only [Port.issue, h, hf, ho]
  · simp only [Port.issue, h, hf, ho]
  · simp only [Port.passJob, Port.jobIssued, h]
  · have first : p.upTo want = Port.passJobs want (p.ownWait.length + 1) p.passJob := by
      simp [Port.upTo, Port.passJobs, Port.jobIssued, h, hw]
    rw [first]
    simp [Port.passJobs, hx, hwx]
  · rcases hw with hw | hw
    · exact p.upTo_of_wanted want x h hw
    · refine Port.upTo_of_other want p ?_
      simp only [Port.jobIssued, h]
      split
      · next e => exact absurd (Option.some.inj e) (hw _)
      · rfl

/-! ## The answer to a forwarded access (R177) -/

/-- Memory answers the forwarded access issued. -/
theorem answerForwarded_of_issued {f : Forwarded} {want : Forwarded → Bool} (h : s.path.port.issued = some (.forwarded f))
    (hw : want f = true) (ok : Bool) : s.answerForwarded want ok = (s.modPort Port.answered).forwardedDone f ok := by
  have up : s.path.port.upTo Issued.isForwarded = s.path.port := Port.upTo_of_wanted _ _ _ h rfl
  simp only [State.answerForwarded, up, h, hw, if_true]
  rfl

/-- The state in which memory has made the access of a write and the master has its answer. -/
def State.written (s : State) (a : Addr) (ds : List Byte) : State :=
  ((s.modPort Port.answered).poke a.toNat ds).answer [.done []]

theorem forwardedDone_write (s : State) (a : Addr) (ds : List Byte) (p u : Option Half) :
    (s.modPort Port.answered).forwardedDone { acc := .write a ds, producer := p, consumer := u } true =
      let t := match p with | some v => (s.written a ds).takeProducer v | none => s.written a ds
      match u with | some v => t.takeConsumer v | none => t := rfl

theorem forwardedDone_fault (s : State) (f : Forwarded) :
    s.forwardedDone f false = (s.answer [.fault]).countPath fun c => { c with fwdFaults := c.fwdFaults.add 1 } := rfl

theorem written_ring (s : State) (a : Addr) (ds : List Byte) : (s.written a ds).ring = s.ring := rfl
theorem written_port (s : State) (a : Addr) (ds : List Byte) : (s.written a ds).path.port = s.path.port.answered := rfl
theorem written_answers (s : State) (a : Addr) (ds : List Byte) : (s.written a ds).path.answers = [.done []] := rfl
theorem written_mem (s : State) (a : Addr) (ds : List Byte) : (s.written a ds).mem = s.mem.put a.toNat ds := rfl

/-- Settles O17: without an index value, the answer changes memory, the port and the answers alone. -/
theorem forwardedAnswersReachMemoryAndMaster : Obligations.ForwardedAnswersReachMemoryAndMaster := by
  intro s f h
  have arm : ∀ ok, exec (.forwardedAnswer ok) s = .next ((s.modPort Port.answered).forwardedDone f ok) :=
    fun ok => congrArg _ (answerForwarded_of_issued h rfl ok)
  refine ⟨fun hp hc => ⟨_, arm true, ?_⟩, ?_⟩
  · obtain ⟨acc, p, u⟩ := f
    obtain rfl : p = none := hp
    obtain rfl : u = none := hc
    cases acc with
    | read a n => exact ⟨rfl, rfl, rfl, rfl, rfl, rfl, rfl, rfl⟩
    | write a ds =>
      exact ⟨rfl, rfl, rfl, rfl, rfl, rfl, rfl, fun k hk => s.poke_get_inside a.toNat ds k hk,
        fun x hx => s.poke_get_outside a.toNat ds x hx⟩
  · rw [arm false, forwardedDone_fault, answer_fault]
    rfl

/-! ## The intake's test -/

theorem intakeTest_of_busy (h : s.ring.intake = .reading ∨ s.ring.intake = .stopped) : s.intakeTest = s := by
  rcases h with h | h <;> simp only [State.intakeTest, h]

theorem intakeTest_of_idle (h : s.ring.intake = .idle ∨ s.ring.intake = .blocked) (hp : s.ring.p = s.ring.c) :
    s.intakeTest = s.modRing fun g => { g with intake := .idle } := by
  rcases h with h | h <;> simp only [State.intakeTest, h, hp, if_true]

theorem intakeTest_of_room (h : s.ring.intake = .idle ∨ s.ring.intake = .blocked) (hp : s.ring.p ≠ s.ring.c)
    (hr : s.ring.room = true) : s.intakeTest =
      (s.modRing fun g => { g with intake := .reading, reserved := true }).issue (.slotRead s.ring.c) := by
  rcases h with h | h <;> simp only [State.intakeTest, h, hp, hr, if_true, if_false]

theorem intakeTest_of_full (h : s.ring.intake = .idle ∨ s.ring.intake = .blocked) (hp : s.ring.p ≠ s.ring.c)
    (hr : s.ring.room = false) : s.intakeTest = s.modRing fun g => { g with intake := .blocked } := by
  rcases h with h | h <;> simp [State.intakeTest, h, hp, hr]

/-- The test changes of the ring unit only the intake and the reservation. -/
theorem intakeTest_registers (s : State) :
    s.intakeTest.ring = { s.ring with intake := s.intakeTest.ring.intake, reserved := s.intakeTest.ring.reserved } := by
  rcases s.intakeTest_cases with ⟨-, e⟩ | ⟨-, ⟨-, e⟩ | ⟨-, -, e⟩ | ⟨-, -, e⟩⟩ <;> rw [e] <;> rfl

/-- Of the path unit it changes only the memory port. -/
theorem intakeTest_path (s : State) : s.intakeTest.path = { s.path with port := s.intakeTest.path.port } := by
  rcases s.intakeTest_cases with ⟨-, e⟩ | ⟨-, ⟨-, e⟩ | ⟨-, -, e⟩ | ⟨-, -, e⟩⟩ <;> rw [e] <;> rfl

theorem room_iff (g : Ring) : g.room = true ↔ g.reserved.toNat + (g.s - g.u).toNat + g.buffer.length < 256
    ∧ g.reserved.toNat + g.buffer.length < 32 := by
  cases h : g.reserved <;>
    simp only [Ring.room, Ring.freePlaces, Config.statusSlots, Config.recordBuffer, h, Bool.and_eq_true, decide_eq_true_eq,
      Bool.toNat_true, Bool.toNat_false, if_true, Bool.false_eq_true, if_false] <;> omega

/-! ## Index words (R183, R188) -/

theorem emit_intake (r : Record) : (s.emit r).ring.intake = s.ring.intake ∧ (s.emit r).ring.reserved = s.ring.reserved := by
  obtain ⟨-, -, -, -, -, hi, hr, -⟩ := s.emit_ring r
  exact ⟨hi, hr⟩

/-- A record that finds room. -/
theorem emit_buffer_of_room (r : Record) (h : s.ring.room = true) :
    (s.emit r).ring.buffer = s.ring.buffer ++ [{ r with dropped := s.ring.d }] := by
  rw [s.emit_of_room r h, s.joinBuffer_buffer]

/-- A record that finds no room is counted among the dropped. -/
theorem emit_buffer_of_full (r : Record) (h : s.ring.room = false) : (s.emit r).ring.buffer = s.ring.buffer := by
  rw [s.emit_of_full r h]
  rfl

/-- The counters of the ring unit, but for the records dropped, are not the records' concern. -/
theorem emit_ringFaults (r : Record) : (s.emit r).ring.counters.ringFaults = s.ring.counters.ringFaults := by
  simp only [State.emit, State.joinBuffer]
  repeat' split
  all_goals rfl

theorem emit_answers (r : Record) : (s.emit r).path.answers = s.path.answers := by
  rw [State.emit_path]

/-- RING_FAULT of an index word, before it joins the buffer. -/
def faultRecord (word : Byte) (value own other : Half) : Record :=
  { kind := .ringFault, byte1 := word, e0 := value.setWidth 32, e1 := own.setWidth 32, e2 := other.setWidth 32 }

/-- A value that is not sane changes no index, and is reported. -/
theorem ringFault_ring (s : State) (word : Byte) (value own other : Half) :
    let t := s.ringFault word value own other
    t.ring.control = s.ring.control ∧ t.ring.counters.ringFaults = s.ring.counters.ringFaults.add 1
      ∧ t.path.answers = s.path.answers ∧ t.mem = s.mem ∧ (s.ring.room = true → t.ring.buffer = s.ring.buffer ++
          [{ faultRecord word value own other with dropped := s.ring.d }]) := by
  refine ⟨(((Works.refl s).countRing _).emit _).control, emit_ringFaults _, ?_, ?_, fun h => emit_buffer_of_room _ h⟩
  · exact emit_answers _
  · exact mem_of_outside (State.emit_outside ..)

theorem takeProducer_sane {v : Half} (h : (v - s.ring.c).toNat ≤ 64) :
    s.takeProducer v = (s.modRing fun g => { g with p := v }).intakeTest := if_pos h

theorem takeProducer_insane {v : Half} (h : 64 < (v - s.ring.c).toNat) :
    s.takeProducer v = s.ringFault 0 v s.ring.c s.ring.p := if_neg (Nat.not_le.2 h)

theorem takeConsumer_sane {v : Half} (h : (s.ring.s - v).toNat ≤ 256) :
    s.takeConsumer v = (s.modRing fun g => { g with u := v, irq := g.s != v }).intakeTest := if_pos h

theorem takeConsumer_insane {v : Half} (h : 256 < (s.ring.s - v).toNat) :
    s.takeConsumer v = s.ringFault 1 v s.ring.s s.ring.u := if_neg (Nat.not_le.2 h)

theorem exec_commandProducerWrite {f : Forwarded} (h : s.path.port.issued = some (.forwarded f)) (hp : f.producer.isSome = true) :
    exec .commandProducerWrite s = .next ((s.modPort Port.answered).forwardedDone f true) :=
  congrArg _ (answerForwarded_of_issued h hp true)

theorem exec_statusConsumerWrite {f : Forwarded} (h : s.path.port.issued = some (.forwarded f)) (hc : f.consumer.isSome = true) :
    exec .statusConsumerWrite s = .next ((s.modPort Port.answered).forwardedDone f true) :=
  congrArg _ (answerForwarded_of_issued h hc true)

/-- What the intake's test keeps of a state. -/
theorem intakeTest_keeps (s : State) : s.intakeTest.ring.c = s.ring.c ∧ s.intakeTest.ring.p = s.ring.p
    ∧ s.intakeTest.ring.s = s.ring.s ∧ s.intakeTest.ring.u = s.ring.u ∧ s.intakeTest.ring.irq = s.ring.irq
    ∧ s.intakeTest.ring.buffer = s.ring.buffer ∧ s.intakeTest.ring.counters = s.ring.counters
    ∧ s.intakeTest.path.answers = s.path.answers ∧ s.intakeTest.mem = s.mem := by
  refine ⟨?_, ?_, ?_, ?_, ?_, ?_, ?_, ?_, mem_of_outside s.intakeTest_outside⟩
  case refine_8 => rw [intakeTest_path]
  all_goals rw [intakeTest_registers]

/-- R183, R184: a value of the producer word, as a write of it leaves the part. -/
theorem producer_judged (s : State) (v : Half) :
    let t := s.takeProducer v
    t.ring.c = s.ring.c ∧ t.ring.s = s.ring.s ∧ t.ring.u = s.ring.u ∧ t.ring.irq = s.ring.irq
      ∧ t.path.answers = s.path.answers ∧ t.mem = s.mem := by
  intro t
  by_cases h : (v - s.ring.c).toNat ≤ 64
  · obtain ⟨hc, -, hs, hu, hi, -, -, ha, hm⟩ := intakeTest_keeps (s.modRing fun g => { g with p := v })
    simp only [t, takeProducer_sane h]
    exact ⟨hc, hs, hu, hi, ha, hm⟩
  · obtain ⟨hc, -, ha, hm, -⟩ := ringFault_ring s 0 v s.ring.c s.ring.p
    simp only [t, takeProducer_insane (Nat.not_le.1 h)]
    obtain ⟨es, eu, ei⟩ := control_status hc
    exact ⟨(control_commands hc).1, es, eu, ei, ha, hm⟩

theorem consumer_judged (s : State) (v : Half) :
    let t := s.takeConsumer v
    t.ring.c = s.ring.c ∧ t.ring.p = s.ring.p ∧ t.ring.s = s.ring.s ∧ t.path.answers = s.path.answers ∧ t.mem = s.mem := by
  intro t
  by_cases h : (s.ring.s - v).toNat ≤ 256
  · obtain ⟨hc, hp, hs, -, -, -, -, ha, hm⟩ := intakeTest_keeps (s.modRing fun g => { g with u := v, irq := g.s != v })
    simp only [t, takeConsumer_sane h]
    exact ⟨hc, hp, hs, ha, hm⟩
  · obtain ⟨hc, -, ha, hm, -⟩ := ringFault_ring s 1 v s.ring.s s.ring.u
    simp only [t, takeConsumer_insane (Nat.not_le.1 h)]
    obtain ⟨ec, ep, -⟩ := control_commands hc
    exact ⟨ec, ep, (control_status hc).1, ha, hm⟩

/-- R184: what the intake's test makes of a ring whose commands wait or not. -/
theorem intakeTest_judged (s : State) :
    (s.ring.intake = .idle ∨ s.ring.intake = .blocked →
        (s.ring.p = s.ring.c → s.intakeTest.ring.intake = .idle ∧ s.intakeTest.path.port = s.path.port)
        ∧ (s.ring.p ≠ s.ring.c → s.ring.room = true → s.intakeTest.ring.intake = .reading ∧ s.intakeTest.ring.reserved = true
            ∧ s.intakeTest.path.port = s.path.port.joinOwned (.slotRead s.ring.c))
        ∧ (s.ring.p ≠ s.ring.c → s.ring.room = false → s.intakeTest.ring.intake = .blocked
            ∧ s.intakeTest.path.port = s.path.port))
    ∧ (s.ring.intake = .reading ∨ s.ring.intake = .stopped → s.intakeTest.ring.intake = s.ring.intake
        ∧ s.intakeTest.ring.reserved = s.ring.reserved ∧ s.intakeTest.path.port = s.path.port) := by
  refine ⟨fun h => ⟨fun hp => ?_, fun hp hr => ?_, fun hp hr => ?_⟩, fun h => ?_⟩
  · rw [intakeTest_of_idle h hp]; exact ⟨rfl, rfl⟩
  · rw [intakeTest_of_room h hp hr]; exact ⟨rfl, rfl, rfl⟩
  · rw [intakeTest_of_full h hp hr]; exact ⟨rfl, rfl⟩
  · rw [intakeTest_of_busy h]; exact ⟨rfl, rfl, rfl⟩

/-- R183: the records that a producer value makes. -/
theorem producer_records (s : State) (v : Half) (h : s.ring.room = true) :
    ∃ l, (s.takeProducer v).ring.buffer = s.ring.buffer ++ l ∧ l.map (fun r => { r with dropped := 0 }) =
      if (v - s.ring.c).toNat ≤ 64 then [] else [faultRecord 0 v s.ring.c s.ring.p] := by
  by_cases hv : (v - s.ring.c).toNat ≤ 64
  · obtain ⟨-, -, -, -, -, hb, -⟩ := intakeTest_keeps (s.modRing fun g => { g with p := v })
    rw [takeProducer_sane hv, if_pos hv]
    exact ⟨[], by rw [hb, List.append_nil]; rfl, rfl⟩
  · obtain ⟨-, -, -, -, hb⟩ := ringFault_ring s 0 v s.ring.c s.ring.p
    rw [takeProducer_insane (Nat.not_le.1 hv), if_neg hv]
    exact ⟨_, hb h, rfl⟩

theorem consumer_records (s : State) (v : Half) (h : s.ring.room = true) :
    ∃ l, (s.takeConsumer v).ring.buffer = s.ring.buffer ++ l ∧ l.map (fun r => { r with dropped := 0 }) =
      if (s.ring.s - v).toNat ≤ 256 then [] else [faultRecord 1 v s.ring.s s.ring.u] := by
  by_cases hv : (s.ring.s - v).toNat ≤ 256
  · obtain ⟨-, -, -, -, -, hb, -⟩ := intakeTest_keeps (s.modRing fun g => { g with u := v, irq := g.s != v })
    rw [takeConsumer_sane hv, if_pos hv]
    exact ⟨[], by rw [hb, List.append_nil]; rfl, rfl⟩
  · obtain ⟨-, -, -, -, hb⟩ := ringFault_ring s 1 v s.ring.s s.ring.u
    rw [takeConsumer_insane (Nat.not_le.1 hv), if_neg hv]
    exact ⟨_, hb h, rfl⟩

/-- A producer value uses one place at most: that of its RING_FAULT, or the one that the intake reserves. -/
theorem producer_room (s : State) (v : Half)
    (h1 : s.ring.reserved.toNat + (s.ring.s - s.ring.u).toNat + s.ring.buffer.length + 3 ≤ 256)
    (h2 : s.ring.reserved.toNat + s.ring.buffer.length + 3 ≤ 32) : (s.takeProducer v).ring.room = true := by
  have room : s.ring.room = true := (room_iff _).2 ⟨by omega, by omega⟩
  have hlt := fun b : Bool => Bool.toNat_le b
  rw [room_iff]
  by_cases hv : (v - s.ring.c).toNat ≤ 64
  · obtain ⟨-, -, hs, hu, -, hb, -⟩ := intakeTest_keeps (s.modRing fun g => { g with p := v })
    rw [takeProducer_sane hv, hs, hu, hb]
    have := hlt (s.modRing fun g => { g with p := v }).intakeTest.ring.reserved
    simp only [State.modRing_ring]
    omega
  · obtain ⟨hc, -, -, -, hb⟩ := ringFault_ring s 0 v s.ring.c s.ring.p
    obtain ⟨es, eu, -⟩ := control_status hc
    obtain ⟨-, -, -, er⟩ := control_commands hc
    rw [takeProducer_insane (Nat.not_le.1 hv), es, eu, er, hb room, List.length_append, List.length_singleton]
    omega

theorem takeProducer_p (s : State) (v : Half) :
    (s.takeProducer v).ring.p = if (v - s.ring.c).toNat ≤ 64 then v else s.ring.p := by
  by_cases hv : (v - s.ring.c).toNat ≤ 64
  · rw [takeProducer_sane hv, if_pos hv, (intakeTest_keeps _).2.1]
    rfl
  · obtain ⟨hc, -⟩ := ringFault_ring s 0 v s.ring.c s.ring.p
    rw [takeProducer_insane (Nat.not_le.1 hv), if_neg hv]
    exact (control_commands hc).2.1

theorem takeConsumer_u (s : State) (v : Half) :
    (s.takeConsumer v).ring.u = (if (s.ring.s - v).toNat ≤ 256 then v else s.ring.u)
      ∧ (s.takeConsumer v).ring.irq = (if (s.ring.s - v).toNat ≤ 256 then s.ring.s != v else s.ring.irq) := by
  by_cases hv : (s.ring.s - v).toNat ≤ 256
  · obtain ⟨-, -, -, hu, hi, -⟩ := intakeTest_keeps (s.modRing fun g => { g with u := v, irq := g.s != v })
    simp only [takeConsumer_sane hv, if_pos hv]
    exact ⟨hu, hi⟩
  · obtain ⟨hc, -⟩ := ringFault_ring s 1 v s.ring.s s.ring.u
    simp only [takeConsumer_insane (Nat.not_le.1 hv), if_neg hv]
    exact (control_status hc).2

/-- R183, R184: what an intake that may take a command makes of a sane value of each word, one after the other. -/
theorem both_words_intake (s : State) (v w : Half) (hv : (v - s.ring.c).toNat ≤ 64) (hw : (s.ring.s - w).toNat ≤ 256)
    (hi : s.ring.intake = .idle ∨ s.ring.intake = .blocked) :
    let t := (s.takeProducer v).takeConsumer w
    let place (u : Half) : Prop := s.ring.reserved.toNat + (s.ring.s - u).toNat + s.ring.buffer.length < 256
      ∧ s.ring.reserved.toNat + s.ring.buffer.length < 32
    (v = s.ring.c → t.ring.intake = .idle ∧ t.path.port = s.path.port)
      ∧ (v ≠ s.ring.c → place s.ring.u ∨ place w → t.ring.intake = .reading ∧ t.ring.reserved = true
          ∧ t.path.port = s.path.port.joinOwned (.slotRead s.ring.c))
      ∧ (v ≠ s.ring.c → ¬ place s.ring.u → ¬ place w → t.ring.intake = .blocked ∧ t.path.port = s.path.port) := by
  intro t place
  -- the first test, on the ring with the new P
  have first : s.takeProducer v = (s.modRing fun g => { g with p := v }).intakeTest := takeProducer_sane hv
  have second : ∀ u, s.takeProducer v = u → u.ring.s = s.ring.s →
      t = (u.modRing fun g => { g with u := w, irq := g.s != w }).intakeTest := by
    intro u e hs
    simp only [t, e]
    exact takeConsumer_sane (by rwa [hs])
  have room_u : (s.modRing fun g => { g with p := v }).ring.room = true ↔ place s.ring.u := room_iff _
  refine ⟨fun hp => ?_, fun hp hr => ?_, fun hp hu hwp => ?_⟩
  · have e := second _ (first.trans (intakeTest_of_idle hi hp)) rfl
    rw [e, intakeTest_of_idle (Or.inl rfl) hp]
    exact ⟨rfl, rfl⟩
  · by_cases hu : place s.ring.u
    · have e := second _ (first.trans (intakeTest_of_room hi hp (room_u.2 hu))) rfl
      rw [e, intakeTest_of_busy (Or.inl rfl)]
      exact ⟨rfl, rfl, rfl⟩
    · have full : (s.modRing fun g => { g with p := v }).ring.room = false := 
        Bool.not_eq_true _ ▸ fun k => hu (room_u.1 k)
      have e := second _ (first.trans (intakeTest_of_full hi hp full)) rfl
      rw [e, intakeTest_of_room (Or.inr rfl) hp ((room_iff _).2 (hr.resolve_left hu))]
      exact ⟨rfl, rfl, rfl⟩
  · have full : (s.modRing fun g => { g with p := v }).ring.room = false := 
        Bool.not_eq_true _ ▸ fun k => hu (room_u.1 k)
    have e := second _ (first.trans (intakeTest_of_full hi hp full)) rfl
    rw [e, intakeTest_of_full (Or.inr rfl) hp]
    · exact ⟨rfl, rfl⟩
    · rw [← Bool.not_eq_true, room_iff]
      exact hwp

/-- Settles O18: the answer leaves the write's state, on which the ring unit takes the producer value and then the consumer
value. -/
theorem indexWordWritesAreJudged : Obligations.IndexWordWritesAreJudged := by
  refine ⟨fun s a ds v h => ?_, fun s a ds v h => ?_, fun s a ds v w h => ?_⟩
  · obtain ⟨hc, hs, hu, hi, ha, hm⟩ := producer_judged (s.written a ds) v
    refine ⟨(s.written a ds).takeProducer v, exec_commandProducerWrite h rfl, hc, hs, hu, hi, ha, hm, fun hv => ?_, fun hv => ?_⟩
    · obtain ⟨-, hp, -, -, -, hb, hk, -⟩ := intakeTest_keeps ((s.written a ds).modRing fun g => { g with p := v })
      rw [takeProducer_sane (s := s.written a ds) hv]
      exact ⟨hp, hb, hk, intakeTest_judged ((s.written a ds).modRing fun g => { g with p := v })⟩
    · obtain ⟨hk, hf, -, -, hb⟩ := ringFault_ring (s.written a ds) 0 v s.ring.c s.ring.p
      rw [takeProducer_insane (s := s.written a ds) hv]
      obtain ⟨-, hp, hin, -⟩ := control_commands hk
      exact ⟨hp, hin, hf, hb⟩
  · obtain ⟨hc, hp, hs, ha, hm⟩ := consumer_judged (s.written a ds) v
    refine ⟨(s.written a ds).takeConsumer v, exec_statusConsumerWrite h rfl, hc, hs, hp, ha, hm, fun hv => ?_, fun hv => ?_⟩
    · obtain ⟨-, -, -, hu, hi, hb, -⟩ :=
        intakeTest_keeps ((s.written a ds).modRing fun g => { g with u := v, irq := g.s != v })
      rw [takeConsumer_sane (s := s.written a ds) hv]
      refine ⟨hu, hi, hb, fun blocked waits free short place => ?_⟩
      obtain ⟨may, -⟩ := intakeTest_judged ((s.written a ds).modRing fun g => { g with u := v, irq := g.s != v })
      obtain ⟨-, take, -⟩ := may (Or.inr blocked)
      refine take waits ((room_iff _).2 ?_)
      change s.ring.reserved.toNat + (s.ring.s - v).toNat + s.ring.buffer.length < 256
        ∧ s.ring.reserved.toNat + s.ring.buffer.length < 32
      simp only [free, Bool.toNat_false]
      omega
    · obtain ⟨hk, -, -, -, hb⟩ := ringFault_ring (s.written a ds) 1 v s.ring.s s.ring.u
      rw [takeConsumer_insane (s := s.written a ds) hv]
      obtain ⟨-, hu, hi⟩ := control_status hk
      exact ⟨hu, hi, hb⟩
  · intro saneP saneU faults place
    let p := (s.written a ds).takeProducer v
    obtain ⟨pc, ps, pu, pi, pa, pm⟩ := producer_judged (s.written a ds) v
    obtain ⟨uc, up, us, ua, um⟩ := consumer_judged p w
    obtain ⟨hu, hirq⟩ := takeConsumer_u p w
    refine ⟨p.takeConsumer w, exec_commandProducerWrite h rfl, exec_statusConsumerWrite h rfl, ua.trans pa, um.trans pm,
      uc.trans pc, us.trans ps, up.trans (takeProducer_p _ v), ?_, ?_, fun h1 h2 => ?_, fun hp hw hi => ?_⟩
    · rw [hu, ps, pu]
      rfl
    · rw [hirq, ps, pi]
      rfl
    · have room : (s.written a ds).ring.room = true := (room_iff _).2 ⟨by simp only [written_ring]; omega,
        by simp only [written_ring]; omega⟩
      obtain ⟨l, hl, el⟩ := producer_records (s.written a ds) v room
      obtain ⟨k, hk, ek⟩ := consumer_records p w (producer_room (s.written a ds) v h1 h2)
      rw [ps, pu] at ek
      have grown : (p.takeConsumer w).ring.buffer = s.ring.buffer ++ (l ++ k) := by
        rw [hk, hl, List.append_assoc]
        rfl
      rw [grown, List.drop_left, List.take_left, List.map_append, el, ek]
      exact ⟨rfl, rfl⟩
    · exact both_words_intake (s.written a ds) v w hp hw hi

end Sys2Proof.Machine
end

section
/-! Stray accesses (R179) and INGEST writes (R47, R48). -/

namespace Sys2Proof.Machine

variable {s : State}

/-! ## Stray accesses -/

theorem exec_ingestRead {a : Addr} {n : Nat} {t : Tag} (h : (Access.read a n).shaped = true) (ht : s.ingestTag a = some t) :
    exec (.ingestRead a n) s =
      .next ((s.stray true t.val (.read a n)).answer [.done (List.replicate n 0)]) := by
  change execIngestRead a n s = _
  simp [execIngestRead, ht, h]

theorem exec_ingestWrite_closed {a : Addr} {ds : List Byte} {t : Tag} (h : (Access.write a ds).shaped = true)
    (ht : s.ingestTag a = some t) (hc : (s.stream t).state = .closed) :
    exec (.ingestWrite a ds) s = .next ((s.stray true t.val (.write a ds)).answer [.done []]) := by
  change execIngestWrite a ds s = _
  simp [execIngestWrite, ht, h, hc]

theorem exec_restoreRead_free {a : Addr} {n : Nat} {i : SessionId} (h : (Access.read a n).shaped = true)
    (hi : s.restoreSession a = some i) (hf : (s.session i).state = .free) :
    exec (.restoreRead a n) s =
      .next ((s.stray false i.val (.read a n)).answer [.done (List.replicate n 0)]) := by
  change execRestoreRead a n s = _
  simp [execRestoreRead, hi, h, hf]

/-- What a record changes of the path unit is the memory port. -/
theorem emit_counters (r : Record) : (s.emit r).path.counters = s.path.counters
    ∧ (s.emit r).path.armedIngest = s.path.armedIngest ∧ (s.emit r).path.armedRestore = s.path.armedRestore := by
  rw [State.emit_path]
  exact ⟨rfl, rfl, rfl⟩

theorem emit_mem (r : Record) : (s.emit r).mem = s.mem := mem_of_outside (State.emit_outside ..)

/-- R179: a stray INGEST access. -/
theorem stray_ingest (s : State) (arg : Nat) (acc : Access) :
    let v := s.stray true arg acc
    v.path.counters.strayIngest = s.path.counters.strayIngest.add 1 ∧ v.path.armedIngest = false
      ∧ v.path.armedRestore = s.path.armedRestore ∧ v.mem = s.mem ∧ v.streams = s.streams ∧ v.restore = s.restore
      ∧ v.chans = s.chans
      ∧ (s.path.armedIngest = true → s.ring.room = true → v.ring.buffer = s.ring.buffer ++
          [{ strayRecord true arg acc with dropped := s.ring.d }])
      ∧ (s.path.armedIngest = false → v.ring = s.ring) := by
  cases ha : s.path.armedIngest with
  | true =>
    let u := (s.countPath fun c => { c with strayIngest := c.strayIngest.add 1 }).modPath fun p => { p with armedIngest := false }
    have e : s.stray true arg acc = u.emit (strayRecord true arg acc) := by
      simp only [State.stray, ha, if_true]
      rfl
    obtain ⟨hc, hi, hr⟩ := emit_counters (s := u) (strayRecord true arg acc)
    simp only [e, hc, hi, hr, emit_mem, State.emit_streams, State.emit_restore, State.emit_chans]
    exact ⟨rfl, rfl, rfl, rfl, rfl, rfl, rfl, fun _ hroom => emit_buffer_of_room _ hroom, (nomatch ·)⟩
  | false =>
    have e : s.stray true arg acc = s.countPath fun c => { c with strayIngest := c.strayIngest.add 1 } := by
      simp only [State.stray, ha, if_true, Bool.false_eq_true, if_false]
    rw [e]
    exact ⟨rfl, ha, rfl, rfl, rfl, rfl, rfl, (nomatch ·), fun _ => rfl⟩

/-- R179: a stray RESTORE read. -/
theorem stray_restore (s : State) (arg : Nat) (acc : Access) :
    let v := s.stray false arg acc
    v.path.counters.strayRestore = s.path.counters.strayRestore.add 1 ∧ v.path.armedRestore = false
      ∧ v.mem = s.mem ∧ v.streams = s.streams ∧ v.restore = s.restore ∧ v.chans = s.chans
      ∧ (s.path.armedRestore = true → s.ring.room = true → v.ring.buffer = s.ring.buffer ++
          [{ strayRecord false arg acc with dropped := s.ring.d }])
      ∧ (s.path.armedRestore = false → v.ring = s.ring) := by
  cases ha : s.path.armedRestore with
  | true =>
    let u := (s.countPath fun c => { c with strayRestore := c.strayRestore.add 1 }).modPath fun p =>
      { p with armedRestore := false }
    have e : s.stray false arg acc = u.emit (strayRecord false arg acc) := by
      simp only [State.stray, ha, if_true, Bool.false_eq_true, if_false]
      rfl
    obtain ⟨hc, -, hr⟩ := emit_counters (s := u) (strayRecord false arg acc)
    simp only [e, hc, hr, emit_mem, State.emit_streams, State.emit_restore, State.emit_chans]
    exact ⟨rfl, rfl, rfl, rfl, rfl, rfl, fun _ hroom => emit_buffer_of_room _ hroom, (nomatch ·)⟩
  | false =>
    have e : s.stray false arg acc = s.countPath fun c => { c with strayRestore := c.strayRestore.add 1 } := by
      simp only [State.stray, ha, Bool.false_eq_true, if_false]
    rw [e]
    exact ⟨rfl, ha, rfl, rfl, rfl, rfl, (nomatch ·), fun _ => rfl⟩

/-- Settles O20: the stray access of each kind, and then the answer, which changes the answers alone. -/
theorem strayAccessesAreAnsweredDone : Obligations.StrayAccessesAreAnsweredDone := by
  intro s a ds n hr hw
  refine ⟨fun t ht => ⟨?_, fun hc => ?_⟩, fun i hi hf => ?_⟩
  · obtain ⟨h1, h2, h3, h4, h5, h6, h7, h8, h9⟩ := stray_ingest s t.val (.read a n)
    refine ⟨_, exec_ingestRead hr ht, ?_⟩
    rw [answer_done]
    exact ⟨rfl, h1, h2, h3, h4, h5, h6, h7, h8, h9⟩
  · obtain ⟨h1, h2, -, h4, h5, h6, h7, h8, h9⟩ := stray_ingest s t.val (.write a ds)
    refine ⟨_, exec_ingestWrite_closed hw ht hc, ?_⟩
    rw [answer_done]
    exact ⟨rfl, h1, h2, h4, h5, h6, h7, h8, h9⟩
  · obtain ⟨h1, h2, h3, h4, h5, h6, h7, h8⟩ := stray_restore s i.val (.read a n)
    refine ⟨_, exec_restoreRead_free hr hi hf, ?_⟩
    rw [answer_done]
    exact ⟨rfl, h1, h2, h3, h4, h5, h6, h7, h8⟩

/-! ## INGEST writes -/

theorem exec_ingestWrite_open {a : Addr} {ds : List Byte} {t : Tag} (h : (Access.write a ds).shaped = true)
    (ht : s.ingestTag a = some t) (hc : (s.stream t).state ≠ .closed) :
    exec (.ingestWrite a ds) s = match s.takesWrite t ds.length with
      | none => .next (s.answer [.retry])
      | some k => .next (((s.modStream t fun x => x.take k ds).packChoose).answer [.done []]) := by
  change execIngestWrite a ds s = _
  simp only [execIngestWrite, ht, h, hc, Bool.not_true, Bool.false_eq_true, if_false] <;> rfl

theorem takesWrite_held {t : Tag} {n : Nat} (h : (s.stream t).state ≠ .opened ∨ (s.holdActive t).any = true) :
    s.takesWrite t n = none := if_pos h

theorem takesWrite_open {t : Tag} {n : Nat} (ho : (s.stream t).state = .opened) (hh : (s.holdActive t).any = false) :
    s.takesWrite t n = match (s.stream t).bufIn .filling with
      | none => none
      | some k => if 4096 - ((s.stream t).buf k).bytes.length < n ∧ ((s.stream t).buf k.other).state ≠ .empty then none
          else some k :=
  if_neg (by simp [ho, hh])

/-- A write that is taken changes its own stream, the choice of the pack engine and the answer. -/
theorem ingestWrite_taken {a : Addr} {ds : List Byte} {t : Tag} {k : BufId} {y : Stream}
    (e : exec (.ingestWrite a ds) s = .next (((s.modStream t fun x => x.take k ds).packChoose).answer [.done []]))
    (hy : (s.stream t).take k ds = y) :
    ∃ v, exec (.ingestWrite a ds) s = .next v ∧ v.path.answers = [.done []] ∧ v.mem = s.mem ∧ v.chans = s.chans
      ∧ v.ring = s.ring ∧ v.loader = s.loader ∧ (∀ u, u ≠ t → v.stream u = s.stream u) ∧ v.stream t = y := by
  refine ⟨_, e, ?_⟩
  rw [answer_done]
  let w := s.modStream t fun x => x.take k ds
  have streams (u : Tag) : w.packChoose.stream u = w.stream u := by simp only [State.stream, State.packChoose_streams]
  refine ⟨rfl, mem_of_outside (State.packChoose_outside w), w.packChoose_chans, w.packChoose_ring, w.packChoose_loader,
    fun u hu => (streams u).trans (State.stream_setStream_ne s t u _ hu.symm), (streams t).trans ?_⟩
  rw [← hy]
  exact s.stream_modStream_self t _

/-- R48: the stream that a write fits into. -/
theorem take_within (x : Stream) (k : BufId) (ds : List Byte) (h : (x.buf k).bytes.length + ds.length < 4096) :
    x.take k ds = { x.setBuf k { x.buf k with bytes := (x.buf k).bytes ++ ds } with
      ingest := x.ingest + BitVec.ofNat 64 ds.length, ingested := x.ingested.add ds.length } := by
  have room : ds.length < 4096 - (x.buf k).bytes.length := by omega
  have whole : ds.take (4096 - (x.buf k).bytes.length) = ds := List.take_of_length_le (by omega)
  cases k <;> simp only [Stream.take, Config.bufferSize, whole, room, if_true] <;> rfl

/-- The stream in which a write has closed the buffer `k`. -/
def Stream.closedBy (x : Stream) (k : BufId) (bs : List Byte) : Stream :=
  (x.setBuf k { x.buf k with bytes := bs }).closeBuf k false

/-- R46: a stream that takes data fills an EMPTY buffer next. -/
theorem refill_closedBy (x : Stream) (k : BufId) (bs : List Byte) (h : x.state = .opened) :
    (x.closedBy k bs).refill = (x.closedBy k bs).setBuf k.other
      (if (x.buf k.other).state = .empty then { state := .filling } else x.buf k.other) := by
  cases k
  · by_cases he : x.bufB.state = .empty <;> by_cases hf : x.bufB.state = .filling <;>
      simp_all [Stream.closedBy, Stream.closeBuf, Stream.refill, Stream.bufIn, Stream.setBuf, Stream.buf, BufId.other]
  · by_cases he : x.bufA.state = .empty <;> by_cases hf : x.bufA.state = .filling <;>
      simp_all [Stream.closedBy, Stream.closeBuf, Stream.refill, Stream.bufIn, Stream.setBuf, Stream.buf, BufId.other]

theorem take_exact (x : Stream) (k : BufId) (ds : List Byte) (h : (x.buf k).bytes.length + ds.length = 4096) :
    x.take k ds = { (x.closedBy k ((x.buf k).bytes ++ ds)).refill with
      ingest := (x.closedBy k ((x.buf k).bytes ++ ds)).refill.ingest + BitVec.ofNat 64 ds.length
      ingested := (x.closedBy k ((x.buf k).bytes ++ ds)).refill.ingested.add ds.length } := by
  have room : ds.length = 4096 - (x.buf k).bytes.length := by omega
  have whole : ds.take (4096 - (x.buf k).bytes.length) = ds := List.take_of_length_le (by omega)
  simp only [Stream.take, Config.bufferSize, ← room, lt_irrefl, if_true, if_false]
  simp only [room, whole]
  rfl

theorem take_over (x : Stream) (k : BufId) (ds : List Byte) (h : 4096 < (x.buf k).bytes.length + ds.length)
    (hu : (x.buf k).bytes.length ≤ 4096) :
    let room := 4096 - (x.buf k).bytes.length
    let z := (x.closedBy k ((x.buf k).bytes ++ ds.take room)).setBuf k.other { state := .filling, bytes := ds.drop room }
    x.take k ds = { z with ingest := z.ingest + BitVec.ofNat 64 ds.length, ingested := z.ingested.add ds.length } := by
  have h1 : ¬ ds.length < 4096 - (x.buf k).bytes.length := by omega
  have h2 : ¬ ds.length = 4096 - (x.buf k).bytes.length := by omega
  simp only [Stream.take, Config.bufferSize, h1, h2, if_false]
  rfl

/-- Settles O21: the stream's rule gives the buffer that takes the write, and the stream that it leaves. -/
theorem ingestWritesAreTakenWholeOrRetried : Obligations.IngestWritesAreTakenWholeOrRetried := by
  intro s a ds t hs ht x retried
  have arm := fun hc => exec_ingestWrite_open (s := s) hs ht hc
  have retry : x.state ≠ .closed → s.takesWrite t ds.length = none → retried := by
    intro hc hn
    simp only [retried, arm hc, hn]
    rfl
  refine ⟨fun k ho hh hk hu => ?_, fun ho hn => ?_, fun hc hh => retry hc (takesWrite_held hh)⟩
  · have hc : x.state ≠ .closed := by simp [ho]
    have rule := takesWrite_open (s := s) (t := t) (n := ds.length) ho hh
    simp only [x] at hk
    simp only [hk] at rule
    intro used taken closed
    have take : ¬ (4096 < used + ds.length ∧ (x.buf k.other).state ≠ .empty) → exec (.ingestWrite a ds) s =
        .next (((s.modStream t fun x => x.take k ds).packChoose).answer [.done []]) := by
      intro hfit
      have fits : ¬ (4096 - used < ds.length ∧ (x.buf k.other).state ≠ .empty) := fun w => hfit ⟨by omega, w.2⟩
      rw [if_neg fits] at rule
      simp only [arm hc, rule]
    refine ⟨fun hl => ?_, fun hl => ?_, fun hl he => ?_, fun hl he => ?_⟩
    · refine ingestWrite_taken (take fun w => by omega) (take_within _ k ds hl)
    · refine ingestWrite_taken (take fun w => by omega) ((take_exact _ k ds hl).trans ?_)
      rw [refill_closedBy _ _ _ ho]
      cases k <;> rfl
    · refine ingestWrite_taken (take fun w => w.2 he) ((take_over _ k ds hl hu).trans ?_)
      cases k <;> rfl
    · have excess : 4096 - used < ds.length := by omega
      exact retry hc (rule.trans (if_pos ⟨excess, he⟩))
  · refine retry (by simp [ho]) ?_
    unfold State.takesWrite
    simp only [x] at hn
    simp only [hn]
    split <;> rfl

end Sys2Proof.Machine
end

section
/-! The ring unit: taking and ending commands, status records, index words (10.2, 10.3). -/

namespace Sys2Proof.Machine

variable {s : State}

/-! ## Taking commands (R184) -/

theorem readsSlot_of_issued (h : s.ring.intake = .reading) (hi : s.path.port.issued = some (.owned (.slotRead s.ring.c))) :
    s.readsSlot = true := by
  simp only [State.readsSlot, h, s.owes_of_issued _ hi, beq_self_eq_true, Bool.and_self]

/-- Settles O22: the cases of the intake's test, and the two commands that cannot be read. -/
theorem commandsAreTakenAndUnreadableOnesEnd : Obligations.CommandsAreTakenAndUnreadableOnesEnd := by
  refine ⟨fun s h => ⟨fun hp hr => ?_, fun hp hr => ?_, fun hp => ?_⟩, fun s h => congrArg _ (intakeTest_of_busy h),
    fun s h hi => if_pos (readsSlot_of_issued h hi), fun s tag kind h => if_pos h⟩
  · exact congrArg _ (intakeTest_of_room h hp hr)
  · exact congrArg _ (intakeTest_of_full h hp hr)
  · exact congrArg _ (intakeTest_of_idle h hp)

/-! ## The end of a command (R184, R185) -/

/-- The COMMAND_DONE record of a command, before it joins the buffer. -/
def doneRecord (c : Half) (kind : Nat) (tag : Half) (o : CmdOutcome) (r : Results) (extra : Word) : Record :=
  { kind := .commandDone, byte1 := o.code, tag := tag, subject := BitVec.ofNat 16 kind,
    e0 := if o = .unknownKind then extra else o.cause,
    e1 := c.setWidth 32, e2 := r.e2, e3 := r.e3, e4 := r.e4, e5 := r.e5 }

/-- The state that the end of a command leaves, before the intake's test. -/
def State.commandEnded (s : State) (kind : Nat) (tag : Half) (o : CmdOutcome) (r : Results) (extra : Word) : State :=
  { s with
    ring := { s.ring with
      c := s.ring.c + 1, intake := .idle, reserved := false, d := 0
      buffer := s.ring.buffer ++ [{ doneRecord s.ring.c kind tag o r extra with dropped := s.ring.d }]
      counters := { s.ring.counters with
        taken := s.ring.counters.taken.add 1
        refused := s.ring.counters.refused.add o.refused.toNat
        failed := s.ring.counters.failed.add (match o with | .failed _ => 1 | _ => 0) } }
    path := { s.path with
      port := if s.ring.buffer = [] then (s.path.port.joinOwned (.commandIndex (s.ring.c + 1))).joinOwned .statusWrite
        else s.path.port.joinOwned (.commandIndex (s.ring.c + 1)) } }

theorem joinBuffer_eq (s : State) (r : Record) : s.joinBuffer r = { s with
    ring := { s.ring with buffer := s.ring.buffer ++ [{ r with dropped := s.ring.d }], d := 0 }
    path := { s.path with
      port := if s.ring.buffer = [] then s.path.port.joinOwned .statusWrite else s.path.port } } := by
  unfold State.joinBuffer
  by_cases hb : s.ring.buffer = []
  · rw [if_pos (List.isEmpty_iff.2 hb), if_pos hb]; rfl
  · rw [if_neg (mt List.isEmpty_iff.1 hb), if_neg hb]; rfl

theorem endCommand_eq (s : State) (kind : Nat) (tag : Half) (o : CmdOutcome) (r : Results) (extra : Word) :
    s.endCommand kind tag o r extra = (s.commandEnded kind tag o r extra).intakeTest := by
  simp only [State.endCommand, joinBuffer_eq]
  rfl

/-- R185: E0 of a COMMAND_DONE. -/
theorem doneRecord_e0 (o : CmdOutcome) (extra : Word) : (if o = .unknownKind then extra else o.cause) =
    match o with | .failed c => w32 c.code | .unknownKind => extra | _ => 0 := by
  cases o <;> rfl

theorem intakeTest_blocks (s : State) : s.blocksSame s.intakeTest ∧ s.intakeTest.pending = s.pending
    ∧ s.intakeTest.drawn = s.drawn := by
  have outside := s.intakeTest_outside
  refine ⟨⟨mem_of_outside outside, timebase_of_outside outside, params_of_outside outside, s.intakeTest_pool,
    s.intakeTest_pack, s.intakeTest_streams, s.intakeTest_chans, s.intakeTest_restore, s.intakeTest_loader⟩,
    pending_of_outside outside, ?_⟩
  rcases s.intakeTest_cases with ⟨-, e⟩ | ⟨-, ⟨-, e⟩ | ⟨-, -, e⟩ | ⟨-, -, e⟩⟩ <;> rw [e] <;> rfl

/-- Settles O23: the state that the end of a command leaves, and the intake's test on it. -/
theorem commandsEndWithTheirRecord : Obligations.CommandsEndWithTheirRecord := by
  intro s kind tag o r extra t more room ended reported
  let v := s.commandEnded kind tag o r extra
  have ht : t = v.intakeTest := endCommand_eq s kind tag o r extra
  obtain ⟨hc, hp, hs, hu, hi, hb, hk, -, -⟩ := intakeTest_keeps v
  obtain ⟨blocks, hpend, hdraw⟩ := intakeTest_blocks v
  obtain ⟨may, -⟩ := intakeTest_judged v
  obtain ⟨idle, take, full⟩ := may (Or.inl rfl)
  have registers := intakeTest_registers v
  have hroom : v.ring.room = true ↔ room := by
    rw [room_iff]
    simp only [v, State.commandEnded, Bool.toNat_false, List.length_append, List.length_singleton, room]
    omega
  have unreserved (h : v.ring.p = v.ring.c ∨ v.ring.room = false) : v.intakeTest.ring.reserved = false := by
    by_cases w : v.ring.p = v.ring.c
    · rw [intakeTest_of_idle (Or.inl rfl) w]; rfl
    · rw [intakeTest_of_full (Or.inl rfl) w (h.resolve_left w)]; rfl
  rw [ht]
  refine ⟨blocks, ?_, hpend, hdraw, hc, hp, hs, hu, hi, ?_, ?_, fun hm => ?_, fun hm hr => ?_, fun hm hr => ?_, ?_, ?_, ?_, ?_⟩
  · exact intakeTest_path v
  · rw [registers]; rfl
  · rw [registers]; rfl
  · have none : v.ring.p = v.ring.c := not_not.1 hm
    exact ⟨(idle none).1, unreserved (Or.inl none), (idle none).2⟩
  · exact take hm (hroom.2 hr)
  · have none : v.ring.room = false := Bool.not_eq_true _ ▸ fun k => hr (hroom.1 k)
    exact ⟨(full hm none).1, unreserved (Or.inr none), (full hm none).2⟩
  · rw [hb]
    simp only [v, State.commandEnded, doneRecord, doneRecord_e0] <;> rfl
  · rw [hk]; rfl
  · rw [hk]; cases h : o.refused <;> simp [v, State.commandEnded, h]
  · rw [hk]; cases o <;> rfl

/-! ## Event records (R186) -/

theorem emit_joined {r : Record} (h : s.ring.room = true) : s.emit r = { s with
    ring := { s.ring with buffer := s.ring.buffer ++ [{ r with dropped := s.ring.d }], d := 0 }
    path := { s.path with
      port := if s.ring.buffer = [] then s.path.port.joinOwned .statusWrite else s.path.port } } := by
  rw [s.emit_of_room r h, joinBuffer_eq]

theorem bumpHalf_eq (d : Half) : bumpHalf d = if d = 65535 then 65535 else d + 1 := by
  unfold bumpHalf
  split
  next h => exact h
  next => rfl

/-- Settles O24: the two cases of an event record, the record of a command, and the taking of one. -/
theorem eventRecordsJoinTheBufferOrAreDropped : Obligations.EventRecordsJoinTheBufferOrAreDropped := by
  intro s r held places
  have hheld : held = s.ring.reserved.toNat := by cases h : s.ring.reserved <;> simp [held, h]
  have hroom := room_iff s.ring
  refine ⟨fun h1 h2 => emit_joined (hroom.2 ⟨by omega, by omega⟩), fun h => ?_, fun kind tag o res extra => ?_,
    fun hi hp hr => ⟨s.intakeTest, rfl, by rw [intakeTest_of_room hi hp hr]; rfl, by rw [intakeTest_of_room hi hp hr]; rfl⟩⟩
  · have none : s.ring.room = false := by
      rw [← Bool.not_eq_true, hroom]
      omega
    rw [s.emit_of_full r none]
    simp only [State.modRing, bumpHalf_eq]
  · obtain ⟨-, -, -, -, -, hb, -⟩ := intakeTest_keeps (s.commandEnded kind tag o res extra)
    refine ⟨{ doneRecord s.ring.c kind tag o res extra with dropped := s.ring.d }, ?_, rfl, rfl, ?_⟩
    · rw [endCommand_eq, hb]; rfl
    · rw [endCommand_eq, intakeTest_registers]; rfl

/-! ## Status records in memory (R187, R188) -/

/-- What follows the answer to the write of a status record: the write of the next one, and the intake's test. -/
theorem afterRecord (u : State) :
    let t := u.issueHead.intakeTest
    let port := if u.ring.buffer = [] then u.path.port else u.path.port.joinOwned .statusWrite
    t.ring.s = u.ring.s ∧ t.ring.u = u.ring.u ∧ t.ring.c = u.ring.c ∧ t.ring.buffer = u.ring.buffer ∧ t.ring.irq = u.ring.irq
      ∧ t.ring.d = u.ring.d ∧ t.ring.counters = u.ring.counters ∧ t.path.faultLine = u.path.faultLine
      ∧ t.path.counters = u.path.counters ∧ u.blocksSame t
      ∧ (u.ring.intake = .reading ∨ u.ring.intake = .stopped → t.ring.intake = u.ring.intake
          ∧ t.ring.reserved = u.ring.reserved ∧ t.path.port = port)
      ∧ (u.ring.intake = .idle ∨ u.ring.intake = .blocked →
        (u.ring.p = u.ring.c → t.ring.intake = .idle ∧ t.path.port = port)
        ∧ (u.ring.p ≠ u.ring.c → u.ring.room = true → t.ring.intake = .reading ∧ t.ring.reserved = true
            ∧ t.path.port = port.joinOwned (.slotRead u.ring.c))
        ∧ (u.ring.p ≠ u.ring.c → u.ring.room = false → t.ring.intake = .blocked ∧ t.path.port = port)) := by
  intro t port
  have head : u.issueHead = { u with path := { u.path with port := port } } := by
    unfold State.issueHead
    cases hb : u.ring.buffer <;> simp only [port, hb] <;> rfl
  obtain ⟨hc, -, hs, hu, hi, hb, hk, -, -⟩ := intakeTest_keeps u.issueHead
  obtain ⟨blocks, -, -⟩ := intakeTest_blocks u.issueHead
  obtain ⟨may, busy⟩ := intakeTest_judged u.issueHead
  have registers := intakeTest_registers u.issueHead
  have path := intakeTest_path u.issueHead
  simp only [t]
  rw [head] at *
  refine ⟨hs, hu, hc, hb, hi, ?_, hk, ?_, ?_, blocks, busy, may⟩
  · rw [registers]
  · rw [path]
  · rw [path]

theorem exec_statusRecordWriteAnswer {r : Record} {rest : List Record} (hb : s.ring.buffer = r :: rest)
    (hi : s.path.port.issued = some (.owned .statusWrite)) (ok : Bool) : exec (.statusRecordWriteAnswer ok) s =
      .next (if ok then (s.modPort Port.answered).recordWritten r rest
        else (s.modPort Port.answered).recordLost rest).issueHead.intakeTest := by
  change execStatusRecordWriteAnswer ok s = _
  simp only [execStatusRecordWriteAnswer, hb, s.owes_of_issued _ hi, s.answered_of_issued _ hi, if_true]

/-- The value that an index word write carries, where it is the access issued. -/
theorem indexIssued_of_issued {w : IndexWord} {v : Half} (h : s.path.port.issued = some (.owned (indexWrite w v))) :
    s.indexIssued w = some v := by
  have wanted : (Issued.owned (indexWrite w v)).indexValue w = some v := by cases w <;> rfl
  simp only [State.indexIssued]
  rw [Port.upTo_of_wanted _ _ _ h (by rw [wanted]; rfl), h, Option.bind_some, wanted]

theorem exec_indexWordWriteAnswer {w : IndexWord} {v : Half} (h : s.path.port.issued = some (.owned (indexWrite w v)))
    (ok : Bool) : exec (.indexWordWriteAnswer w ok) s =
      .next (if ok then (s.modPort Port.answered).poke (s.indexAddr w) (leBytes 4 v.toNat)
        else (s.modPort Port.answered).ringWriteFault) := by
  change execIndexWordWriteAnswer w ok s = _
  simp only [execIndexWordWriteAnswer, indexIssued_of_issued h, s.answered_of_issued _ h]

/-- R181: an index word holds its value in the low two bytes, and 0 above. -/
theorem poke_indexWord (s : State) (a : Nat) (v : Half) :
    let m := (s.poke a (leBytes 4 v.toNat)).mem
    (m.get a).toNat + 256 * (m.get (a + 1)).toNat = v.toNat ∧ m.get (a + 2) = 0 ∧ m.get (a + 3) = 0 := by
  intro m
  have bytes : leBytes 4 v.toNat = [BitVec.ofNat 8 v.toNat, BitVec.ofNat 8 (v.toNat / 256), 0, 0] := by
    have high : v.toNat / 256 / 256 = 0 := by omega
    simp only [leBytes, high, Nat.zero_div]
    rfl
  have inside (k : Nat) (hk : k < 4) : m.get (a + k) = (leBytes 4 v.toNat).getD k 0 :=
    s.poke_get_inside a (leBytes 4 v.toNat) k (by simpa using hk)
  rw [bytes] at inside
  refine ⟨?_, inside 2 (by omega), inside 3 (by omega)⟩
  rw [show m.get a = _ from inside 0 (by omega), show m.get (a + 1) = _ from inside 1 (by omega)]
  simp only [List.getD_cons_zero, List.getD_cons_succ, BitVec.toNat_ofNat]
  omega

/-- What the answer to a record's write leaves the intake and the port, where `port` is the port and `owed` the count of
records that the processor has not taken. -/
def FollowsRecord (s : State) (rest : List Record) (t : State) (port : Port) (owed : Nat) : Prop :=
  let port := if rest = [] then port else port.joinOwned .statusWrite
  let place : Prop := s.ring.reserved.toNat + owed + rest.length < 256 ∧ s.ring.reserved.toNat + rest.length < 32
  (s.ring.intake = .reading ∨ s.ring.intake = .stopped → t.ring.intake = s.ring.intake
    ∧ t.ring.reserved = s.ring.reserved ∧ t.path.port = port)
  ∧ (s.ring.intake = .idle ∨ s.ring.intake = .blocked →
    (s.ring.p = s.ring.c → t.ring.intake = .idle ∧ t.path.port = port)
    ∧ (s.ring.p ≠ s.ring.c → place → t.ring.intake = .reading ∧ t.ring.reserved = true
        ∧ t.path.port = port.joinOwned (.slotRead s.ring.c))
    ∧ (s.ring.p ≠ s.ring.c → ¬ place → t.ring.intake = .blocked ∧ t.path.port = port))

theorem followsRecord {u : State} (hi : u.ring.intake = s.ring.intake) (hr : u.ring.reserved = s.ring.reserved)
    (hp : u.ring.p = s.ring.p) (hc : u.ring.c = s.ring.c) :
    FollowsRecord s u.ring.buffer u.issueHead.intakeTest u.path.port (u.ring.s - u.ring.u).toNat := by
  obtain ⟨-, -, -, -, -, -, -, -, -, -, busy, may⟩ := afterRecord u
  simp only [FollowsRecord, ← hi, ← hr, ← hp, ← hc]
  refine ⟨busy, fun h => ?_⟩
  obtain ⟨idle, take, full⟩ := may h
  refine ⟨idle, fun hp hr => take hp ((room_iff _).2 hr), fun hp hr => full hp ?_⟩
  rw [← Bool.not_eq_true, room_iff]
  exact hr

theorem record_written {r : Record} {rest : List Record} (hb : s.ring.buffer = r :: rest)
    (hi : s.path.port.issued = some (.owned .statusWrite)) :
    let slot := s.controlBase + 0x1040 + 32 * (s.ring.s.toNat % 256)
    ∃ t, exec (.statusRecordWriteAnswer true) s = .next t ∧ t.ring.s = s.ring.s + 1 ∧ t.ring.u = s.ring.u
      ∧ t.ring.c = s.ring.c ∧ t.ring.buffer = rest ∧ t.ring.irq = (s.ring.s + 1 != s.ring.u) ∧ t.ring.d = s.ring.d
      ∧ t.ring.counters.written = s.ring.counters.written.add 1 ∧ t.path.faultLine = s.path.faultLine
      ∧ (∀ k, k < 32 → t.mem.get (slot + k) = r.frame.getD k 0)
      ∧ (∀ x, x < slot ∨ slot + 32 ≤ x → t.mem.get x = s.mem.get x)
      ∧ FollowsRecord s rest t (s.path.port.answered.joinOwned (.statusIndex (s.ring.s + 1)))
          (s.ring.s + 1 - s.ring.u).toNat
      ∧ t.chans = s.chans ∧ t.streams = s.streams ∧ t.loader = s.loader ∧ t.pool = s.pool := by
  intro slot
  let u := (s.modPort Port.answered).recordWritten r rest
  obtain ⟨hs, hu, hc, hbuf, hirq, hd, hk, hf, -, blocks, -, -⟩ := afterRecord u
  obtain ⟨hm, -, -, hpool, -, hst, hch, -, hl⟩ := blocks
  have follows : FollowsRecord s u.ring.buffer u.issueHead.intakeTest u.path.port (u.ring.s - u.ring.u).toNat :=
    followsRecord rfl rfl rfl rfl
  refine ⟨u.issueHead.intakeTest, exec_statusRecordWriteAnswer hb hi true, hs, hu, hc, hbuf, hirq, hd,
    congrArg RingCounters.written hk, hf, fun k hk => ?_, fun x hx => ?_, follows, hch, hst, hl, hpool⟩
  · rw [hm]
    exact s.poke_get_inside slot r.frame k (by rwa [Record.frame_length])
  · rw [hm]
    exact s.poke_get_outside slot r.frame x (by rwa [Record.frame_length])

/-- The port, the ring and the path unit's fault are all that a lost record changes. -/
theorem recordLost_blocks (s : State) (f : Port → Port) (rest : List Record) : s.blocksSame ((s.modPort f).recordLost rest) := by
  simp [State.blocksSame, State.recordLost, State.ringWriteFault, State.ownFault, State.countPath]

theorem record_lost {r : Record} {rest : List Record} (hb : s.ring.buffer = r :: rest)
    (hi : s.path.port.issued = some (.owned .statusWrite)) :
    ∃ t, exec (.statusRecordWriteAnswer false) s = .next t ∧ t.ring.s = s.ring.s ∧ t.ring.u = s.ring.u
      ∧ t.ring.c = s.ring.c ∧ t.ring.buffer = rest ∧ t.ring.irq = s.ring.irq
      ∧ t.ring.d = (if s.ring.d = 65535 then 65535 else s.ring.d + 1) ∧ t.path.faultLine = true
      ∧ t.path.counters.ringWriteFaults = s.path.counters.ringWriteFaults.add 1
      ∧ t.path.counters.ownFaults = s.path.counters.ownFaults.add 1
      ∧ FollowsRecord s rest t s.path.port.answered (s.ring.s - s.ring.u).toNat
      ∧ t.mem = s.mem ∧ t.chans = s.chans ∧ t.streams = s.streams ∧ t.loader = s.loader ∧ t.pool = s.pool := by
  let u := (s.modPort Port.answered).recordLost rest
  obtain ⟨hs, hu, hc, hbuf, hirq, hd, -, hf, hpc, blocks, -, -⟩ := afterRecord u
  obtain ⟨hm, -, -, hpool, -, hst, hch, -, hl⟩ := blocks
  obtain ⟨lm, -, -, lpool, -, lst, lch, -, ll⟩ := recordLost_blocks s Port.answered rest
  have follows : FollowsRecord s u.ring.buffer u.issueHead.intakeTest u.path.port (u.ring.s - u.ring.u).toNat :=
    followsRecord rfl rfl rfl rfl
  have dropped : u.ring.d = if s.ring.d = 65535 then 65535 else s.ring.d + 1 := bumpHalf_eq s.ring.d
  exact ⟨u.issueHead.intakeTest, exec_statusRecordWriteAnswer hb hi false, hs, hu, hc, hbuf, hirq, hd.trans dropped, hf,
    congrArg PathCounters.ringWriteFaults hpc, congrArg PathCounters.ownFaults hpc, follows, hm.trans lm, hch.trans lch,
    hst.trans lst, hl.trans ll, hpool.trans lpool⟩

/-- Settles O25: the two answers to a record's write, and the two to an index word's. -/
theorem statusRecordsAndIndexWordsReachMemory : Obligations.StatusRecordsAndIndexWordsReachMemory := by
  refine ⟨fun s r rest hb hi => ⟨record_written hb hi, record_lost hb hi⟩, fun s w v h => ?_⟩
  intro word
  have issued : s.path.port.issued = some (.owned (indexWrite w v)) := by cases w <;> exact h
  have addr : s.indexAddr w = word := by cases w <;> rfl
  obtain ⟨h0, h2, h3⟩ := poke_indexWord (s.modPort Port.answered) word v
  refine ⟨⟨(s.modPort Port.answered).poke word (leBytes 4 v.toNat), ?_, rfl, rfl, rfl, rfl, rfl, rfl, h0, h2, h3,
    fun x hx => ?_⟩, exec_indexWordWriteAnswer issued false⟩
  · rw [exec_indexWordWriteAnswer issued true, addr]
    rfl
  · exact (s.modPort Port.answered).poke_get_outside word (leBytes 4 v.toNat) x (by simpa using hx)

end Sys2Proof.Machine
end

section
/-! Snapshots, the clearing of counters, and SET_PARAM (10.4, 10.5). -/

namespace Sys2Proof.Machine

variable {s : State}

/-! ## CLEAR_COUNTERS (R191) -/

theorem exec_clearCounters (tag : Half) (p0 : Word) (s : State) : exec (.clearCounters tag p0) s =
    .next (s.command (.clearCounters tag p0) 0x52 tag (clearCountersRule p0)) := rfl

theorem clearIf_path (p0 : Word) (s : State) : clearIf p0 0 State.clearPath s = { s with path := { s.path with
    counters := if p0.getLsbD 0 then {} else s.path.counters
    armedIngest := p0.getLsbD 0 || s.path.armedIngest, armedRestore := p0.getLsbD 0 || s.path.armedRestore } } := by
  cases h : p0.getLsbD 0 <;> simp only [clearIf, h] <;> rfl

theorem clearIf_ring (p0 : Word) (s : State) : clearIf p0 1 State.clearRing s = { s with ring := { s.ring with
    counters := if p0.getLsbD 1 then {} else s.ring.counters
    stallMicros := if p0.getLsbD 1 then 0 else s.ring.stallMicros } } := by
  cases h : p0.getLsbD 1 <;> simp only [clearIf, h] <;> rfl

theorem clearIf_pool (p0 : Word) (s : State) : clearIf p0 2 State.clearPool s =
    let zero (c : Counter) : Counter := if p0.getLsbD 2 then 0 else c
    { s with pool := { s.pool with
      lowMark := if p0.getLsbD 2 then s.pool.free.length else s.pool.lowMark
      waits := zero s.pool.waits, waitMs := zero s.pool.waitMs, retries := zero s.pool.retries
      holdTransitions := zero s.pool.holdTransitions, memFaults := zero s.pool.memFaults
      waitMicros := if p0.getLsbD 2 then 0 else s.pool.waitMicros } } := by
  cases h : p0.getLsbD 2 <;> simp only [clearIf, h] <;> rfl

theorem clearIf_streams (p0 : Word) (s : State) : clearIf p0 3 State.clearStreams s =
    let zero (c : Counter) : Counter := if p0.getLsbD 3 then 0 else c
    { s with
      pack := { s.pack with
        encoded := zero s.pack.encoded, copied := zero s.pack.copied, discardedJobs := zero s.pack.discardedJobs }
      streams := s.streams.map fun x => { x with
        ingested := zero x.ingested, chunks := zero x.chunks, rawChunks := zero x.rawChunks, heldMs := zero x.heldMs
        heldMicros := if p0.getLsbD 3 then 0 else x.heldMicros } } := by
  cases h : p0.getLsbD 3
  · simp only [clearIf, h, Bool.false_eq_true, if_false]
    exact (congrArg (fun v => { s with streams := v }) (Vector.map_id s.streams).symm)
  · simp only [clearIf, h]; rfl

/-- R89, R106, R128: a channel whose group of counters a bit of P0 clears. -/
def clearedChannel (p0 : Word) (group : Nat) (c : Channel) : Channel :=
  if p0.getLsbD group then { c with counters := {}, reader := { c.reader with tallies := {}, firstBad := none } } else c

theorem clearIf_chan (p0 : Word) (group : Nat) (d : Drive) (s : State) :
    clearIf p0 group (·.clearChan d) s = s.modChan d (clearedChannel p0 group) := by
  cases h : p0.getLsbD group
  · simp [clearIf, h, State.modChan, State.setChan, State.chan, clearedChannel]
  · simp only [clearIf, State.clearChan, State.modChan, clearedChannel, h]; rfl

/-- Both channels, each changed in its own place. -/
theorem modChan_both (s : State) (f g : Channel → Channel) :
    (s.modChan 0 f).modChan 1 g = { s with chans := #v[f s.chans[0], g s.chans[1]] } := by
  have chans : (s.chans.set 0 (f s.chans[0])).set 1 (g (s.chans.set 0 (f s.chans[0]))[1]) = #v[f s.chans[0], g s.chans[1]] := by
    ext i hi
    obtain rfl | rfl : i = 0 ∨ i = 1 := by omega
    all_goals simp
  exact congrArg (fun v => { s with chans := v }) chans

theorem clearIf_restore (p0 : Word) (s : State) : clearIf p0 6 State.clearRestore s =
    let zero (c : Counter) : Counter := if p0.getLsbD 6 then 0 else c
    { s with restore := { s.restore with
      sessions := s.restore.sessions.map fun x => { x with
        bytesDelivered := zero x.bytesDelivered, damaged := zero x.damaged }
      endsDone := zero s.restore.endsDone, endsFailed := zero s.restore.endsFailed
      endsCancelled := zero s.restore.endsCancelled, awaitNexts := zero s.restore.awaitNexts } } := by
  cases h : p0.getLsbD 6
  · simp only [clearIf, h, Bool.false_eq_true, if_false]
    exact (congrArg (fun v => { s with restore := { s.restore with sessions := v } }) (Vector.map_id s.restore.sessions).symm)
  · simp only [clearIf, h]; rfl

theorem clearIf_loader (p0 : Word) (s : State) : clearIf p0 7 State.clearLoader s = { s with loader := { s.loader with
    counters := if p0.getLsbD 7 then {} else s.loader.counters } } := by
  cases h : p0.getLsbD 7 <;> simp only [clearIf, h] <;> rfl

/-- Settles O27: one equation for each group, and the groups one after the other. -/
theorem clearCountersClearsTheGroupsSelected : Obligations.ClearCountersClearsTheGroupsSelected := by
  intro s tag p0 u zero none_ clearedChan cleared
  refine ⟨fun h => turnedAway_of_owner (exec_clearCounters tag p0 s) (if_pos h), fun h taken => ?_⟩
  have rule : clearCountersRule p0 s.atOwner = cleared.ok := by
    rw [clearCountersRule, if_neg (Nat.not_lt.2 h)]
    congr 1
    rw [clearIf_path, clearIf_ring, clearIf_pool, clearIf_streams, clearIf_chan, clearIf_chan, modChan_both,
      clearIf_restore, clearIf_loader]
    rfl
  exact ends_of_owner (exec_clearCounters tag p0 s) rule taken

/-! ## SET_PARAM (R189) -/

theorem exec_setParam (tag : Half) (p0 p1 : Word) (s : State) : exec (.setParam tag p0 p1) s =
    .next (s.command (.setParam tag p0 p1) 0x50 tag (settled (setParamRule p0 p1))) := rfl

theorem paramFixed_iff (s : State) (p : Param) : s.paramFixed p = true ↔ p.isLayout = true
    ∨ (∃ d, p = .imageCapacity d ∧ (s.chan d).state ≠ .unmounted) ∨ (∃ d, p = .checkMode d ∧ (s.chan d).state = .write) := by
  cases p <;> simp [State.paramFixed, Param.isLayout]

/-- R189: the clamped value is the nearest one of the row that the other parameters leave. -/
theorem clampParam_nearest (s : State) (p : Param) (x : Nat) :
    let v := s.clampParam p x
    let row := p.bounds s.path.poolPages (s.heldBackup + s.pool.reservation.length) s.path.imageLimit s.params
    p.isLayout = false → row.1 ≤ row.2 → row.1 ≤ v ∧ v ≤ row.2 ∧ (row.1 ≤ x → x ≤ row.2 → v = x)
      ∧ (x < row.1 → v = row.1) ∧ (row.2 < x → v = row.2) := by
  intro v row layout
  cases p
  case poolBase | poolPages | imageBase => cases layout
  all_goals
    simp only [v, row, State.clampParam, Params.clampLower, Param.range, clampTo, Param.bounds]
    omega

/-- The owner of a parameter acts within the blocks. -/
theorem paramChanged_outside (s : State) (p : Param) : (s.paramChanged p).outside = s.outside := by
  cases p
  case readbackTimeout => exact forEach_outside _ (fun d t => t.overdueTest_outside d) _ _
  case restoreStallTimeout => exact forEach_outside _ (fun i t => t.overdueStall_outside i) _ _
  all_goals simp only [State.paramChanged, State.holdTest_outside, State.waitTest_outside, State.modChan_outside,
    State.limitOccupancy_outside, State.markTest_outside, State.ageTest_outside, State.fullTest_outside]

theorem setParamRule_of_taken {p0 : Word} {p : Param} (p1 : Word) (h : Param.ofId p0.toNat = some p) (hf : s.paramFixed p = false) :
    setParamRule p0 p1 s =
      { state := (s.storeParam p (s.clampParam p p1.toNat)).paramChanged p
        outcome := if s.clampParam p p1.toNat = p1.toNat then .done else .doneClamped
        results := { e2 := w32 (s.clampParam p p1.toNat) } } := by
  simp only [setParamRule, h, hf, Bool.false_eq_true, if_false]

/-- Settles O29: the refusals of the rule, and the value that its clamps give. -/
theorem setParamStoresTheClampedValue : Obligations.SetParamStoresTheClampedValue := by
  intro s tag p0 p1 u
  have arm := exec_setParam tag p0 p1 s
  refine ⟨fun h => turnedAway_of_settled arm ?_ rfl, fun p h => ⟨fun hf => turnedAway_of_settled arm ?_ rfl,
    fun hl hi hc => ⟨clampParam_nearest s p p1.toNat hl, ?_⟩⟩⟩
  · simp only [setParamRule, h]
  · have fixed : s.atOwner.paramFixed p = true := (paramFixed_iff _ p).2 hf
    simp only [setParamRule, h, fixed, if_true]
  · have open_ : s.atOwner.paramFixed p = false := by
      rw [← Bool.not_eq_true, paramFixed_iff]
      rintro (w | ⟨d, e, w⟩ | ⟨d, e, w⟩)
      · simp [hl] at w
      · exact w (hi d e)
      · exact hc d e w
    have outside := paramChanged_outside (u.storeParam p (u.clampParam p p1.toNat)) p
    refine ⟨_, ends_of_settled arm (setParamRule_of_taken p1 h open_) ?_, (params_of_outside outside).trans rfl,
      (mem_of_outside outside).trans rfl, (timebase_of_outside outside).trans rfl⟩
    split <;> rfl

end Sys2Proof.Machine
end

section
/-! Snapshots (R9, R190). -/

namespace Sys2Proof.Machine

variable {s : State}

/-! ## The words of a page -/

/-- The `n`-th of a list of numbers, in a byte string of them with four bytes each. -/
theorem slice_words (rest : List Byte) : ∀ {ws : List Word} {n : Nat} {x : Word}, ws[n]? = some x →
    slice ((ws.flatMap fun w => leBytes 4 w.toNat) ++ rest) (4 * n) 4 = leBytes 4 x.toNat
  | [], n, x, h => by simp at h
  | w :: ws, 0, x, h => by
    obtain rfl : w = x := by simpa using h
    simp [slice, List.flatMap_cons]
  | w :: ws, n + 1, x, h => by
    have ih := slice_words rest (ws := ws) (n := n) (x := x) (by simpa using h)
    have skip : 4 * (n + 1) = (leBytes 4 w.toNat).length + 4 * n := by simp; omega
    rw [List.flatMap_cons, List.append_assoc, slice, skip, ← List.drop_drop, List.drop_left]
    exact ih

theorem words_length : ∀ ws : List Word, (ws.flatMap fun w => leBytes 4 w.toNat).length = 4 * ws.length
  | [] => rfl
  | w :: ws => by simp [List.flatMap_cons, words_length ws]; omega

theorem pack2_halves (a b : Half) : pack2 a.toNat b.toNat = w32 (a.toNat + 65536 * b.toNat) := by
  rw [pack2, Nat.mod_eq_of_lt a.isLt, Nat.mod_eq_of_lt b.isLt]

theorem pack4_bytes {a b c d : Nat} (ha : a < 256) (hb : b < 256) (hc : c < 256) (hd : d < 256) :
    pack4 a b c d = w32 (a + 256 * b + 65536 * c + 16777216 * d) := by
  rw [pack4, Nat.mod_eq_of_lt ha, Nat.mod_eq_of_lt hb, Nat.mod_eq_of_lt hc, Nat.mod_eq_of_lt hd]

theorem page_length (s : State) (k : Nat) : (s.page k).length = if k = 0 then 80 else if k = 1 then 44 else 64 := by
  match k with
  | 0 => rfl
  | 1 => rfl
  | 2 => rfl
  | _ + 3 => rfl

theorem page_channel (s : State) (d : Drive) : s.page (2 + d.val) = s.chanPage d := by
  match d with
  | 0 => rfl
  | 1 => rfl

/-- R9: the timebase, the words of the page, and zero bytes to 512 bytes. -/
theorem snapshotBytes_parts (s : State) (k : Nat) :
    (s.snapshotBytes k).length = 512 ∧ (s.snapshotBytes k).take 8 = leBytes 8 s.timebase
    ∧ (∀ n x, (s.page k)[n]? = some x → slice (s.snapshotBytes k) (8 + 4 * n) 4 = leBytes 4 x.toNat)
    ∧ (∀ n, 8 + 4 * (s.page k).length ≤ n → n < 512 → (s.snapshotBytes k)[n]? = some 0) := by
  have len := words_length (s.page k)
  have short : (s.page k).length ≤ 80 := by rw [page_length]; split_ifs <;> omega
  refine ⟨?_, ?_, fun n x h => ?_, fun n lo hi => ?_⟩
  · rw [State.snapshotBytes, padTo_length, List.length_append, leBytes_length, len]
    omega
  · rw [State.snapshotBytes, padTo, List.append_assoc, List.take_left' (leBytes_length 8 _)]
  · have skip : 8 + 4 * n = (leBytes 8 s.timebase).length + 4 * n := by simp
    rw [State.snapshotBytes, padTo, List.append_assoc, slice, skip, ← List.drop_drop, List.drop_left]
    exact slice_words _ h
  · rw [State.snapshotBytes, padTo, List.getElem?_append_right (by rw [List.length_append, leBytes_length, len]; omega),
      List.getElem?_replicate, if_pos (by rw [List.length_append, leBytes_length, len]; omega)]

/-! ## The word of a stream on page 1 -/

theorem holdSet_bits_lt (h : HoldSet) : h.bits < 256 := by
  have bit (b : Bool) : b.toNat ≤ 1 := b.toNat_le
  have := bit h.pool; have := bit h.verify; have := bit h.target; have := bit h.admin; have := bit h.suspend
  rw [HoldSet.bits]
  omega

theorem causeBits_lt (x : Stream) : x.causeBits < 256 := by
  have := x.causeCommand.toNat_le
  have := x.causePreempt.toNat_le
  rw [Stream.causeBits]
  omega

theorem streamState_code_lt (x : StreamState) : x.code < 256 := by cases x <;> decide

theorem page1_stream (s : State) (t : Tag) : (s.page 1)[t.val]? = some (w32 ((s.stream t).state.code
    + 256 * (s.holdConditions t).bits + 65536 * (s.holdActive t).bits + 16777216 * (s.stream t).causeBits)) := by
  have word : (s.page 1)[t.val]? = some (pack4 (s.stream t).state.code (s.holdConditions t).bits (s.holdActive t).bits
      (s.stream t).causeBits) := by
    fin_cases t <;> rfl
  rw [word, pack4_bytes (streamState_code_lt _) (holdSet_bits_lt _) (holdSet_bits_lt _) (causeBits_lt _)]

theorem bit_bits (p v g a c : Bool) : (if p then 1 else 0) + (if v then 2 else 0) + (if g then 4 else 0)
    + (if a then 8 else 0) + (if c then 16 else 0) = HoldSet.bits ⟨p, v, g, a, c⟩ := by
  cases p <;> cases v <;> cases g <;> cases a <;> cases c <;> rfl

theorem targets_any (x : Targets) (c : Drive → Bool) : (allDrives.any fun d => x.has d && c d) = x.list.any c :=
  List.any_filter.symm

/-- R190: the word of a stream, by its state, its targets and the causes that are enabled. -/
theorem page1_stream_causes (s : State) (t : Tag) :
    let x := s.stream t
    let bit (b : Bool) (n : Nat) : Nat := if b then n else 0
    let meets (c : Drive → Bool) : Bool := allDrives.any fun d => x.targets.has d && c d
    let verify := meets fun d => s.params.verifyLimit[d] ≤ (s.chan d).verifyList.length
    let target := meets fun d => (s.chan d).state != .write || (s.chan d).full.isSome
    let causes (pool verify : Bool) : Nat :=
      bit pool 1 + bit verify 2 + bit target 4 + bit x.admin 8 + bit (x.causeCommand || x.causePreempt) 16
    let active := if x.state = .closed then 0
      else causes (s.pool.hold && s.params.holdEnablePool == 1) (verify && s.params.holdEnableVerify == 1)
    (s.page 1)[t.val]? = some (w32 (x.state.code + 256 * causes s.pool.hold verify + 65536 * active
      + 16777216 * (bit x.causeCommand 1 + bit x.causePreempt 2))) := by
  intro x bit meets verify target causes active
  have conditions : (s.holdConditions t).bits = causes s.pool.hold verify := by
    simp only [causes, bit, bit_bits, verify, target, meets, targets_any]
    rfl
  have now : (s.holdActive t).bits = active := by
    simp only [active, causes, bit, bit_bits, verify, target, meets, targets_any, State.holdActive]
    split <;> rfl
  have suspend : x.causeBits = bit x.causeCommand 1 + bit x.causePreempt 2 := by
    cases h : x.causeCommand <;> cases k : x.causePreempt <;> simp [Stream.causeBits, bit, h, k]
  rw [page1_stream, conditions, now, suspend]

/-! ## The command -/

theorem exec_snapshot (tag : Half) (p0 p1 p2 : Word) (s : State) : exec (.snapshot tag p0 p1 p2) s =
    .next (s.command (.snapshot tag p0 p1 p2) 0x51 tag (snapshotRule tag p0 p1 p2)) := rfl

theorem snapshotPlace_iff (s : State) (dest : Nat) : s.snapshotPlace dest = true ↔
    dest % 64 = 0 ∧ dest + 512 ≤ 1099511627776 ∧
      ((∀ w ∈ s.path.windows, dest + 512 ≤ w.base ∨ w.base + w.size ≤ dest)
        ∨ ∃ w ∈ s.path.windows, w.base ≤ dest ∧ dest + 512 ≤ w.base + w.size
            ∧ (w.kind = .plain ∨ (w.kind = .control ∧ w.base + 0x3040 ≤ dest))) := by
  simp [State.snapshotPlace, and_assoc]

theorem disjoint_of_mem : ∀ {ws : List Window} {v w : Window}, disjoint ws = true → v ∈ ws → w ∈ ws →
    v = w ∨ v.base + v.size ≤ w.base ∨ w.base + w.size ≤ v.base
  | [], v, w, _, hv, _ => by simp at hv
  | x :: xs, v, w, h, hv, hw => by
    simp only [disjoint, Bool.and_eq_true, List.all_eq_true, Bool.or_eq_true, decide_eq_true_eq] at h
    obtain ⟨apart, rest⟩ := h
    rcases List.mem_cons.1 hv with rfl | hv' <;> rcases List.mem_cons.1 hw with rfl | hw'
    · exact .inl rfl
    · exact .inr (apart _ hw')
    · exact .inr (apart _ hv').symm
    · exact disjoint_of_mem rest hv' hw'

/-- R190: no snapshot lies over the rings of the CONTROL window. -/
theorem not_snapshotPlace_of_rings {dest : Nat} {w : Window} (apart : disjoint s.path.windows = true)
    (hw : w ∈ s.path.windows) (hk : w.kind = .control) (hs : 16384 ≤ w.size) (lo : w.base ≤ dest)
    (hi : dest < w.base + 0x3040) : ¬ s.snapshotPlace dest = true := by
  rw [snapshotPlace_iff]
  rintro ⟨-, -, out | ⟨v, hv, blo, bhi, kind⟩⟩
  · have := out w hw
    omega
  · rcases disjoint_of_mem apart hv hw with rfl | far
    · rcases kind with k | ⟨-, k⟩
      · rw [hk] at k; cases k
      · omega
    · omega

theorem forEach_issue (os : List Owned) : ∀ s : State, forEach os (fun o u => u.issue o) s =
    { s with path := { s.path with port := os.foldl Port.joinOwned s.path.port } } := by
  induction os with
  | nil => exact fun s => rfl
  | cons o os ih => exact fun s => (ih (s.issue o)).trans rfl

/-! ## The answers of memory -/

theorem exec_snapshotWriteAnswer {j : SnapshotJob} (hj : s.ring.snapshot = some j) (ok : Bool)
    (hi : s.path.port.issued = some (.owned .snapshot)) : exec (.snapshotWriteAnswer ok) s =
      .next ((if ok then (s.answered .snapshot).poke (j.dest + 64 * j.answered) (slice j.data (64 * j.answered) 64)
          else (s.answered .snapshot).ownFault).snapshotAnswered
        { j with answered := j.answered + 1, faulted := j.faulted || !ok }) := by
  change execSnapshotWriteAnswer ok s = _
  simp only [execSnapshotWriteAnswer, hj, s.owes_of_issued _ hi, if_true]

/-- What neither an answered write nor the record at its end touches. -/
theorem snapshotAnswered_same (j : SnapshotJob) (s : State) : (s.snapshotAnswered j).mem = s.mem
    ∧ (s.snapshotAnswered j).chans = s.chans ∧ (s.snapshotAnswered j).streams = s.streams
    ∧ (s.snapshotAnswered j).loader = s.loader := by
  rw [State.snapshotAnswered]
  split
  · exact ⟨rfl, rfl, rfl, rfl⟩
  · exact ⟨(emit_mem _).trans rfl, by simp, by simp, by simp⟩

theorem snapshotAnswered_next {j : SnapshotJob} (h : j.answered < 8) :
    s.snapshotAnswered j = s.modRing fun g => { g with snapshot := some j } := if_pos h

theorem snapshotAnswered_last {j : SnapshotJob} (h : j.answered = 8) :
    s.snapshotAnswered j = (s.modRing fun g => { g with snapshot := none }).emit (snapshotDone j) := if_neg (by omega)

/-- R190: an answer to one of the eight writes, the last of which brings the record. -/
theorem snapshotWriteAnswer_effect {j : SnapshotJob} (ok : Bool) (hj : s.ring.snapshot = some j) (hn : j.answered ≤ 7)
    (hd : j.data.length = 512) (hi : s.path.port.issued = some (.owned .snapshot)) :
    let at_ := j.dest + 64 * j.answered
    ∃ t, exec (.snapshotWriteAnswer ok) s = .next t ∧ t.chans = s.chans ∧ t.streams = s.streams ∧ t.loader = s.loader
      ∧ (ok = true → (∀ k, k < 64 → t.mem.get (at_ + k) = j.data.getD (64 * j.answered + k) 0)
          ∧ ∀ x, x < at_ ∨ at_ + 64 ≤ x → t.mem.get x = s.mem.get x)
      ∧ (ok = false → t.mem = s.mem ∧ t.path.counters.ownFaults = s.path.counters.ownFaults.add 1)
      ∧ (j.answered < 7 → t.ring.buffer = s.ring.buffer
          ∧ t.ring.snapshot = some { j with answered := j.answered + 1, faulted := j.faulted || !ok })
      ∧ (j.answered = 7 → t.ring.snapshot = none
          ∧ (s.ring.room = true → t.ring.buffer = s.ring.buffer ++
              [{ kind := .snapshotDone, byte1 := if j.faulted || !ok then 0x21 else 0, tag := j.tag, dropped := s.ring.d
                 subject := BitVec.ofNat 16 j.page, e0 := if j.faulted || !ok then 2 else 0, e1 := w32 j.dest
                 e2 := w32 (j.dest / 4294967296) }])) := by
  intro at_
  let bytes := slice j.data (64 * j.answered) 64
  let u := if ok then (s.answered .snapshot).poke at_ bytes else (s.answered .snapshot).ownFault
  let j' : SnapshotJob := { j with answered := j.answered + 1, faulted := j.faulted || !ok }
  have ring : u.ring = s.ring := by cases ok <;> rfl
  have chans : u.chans = s.chans := by cases ok <;> rfl
  have streams : u.streams = s.streams := by cases ok <;> rfl
  have loader : u.loader = s.loader := by cases ok <;> rfl
  have whole : bytes.length = 64 := by simp [bytes, slice, hd]; omega
  have same := snapshotAnswered_same j' u
  obtain ⟨mem, hc, hs, hl⟩ := same
  refine ⟨u.snapshotAnswered j', exec_snapshotWriteAnswer hj ok hi, hc.trans chans, hs.trans streams, hl.trans loader,
    fun done => ⟨fun k hk => ?_, fun x hx => ?_⟩, fun fault => ⟨?_, ?_⟩, fun more => ?_, fun last => ?_⟩
  · rw [mem, show u = (s.answered .snapshot).poke at_ bytes from if_pos done, State.poke_get_inside _ _ _ _ (by omega)]
    simp [bytes, slice, hk]
  · rw [mem, show u = (s.answered .snapshot).poke at_ bytes from if_pos done,
      State.poke_get_outside _ _ _ _ (by omega), State.answered_mem]
  · rw [mem, show u = (s.answered .snapshot).ownFault from if_neg (by simp [fault])]
    rfl
  · have faults : u.path.counters.ownFaults = s.path.counters.ownFaults.add 1 :=
      congrArg (fun v : State => v.path.counters.ownFaults) (if_neg (by simp [fault]))
    rw [State.snapshotAnswered]
    split
    · exact faults
    · exact (congrArg PathCounters.ownFaults (emit_counters _).1).trans faults
  · rw [snapshotAnswered_next (Nat.succ_lt_succ more)]
    have b : u.ring.buffer = s.ring.buffer := congrArg Ring.buffer ring
    exact ⟨b, rfl⟩
  · rw [snapshotAnswered_last (congrArg (· + 1) last)]
    refine ⟨?_, fun room => ?_⟩
    · obtain ⟨-, -, -, -, -, -, -, sampled⟩ := State.emit_ring (u.modRing fun g => { g with snapshot := none }) (snapshotDone j')
      exact sampled
    · rw [emit_buffer_of_room _ (by rw [← room, ← ring]; rfl)]
      have d : u.ring.d = s.ring.d := congrArg Ring.d ring
      have b : u.ring.buffer = s.ring.buffer := congrArg Ring.buffer ring
      change u.ring.buffer ++ [{ snapshotDone j' with dropped := u.ring.d }] = _
      rw [d, b]
      cases h : j.faulted || !ok <;> simp only [snapshotDone, j', h] <;> rfl

/-- Settles O26: the command by its checks, the bytes by the parts of a page, each page by its words, and the answers. -/
theorem snapshotsAreSampledAndWritten : Obligations.SnapshotsAreSampledAndWritten := by
  refine ⟨fun s tag p0 p1 p2 => ?_, fun s j ok hj hn hd hi => snapshotWriteAnswer_effect ok hj hn hd hi⟩
  intro u dest job words place
  have arm := exec_snapshot tag p0 p1 p2 s
  have taken (kind : p2.toNat ≤ 3) (aligned : dest % 64 = 0) (at_ : place) :
      ¬ (3 < p2.toNat ∨ 255 < p1.toNat ∨ !u.snapshotPlace dest) := by
    have holds : u.snapshotPlace dest = true := (snapshotPlace_iff u dest).2 ⟨aligned, at_⟩
    have inside : dest + 512 ≤ 1099511627776 := at_.1
    have low : dest = p0.toNat + 4294967296 * p1.toNat := rfl
    rintro (h | h | h)
    · omega
    · omega
    · simp [holds] at h
  refine ⟨fun bad => turnedAway_of_owner arm (if_pos ?_), fun kind aligned at_ busy => turnedAway_of_owner arm ?_,
    fun kind aligned at_ free wanted => ends_of_owner arm ?_ wanted, fun k hk => ?_, ⟨rfl, rfl, rfl, rfl⟩, rfl, ?_, rfl, rfl,
    fun i => ?_, rfl, rfl, fun t => ?_, fun t => page1_stream_causes u t, ?_, rfl, fun d => ?_⟩
  · have refused (h : ¬ u.snapshotPlace dest = true) : (!u.snapshotPlace dest) = true := by simpa using h
    obtain h | h | h | h | ⟨apart, w, hw, kind, size, lo, hi⟩ := bad
    · exact .inl h
    · exact .inr (.inl h)
    · exact .inr (.inr (refused fun k => h ((snapshotPlace_iff u dest).1 k).1))
    · exact .inr (.inr (refused fun k => h ((snapshotPlace_iff u dest).1 k).2))
    · exact .inr (.inr (refused (not_snapshotPlace_of_rings apart hw kind size lo hi)))
  · exact (if_neg (taken kind aligned at_)).trans (if_pos busy)
  · refine (if_neg (taken kind aligned at_)).trans ((if_neg (by simp [free])).trans ?_)
    exact congrArg (fun v => { state := v, outcome := .accepted : Effect }) (forEach_issue _ _)
  · exact snapshotBytes_parts u k
  · exact congrArg₂ (fun a b => [a, b]) (pack2_halves _ _) (pack2_halves _ _)
  · fin_cases i <;> exact ⟨rfl, rfl, rfl⟩
  · fin_cases t <;> rfl
  · have last : (u.page 1)[43]? = some (pack4 s.pack.lastServed.val s.pack.pendingTable.isSome.toNat 0 0) := rfl
    rw [last, pack4_bytes (by omega) (by have := s.pack.pendingTable.isSome.toNat_le; omega) (by omega) (by omega)]
    rfl
  · simp only [words, page_channel]
    refine ⟨fun m hm => ?_, rfl, rfl⟩
    have mount : (u.chan d).mount = some m := hm
    simp only [State.chanPage, State.chanLevels, mount]
    rfl

end Sys2Proof.Machine
end

section
/-! The stream commands: opening, suspension, the end of a set, holds and targets (3.1, 3.3 to 3.5). -/

namespace Sys2Proof.Machine

variable {s : State}

/-! ## Operands -/

theorem mem_allTags (t : Tag) : t ∈ allTags := by fin_cases t <;> decide

theorem tagOf_none {w : Word} (h : 7 < w.toNat) : tagOf w = none := dif_neg (by omega)

theorem targetsOf_none {w : Word} (h : w.toNat = 0 ∨ 3 < w.toNat) : targetsOf w = none := by
  have ne {n : Word} (k : w.toNat ≠ n.toNat) : w ≠ n := fun e => k (congrArg BitVec.toNat e)
  rw [targetsOf, if_neg (ne (by simp; omega)), if_neg (ne (by simp; omega)), if_neg (ne (by simp; omega))]

theorem policyOf_none {w : Word} (h : 1 < w.toNat) : policyOf w = none := by
  have ne {n : Word} (k : w.toNat ≠ n.toNat) : w ≠ n := fun e => k (congrArg BitVec.toNat e)
  rw [policyOf, if_neg (ne (by simp; omega)), if_neg (ne (by simp; omega))]

theorem targetFailed_iff (s : State) (tg : Targets) :
    s.targetFailed tg = true ↔ ∃ d, tg.has d = true ∧ (s.chan d).state = .failed := by
  simp [State.targetFailed, Targets.list, allDrives]

/-! ## HOLD_STREAM, RELEASE_STREAM and SET_TARGETS (R53, R54) -/

theorem exec_holdStream (tag : Half) (p0 : Word) (s : State) : exec (.holdStream tag p0) s =
    .next (s.command (.holdStream tag p0) 0x15 tag (adminRule true p0)) := rfl

theorem exec_releaseStream (tag : Half) (p0 : Word) (s : State) : exec (.releaseStream tag p0) s =
    .next (s.command (.releaseStream tag p0) 0x16 tag (adminRule false p0)) := rfl

theorem exec_setTargets (tag : Half) (p0 p1 : Word) (s : State) : exec (.setTargets tag p0 p1) s =
    .next (s.command (.setTargets tag p0 p1) 0x17 tag (setTargetsRule p0 p1)) := rfl

theorem adminRule_unknown (on : Bool) {p0 : Word} (h : tagOf p0 = none) : adminRule on p0 s = s.turnAway .badParam := by
  simp only [adminRule, h]

theorem adminRule_closed (on : Bool) {p0 : Word} {t : Tag} (h : tagOf p0 = some t) (hs : (s.stream t).state = .closed) :
    adminRule on p0 s = s.turnAway .refusedState := by
  simp only [adminRule, h, hs, if_true]

theorem adminRule_taken (on : Bool) {p0 : Word} {t : Tag} (h : tagOf p0 = some t) (hs : (s.stream t).state ≠ .closed) :
    adminRule on p0 s = (s.setStream t { s.stream t with admin := on }).ok := by
  simp only [adminRule, h, hs, if_false]
  rfl

theorem setTargetsRule_unknown {p0 p1 : Word} (h : tagOf p0 = none ∨ targetsOf p1 = none) :
    setTargetsRule p0 p1 s = s.turnAway .badParam := by
  unfold setTargetsRule
  split
  · rename_i t tg ht htg
    simp [ht, htg] at h
  · rfl

/-- Settles O34: the two rules by the stream's state. -/
theorem adminAndTargetsAreSet : Obligations.AdminAndTargetsAreSet := by
  refine ⟨fun s tag p0 => ⟨fun h => ⟨turnedAway_of_owner (exec_holdStream tag p0 s) (adminRule_unknown true h),
      turnedAway_of_owner (exec_releaseStream tag p0 s) (adminRule_unknown false h)⟩, fun t h => ⟨fun closed => ?_, fun open_ => ?_⟩⟩,
    fun s tag p0 p1 => ⟨fun h => turnedAway_of_owner (exec_setTargets tag p0 p1 s) (setTargetsRule_unknown ?_), fun t tg h htg =>
      ⟨fun refused => turnedAway_of_owner (exec_setTargets tag p0 p1 s) ?_, fun suspended sound =>
        ends_of_owner (exec_setTargets tag p0 p1 s) ?_⟩⟩⟩
  · exact ⟨turnedAway_of_owner (exec_holdStream tag p0 s) (adminRule_closed true h closed),
      turnedAway_of_owner (exec_releaseStream tag p0 s) (adminRule_closed false h closed)⟩
  · refine ⟨ends_of_owner (exec_holdStream tag p0 s) (adminRule_taken true h open_),
      ends_of_owner (exec_releaseStream tag p0 s) (adminRule_taken false h open_), ?_⟩
    simp [State.holdActive, State.holdConditions, open_]
  · obtain h | h | h := h
    · exact .inl (tagOf_none h)
    · exact .inr (targetsOf_none (.inl h))
    · exact .inr (targetsOf_none (.inr h))
  · have turned : (s.atOwner.stream t).state ≠ .suspended ∨ s.atOwner.targetFailed tg = true :=
      refused.imp_right (targetFailed_iff s.atOwner tg).2
    simp only [setTargetsRule, h, htg, turned, if_true]
  · have taken : ¬ ((s.atOwner.stream t).state ≠ .suspended ∨ s.atOwner.targetFailed tg = true) := by
      rw [targetFailed_iff]
      rintro (k | ⟨d, hd, k⟩)
      · exact k suspended
      · exact sound d hd k
    simp only [setTargetsRule, h, htg, taken, if_false]
    rfl

/-! ## END_STREAM (R55) -/

theorem exec_endStream (tag : Half) (p0 : Word) (s : State) : exec (.endStream tag p0) s =
    .next (s.command (.endStream tag p0) 0x13 tag (settled (endStreamRule tag p0))) := rfl

theorem finishing_filling {x : Stream} {k : BufId} (tag : Half) (h : x.bufIn .filling = some k) :
    x.finishing tag = Stream.closeBuf { x with state := .ending, endTag := some tag } k true := by
  have filling : Stream.bufIn { x with state := .ending, endTag := some tag } .filling = some k := h
  simp only [Stream.finishing, filling]

theorem finishing_none {x : Stream} (tag : Half) (h : x.bufIn .filling = none) :
    x.finishing tag = { x with state := .ending, endTag := some tag, finalClose := true } := by
  have filling : Stream.bufIn { x with state := .ending, endTag := some tag } .filling = none := h
  simp only [Stream.finishing, filling]

/-- R55: the buffers and the sequence change where a buffer is FILLING, and the pending mark where none is. -/
theorem finishing_fields (x : Stream) (tag : Half) :
    (x.finishing tag).state = .ending ∧ (x.finishing tag).endTag = some tag ∧ (x.finishing tag).ingest = x.ingest
      ∧ (x.finishing tag).causeCommand = x.causeCommand ∧ (x.finishing tag).causePreempt = x.causePreempt := by
  cases h : x.bufIn .filling with
  | none => rw [finishing_none tag h]; exact ⟨rfl, rfl, rfl, rfl, rfl⟩
  | some k => rw [finishing_filling tag h]; cases k <;> exact ⟨rfl, rfl, rfl, rfl, rfl⟩

/-- Settles O32: the rule by the stream's state, and the final chunk by the FILLING buffer. -/
theorem endStreamClosesTheFinalChunk : Obligations.EndStreamClosesTheFinalChunk := by
  intro s tag p0 c
  refine ⟨fun h => turnedAway_of_settled (exec_endStream tag p0 s) ?_ rfl, fun t h => ⟨fun refused => ?_, fun taken => ?_⟩⟩
  · simp only [endStreamRule, h]
  · refine turnedAway_of_settled (exec_endStream tag p0 s) ?_ rfl
    simp only [endStreamRule, h, atOwner_stream]
    obtain hs | hs | hs := refused <;> simp only [hs]
  · obtain ⟨hstate, htag, hingest, hcommand, hpreempt⟩ := finishing_fields (s.stream t) tag
    refine ⟨(s.stream t).finishing tag, endsSettled_of_settled (exec_endStream tag p0 s) ?_ rfl, hstate, htag, hingest, hcommand,
      hpreempt, fun k hk => ?_, fun none_ => ?_⟩
    · simp only [endStreamRule, h, atOwner_stream]
      obtain hs | hs := taken <;> simp only [hs] <;> rfl
    · rw [finishing_filling tag hk]
      cases k <;> exact ⟨rfl, rfl, rfl, rfl⟩
    · rw [finishing_none tag none_]
      exact ⟨rfl, rfl, rfl, rfl⟩

/-! ## SUSPEND_STREAM, RESUME_STREAM and the chunk boundary (R51, R52) -/

theorem exec_suspendStream (tag : Half) (p0 : Word) (s : State) : exec (.suspendStream tag p0) s =
    .next (s.command (.suspendStream tag p0) 0x11 tag (settled (suspendRule true p0))) := rfl

theorem exec_resumeStream (tag : Half) (p0 : Word) (s : State) : exec (.resumeStream tag p0) s =
    .next (s.command (.resumeStream tag p0) 0x12 tag (settled (suspendRule false p0))) := rfl

theorem suspendRule_unknown (on : Bool) {p0 : Word} (h : tagOf p0 = none) : suspendRule on p0 s = s.turnAway .badParam := by
  simp only [suspendRule, h]

theorem suspendRule_refused (on : Bool) {p0 : Word} {t : Tag} (h : tagOf p0 = some t)
    (hs : (s.stream t).state = .closed ∨ (s.stream t).state = .ending) : suspendRule on p0 s = s.turnAway .refusedState := by
  obtain hs | hs := hs <;> simp only [suspendRule, h, hs]

theorem suspendRule_taken (on : Bool) {p0 : Word} {t : Tag} (h : tagOf p0 = some t)
    (hc : (s.stream t).state ≠ .closed) (he : (s.stream t).state ≠ .ending) : suspendRule on p0 s =
      if (s.stream t).causeCommand = on then s.ok
      else ((s.modStream t fun x => { x with causeCommand := on }).causesChanged t).ok := by
  cases hs : (s.stream t).state <;> simp_all [suspendRule]

theorem setStream_setStream (t : Tag) (x y : Stream) : (s.setStream t x).setStream t y = s.setStream t y :=
  congrArg (fun v => { s with streams := v }) (Vector.set_set ..)

theorem causesChanged_opened {t : Tag} (hs : (s.stream t).state = .opened)
    (hc : ((s.stream t).causeCommand || (s.stream t).causePreempt) = true) :
    s.causesChanged t = (s.setStream t { s.stream t with state := .suspending }).suspendTest t := by
  simp only [State.causesChanged, hs, hc, if_true]

theorem causesChanged_suspended {t : Tag} (hs : (s.stream t).state = .suspending ∨ (s.stream t).state = .suspended) :
    s.causesChanged t = if ((s.stream t).causeCommand || (s.stream t).causePreempt) = true then s
      else s.setStream t (Stream.refill { s.stream t with state := .opened }) := by
  obtain hs | hs := hs <;> simp only [State.causesChanged, hs]

/-- R46: a refill makes at most one buffer FILLING, and only where none is. -/
theorem refill_eq (x : Stream) : ∃ a b, x.refill = { x with bufA := a, bufB := b }
    ∧ (∀ k, x.bufIn .filling = some k → x.refill = x) := by
  simp only [Stream.refill]
  split
  · exact ⟨x.bufA, x.bufB, rfl, fun _ _ => rfl⟩
  · rename_i open_
    have none_ : ∀ k, x.bufIn .filling = some k → False := fun k hk => open_ (.inr (.inr (by rw [hk]; rfl)))
    cases x.bufIn .empty with
    | none => exact ⟨x.bufA, x.bufB, rfl, fun _ _ => rfl⟩
    | some k => cases k with
      | a => exact ⟨{ state := .filling }, x.bufB, rfl, fun k hk => (none_ k hk).elim⟩
      | b => exact ⟨x.bufA, { state := .filling }, rfl, fun k hk => (none_ k hk).elim⟩

theorem suspendTest_eq {t : Tag} (hs : (s.stream t).state = .suspending) :
    let x := s.stream t
    let atBoundary := x.bufA.state ≠ .ready ∧ x.bufA.state ≠ .packing ∧ x.bufB.state ≠ .ready ∧ x.bufB.state ≠ .packing
      ∧ s.queued t = false
    (atBoundary → s.suspendTest t = (s.setStream t { x with state := .suspended }).emit
      { kind := .streamSuspended, subject := BitVec.ofNat 16 t.val
        e0 := w32 (x.causeCommand.toNat + 2 * x.causePreempt.toNat)
        e1 := w32 (match x.bufIn .filling with | some k => (x.buf k).bytes.length | none => 0), e2 := x.nextSeq })
    ∧ (¬ atBoundary → s.suspendTest t = s) := by
  intro x atBoundary
  let busy (k : BufId) : Bool := (x.buf k).state == .ready || (x.buf k).state == .packing
  have boundary : (x.state = .suspending ∧ (!busy .a) = true ∧ (!busy .b) = true ∧ (!s.queued t) = true) ↔ atBoundary := by
    have state : x.state = .suspending := hs
    simp [busy, atBoundary, state, Stream.buf, and_assoc]
  refine ⟨fun h => ?_, fun h => if_neg (mt boundary.1 h)⟩
  exact (if_pos (boundary.2 h)).trans rfl

/-- Settles O31: the two commands by the stream's state and causes, and the test of the boundary. -/
theorem suspensionStopsAtAChunkBoundary : Obligations.SuspensionStopsAtAChunkBoundary := by
  refine ⟨fun s tag p0 => ?_, fun s t hs => suspendTest_eq hs⟩
  intro u stop go
  have arm := exec_suspendStream tag p0 s
  have arm' := exec_resumeStream tag p0 s
  refine ⟨fun h => ⟨turnedAway_of_settled arm (suspendRule_unknown true h) rfl,
    turnedAway_of_settled arm' (suspendRule_unknown false h) rfl⟩, fun t h => ?_⟩
  intro x
  have taken (on : Bool) (hc : x.state ≠ .closed) (he : x.state ≠ .ending) : suspendRule on p0 u = _ :=
    suspendRule_taken on h hc he
  refine ⟨fun hs => ⟨turnedAway_of_settled arm (suspendRule_refused true h hs) rfl,
    turnedAway_of_settled arm' (suspendRule_refused false h hs) rfl⟩, fun hs hc => ⟨?_, ?_⟩, fun hs hc => ⟨?_, ?_, ?_⟩⟩
  · refine endsSettled_of_settled arm ((taken true (by simp [hs]) (by simp [hs])).trans ?_) rfl
    have asked : ¬ (u.stream t).causeCommand = true := by simp [u, x] at hc ⊢; exact hc
    rw [if_neg asked, causesChanged_opened]
    · simp only [State.modStream, State.stream_setStream_self, setStream_setStream]
      rfl
    · simpa [u] using hs
    · simp
  · refine endsSettled_of_settled arm' ((taken false (by simp [hs]) (by simp [hs])).trans (if_pos hc)) rfl
  · have open_ : x.state ≠ .closed ∧ x.state ≠ .ending := by obtain hs | hs := hs <;> simp [hs]
    exact endsSettled_of_settled arm ((taken true open_.1 open_.2).trans (if_pos hc)) rfl
  · intro hp
    have open_ : x.state ≠ .closed ∧ x.state ≠ .ending := by obtain hs | hs := hs <;> simp [hs]
    refine endsSettled_of_settled arm' ((taken false open_.1 open_.2).trans ?_) rfl
    rw [if_neg (by simpa [u] using hc), causesChanged_suspended (by simpa [u] using hs)]
    rw [if_pos (by simpa [u] using hp)]
    rfl
  · intro hp
    have open_ : x.state ≠ .closed ∧ x.state ≠ .ending := by obtain hs | hs := hs <;> simp [hs]
    let y : Stream := { x with causeCommand := false, state := .opened }
    obtain ⟨a, b, refilled, filling⟩ := refill_eq y
    refine ⟨y.refill, endsSettled_of_settled arm' ((taken false open_.1 open_.2).trans ?_) rfl, ?_, ?_, ?_, ?_, fun k hk => ?_⟩
    · rw [if_neg (by simpa [u] using hc), causesChanged_suspended (by simpa [u] using hs), if_neg (by simpa [u] using hp)]
      simp only [State.modStream, State.stream_setStream_self, setStream_setStream]
      rfl
    · rw [refilled]
    · rw [refilled]
    · rw [refilled]
    · rw [refilled]
    · rw [filling k hk]
      cases k <;> rfl

/-! ## OPEN_STREAM (R45) -/

theorem exec_openStream (tag : Half) (p0 p1 p2 p3 : Word) (s : State) : exec (.openStream tag p0 p1 p2 p3) s =
    .next (s.command (.openStream tag p0 p1 p2 p3) 0x10 tag (openStreamRule p0 p1 p2 p3)) := rfl

theorem openStreamRule_unknown {p0 p1 p2 p3 : Word} (h : tagOf p0 = none ∨ targetsOf p2 = none ∨ policyOf p3 = none) :
    openStreamRule p0 p1 p2 p3 s = s.turnAway .badParam := by
  unfold openStreamRule
  split
  · rename_i t tg pol ht htg hpol
    simp [ht, htg, hpol] at h
  · rfl

theorem openStreamRule_eq {p0 p2 p3 : Word} {t : Tag} {tg : Targets} {pol : Policy} (p1 : Word) (ht : tagOf p0 = some t)
    (htg : targetsOf p2 = some tg) (hpol : policyOf p3 = some pol) : openStreamRule p0 p1 p2 p3 s =
      if allTags.any fun o => o != t && (s.stream o).state != .closed && (s.stream o).setId == p1 then s.turnAway .badParam
      else if (s.stream t).state ≠ .closed then s.turnAway .refusedState
      else if s.targetFailed tg then s.turnAway .refusedState
      else (s.setStream t ((s.stream t).opening p1 tg pol)).ok := by
  simp only [openStreamRule, ht, htg, hpol]
  rfl

theorem setId_used_iff (s : State) (t : Tag) (p1 : Word) :
    (allTags.any fun o => o != t && (s.stream o).state != .closed && (s.stream o).setId == p1) = true
      ↔ ∃ o, o ≠ t ∧ (s.stream o).state ≠ .closed ∧ (s.stream o).setId = p1 := by
  simp [mem_allTags, and_assoc]

/-- R45, R46: an opened stream without a FILLING buffer makes an EMPTY one FILLING, A before B. -/
theorem refill_of_opened {x : Stream} (hs : x.state = .opened) :
    (x.bufA.state = .empty → x.bufB.state ≠ .filling → x.refill = { x with bufA := { state := .filling } })
    ∧ (x.bufA.state = .packing → x.bufB.state = .empty → x.refill = { x with bufB := { state := .filling } }) := by
  constructor <;> intro ha hb <;> simp [Stream.refill, Stream.bufIn, hs, ha, hb, Stream.setBuf]

/-- R45: the record of an opened stream, before its buffers are looked at. -/
def Stream.fresh (x : Stream) (setId : Word) (targets : Targets) (policy : Policy) : Stream :=
  { x with state := .opened, setId := setId, targets := targets, policy := policy, ingest := 0, nextSeq := 0
           rawRun := 0, skip := 0, ingested := 0, chunks := 0, rawChunks := 0, heldMs := 0, heldMicros := 0
           causeCommand := false, causePreempt := false, admin := false, endTag := none, finalClose := false }

theorem opening_eq (x : Stream) (setId : Word) (targets : Targets) (policy : Policy) :
    x.opening setId targets policy = (x.fresh setId targets policy).refill := rfl

/-- Settles O30: the checks in their order, and the opened record by what a refill leaves. -/
theorem openStreamStartsACleanRecord : Obligations.OpenStreamStartsACleanRecord := by
  intro s tag p0 p1 p2 p3 c
  have arm := exec_openStream tag p0 p1 p2 p3 s
  refine ⟨fun h => turnedAway_of_owner arm (openStreamRule_unknown ?_), fun t tg pol ht htg hpol =>
    ⟨fun used => turnedAway_of_owner arm ?_, fun unused => ⟨fun refused => turnedAway_of_owner arm ?_, fun closed sound => ?_⟩⟩⟩
  · obtain h | h | h | h := h
    · exact .inl (tagOf_none h)
    · exact .inr (.inl (targetsOf_none (.inl h)))
    · exact .inr (.inl (targetsOf_none (.inr h)))
    · exact .inr (.inr (policyOf_none h))
  · rw [openStreamRule_eq p1 ht htg hpol, if_pos ((setId_used_iff s.atOwner t p1).2 used)]
  all_goals
    have free : ¬ (allTags.any fun o => o != t && (s.atOwner.stream o).state != .closed && (s.atOwner.stream o).setId == p1) = true :=
      fun k => by
        obtain ⟨o, ho, hs, hid⟩ := (setId_used_iff s.atOwner t p1).1 k
        exact (unused o ho).elim hs (· hid)
  · rw [openStreamRule_eq p1 ht htg hpol, if_neg free]
    split
    · rfl
    · rename_i closed
      exact if_pos (refused.resolve_left closed)
  · have rule : openStreamRule p0 p1 p2 p3 s.atOwner = (s.atOwner.setStream t ((s.stream t).opening p1 tg pol)).ok := by
      rw [openStreamRule_eq p1 ht htg hpol, if_neg free]
      refine (if_neg (not_not.2 closed)).trans (if_neg (by rw [Bool.not_eq_true]; exact sound))
    refine ⟨(s.stream t).opening p1 tg pol, ends_of_owner arm rule, ?_⟩
    obtain ⟨a, b, fields, -⟩ := refill_eq ((s.stream t).fresh p1 tg pol)
    obtain ⟨first, second⟩ := refill_of_opened (x := (s.stream t).fresh p1 tg pol) rfl
    refine ⟨?_, ?_, ?_, ?_, ?_, ?_, ?_, ?_, ?_, ?_, ?_, ?_, ?_, ?_, ?_, fun ha hb => ?_, fun ha hb => ?_⟩
    case refine_16 => rw [opening_eq, first ha hb]; exact ⟨rfl, rfl⟩
    case refine_17 => rw [opening_eq, second ha hb]; exact ⟨rfl, rfl⟩
    all_goals rw [opening_eq, fields]; rfl

end Sys2Proof.Machine
end

section
/-! The pack arbitration (3.7): the table of SET_ARB_TABLE and the search. -/

namespace Sys2Proof.Machine

variable {s : State}

/-! ## SET_ARB_TABLE (R61) -/

theorem exec_setArbTable (tag : Half) (p0 p1 p2 p3 : Word) (s : State) : exec (.setArbTable tag p0 p1 p2 p3) s =
    .next (s.command (.setArbTable tag p0 p1 p2 p3) 0x19 tag (setArbTableRule p0 p1 p2 p3)) := rfl

/-- R61: phase 4k + j stands in byte j of word k. -/
def arbPhase (p0 p1 p2 p3 : Word) (i : Nat) : Nat := (([p0, p1, p2, p3].getD (i / 4) 0).toNat / 256 ^ (i % 4)) % 256

theorem arbTable_eq (p0 p1 p2 p3 : Word) :
    arbTable p0 p1 p2 p3 = (List.range 16).map (arbPhase p0 p1 p2 p3) := by
  simp [arbTable, leBytes, arbPhase, List.range, List.range.loop, Nat.div_div_eq_div_mul]

theorem arbTags_iff (p0 p1 p2 p3 : Word) :
    ((arbTable p0 p1 p2 p3).all (· < 8) = true ∧ (allTags.all fun t => (arbTable p0 p1 p2 p3).contains t.val) = true) ↔
      (∀ i < 16, arbPhase p0 p1 p2 p3 i ≤ 7) ∧ ∀ t < 8, ∃ i < 16, arbPhase p0 p1 p2 p3 i = t := by
  rw [arbTable_eq]
  simp only [List.all_map, List.all_eq_true, List.mem_range, Function.comp, decide_eq_true_eq, mem_allTags, true_implies,
    List.contains_iff_mem, List.mem_map]
  refine and_congr (forall₂_congr fun i hi => by omega) ⟨fun h t ht => h ⟨t, ht⟩, fun h t => h t.val t.isLt⟩

/-- R61: the phases of a table that is taken, as tags. -/
def arbVector (l : List Nat) : Vector Tag 16 := Vector.ofFn fun i => ⟨l.getD i.val 0 % 8, by omega⟩

theorem arbTags_some {l : List Nat} (h : l.all (· < 8) = true ∧ (allTags.all fun t => l.contains t.val) = true) :
    arbTags l = some (arbVector l) := if_pos h

theorem arbVector_phase (p0 p1 p2 p3 : Word) (i : Fin 16) (h : arbPhase p0 p1 p2 p3 i.val ≤ 7) :
    ((arbVector (arbTable p0 p1 p2 p3))[i]).val = arbPhase p0 p1 p2 p3 i.val := by
  rw [Fin.getElem_fin, arbVector, Vector.getElem_ofFn]
  simp only [arbTable_eq, List.getD_eq_getElem?_getD, List.getElem?_map, List.getElem?_range i.isLt, Option.map_some,
    Option.getD_some]
  exact Nat.mod_eq_of_lt (by omega)

theorem setArbTable_ends (s : State) (tag : Half) (p0 p1 p2 p3 : Word) :
    let c := Instr.setArbTable tag p0 p1 p2 p3
    let phase := arbPhase p0 p1 p2 p3
    ((∃ i < 16, 7 < phase i) ∨ (∃ t < 8, ∀ i < 16, phase i ≠ t) → TurnedAway c 0x19 tag .badParam s)
    ∧ ((∀ i < 16, phase i ≤ 7) → (∀ t < 8, ∃ i < 16, phase i = t) → ∃ v : Vector Tag 16, (∀ i : Fin 16, (v[i]).val = phase i.val)
        ∧ Ends c 0x19 tag .done {} s { s.atOwner with pack := { s.pack with pendingTable := some v } }) := by
  intro c phase
  have arm := exec_setArbTable tag p0 p1 p2 p3 s
  refine ⟨fun bad => turnedAway_of_owner arm ?_, fun small all_ => ?_⟩
  · have none_ : arbTags (arbTable p0 p1 p2 p3) = none := by
      refine if_neg ?_
      rw [arbTags_iff]
      rintro ⟨small, all_⟩
      obtain ⟨i, hi, h⟩ | ⟨t, ht, h⟩ := bad
      · exact absurd (small i hi) (Nat.not_le.2 h)
      · obtain ⟨i, hi, e⟩ := all_ t ht
        exact h i hi e
    simp only [setArbTableRule, none_]
  · refine ⟨arbVector (arbTable p0 p1 p2 p3), fun i => arbVector_phase p0 p1 p2 p3 i (small i.val i.isLt), ends_of_owner arm ?_⟩
    simp only [setArbTableRule, arbTags_some ((arbTags_iff p0 p1 p2 p3).2 ⟨small, all_⟩)]
    rfl

/-! ## The search (R60, R61) -/

/-- R61: the table in force at the phase after one, with the table still pending. -/
def tableAfter (from_ : Fin 16) (table : Vector Tag 16) (pend : Option (Vector Tag 16)) :
    Vector Tag 16 × Option (Vector Tag 16) :=
  if from_ + 1 = 0 then (pend.getD table, none) else (table, pend)

theorem search_succ (m : Nat) {from_ phase : Fin 16} {table : Vector Tag 16} {pend : Option (Vector Tag 16)}
    {after : Vector Tag 16 × Option (Vector Tag 16)} (hp : phase = from_ + 1) (ha : after = tableAfter from_ table pend) :
    s.search (m + 1) from_ table pend =
      match (s.stream after.1[phase]).readyBuf with
      | some k => some (after.1[phase], k, phase, after)
      | none => s.search m phase after.1 after.2 := by
  subst hp ha
  have wraps : (if from_ + 1 = 0 ∧ pend.isSome = true then pend.getD table else table,
      if from_ + 1 = 0 ∧ pend.isSome = true then none else pend) = tableAfter from_ table pend := by
    cases pend <;> by_cases h : from_ + 1 = 0 <;> simp [tableAfter, h]
  rw [← wraps]
  rfl

/-- The phase `i` steps after one. -/
def phaseAt (last : Fin 16) (i : Nat) : Fin 16 := ⟨(last.val + i) % 16, by omega⟩

/-- The table in force `i` steps after a phase, with the table still pending, for at most 16 steps. -/
def tableAt (last : Fin 16) (table : Vector Tag 16) (pend : Option (Vector Tag 16)) (i : Nat) :
    Vector Tag 16 × Option (Vector Tag 16) :=
  if 16 ≤ last.val + i then (pend.getD table, none) else (table, pend)

theorem phaseAt_succ (last : Fin 16) (i : Nat) : phaseAt last (i + 1) = phaseAt last i + 1 := by
  apply Fin.ext
  simp only [phaseAt, Fin.val_add, Fin.val_one]
  omega

theorem tableAt_succ (last : Fin 16) (table : Vector Tag 16) (pend : Option (Vector Tag 16)) {i : Nat} (hi : i ≤ 15) :
    tableAt last table pend (i + 1) =
      tableAfter (phaseAt last i) (tableAt last table pend i).1 (tableAt last table pend i).2 := by
  have zero : phaseAt last i + 1 = 0 ↔ last.val + i + 1 = 16 := by
    rw [← phaseAt_succ, Fin.ext_iff]
    simp only [phaseAt, Fin.val_zero]
    omega
  simp only [tableAfter, zero, tableAt]
  by_cases wrap : last.val + i + 1 = 16
  · rw [if_pos (by omega), if_pos wrap, if_neg (by omega)]
  · rw [if_neg wrap, if_congr (show 16 ≤ last.val + (i + 1) ↔ 16 ≤ last.val + i by omega) rfl rfl]

/-- R60: the phases before the first one with a READY buffer are passed over. -/
theorem search_skips (last : Fin 16) (table : Vector Tag 16) (pend : Option (Vector Tag 16)) : ∀ n m, n ≤ 15 →
    (∀ i, 1 ≤ i → i ≤ n → (s.stream (tableAt last table pend i).1[phaseAt last i]).readyBuf = none) →
    s.search (m + n) last table pend
      = s.search m (phaseAt last n) (tableAt last table pend n).1 (tableAt last table pend n).2
  | 0, m, _, _ => by
    have start : phaseAt last 0 = last := Fin.ext (Nat.mod_eq_of_lt last.isLt)
    have first : tableAt last table pend 0 = (table, pend) := if_neg (by omega)
    rw [start, first]
    rfl
  | n + 1, m, hn, none_ => by
    rw [show m + (n + 1) = m + 1 + n by omega,
      search_skips last table pend n (m + 1) (by omega) fun i h1 h2 => none_ i h1 (by omega),
      search_succ m (phaseAt_succ last n) (tableAt_succ last table pend (by omega)), none_ (n + 1) (by omega) (by omega)]

/-! ## The choice (R60) -/

/-- R31: a pool wait changes the request's mark and the count of waits alone. -/
theorem waitTest_eq (s : State) : ∃ w n, s.waitTest = { s with
    pack := { s.pack with waiting := w }, pool := { s.pool with waits := n } } := by
  rw [State.waitTest]
  split
  · exact ⟨_, _, rfl⟩
  · split
    · exact ⟨_, _, rfl⟩
    · exact ⟨_, _, rfl⟩

theorem packChoose_of_found {t : Tag} {k : BufId} {phase : Fin 16} {table : Vector Tag 16} {pend : Option (Vector Tag 16)}
    (hj : s.pack.job = none) (hc : s.pack.chosen = none) (hr : (s.stream t).readyBuf = some k)
    (h : s.search 32 s.pack.lastServed s.pack.table s.pack.pendingTable = some (t, k, phase, table, pend)) :
    s.packChoose = (s.modPack fun p =>
      { p with chosen := some (t, k), lastServed := phase, table := table, pendingTable := pend }).waitTest := by
  have ready : (allTags.any fun t => (s.stream t).readyBuf.isSome) = true :=
    List.any_eq_true.2 ⟨t, mem_allTags t, by rw [hr]; rfl⟩
  simp only [State.packChoose, hj, hc, ready, h]
  rfl

theorem search_serves (s : State) (n : Nat) (h1 : 1 ≤ n) (h16 : n ≤ 16) :
    let phase (i : Nat) : Fin 16 := ⟨(s.pack.lastServed.val + i) % 16, by omega⟩
    let wrapped (i : Nat) : Bool := 16 ≤ s.pack.lastServed.val + i
    let table (i : Nat) : Vector Tag 16 := if wrapped i then s.pack.pendingTable.getD s.pack.table else s.pack.table
    let pending := if wrapped n then none else s.pack.pendingTable
    (∀ i, 1 ≤ i → i < n → (s.stream (table i)[phase i]).readyBuf = none) →
    ∀ k, (s.stream (table n)[phase n]).readyBuf = some k →
      s.search 32 s.pack.lastServed s.pack.table s.pack.pendingTable
          = some ((table n)[phase n], k, phase n, table n, pending) := by
  intro phase wrapped table pending none_ k hk
  obtain ⟨m, rfl⟩ : ∃ m, n = m + 1 := ⟨n - 1, by omega⟩
  have fst (i : Nat) : (tableAt s.pack.lastServed s.pack.table s.pack.pendingTable i).1 = table i := by
    by_cases w : 16 ≤ s.pack.lastServed.val + i <;> simp [tableAt, table, wrapped, w]
  have snd : tableAt s.pack.lastServed s.pack.table s.pack.pendingTable (m + 1) = (table (m + 1), pending) := by
    by_cases w : 16 ≤ s.pack.lastServed.val + (m + 1) <;> simp [tableAt, table, pending, wrapped, w]
  have skips := search_skips (s := s) s.pack.lastServed s.pack.table s.pack.pendingTable m (31 - m + 1)
    (by omega) fun i lo hi => by rw [fst]; exact none_ i lo (by omega)
  rw [show 31 - m + 1 + m = 32 by omega] at skips
  rw [skips, search_succ (31 - m) (phaseAt_succ s.pack.lastServed m) (tableAt_succ _ _ _ (by omega)), snd]
  change (match (s.stream (table (m + 1))[phase (m + 1)]).readyBuf with
    | some k => some ((table (m + 1))[phase (m + 1)], k, phase (m + 1), table (m + 1), pending)
    | none => s.search (31 - m) (phase (m + 1)) (table (m + 1)) pending) = _
  rw [hk]

/-- Settles O35: the table word by word, and the search by the phases it passes over. -/
theorem arbitrationServesTheNextReadyPhase : Obligations.ArbitrationServesTheNextReadyPhase := by
  refine ⟨fun s tag p0 p1 p2 p3 => setArbTable_ends s tag p0 p1 p2 p3, fun s n h1 h16 => ?_⟩
  intro phase wrapped table pending none_ k hk
  have found := search_serves s n h1 h16 none_ k hk
  refine ⟨found, fun hj hc => ?_⟩
  intro v
  have chosen := packChoose_of_found hj hc hk found
  obtain ⟨w, waits, same⟩ := waitTest_eq (s.modPack fun p =>
    { p with chosen := some ((table n)[phase n], k), lastServed := phase n, table := table n, pendingTable := pending })
  have state : v = _ := chosen.trans same
  rw [state]
  exact ⟨rfl, rfl, rfl, rfl, hj, rfl, rfl, rfl⟩

end Sys2Proof.Machine
end

section
/-! The chunk pool: the POOL hold, give-ups, and the grant that starts a job (chapter 2, 1.5). -/

namespace Sys2Proof.Machine

variable {s : State}

/-! ## The POOL hold (R42) -/

/-- R42: the record of a transition. -/
def holdRecord (s : State) (on : Bool) : Record :=
  { kind := .poolHold, byte1 := if on then 1 else 0, e0 := w32 s.usable, e1 := w32 s.freePages
    e2 := w32 s.params.restoreReserve }

theorem holdTest_off (h : s.pool.hold = true) (hu : s.params.poolHoldOff ≤ s.usable) :
    s.holdTest = (s.modPool fun p => { p with hold := false }).emit (holdRecord s false) := by
  simp only [State.holdTest, h, hu, if_true]
  rfl

theorem holdTest_on (h : s.pool.hold = false) (hu : s.usable < s.params.poolHoldOn) : s.holdTest =
    (s.modPool fun p => { p with hold := true, holdTransitions := p.holdTransitions.add 1 }).emit (holdRecord s true) := by
  simp only [State.holdTest, h, hu, if_true]
  rfl

theorem holdTest_still
    (h : if s.pool.hold then s.usable < s.params.poolHoldOff else s.params.poolHoldOn ≤ s.usable) : s.holdTest = s := by
  unfold State.holdTest
  cases hold : s.pool.hold <;> simp only [hold, if_true, Bool.false_eq_true, if_false] at h ⊢
  · rw [if_neg (by omega)]
  · rw [if_neg (by omega)]

/-- Settles O39: the test at either side of its two bounds. -/
theorem poolHoldFollowsTheUsableCount : Obligations.PoolHoldFollowsTheUsableCount := by
  intro s t
  refine ⟨?_, (holdTest_records s).2.1, mem_of_outside s.holdTest_outside, s.holdTest_streams, s.holdTest_chans, ?_, ?_⟩
  all_goals cases hold : s.pool.hold
  case refine_1.false =>
    by_cases hu : s.usable < s.params.poolHoldOn
    · simp [t, holdTest_on hold hu, hu]
    · simp [t, holdTest_still (s := s) (by simpa [hold] using hu), hu, hold]
  case refine_1.true =>
    by_cases hu : s.usable < s.params.poolHoldOff
    · simp [t, holdTest_still (s := s) (by simpa [hold] using hu), hu, hold]
    · simp [t, holdTest_off hold (Nat.not_lt.1 hu), hu]
  case refine_2.false =>
    intro same
    refine holdTest_still ?_
    by_cases hu : s.usable < s.params.poolHoldOn
    · simp [t, holdTest_on hold hu] at same
    · simpa [hold] using hu
  case refine_2.true =>
    intro same
    refine holdTest_still ?_
    by_cases hu : s.usable < s.params.poolHoldOff
    · simpa [hold] using hu
    · simp [t, holdTest_off hold (Nat.not_lt.1 hu)] at same
  case refine_3.false =>
    intro moved room
    by_cases hu : s.usable < s.params.poolHoldOn
    · simp only [t, holdTest_on hold hu, State.emit_pool, State.modPool_pool]
      rw [emit_buffer_of_room _ (by exact room)]
      rfl
    · exact absurd (congrArg (·.pool.hold) (holdTest_still (s := s) (by simpa [hold] using hu))) (by simpa [t, hold] using moved)
  case refine_3.true =>
    intro moved room
    by_cases hu : s.usable < s.params.poolHoldOff
    · exact absurd (congrArg (·.pool.hold) (holdTest_still (s := s) (by simpa [hold] using hu))) (by simpa [t, hold] using moved)
    · simp only [t, holdTest_off hold (Nat.not_lt.1 hu), State.emit_pool, State.modPool_pool]
      rw [emit_buffer_of_room _ (by exact room)]
      rfl

/-! ## Give-ups (R34) -/

/-- R34: the record with one placement fewer outstanding. -/
theorem giveUp_last {id : Nat} {r : ChunkRec} (h : s.findRec id = some r) (hn : r.outstanding ≤ 1) :
    s.giveUp id = (s.modRec id fun x => { x with outstanding := x.outstanding - 1 }).freeRec id := by
  simp only [State.giveUp, h, hn, if_true]

theorem giveUp_more {id : Nat} {r : ChunkRec} (h : s.findRec id = some r) (hn : 1 < r.outstanding) :
    s.giveUp id = s.modRec id fun x => { x with outstanding := x.outstanding - 1 } := by
  simp only [State.giveUp, h, Nat.not_le.2 hn, if_false]

theorem giveUp_mem (id : Nat) (s : State) : (s.giveUp id).mem = s.mem := mem_of_outside (State.giveUp_outside ..)

theorem findRec_freeRec_self {id : Nat} {r : ChunkRec} (h : s.findRec id = some r) : (s.freeRec id).findRec id = none := by
  obtain ⟨records, -, -⟩ := freeRec_pool s h
  rw [State.findRec, records]
  exact find_filter_self id s.pool.records

/-- Settles O40: a give-up takes one placement off, and the last one returns the record's pages. -/
theorem giveUpsConserveThePages : Obligations.GiveUpsConserveThePages := by
  intro s id r distinct hr pages
  let less (x : ChunkRec) : ChunkRec := { x with outstanding := x.outstanding - 1 }
  have count (t : State) : pages t = t.pool.free.length + t.pool.reservation.length + heldPages t.pool.records := rfl
  have found : (s.modRec id less).findRec id = some (less r) := by
    rw [State.findRec_modRec s id less fun _ => rfl, hr]; rfl
  have held : heldPages (s.modRec id less).pool.records = heldPages s.pool.records :=
    heldPages_map _ (fun x => by split <;> rfl) s.pool.records
  have apart : (s.modRec id less).pool.records.Pairwise fun a b => a.id ≠ b.id := by
    have same : ∀ x : ChunkRec, (if x.id = id then less x else x).id = x.id := fun x => by split <;> rfl
    exact List.pairwise_map.2 (distinct.imp fun h => by rwa [same, same])
  refine ⟨?_, ?_, giveUp_mem id s, fun last => ?_, fun more => ?_⟩
  · rcases Nat.lt_or_ge 1 r.outstanding with more | last
    · rw [giveUp_more hr more, count, count, held]
      rfl
    · obtain ⟨records, free, reservation⟩ := freeRec_pool _ found
      have gone := heldPages_filter_ne apart found
      rw [held] at gone
      rw [giveUp_last hr last, count, count, records, free, reservation]
      simp only [List.length_append, State.modRec, State.modPool_pool] at gone ⊢
      simp only [less] at gone ⊢
      omega
  · obtain ⟨records, free, reservation⟩ := returnPages_pool (s.modPool fun p => { p with reservation := [] }) s.pool.reservation
    rw [State.returnReservation, count, count, records, free, reservation]
    simp
  · obtain ⟨-, free, -⟩ := freeRec_pool _ found
    rw [giveUp_last hr last]
    exact ⟨findRec_freeRec_self found, free⟩
  · rw [giveUp_more hr more]
    exact ⟨rfl, found⟩

/-! ## Grants (R31, R14) -/

theorem pagesFor_eq (n : Nat) : pagesFor n = (10 + n + 511) / 512 := by
  rw [pagesFor, ceilDiv]
  omega

theorem grantable_iff (s : State) (n : Nat) : s.grantable n = true ↔ n ≤ s.usable ∧ 64 < s.freeRecords := by
  rw [State.grantable, Bool.and_eq_true, decide_eq_true_eq, decide_eq_true_eq]
  rfl

theorem exec_poolGrant {t : Tag} {k : BufId} (hc : s.pack.chosen = some (t, k)) (hj : s.pack.job = none)
    (hd : s.pack.draining = none) : exec .poolGrant s =
      if s.grantable (pagesFor ((s.stream t).buf k).bytes.length) then .next (s.packStart t k) else .next s.waitTest := by
  change execPoolGrant s = _
  simp only [execPoolGrant, hc, hj, hd]
  rfl

theorem waitTest_of_refused {t : Tag} {k : BufId} (hc : s.pack.chosen = some (t, k))
    (hg : s.grantable (pagesFor ((s.stream t).buf k).bytes.length) = false) : s.waitTest = if s.pack.waiting then s else { s with
      pack := { s.pack with waiting := true }, pool := { s.pool with waits := s.pool.waits.add 1 } } := by
  have len : s.chosenLen = some ((s.stream t).buf k).bytes.length := by rw [State.chosenLen, hc]; rfl
  cases hw : s.pack.waiting <;> simp only [State.waitTest, len, hw, hg] <;> rfl

theorem buf_setBuf (x : Stream) (k : BufId) (f : FillBuf) :
    (x.setBuf k f).buf k = f ∧ (x.setBuf k f).buf k.other = x.buf k.other := by
  cases k <;> exact ⟨rfl, rfl⟩

/-- A change of one buffer is no change of the rest of the stream's record. -/
theorem setBuf_same (x : Stream) (k : BufId) (f : FillBuf) : ∃ a b, x.setBuf k f = { x with bufA := a, bufB := b } := by
  cases k <;> exact ⟨_, _, rfl⟩

theorem stream_of_streams {t : State} (h : t.streams = s.streams) (o : Tag) : t.stream o = s.stream o :=
  congrArg (fun v : Vector Stream 8 => v[o]) h

theorem chan_of_chans {t : State} (h : t.chans = s.chans) (d : Drive) : t.chan d = s.chan d :=
  congrArg (fun v : Vector Channel 2 => v[d]) h

/-- An access that joins the part-owned queue is issued at once, or waits in it. -/
theorem issued_or_waits (p : Port) (o : Owned) : (p.joinOwned o).issued = some (.owned o) ∨ o ∈ (p.joinOwned o).ownWait := by
  obtain ⟨fs, os, i, fav⟩ := p
  cases i with
  | some i => exact .inr (by simp [Port.joinOwned])
  | none => cases fs with
    | nil => cases os with
      | nil => exact .inl rfl
      | cons x os => exact .inr (by simp [Port.joinOwned, Port.issue])
    | cons f fs => cases fav with
      | forwarded => exact .inr (by cases os <;> simp [Port.joinOwned, Port.issue])
      | owned => cases os with
        | nil => exact .inl rfl
        | cons x os => exact .inr (by simp [Port.joinOwned, Port.issue])

theorem startJob_atPort (s : State) (e : Engine) : (s.startJob e).jobAtPort e := issued_or_waits s.path.port (.job e)

theorem jobMode_iff (x : Stream) (n : Nat) : (x.jobMode n = .encode ↔ x.policy = .pack ∧ x.skip = 0 ∧ 0 < n)
    ∧ (x.jobMode n ≠ .encode → x.jobMode n = .copy) := by
  rw [Stream.jobMode]
  split <;> simp_all

/-- Settles O36: the state of the grant, and the wait where its conditions do not hold. -/
theorem poolGrantStartsTheChosenJob : Obligations.PoolGrantStartsTheChosenJob := by
  intro s t k hc hj hd x n need
  have arm := exec_poolGrant hc hj hd
  refine ⟨fun enough records => ?_, fun wanting => ?_⟩
  · have granted : s.grantable (pagesFor n) = true := (grantable_iff s need).2 ⟨enough, records⟩
    let p := s.packReserved t k
    obtain ⟨hrec, hfree, hres⟩ := holdTest_records p
    have streams : (s.packStart t k).streams = p.streams := State.holdTest_streams p
    have pack : (s.packStart t k).pack = p.pack := State.holdTest_pack p
    have self : (s.packStart t k).stream t = { x with skip := x.skipAtStart n }.setBuf k { x.buf k with state := .packing } :=
      (stream_of_streams streams t).trans (State.stream_setStream_self ..)
    obtain ⟨a, b, same⟩ := setBuf_same { x with skip := x.skipAtStart n } k { x.buf k with state := .packing }
    obtain ⟨mine, other⟩ := buf_setBuf { x with skip := x.skipAtStart n } k { x.buf k with state := .packing }
    refine ⟨s.packStart t k, arm.trans (if_pos granted), hres, hfree, ?_, ?_, ?_, ?_, ?_, ?_, ?_, fun o ho => ?_, ?_, ?_, ?_, ?_,
      ?_, ?_, ?_, ?_⟩
    · rw [self, mine]
    · rw [self, other]
      cases k <;> rfl
    · rw [self, same]; rfl
    · rw [self, same]
    · rw [self, same]
    · rw [self, same]
    · rw [self, same]
    · exact (stream_of_streams streams o).trans (State.stream_setStream_ne _ _ _ _ (Ne.symm ho))
    · rw [pack]; rfl
    · rw [pack]; rfl
    · obtain ⟨mode, copy⟩ := jobMode_iff x n
      refine ⟨_, by rw [pack]; rfl, rfl, rfl, rfl, rfl, mode, copy, by rw [pack]; rfl, by rw [pack]; rfl,
        startedRecord t x (x.buf k) (lowestFree 0 s.pool.records), ?_, rfl, rfl, rfl, rfl, rfl, rfl⟩
      rw [show (s.packStart t k).pool.records = p.pool.records from hrec]
      exact mem_insertRec.2 (.inl rfl)
    · exact startJob_atPort _ _
    · exact (mem_of_outside (State.holdTest_outside p)).trans rfl
    · exact (State.holdTest_chans p).trans rfl
    · exact (State.holdTest_loader p).trans rfl
    · exact (State.holdTest_restore p).trans rfl
  · have refused : s.grantable (pagesFor n) = false := by
      rw [← Bool.not_eq_true, grantable_iff, pagesFor_eq]
      change ¬ (need ≤ _ ∧ _)
      omega
    exact arm.trans ((if_neg (by rw [refused]; exact Bool.false_ne_true)).trans (congrArg _ (waitTest_of_refused hc refused)))

end Sys2Proof.Machine
end

section
/-! What an abort of a stream does: its buffers, its job, its chunks in the placement queues, and its record (3.6). -/

namespace Sys2Proof.Machine

variable {s t u : State}

/-! ## Chunk records that are looked up -/

/-- A change of records that leaves their numbers is found as it is made. -/
theorem find_map_ids (id : Nat) (f : ChunkRec → ChunkRec) (hf : ∀ r, (f r).id = r.id) (l : List ChunkRec) :
    (l.map f).find? (·.id == id) = (l.find? (·.id == id)).map f := by
  rw [List.find?_map]
  exact congrArg (fun q => (l.find? q).map f) (funext fun r => congrArg (· == id) (hf r))

theorem find_filter_ne {id k : Nat} (h : k ≠ id) (l : List ChunkRec) :
    (l.filter (·.id ≠ id)).find? (·.id == k) = l.find? (·.id == k) := by
  rw [List.find?_filter]
  refine congrArg (l.find? ·) (funext fun r => ?_)
  by_cases e : r.id = k <;> simp [e, h]

theorem findRec_modRec_ne {id k : Nat} (h : k ≠ id) (f : ChunkRec → ChunkRec) (hf : ∀ r, (f r).id = r.id) (s : State) :
    (s.modRec id f).findRec k = s.findRec k := by
  have look := find_map_ids k (fun r => if r.id = id then f r else r) (fun r => by split <;> simp [hf]) s.pool.records
  refine look.trans ?_
  change (s.findRec k).map _ = s.findRec k
  cases hr : s.findRec k with
  | none => rfl
  | some r =>
    have hid : r.id = k := State.findRec_id s hr
    simp [hid, h]

theorem findRec_freeRec_ne {id k : Nat} (h : k ≠ id) (s : State) : (s.freeRec id).findRec k = s.findRec k := by
  cases hr : s.findRec id with
  | none => rw [freeRec_absent s hr]
  | some r =>
    obtain ⟨records, -, -⟩ := freeRec_pool s hr
    rw [State.findRec, records, find_filter_ne h]
    rfl

theorem findRec_giveUp_ne {id k : Nat} (h : k ≠ id) (s : State) : (s.giveUp id).findRec k = s.findRec k := by
  cases hr : s.findRec id with
  | none => simp only [State.giveUp, hr]
  | some r =>
    have less : (s.modRec id fun x => { x with outstanding := x.outstanding - 1 }).findRec k = s.findRec k :=
      findRec_modRec_ne h (fun x => { x with outstanding := x.outstanding - 1 }) (fun _ => rfl) s
    rcases Nat.lt_or_ge 1 r.outstanding with more | last
    · rw [giveUp_more hr more, less]
    · rw [giveUp_last hr last, findRec_freeRec_ne h, less]

theorem findRec_giveUpAll_ne {k : Nat} : ∀ (ids : List Nat) (s : State), k ∉ ids → (s.giveUpAll ids).findRec k = s.findRec k
  | [], _, _ => rfl
  | id :: ids, s, h => by
    have ⟨h1, h2⟩ := not_or.1 (mt List.mem_cons.2 h)
    exact (findRec_giveUpAll_ne ids (s.giveUp id) h2).trans (findRec_giveUp_ne h1 s)

/-- Every record of `t` is one of `s`, of the same role. -/
def FewerRecords (s t : State) : Prop := ∀ id r, t.findRec id = some r → ∃ x, s.findRec id = some x ∧ x.role = r.role

theorem FewerRecords.refl (s : State) : FewerRecords s s := fun _ r h => ⟨r, h, rfl⟩

theorem FewerRecords.trans (h : FewerRecords s t) (k : FewerRecords t u) : FewerRecords s u := fun id r hr => by
  obtain ⟨x, hx, ex⟩ := k id r hr
  obtain ⟨y, hy, ey⟩ := h id x hx
  exact ⟨y, hy, ey.trans ex⟩

theorem FewerRecords.of_records (h : t.pool.records = s.pool.records) : FewerRecords s t := fun id r hr =>
  ⟨r, by rw [State.findRec, ← h]; exact hr, rfl⟩

theorem FewerRecords.map {f : ChunkRec → ChunkRec} (hf : ∀ r, (f r).id = r.id) (hrole : ∀ r, (f r).role = r.role)
    (h : t.pool.records = s.pool.records.map f) : FewerRecords s t := fun id r hr => by
  rw [State.findRec, h, find_map_ids id f hf] at hr
  obtain ⟨x, hx, rfl⟩ := Option.map_eq_some_iff.1 hr
  exact ⟨x, hx, (hrole x).symm⟩

theorem FewerRecords.freeRec (s : State) (id : Nat) : FewerRecords s (s.freeRec id) := fun k r hr => by
  by_cases e : k = id
  · subst e
    cases hk : s.findRec k with
    | none => rw [freeRec_absent s hk, hk] at hr; cases hr
    | some x => rw [findRec_freeRec_self hk] at hr; cases hr
  · exact ⟨r, by rwa [findRec_freeRec_ne e] at hr, rfl⟩

theorem FewerRecords.giveUp (s : State) (id : Nat) : FewerRecords s (s.giveUp id) := by
  have less : FewerRecords s (s.modRec id fun x => { x with outstanding := x.outstanding - 1 }) :=
    FewerRecords.map (f := fun r => if r.id = id then { r with outstanding := r.outstanding - 1 } else r)
      (fun r => by split <;> rfl) (fun r => by split <;> rfl) rfl
  cases hr : s.findRec id with
  | none => rw [show s.giveUp id = s by simp only [State.giveUp, hr]]; exact .refl s
  | some r =>
    rcases Nat.lt_or_ge 1 r.outstanding with more | last
    · rw [giveUp_more hr more]; exact less
    · rw [giveUp_last hr last]; exact less.trans (.freeRec _ id)

theorem FewerRecords.giveUpAll : ∀ (ids : List Nat) (s : State), FewerRecords s (s.giveUpAll ids)
  | [], s => .refl s
  | id :: ids, s => (FewerRecords.giveUp s id).trans (FewerRecords.giveUpAll ids (s.giveUp id))

/-! ## Records that an event adds -/

/-- At most `n` records join the buffer, and the bounds of the status ring stay. -/
def GrowsBy (n : Nat) (s t : State) : Prop :=
  t.ring.buffer.length ≤ s.ring.buffer.length + n ∧ t.ring.s = s.ring.s ∧ t.ring.u = s.ring.u ∧ t.ring.reserved = s.ring.reserved

theorem GrowsBy.of_ring (n : Nat) (h : t.ring = s.ring) : GrowsBy n s t := by
  rw [GrowsBy, h]
  exact ⟨Nat.le_add_right .., rfl, rfl, rfl⟩

theorem GrowsBy.trans {m n : Nat} (h : GrowsBy m s t) (k : GrowsBy n t u) : GrowsBy (m + n) s u := by
  obtain ⟨len, hs, hu, hr⟩ := h
  obtain ⟨len', hs', hu', hr'⟩ := k
  exact ⟨by omega, hs'.trans hs, hu'.trans hu, hr'.trans hr⟩

theorem GrowsBy.mono {m n : Nat} (h : GrowsBy m s t) (le : m ≤ n) : GrowsBy n s t := ⟨by have := h.1; omega, h.2⟩

theorem GrowsBy.emit (s : State) (r : Record) : GrowsBy 1 s (s.emit r) := by
  obtain ⟨-, -, hs, hu, -, -, hr, -⟩ := s.emit_ring r
  refine ⟨?_, hs, hu, hr⟩
  by_cases h : s.ring.room = true
  · rw [emit_buffer_of_room r h, List.length_append]; simp
  · rw [emit_buffer_of_full r (by simpa using h)]; omega

/-- R42: a test of the POOL hold leaves everything, or makes a transition and writes its record. -/
theorem holdTest_cases (s : State) : s.holdTest = s ∨ ∃ on n,
    s.holdTest = (s.modPool fun p => { p with hold := on, holdTransitions := n }).emit (holdRecord s on) := by
  cases hold : s.pool.hold
  · by_cases hu : s.usable < s.params.poolHoldOn
    · exact .inr ⟨true, _, holdTest_on hold hu⟩
    · exact .inl (holdTest_still (by simpa [hold] using hu))
  · by_cases hu : s.usable < s.params.poolHoldOff
    · exact .inl (holdTest_still (by simpa [hold] using hu))
    · exact .inr ⟨false, _, holdTest_off hold (Nat.not_lt.1 hu)⟩

theorem GrowsBy.holdTest (s : State) : GrowsBy 1 s s.holdTest := by
  obtain h | ⟨on, n, h⟩ := holdTest_cases s
  · rw [h]; exact .of_ring 1 rfl
  · rw [h]; exact .emit _ _

theorem GrowsBy.returnPages (s : State) (pages : List Nat) : GrowsBy 1 s (s.returnPages pages) := by
  unfold State.returnPages
  split
  · exact .of_ring 1 rfl
  · exact (GrowsBy.of_ring 0 rfl).trans (.holdTest _)

theorem GrowsBy.freeRec (s : State) (id : Nat) : GrowsBy 1 s (s.freeRec id) := by
  unfold State.freeRec
  split
  · exact .of_ring 1 rfl
  · exact (GrowsBy.of_ring 0 rfl).trans (.returnPages _ _)

theorem GrowsBy.giveUp (s : State) (id : Nat) : GrowsBy 1 s (s.giveUp id) := by
  unfold State.giveUp
  split
  · exact .of_ring 1 rfl
  · dsimp only
    split
    · exact (GrowsBy.of_ring 0 rfl).trans (.freeRec _ _)
    · exact .of_ring 1 rfl

theorem GrowsBy.giveUpAll : ∀ (ids : List Nat) (s : State), GrowsBy ids.length s (s.giveUpAll ids)
  | [], _ => .of_ring 0 rfl
  | id :: ids, s => by
    rw [List.length_cons, Nat.add_comm]
    exact (GrowsBy.giveUp s id).trans (GrowsBy.giveUpAll ids (s.giveUp id))

/-- Room is left where the records that may have joined, one more and the reserved one have places. -/
theorem GrowsBy.room {n : Nat} (h : GrowsBy n s t) (hp : n + 2 ≤ s.ring.freePlaces)
    (hb : s.ring.buffer.length + (n + 2) ≤ 32) : t.ring.room = true := by
  obtain ⟨len, hs, hu, hr⟩ := h
  have slots : Config.statusSlots = 256 := rfl
  have places : Config.recordBuffer = 32 := rfl
  simp only [Ring.freePlaces, slots] at hp
  simp only [Ring.room, Ring.freePlaces, slots, places, hs, hu, hr, Bool.and_eq_true, decide_eq_true_eq]
  cases s.ring.reserved <;> simp only [Bool.false_eq_true, if_true, if_false] <;> omega

/-! ## A stream's chunks leave a placement queue (R57) -/

/-- A chunk record is one of a stream's backup chunks. -/
def State.isBackup (s : State) (t : Tag) (id : Nat) : Bool :=
  match s.findRec id with
  | some r => r.role == .backup t
  | none => false

theorem dropQueued_eq (s : State) (k : Tag) (d : Drive) : s.dropQueued k d =
    (s.modChan d fun c => { c with placeQueue := c.placeQueue.filter fun id => !s.isBackup k id }).giveUpAll
      ((s.chan d).placeQueue.filter (s.isBackup k)) := rfl

theorem dropQueued_chan_self (s : State) (k : Tag) (d : Drive) : (s.dropQueued k d).chan d =
    { s.chan d with placeQueue := (s.chan d).placeQueue.filter fun id => !s.isBackup k id } := by
  rw [dropQueued_eq, chan_of_chans (State.giveUpAll_chans _ _), State.chan_modChan_self]

theorem dropQueued_chan_ne (s : State) (k : Tag) {d e : Drive} (h : d ≠ e) : (s.dropQueued k d).chan e = s.chan e := by
  rw [dropQueued_eq, chan_of_chans (State.giveUpAll_chans _ _), State.chan_modChan_ne _ _ _ _ h]

theorem dropQueued_fewer (s : State) (k : Tag) (d : Drive) : FewerRecords s (s.dropQueued k d) :=
  (FewerRecords.of_records rfl).trans (.giveUpAll _ _)

theorem dropQueued_grows (s : State) (k : Tag) (d : Drive) : GrowsBy (s.chan d).placeQueue.length s (s.dropQueued k d) := by
  have grows := (GrowsBy.of_ring (s := s) (t := s.modChan d fun c => { c with
    placeQueue := c.placeQueue.filter fun id => !s.isBackup k id }) 0 rfl).trans (.giveUpAll
    ((s.chan d).placeQueue.filter (s.isBackup k)) _)
  exact grows.mono (by simpa using List.length_filter_le _ _)

theorem dropQueued_findRec (k : Tag) {d : Drive} {id : Nat} (h : id ∉ (s.chan d).placeQueue) :
    (s.dropQueued k d).findRec id = s.findRec id :=
  findRec_giveUpAll_ne _ _ fun mem => h (List.mem_of_mem_filter mem)

/-- No chunk of a stream stands in a channel's placement queue. -/
def State.freeOf (s : State) (k : Tag) (d : Drive) : Prop :=
  ∀ id r, id ∈ (s.chan d).placeQueue → s.findRec id = some r → r.role ≠ .backup k

theorem freeOf_of_fewer {k : Tag} {d : Drive} (h : s.freeOf k d) (fewer : FewerRecords s t)
    (sub : ∀ id, id ∈ (t.chan d).placeQueue → id ∈ (s.chan d).placeQueue) : t.freeOf k d := fun id r hid hr => by
  obtain ⟨x, hx, role⟩ := fewer id r hr
  rw [← role]
  exact h id x (sub id hid) hx

theorem dropQueued_free (s : State) (k : Tag) (d : Drive) : (s.dropQueued k d).freeOf k d := fun id r hid hr => by
  obtain ⟨x, hx, role⟩ := dropQueued_fewer s k d id r hr
  rw [dropQueued_chan_self] at hid
  have kept : s.isBackup k id = false := by simpa using (List.mem_filter.1 hid).2
  simpa [State.isBackup, hx, role] using kept

/-! ## The abort (R57) -/

/-- R57: the stream's buffers are emptied, and its job and its choice are dropped. -/
def State.abortEmptied (s : State) (k : Tag) : State :=
  (s.setStream k { s.stream k with bufA := (s.stream k).bufA.aborted, bufB := (s.stream k).bufB.aborted }).modPack fun p =>
    { p with
      job := p.job.map fun j => if j.tag = k then { j with discarded := true } else j
      chosen := p.chosen.filter fun c => c.1 ≠ k
      waiting := p.waiting && (match p.chosen with | some c => c.1 != k | none => false) }

/-- R57: its chunks have left both placement queues, and those that stay in images are orphans. -/
def State.abortDropped (s : State) (k : Tag) : State :=
  (((s.abortEmptied k).dropQueued k 0).dropQueued k 1).modPool fun p =>
    { p with records := p.records.map fun r => if r.role = .backup k then { r with orphan := true } else r }

/-- R56: an ENDING stream ends with CANCELLED. -/
def State.abortEnded (s : State) (k : Tag) (x : Stream) : State :=
  if x.state = .ending then
    s.emit { kind := .streamEnded, byte1 := CmdOutcome.cancelled.code, tag := x.endTag.getD 0, subject := BitVec.ofNat 16 k.val }
  else s

def Stream.closing (x : Stream) : Stream :=
  { x with state := .closed, causeCommand := false, causePreempt := false, admin := false, endTag := none, finalClose := false }

theorem abortCore_closed {k : Tag} (cause : Cause) (chan : Option Drive) (h : (s.stream k).state = .closed) :
    s.abortCore k cause chan = s := if_pos h

theorem abortCore_eq {k : Tag} (cause : Cause) (chan : Option Drive) (h : (s.stream k).state ≠ .closed) :
    s.abortCore k cause chan = (((s.abortDropped k).abortEnded k (s.stream k)).emit
      (abortRecord k (s.stream k) cause chan)).modStream k Stream.closing := if_neg h

theorem abortDropped_streams (s : State) (k : Tag) : (s.abortDropped k).streams = (s.abortEmptied k).streams := by
  rw [State.abortDropped, State.modPool_streams, State.dropQueued_streams, State.dropQueued_streams]

theorem abortEnded_same (s : State) (k : Tag) (x : Stream) : (s.abortEnded k x).streams = s.streams
    ∧ (s.abortEnded k x).chans = s.chans ∧ (s.abortEnded k x).pool = s.pool ∧ (s.abortEnded k x).pack = s.pack
    ∧ (s.abortEnded k x).loader = s.loader ∧ (s.abortEnded k x).restore = s.restore := by
  unfold State.abortEnded
  split <;> simp

/-- R57: what the record of an aborted stream becomes. -/
theorem abortCore_stream_self {k : Tag} (cause : Cause) (chan : Option Drive) (h : (s.stream k).state ≠ .closed) :
    (s.abortCore k cause chan).stream k = Stream.closing { s.stream k with
      bufA := (s.stream k).bufA.aborted, bufB := (s.stream k).bufB.aborted } := by
  rw [abortCore_eq cause chan h, State.stream_modStream_self, stream_of_streams (State.emit_streams _ _),
    stream_of_streams (abortEnded_same _ _ _).1, stream_of_streams (abortDropped_streams s k)]
  exact congrArg _ (State.stream_setStream_self ..)

theorem stream_modStream_ne {k o : Tag} (f : Stream → Stream) (h : k ≠ o) : (s.modStream k f).stream o = s.stream o :=
  State.stream_setStream_ne _ _ _ _ h

theorem abortCore_stream_ne {k o : Tag} (cause : Cause) (chan : Option Drive) (h : o ≠ k) :
    (s.abortCore k cause chan).stream o = s.stream o := by
  by_cases hc : (s.stream k).state = .closed
  · rw [abortCore_closed cause chan hc]
  · rw [abortCore_eq cause chan hc, stream_modStream_ne _ h.symm, stream_of_streams (State.emit_streams _ _),
      stream_of_streams (abortEnded_same _ _ _).1, stream_of_streams (abortDropped_streams s k)]
    exact State.stream_setStream_ne _ _ _ _ h.symm

/-- R57: an aborted stream is CLOSED, and no other one changes its state. -/
theorem abortCore_closes (s : State) (k : Tag) (cause : Cause) (chan : Option Drive) :
    ((s.abortCore k cause chan).stream k).state = .closed := by
  by_cases hc : (s.stream k).state = .closed
  · rw [abortCore_closed cause chan hc, hc]
  · rw [abortCore_stream_self cause chan hc]
    rfl

theorem abortCore_pack {k : Tag} (cause : Cause) (chan : Option Drive) (h : (s.stream k).state ≠ .closed) :
    (s.abortCore k cause chan).pack = (s.abortEmptied k).pack := by
  rw [abortCore_eq cause chan h, State.modStream_pack, State.emit_pack, (abortEnded_same _ _ _).2.2.2.1, State.abortDropped,
    State.modPool_pack, State.dropQueued_pack, State.dropQueued_pack]

theorem abortCore_pool {k : Tag} (cause : Cause) (chan : Option Drive) (h : (s.stream k).state ≠ .closed) :
    (s.abortCore k cause chan).pool = (s.abortDropped k).pool := by
  rw [abortCore_eq cause chan h, State.modStream_pool, State.emit_pool, (abortEnded_same _ _ _).2.2.1]

theorem abortCore_chans {k : Tag} (cause : Cause) (chan : Option Drive) (h : (s.stream k).state ≠ .closed) :
    (s.abortCore k cause chan).chans = (s.abortDropped k).chans := by
  rw [abortCore_eq cause chan h, State.modStream_chans, State.emit_chans, (abortEnded_same _ _ _).2.1]

theorem abortCore_restore (s : State) (k : Tag) (cause : Cause) (chan : Option Drive) :
    (s.abortCore k cause chan).restore = s.restore := by
  by_cases hc : (s.stream k).state = .closed
  · rw [abortCore_closed cause chan hc]
  · rw [abortCore_eq cause chan hc, State.modStream_restore, State.emit_restore, (abortEnded_same _ _ _).2.2.2.2.2,
      State.abortDropped, State.modPool_restore, State.dropQueued_restore, State.dropQueued_restore]
    rfl

theorem abortCore_loader (s : State) (k : Tag) (cause : Cause) (chan : Option Drive) :
    (s.abortCore k cause chan).loader = s.loader := by
  by_cases hc : (s.stream k).state = .closed
  · rw [abortCore_closed cause chan hc]
  · rw [abortCore_eq cause chan hc, State.modStream_loader, State.emit_loader, (abortEnded_same _ _ _).2.2.2.2.1,
      State.abortDropped, State.modPool_loader, State.dropQueued_loader, State.dropQueued_loader]
    rfl

theorem abortEmptied_chan (s : State) (k : Tag) (d : Drive) : (s.abortEmptied k).chan d = s.chan d := rfl

theorem abortDropped_chan_eq (s : State) (k : Tag) (d : Drive) :
    (s.abortDropped k).chan d = (((s.abortEmptied k).dropQueued k 0).dropQueued k 1).chan d :=
  chan_of_chans (State.modPool_chans ..) d

/-- R57: of a channel, the placement queue alone changes, and it loses chunks alone. -/
theorem abortDropped_chan (s : State) (k : Tag) (d : Drive) : ∃ q, (s.abortDropped k).chan d = { s.chan d with placeQueue := q }
    ∧ ∀ id ∈ q, id ∈ (s.chan d).placeQueue := by
  match d with
  | 0 =>
    refine ⟨(s.chan 0).placeQueue.filter fun id => !(s.abortEmptied k).isBackup k id, ?_, fun id hid => (List.mem_filter.1 hid).1⟩
    rw [abortDropped_chan_eq, dropQueued_chan_ne _ k (by decide), dropQueued_chan_self, abortEmptied_chan]
  | 1 =>
    refine ⟨(s.chan 1).placeQueue.filter fun id => !((s.abortEmptied k).dropQueued k 0).isBackup k id, ?_, fun id hid =>
      (List.mem_filter.1 hid).1⟩
    rw [abortDropped_chan_eq, dropQueued_chan_self, dropQueued_chan_ne _ k (by decide), abortEmptied_chan]

theorem abortDropped_fewer (s : State) (k : Tag) : FewerRecords s (s.abortDropped k) := by
  have dropped : FewerRecords s (((s.abortEmptied k).dropQueued k 0).dropQueued k 1) :=
    (FewerRecords.of_records rfl).trans ((dropQueued_fewer (s.abortEmptied k) k 0).trans (dropQueued_fewer _ k 1))
  exact dropped.trans (.map (f := fun r => if r.role = .backup k then { r with orphan := true } else r)
    (fun r => by split <;> rfl) (fun r => by split <;> rfl) rfl)

theorem abortDropped_free (s : State) (k : Tag) (d : Drive) : (s.abortDropped k).freeOf k d := by
  have orphans : FewerRecords (((s.abortEmptied k).dropQueued k 0).dropQueued k 1) (s.abortDropped k) :=
    .map (f := fun r => if r.role = .backup k then { r with orphan := true } else r)
      (fun r => by split <;> rfl) (fun r => by split <;> rfl) rfl
  refine freeOf_of_fewer ?_ orphans fun _ mem => by rwa [abortDropped_chan_eq] at mem
  match d with
  | 0 =>
    refine freeOf_of_fewer (dropQueued_free (s.abortEmptied k) k 0) (dropQueued_fewer _ k 1) fun id hid => ?_
    rwa [dropQueued_chan_ne _ k (by decide)] at hid
  | 1 => exact dropQueued_free _ k 1

/-- A chunk record in no placement queue keeps what it holds. -/
theorem abortDropped_findRec {k : Tag} {id : Nat} {r : ChunkRec} (hr : s.findRec id = some r)
    (h : ∀ d, id ∉ (s.chan d).placeQueue) : ∃ b, (s.abortDropped k).findRec id = some { r with orphan := b } := by
  have first : ((s.abortEmptied k).dropQueued k 0).findRec id = some r := (dropQueued_findRec (s := s.abortEmptied k) k (h 0)).trans hr
  have second : (((s.abortEmptied k).dropQueued k 0).dropQueued k 1).findRec id = some r := by
    refine (dropQueued_findRec k ?_).trans first
    rw [dropQueued_chan_ne _ k (by decide), abortEmptied_chan]
    exact h 1
  have orphan := find_map_ids id (fun r => if r.role = .backup k then { r with orphan := true } else r)
    (fun r => by split <;> rfl) (((s.abortEmptied k).dropQueued k 0).dropQueued k 1).pool.records
  refine ⟨if r.role = .backup k then true else r.orphan, orphan.trans ?_⟩
  change ((((s.abortEmptied k).dropQueued k 0).dropQueued k 1).findRec id).map _ = _
  rw [second, Option.map_some]
  split <;> rfl

theorem abortDropped_grows (s : State) (k : Tag) :
    GrowsBy ((s.chan 0).placeQueue.length + (s.chan 1).placeQueue.length) s (s.abortDropped k) := by
  have first : GrowsBy (s.chan 0).placeQueue.length s ((s.abortEmptied k).dropQueued k 0) :=
    ((GrowsBy.of_ring 0 rfl).trans (dropQueued_grows (s.abortEmptied k) k 0)).mono (Nat.le_of_eq (Nat.zero_add _))
  have second : GrowsBy (s.chan 1).placeQueue.length ((s.abortEmptied k).dropQueued k 0)
      (((s.abortEmptied k).dropQueued k 0).dropQueued k 1) := by
    have grows := dropQueued_grows ((s.abortEmptied k).dropQueued k 0) k 1
    rwa [dropQueued_chan_ne _ k (by decide), abortEmptied_chan] at grows
  have orphans : (s.abortDropped k).ring = (((s.abortEmptied k).dropQueued k 0).dropQueued k 1).ring := State.modPool_ring ..
  exact first.trans (second.trans (.of_ring 0 orphans))

theorem abortEnded_grows (s : State) (k : Tag) (x : Stream) : GrowsBy 1 s (s.abortEnded k x) := by
  unfold State.abortEnded
  split
  · exact .emit _ _
  · exact .of_ring 1 rfl

/-! ## What an abort leaves of the other blocks -/

theorem abortCore_chan (s : State) (k : Tag) (cause : Cause) (chan : Option Drive) (d : Drive) :
    ∃ q, (s.abortCore k cause chan).chan d = { s.chan d with placeQueue := q } ∧ ∀ id ∈ q, id ∈ (s.chan d).placeQueue := by
  by_cases hc : (s.stream k).state = .closed
  · rw [abortCore_closed cause chan hc]
    exact ⟨(s.chan d).placeQueue, rfl, fun _ h => h⟩
  · rw [chan_of_chans (abortCore_chans cause chan hc)]
    exact abortDropped_chan s k d

theorem abortCore_queue (s : State) (k : Tag) (cause : Cause) (chan : Option Drive) (d : Drive) (id : Nat)
    (h : id ∈ ((s.abortCore k cause chan).chan d).placeQueue) : id ∈ (s.chan d).placeQueue := by
  obtain ⟨q, hq, sub⟩ := abortCore_chan s k cause chan d
  rw [hq] at h
  exact sub id h

theorem abortCore_fewer (s : State) (k : Tag) (cause : Cause) (chan : Option Drive) : FewerRecords s (s.abortCore k cause chan) := by
  by_cases hc : (s.stream k).state = .closed
  · rw [abortCore_closed cause chan hc]; exact .refl s
  · exact (abortDropped_fewer s k).trans (.of_records (congrArg Pool.records (abortCore_pool cause chan hc)))

theorem abortCore_free {k : Tag} (cause : Cause) (chan : Option Drive) (h : (s.stream k).state ≠ .closed) (d : Drive) :
    (s.abortCore k cause chan).freeOf k d := by
  refine freeOf_of_fewer (abortDropped_free s k d) (.of_records (congrArg Pool.records (abortCore_pool cause chan h)))
    fun id hid => ?_
  rwa [chan_of_chans (abortCore_chans cause chan h)] at hid

/-- R57: STREAM_ABORTED joins behind the other records of the abort, where there is room for them all. -/
theorem abortCore_record {k : Tag} (cause : Cause) (chan : Option Drive) (h : (s.stream k).state ≠ .closed)
    (hp : (s.chan 0).placeQueue.length + (s.chan 1).placeQueue.length + 3 ≤ s.ring.freePlaces)
    (hb : s.ring.buffer.length + ((s.chan 0).placeQueue.length + (s.chan 1).placeQueue.length + 3) ≤ 32) :
    ∃ n, (s.abortCore k cause chan).ring.buffer.getLast? =
      some { abortRecord k (s.stream k) cause chan with dropped := n } := by
  have grows := (abortDropped_grows s k).trans (abortEnded_grows (s.abortDropped k) k (s.stream k))
  have room := grows.room (by omega) (by omega)
  rw [abortCore_eq cause chan h, State.modStream_ring, emit_buffer_of_room _ room]
  exact ⟨_, List.getLast?_concat ..⟩

theorem packChoose_pack (s : State) : ∃ c w p t q, s.packChoose.pack = { s.pack with
    chosen := c, waiting := w, lastServed := p, table := t, pendingTable := q } := by
  unfold State.packChoose
  split
  · exact ⟨_, _, _, _, _, rfl⟩
  · split
    · exact ⟨_, _, _, _, _, rfl⟩
    · obtain ⟨w, n, h⟩ := waitTest_eq (s.modPack fun p => { p with
        chosen := some (_, _), lastServed := _, table := _, pendingTable := _ })
      rw [h]
      exact ⟨_, _, _, _, _, rfl⟩

theorem packChoose_pool (s : State) : ∃ n, s.packChoose.pool = { s.pool with waits := n } := by
  unfold State.packChoose
  split
  · exact ⟨_, rfl⟩
  · split
    · exact ⟨_, rfl⟩
    · obtain ⟨w, n, h⟩ := waitTest_eq (s.modPack fun p => { p with
        chosen := some (_, _), lastServed := _, table := _, pendingTable := _ })
      rw [h]
      exact ⟨_, rfl⟩

theorem packChoose_findRec (s : State) (id : Nat) : s.packChoose.findRec id = s.findRec id := by
  obtain ⟨n, h⟩ := packChoose_pool s
  rw [State.findRec, h]
  rfl

/-- R60: without a READY buffer there is no search. -/
theorem packChoose_of_closed (h : ∀ k, (s.stream k).state = .closed) : s.packChoose = s := by
  have none_ : ¬ (allTags.any fun k => (s.stream k).readyBuf.isSome) = true := by
    rw [List.any_eq_true]
    rintro ⟨k, -, ready⟩
    simp [Stream.readyBuf, h k] at ready
  exact if_pos (.inr (.inr (by simpa using none_)))

/-! ## ABORT_STREAM and RESET_STREAMS (R58) -/

theorem exec_abortStream (tag : Half) (p0 : Word) (s : State) : exec (.abortStream tag p0) s =
    .next (s.command (.abortStream tag p0) 0x14 tag (settled (abortStreamRule p0))) := rfl

theorem exec_resetStreams (tag : Half) (s : State) : exec (.resetStreams tag) s =
    .next (s.command (.resetStreams tag) 0x18 tag (settled resetStreamsRule)) := rfl

theorem aborted_buf (x : Stream) (k : BufId) :
    ((x.buf k).state ≠ .packing → (x.buf k).aborted = {})
    ∧ ((x.buf k).state = .packing → (x.buf k).aborted.state = .packing ∧ (x.buf k).aborted.discarded = true) := by
  refine ⟨fun h => ?_, fun h => ?_⟩
  · cases hs : (x.buf k).state <;> simp_all [FillBuf.aborted]
  · simp [FillBuf.aborted, h]

/-- R58: streams aborted one after the other, here those of a list of tags. -/
theorem abortAll_closes (cause : Cause) : ∀ (ks : List Tag) (s : State),
    let v := forEach ks (fun k u => u.abortCore k cause none) s
    (∀ k, k ∈ ks ∨ (s.stream k).state = .closed → (v.stream k).state = .closed)
    ∧ (∀ k d, (s.freeOf k d ∨ (k ∈ ks ∧ (s.stream k).state ≠ .closed)) → v.freeOf k d)
    ∧ v.pack.table = s.pack.table ∧ v.pack.pendingTable = s.pack.pendingTable ∧ v.pack.lastServed = s.pack.lastServed
  | [], s => ⟨fun k h => h.resolve_left (by simp), fun k d h => h.resolve_right (by simp), rfl, rfl, rfl⟩
  | x :: ks, s => by
    obtain ⟨closes, frees, table, pending, last⟩ := abortAll_closes cause ks (s.abortCore x cause none)
    have pack : (s.abortCore x cause none).pack.table = s.pack.table
        ∧ (s.abortCore x cause none).pack.pendingTable = s.pack.pendingTable
        ∧ (s.abortCore x cause none).pack.lastServed = s.pack.lastServed := by
      by_cases hc : (s.stream x).state = .closed
      · rw [abortCore_closed cause none hc]; exact ⟨rfl, rfl, rfl⟩
      · rw [abortCore_pack cause none hc]; exact ⟨rfl, rfl, rfl⟩
    refine ⟨fun k h => closes k ?_, fun k d h => frees k d ?_, table.trans pack.1, pending.trans pack.2.1, last.trans pack.2.2⟩
    · by_cases e : k = x
      · exact .inr (e ▸ abortCore_closes s x cause none)
      · rw [abortCore_stream_ne cause none e]
        exact h.imp_left fun mem => (List.mem_cons.1 mem).resolve_left e
    · by_cases e : k = x
      · subst e
        refine .inl (h.elim (fun free => ?_) fun ⟨_, open_⟩ => abortCore_free cause none open_ d)
        exact freeOf_of_fewer free (abortCore_fewer s k cause none) (abortCore_queue s k cause none d)
      · rw [abortCore_stream_ne cause none e]
        refine h.imp (fun free => ?_) fun ⟨mem, open_⟩ => ⟨(List.mem_cons.1 mem).resolve_left e, open_⟩
        exact freeOf_of_fewer free (abortCore_fewer s x cause none) (abortCore_queue s x cause none d)

/-- R57: one stream is aborted, and the search is made again. -/
theorem abortStream_effect {k : Tag} (h : (s.stream k).state ≠ .closed) (cause : Cause) (chan : Option Drive) :
    let v := s.abortStream k cause chan
    let x := s.stream k
    v.stream k = Stream.closing { x with bufA := x.bufA.aborted, bufB := x.bufB.aborted }
    ∧ (∀ o, o ≠ k → v.stream o = s.stream o)
    ∧ (∀ j, s.pack.job = some j → v.pack.job = some { j with discarded := j.discarded || j.tag == k })
    ∧ (∀ d id, id ∈ (v.chan d).placeQueue → id ∈ (s.chan d).placeQueue)
    ∧ (∀ d, v.freeOf k d)
    ∧ v.ring = (s.abortCore k cause chan).ring := by
  intro v x
  have streams : v.streams = (s.abortCore k cause chan).streams := State.packChoose_streams _
  have chans : v.chans = (s.abortCore k cause chan).chans := State.packChoose_chans _
  refine ⟨(stream_of_streams streams k).trans (abortCore_stream_self cause chan h),
    fun o ho => (stream_of_streams streams o).trans (abortCore_stream_ne cause chan ho), fun j hj => ?_, fun d id hid => ?_,
    fun d => ?_, State.packChoose_ring _⟩
  · obtain ⟨c, w, p, tab, q, pack⟩ := packChoose_pack (s.abortCore k cause chan)
    have job : v.pack.job = (s.abortCore k cause chan).pack.job := by
      simp only [v, State.abortStream, pack]
    rw [job, abortCore_pack cause chan h]
    change Option.map _ s.pack.job = _
    rw [hj, Option.map_some]
    by_cases e : j.tag = k
    · simp [e]
    · have other : (j.tag == k) = false := by simpa using e
      rw [if_neg e, other, Bool.or_false]
  · rw [chan_of_chans chans] at hid
    exact abortCore_queue s k cause chan d id hid
  · obtain ⟨n, pool⟩ := packChoose_pool (s.abortCore k cause chan)
    have records : v.pool.records = (s.abortCore k cause chan).pool.records := by
      simp only [v, State.abortStream, pool]
    exact freeOf_of_fewer (abortCore_free cause chan h d) (.of_records records) fun id hid => by
      rwa [chan_of_chans chans] at hid

theorem resetStreams_effect (s : State) : ∃ v, s.abortWhere (fun _ => true) .reset none = v ∧ (∀ k, (v.stream k).state = .closed)
    ∧ v.pack.table = s.pack.table ∧ v.pack.pendingTable = s.pack.pendingTable ∧ v.pack.lastServed = s.pack.lastServed
    ∧ ∀ k d, (s.stream k).state ≠ .closed → v.freeOf k d := by
  obtain ⟨closes, frees, table, pending, last⟩ := abortAll_closes .reset allTags s
  have closed := fun k => closes k (.inl (mem_allTags k))
  have each : (fun k (u : State) => if (fun _ : Stream => true) (u.stream k) then u.abortCore k .reset none else u)
      = fun k u => u.abortCore k .reset none := funext fun k => funext fun u => if_pos rfl
  have all_ : s.abortWhere (fun _ => true) .reset none = (forEach allTags (fun k u => u.abortCore k .reset none) s).packChoose := by
    rw [State.abortWhere, each]
  generalize forEach allTags (fun k u => u.abortCore k .reset none) s = v at *
  exact ⟨v, all_.trans (packChoose_of_closed closed), closed, table, pending, last, fun k d hk => frees k d (.inr ⟨mem_allTags k, hk⟩)⟩

/-- Settles O33: one abort, and all of them one after the other; with every stream CLOSED the search finds nothing. -/
theorem abortsCloseStreams : Obligations.AbortsCloseStreams := by
  intro s tag p0
  have arm := exec_abortStream tag p0 s
  refine ⟨fun h => turnedAway_of_settled arm ?_ rfl, fun t h hc => turnedAway_of_settled arm ?_ rfl, fun t h hc => ?_, ?_⟩
  · simp only [abortStreamRule, h]
  · simp only [abortStreamRule, h, atOwner_stream, hc, if_true]
  · have rule : abortStreamRule p0 s.atOwner = (s.atOwner.abortStream t .command none).ok := by
      simp only [abortStreamRule, h, atOwner_stream, hc, if_false]
    obtain ⟨self, others, job, queue, free, ring⟩ := abortStream_effect (s := s.atOwner) (k := t) hc .command none
    have record := abortCore_record (s := s.atOwner) (k := t) .command none hc
    have outside : (s.atOwner.abortStream t .command none).outside = s.outside := State.abortStream_outside ..
    have ended := endsSettled_of_settled arm rule rfl
    rw [← ring] at record
    generalize s.atOwner.abortStream t .command none = v at *
    refine ⟨v, ended, mem_of_outside outside, params_of_outside outside, by rw [self]; rfl, by rw [self]; rfl, by rw [self]; rfl,
      by rw [self]; rfl, by rw [self]; rfl, fun k hk => ?_, fun k hk => ?_, others, job, queue,
      fun d id r => free d id r, fun hp hb => record hp hb⟩
    · have emptied := (aborted_buf (s.stream t) k).1 hk
      rw [self]; cases k <;> exact emptied
    · have dropped := (aborted_buf (s.stream t) k).2 hk
      rw [self]; cases k <;> exact dropped
  · obtain ⟨v, done, closed, table, pending, last, free⟩ := resetStreams_effect s.atOwner
    have outside : v.outside = s.outside := done ▸ State.abortWhere_outside ..
    refine ⟨v, endsSettled_of_settled (exec_resetStreams tag s) (congrArg State.ok done) rfl, mem_of_outside outside,
      params_of_outside outside, closed, table, pending, last, fun k d id r hk => free k d hk id r⟩

end Sys2Proof.Machine
end

section
/-! The ends of a pack job (1.5): a FAULT answer, the return of its reservation, and its completion. -/

namespace Sys2Proof.Machine

variable {s t u : State}

/-! ## What give-ups and records leave of the pool and the path unit -/

/-- The memory port alone changes in the path unit, and the pages, the records and the POOL hold alone in the pool. -/
def SameAccounts (s t : State) : Prop :=
  s.portOnly t ∧ ∃ f r l h n, t.pool = { s.pool with free := f, records := r, lowMark := l, hold := h, holdTransitions := n }

theorem SameAccounts.of_path {f : List Nat} {r : List ChunkRec} {l : Nat} {h : Bool} {n : Counter} (path : t.path = s.path)
    (pool : t.pool = { s.pool with free := f, records := r, lowMark := l, hold := h, holdTransitions := n }) : SameAccounts s t :=
  ⟨by rw [State.portOnly, path], f, r, l, h, n, pool⟩

theorem SameAccounts.refl (s : State) : SameAccounts s s := .of_path rfl rfl

theorem SameAccounts.trans (h : SameAccounts s t) (k : SameAccounts t u) : SameAccounts s u := by
  obtain ⟨port, f, r, l, a, n, pool⟩ := h
  obtain ⟨port', f', r', l', a', n', pool'⟩ := k
  refine ⟨?_, f', r', l', a', n', by rw [pool', pool]⟩
  rw [State.portOnly] at port port' ⊢
  rw [port']
  rw [port]

theorem SameAccounts.counters (h : SameAccounts s t) : t.path.counters = s.path.counters := by
  have port : t.path = { s.path with port := t.path.port } := h.1
  rw [port]

theorem SameAccounts.reservation (h : SameAccounts s t) : t.pool.reservation = s.pool.reservation := by
  obtain ⟨-, f, r, l, a, n, pool⟩ := h
  rw [pool]

theorem SameAccounts.memFaults (h : SameAccounts s t) : t.pool.memFaults = s.pool.memFaults := by
  obtain ⟨-, f, r, l, a, n, pool⟩ := h
  rw [pool]

theorem SameAccounts.emit (s : State) (r : Record) : SameAccounts s (s.emit r) :=
  ⟨s.emit_path r, s.pool.free, s.pool.records, s.pool.lowMark, s.pool.hold, s.pool.holdTransitions, s.emit_pool r⟩

theorem SameAccounts.holdTest (s : State) : SameAccounts s s.holdTest := by
  obtain h | ⟨on, n, h⟩ := holdTest_cases s
  · rw [h]; exact .refl s
  · rw [h]; exact (SameAccounts.of_path rfl rfl).trans (.emit _ _)

theorem SameAccounts.returnPages (s : State) (pages : List Nat) : SameAccounts s (s.returnPages pages) := by
  unfold State.returnPages
  split
  · exact .refl s
  · exact (SameAccounts.of_path rfl rfl).trans (.holdTest _)

theorem SameAccounts.freeRec (s : State) (id : Nat) : SameAccounts s (s.freeRec id) := by
  unfold State.freeRec
  split
  · exact .refl s
  · exact (SameAccounts.of_path rfl rfl).trans (.returnPages _ _)

theorem SameAccounts.giveUp (s : State) (id : Nat) : SameAccounts s (s.giveUp id) := by
  unfold State.giveUp
  split
  · exact .refl s
  · dsimp only
    split
    · exact (SameAccounts.of_path rfl rfl).trans (.freeRec _ _)
    · exact .of_path rfl rfl

theorem SameAccounts.giveUpAll : ∀ (ids : List Nat) (s : State), SameAccounts s (s.giveUpAll ids)
  | [], s => .refl s
  | id :: ids, s => (SameAccounts.giveUp s id).trans (SameAccounts.giveUpAll ids (s.giveUp id))

theorem SameAccounts.dropQueued (s : State) (k : Tag) (d : Drive) : SameAccounts s (s.dropQueued k d) :=
  (SameAccounts.of_path rfl rfl).trans (.giveUpAll _ _)

theorem SameAccounts.abortDropped (s : State) (k : Tag) : SameAccounts s (s.abortDropped k) := by
  have emptied : SameAccounts s (s.abortEmptied k) := .of_path rfl rfl
  exact (emptied.trans ((SameAccounts.dropQueued _ k 0).trans (.dropQueued _ k 1))).trans
    (.of_path (State.modPool_path ..) (State.modPool_pool ..))

theorem SameAccounts.abortCore (s : State) (k : Tag) (cause : Cause) (chan : Option Drive) :
    SameAccounts s (s.abortCore k cause chan) := by
  by_cases hc : (s.stream k).state = .closed
  · rw [abortCore_closed cause chan hc]; exact .refl s
  · have ended : SameAccounts (s.abortDropped k) ((s.abortDropped k).abortEnded k (s.stream k)) := by
      unfold State.abortEnded
      split
      · exact .emit _ _
      · exact .refl _
    have recorded := ((SameAccounts.abortDropped s k).trans ended).trans (.emit _ (abortRecord k (s.stream k) cause chan))
    rw [abortCore_eq cause chan hc]
    exact recorded.trans (.of_path (State.modStream_path ..) (State.modStream_pool ..))

/-! ## Buffers that are emptied (R46, R55) -/

/-- R46, R55: an emptied buffer changes the buffers, and in ENDING the next sequence and the pending close. -/
theorem emptied_same (x : Stream) (k : BufId) : ∃ a b n f, x.emptied k =
    { x with bufA := a, bufB := b, nextSeq := n, finalClose := f } := by
  obtain ⟨a, b, same⟩ := setBuf_same x k {}
  unfold Stream.emptied
  dsimp only
  split
  · obtain ⟨a', b', closed⟩ := setBuf_same (x.setBuf k {}) k { (x.setBuf k {}).buf k with
      state := .ready, seq := (x.setBuf k {}).nextSeq, setend := true }
    exact ⟨a', b', x.nextSeq + 1, false, by rw [Stream.closeBuf, closed, same]⟩
  · obtain ⟨a', b', refilled, -⟩ := refill_eq (x.setBuf k {})
    exact ⟨a', b', x.nextSeq, x.finalClose, by rw [refilled, same]⟩

/-! ## The test of the chunk boundary -/

theorem suspendTest_still {k : Tag} (h : (s.stream k).state ≠ .suspending) : s.suspendTest k = s :=
  if_neg fun a => h a.1

/-- R52: the test leaves everything, or makes the stream SUSPENDED and writes its record. -/
theorem suspendTest_cases (s : State) (k : Tag) : s.suspendTest k = s ∨ ((s.stream k).state = .suspending
    ∧ ∃ r, s.suspendTest k = (s.setStream k { s.stream k with state := .suspended }).emit r) := by
  by_cases h : (s.stream k).state = .suspending
  · obtain ⟨yes, no⟩ := suspendTest_eq h
    exact (Classical.em _).elim (fun b => .inr ⟨h, _, yes b⟩) fun b => .inl (no b)
  · exact .inl (suspendTest_still h)

theorem suspendTest_stream_ne {k o : Tag} (h : o ≠ k) : (s.suspendTest k).stream o = s.stream o := by
  obtain e | ⟨-, r, e⟩ := suspendTest_cases s k
  · rw [e]
  · rw [e, stream_of_streams (State.emit_streams _ _), State.stream_setStream_ne _ _ _ _ h.symm]

theorem suspendTest_stream_self (s : State) (k : Tag) : (s.suspendTest k).stream k = s.stream k
    ∨ ((s.stream k).state = .suspending ∧ (s.suspendTest k).stream k = { s.stream k with state := .suspended }) := by
  obtain e | ⟨h, r, e⟩ := suspendTest_cases s k
  · rw [e]; exact .inl rfl
  · rw [e, stream_of_streams (State.emit_streams _ _), State.stream_setStream_self]
    exact .inr ⟨h, rfl⟩

theorem SameAccounts.suspendTest (s : State) (k : Tag) : SameAccounts s (s.suspendTest k) := by
  obtain e | ⟨-, r, e⟩ := suspendTest_cases s k
  · rw [e]; exact .refl s
  · rw [e]; exact (SameAccounts.of_path rfl rfl).trans (.emit _ r)

/-! ## A FAULT answer (R20, R33) -/

/-- R20: the state after a FAULT answer in which the job has ended and its buffer is emptied. -/
def State.jobFaulted (s : State) (j : PackJob) : State :=
  (s.poolFault.modPack fun p =>
    { p with job := none, draining := some j.record, discardedJobs := p.discardedJobs.add 1 }).modStream j.tag fun x =>
      x.emptied j.buf

theorem faultJob_eq (s : State) (j : PackJob) : s.faultJob j =
    (if j.discarded then (s.jobFaulted j).suspendTest j.tag
      else ((s.jobFaulted j).suspendTest j.tag).abortStream j.tag .memory none).packChoose := rfl

theorem exec_packWriteFault {j : PackJob} (hj : s.pack.job = some j) (hp : s.hasJob .pack = true) :
    exec .packWriteFault s = .next (s.settle ((s.passJob .pack).faultJob j)) := by
  change execPackWriteFault s = _
  simp only [execPackWriteFault, hp, hj, Bool.not_true, Bool.false_eq_true, if_false]

theorem packChoose_accounts (s : State) : s.packChoose.path = s.path ∧ s.packChoose.pool.reservation = s.pool.reservation
    ∧ s.packChoose.pool.memFaults = s.pool.memFaults ∧ s.packChoose.pack.job = s.pack.job
    ∧ s.packChoose.pack.draining = s.pack.draining ∧ s.packChoose.pack.discardedJobs = s.pack.discardedJobs := by
  obtain ⟨n, pool⟩ := packChoose_pool s
  obtain ⟨c, w, p, t, q, pack⟩ := packChoose_pack s
  rw [pool, pack]
  exact ⟨State.packChoose_path s, rfl, rfl, rfl, rfl, rfl⟩

/-- What an abort leaves of an idle pack engine, of the accounts and of a record in no placement queue. -/
theorem abortStream_idle {k : Tag} (cause : Cause) (hj : s.pack.job = none) :
    let v := s.abortStream k cause none
    v.pack.job = none ∧ v.pack.draining = s.pack.draining ∧ v.pack.discardedJobs = s.pack.discardedJobs
    ∧ v.path.counters = s.path.counters ∧ v.pool.reservation = s.pool.reservation ∧ v.pool.memFaults = s.pool.memFaults
    ∧ (∀ o, o ≠ k → v.stream o = s.stream o) ∧ (v.stream k).state = .closed
    ∧ (∀ id r, s.findRec id = some r → (∀ d, id ∉ (s.chan d).placeQueue) → ∃ b, v.findRec id = some { r with orphan := b }) := by
  intro v
  obtain ⟨path, reservation, faults, job, draining, discarded⟩ := packChoose_accounts (s.abortCore k cause none)
  have accounts := SameAccounts.abortCore s k cause none
  have pack : (s.abortCore k cause none).pack.job = none ∧ (s.abortCore k cause none).pack.draining = s.pack.draining
      ∧ (s.abortCore k cause none).pack.discardedJobs = s.pack.discardedJobs := by
    by_cases hc : (s.stream k).state = .closed
    · rw [abortCore_closed cause none hc]; exact ⟨hj, rfl, rfl⟩
    · rw [abortCore_pack cause none hc]
      exact ⟨by rw [State.abortEmptied, State.modPack_pack, State.setStream_pack, hj]; rfl, rfl, rfl⟩
  refine ⟨job.trans pack.1, draining.trans pack.2.1, discarded.trans pack.2.2, (congrArg Path.counters path).trans accounts.counters,
    reservation.trans accounts.reservation, faults.trans accounts.memFaults, fun o ho => ?_, ?_, fun id r hr hq => ?_⟩
  · exact (stream_of_streams (State.packChoose_streams _) o).trans (abortCore_stream_ne cause none ho)
  · rw [show v.stream k = _ from stream_of_streams (State.packChoose_streams _) k]
    exact abortCore_closes s k cause none
  · rw [show v.findRec id = _ from packChoose_findRec _ id]
    by_cases hc : (s.stream k).state = .closed
    · rw [abortCore_closed cause none hc]; exact ⟨r.orphan, hr⟩
    · rw [State.findRec, abortCore_pool cause none hc]
      exact abortDropped_findRec hr hq

theorem jobFaulted_effect (s : State) (j : PackJob) :
    let u := (s.jobFaulted j).suspendTest j.tag
    u.pack.job = none ∧ u.pack.draining = some j.record ∧ u.pack.discardedJobs = s.pack.discardedJobs.add 1
    ∧ u.path.counters.ownFaults = s.path.counters.ownFaults.add 1 ∧ u.pool.reservation = s.pool.reservation
    ∧ u.pool.memFaults = s.pool.memFaults.add 1 ∧ u.pool.records = s.pool.records ∧ u.chans = s.chans
    ∧ (∀ o, o ≠ j.tag → u.stream o = s.stream o) := by
  intro u
  have accounts := SameAccounts.suspendTest (s.jobFaulted j) j.tag
  have pool : u.pool = (s.jobFaulted j).pool := State.suspendTest_pool ..
  have pack : u.pack = (s.jobFaulted j).pack := State.suspendTest_pack ..
  refine ⟨by rw [pack]; rfl, by rw [pack]; rfl, by rw [pack]; rfl, by rw [accounts.counters]; rfl, by rw [pool]; rfl,
    by rw [pool]; rfl, by rw [pool]; rfl, State.suspendTest_chans .., fun o ho => ?_⟩
  exact (suspendTest_stream_ne ho).trans (stream_modStream_ne _ ho.symm)

/-- R52: an emptied buffer may take a SUSPENDING stream to its chunk boundary; any other one keeps its state. -/
theorem jobFaulted_stream (s : State) (j : PackJob) :
    let u := (s.jobFaulted j).suspendTest j.tag
    let x := s.stream j.tag
    (u.stream j.tag).setId = x.setId ∧ (u.stream j.tag).targets = x.targets
    ∧ (x.state ≠ .suspending → (u.stream j.tag).state = x.state ∧ u.ring.buffer = s.ring.buffer)
    ∧ (x.state = .suspending → (u.stream j.tag).state = .suspending ∨ (u.stream j.tag).state = .suspended) := by
  intro u x
  obtain ⟨a, b, n, f, emptied⟩ := emptied_same x j.buf
  have self : (s.jobFaulted j).stream j.tag = x.emptied j.buf := State.stream_modStream_self ..
  have state : (x.emptied j.buf).state = x.state := by rw [emptied]
  have setId : (x.emptied j.buf).setId = x.setId := by rw [emptied]
  have targets : (x.emptied j.buf).targets = x.targets := by rw [emptied]
  have now := suspendTest_stream_self (s.jobFaulted j) j.tag
  rw [self] at now
  refine ⟨?_, ?_, fun h => ?_, fun h => ?_⟩
  · obtain e | ⟨-, e⟩ := now <;> simp only [u, e, setId]
  · obtain e | ⟨-, e⟩ := now <;> simp only [u, e, targets]
  · have still : u = s.jobFaulted j := suspendTest_still (by rw [self, state]; exact h)
    rw [still, self, state]
    exact ⟨rfl, rfl⟩
  · obtain e | ⟨-, e⟩ := now
    · exact .inl (by simp only [u, e, state, h])
    · exact .inr (by simp only [u, e])

theorem exec_packFaultReservationReturn {id : Nat} (hd : s.pack.draining = some id) (hp : s.hasJob .pack = true) :
    exec .packFaultReservationReturn s = .next
      (((s.endJob .pack).returnReservation.freeRec id).modPack fun p => { p with draining := none }).waitTest := by
  change execPackFaultReservationReturn s = _
  simp only [execPackFaultReservationReturn, hd, hp, if_true]

/-- R33: the writes of a faulted job are answered, and its pages and its record return. -/
theorem faultReturn_effect {id : Nat} {r : ChunkRec} (hr : s.findRec id = some r) (empty : r.pages = []) :
    let t := (s.returnReservation.freeRec id).modPack fun p => { p with draining := none }
    t.waitTest.pack.draining = none ∧ t.waitTest.pool.reservation = [] ∧ t.waitTest.findRec id = none
    ∧ t.waitTest.pool.free = s.pool.free ++ s.pool.reservation := by
  intro t
  obtain ⟨records, free, reservation⟩ := returnPages_pool (s.modPool fun p => { p with reservation := [] }) s.pool.reservation
  have found : s.returnReservation.findRec id = some r := by
    rw [State.findRec, State.returnReservation, records]
    exact hr
  obtain ⟨records', free', reservation'⟩ := freeRec_pool _ found
  obtain ⟨w, n, wait⟩ := waitTest_eq t
  rw [wait]
  refine ⟨rfl, reservation'.trans reservation, findRec_freeRec_self found, free'.trans ?_⟩
  rw [empty, List.append_nil]
  exact free

/-- Settles O38: the FAULT answer, for a job that is discarded and one that is not, and the later return. -/
theorem packWriteFaultAbortsTheStream : Obligations.PackWriteFaultAbortsTheStream := by
  intro s
  refine ⟨fun j hj hp => ?_, fun id r hd hp hr empty => ?_⟩
  · have mem : ((s.passJob .pack).faultJob j).mem = s.mem := mem_of_outside (State.faultJob_outside ..)
    obtain ⟨job, draining, discarded, own, reservation, faults, records, chans, others⟩ := jobFaulted_effect (s.passJob .pack) j
    obtain ⟨setId, targets, still, moved⟩ := jobFaulted_stream (s.passJob .pack) j
    refine ⟨(s.passJob .pack).faultJob j, exec_packWriteFault hj hp, ?_⟩
    rw [faultJob_eq] at mem ⊢
    generalize ((s.passJob .pack).jobFaulted j).suspendTest j.tag = u at *
    cases hdis : j.discarded
    · obtain ⟨job', draining', discarded', counters, reservation', faults', others', closed, findRec⟩ :=
        abortStream_idle (k := j.tag) .memory job
      simp only [hdis, Bool.false_eq_true, if_false] at mem ⊢
      generalize u.abortStream j.tag .memory none = w at *
      obtain ⟨path, hres, hfaults, hjob, hdrain, hdisc⟩ := packChoose_accounts w
      have streams := stream_of_streams (State.packChoose_streams w)
      refine ⟨hjob.trans job', hdrain.trans (draining'.trans draining), mem, hdisc.trans (discarded'.trans discarded),
        hres.trans (reservation'.trans reservation), ?_, hfaults.trans (faults'.trans faults), fun r hr hq => ?_, fun o ho => ?_,
        fun _ => by rw [streams]; exact closed, (nomatch ·)⟩
      · rw [path, counters]; exact own
      · obtain ⟨b, found⟩ := findRec j.record r (by rw [State.findRec, records]; exact hr) (fun d => by
          rw [chan_of_chans chans d]; exact hq d)
        exact ⟨_, (packChoose_findRec w _).trans found, rfl, rfl, rfl⟩
      · exact (streams o).trans ((others' o ho).trans (others o ho))
    · simp only [hdis, if_true] at mem ⊢
      obtain ⟨path, hres, hfaults, hjob, hdrain, hdisc⟩ := packChoose_accounts u
      obtain ⟨n, pool⟩ := packChoose_pool u
      have streams := stream_of_streams (State.packChoose_streams u)
      have same : u.packChoose.pool.records = s.pool.records := by rw [pool]; exact records
      refine ⟨hjob.trans job, hdrain.trans draining, mem, hdisc.trans discarded, hres.trans reservation, ?_,
        hfaults.trans faults, fun r hr _ => ⟨r, by rw [State.findRec, same]; exact hr, rfl, rfl, rfl⟩,
        fun o ho => (streams o).trans (others o ho), (nomatch ·), fun _ => ⟨?_, ?_, ?_, same, fun h => ?_, fun h => ?_⟩⟩
      · rw [path]; exact own
      · rw [streams]; exact setId
      · rw [streams]; exact targets
      · exact (State.packChoose_chans u).trans chans
      · rw [streams, State.packChoose_ring]; exact still h
      · rw [streams]; exact moved h
  · obtain ⟨draining, reservation, gone, free⟩ := faultReturn_effect (s := s.endJob .pack) hr empty
    refine ⟨_, exec_packFaultReservationReturn hd hp, draining, reservation, gone, free, ?_, ?_, ?_⟩
    · exact mem_of_outside (by simp)
    · simp
    · simp

end Sys2Proof.Machine
end

section
/-! The completion of a pack job (R20, R32, R63): the bytes in the pool's pages, the record, the hand-off and the buffer. -/

namespace Sys2Proof.Machine

variable {s t : State}

/-! ## A stored chunk in its pages (R21) -/

theorem pageAddr_apart (s : State) {p q : Nat} (h : p ≠ q) :
    s.pageAddr p + 512 ≤ s.pageAddr q ∨ s.pageAddr q + 512 ≤ s.pageAddr p := by
  have size : Config.pageSize = 512 := rfl
  simp only [State.pageAddr, size]
  omega

theorem writePages_same : ∀ (pages : List Nat) (bs : List Byte) (s : State), ∃ m, s.writePages pages bs = { s with mem := m }
  | [], _, s => ⟨s.mem, rfl⟩
  | p :: ps, bs, s => by
    unfold State.writePages
    split
    · exact ⟨s.mem, rfl⟩
    · obtain ⟨m, h⟩ := writePages_same ps (bs.drop 512) (s.poke (s.pageAddr p) (bs.take 512))
      exact ⟨m, h⟩

theorem writePages_frame : ∀ {pages : List Nat} {bs : List Byte} {s : State} {x : Nat},
    (∀ p ∈ pages, x < s.pageAddr p ∨ s.pageAddr p + 512 ≤ x) → (s.writePages pages bs).mem.get x = s.mem.get x
  | [], _, _, _, _ => rfl
  | p :: ps, bs, s, x, h => by
    unfold State.writePages
    split
    · rfl
    · rw [writePages_frame (s := s.poke (s.pageAddr p) (bs.take 512)) fun q hq => h q (List.mem_cons_of_mem _ hq)]
      refine State.poke_get_outside s _ _ _ ?_
      have here := h p List.mem_cons_self
      have short : (bs.take 512).length ≤ 512 := by simp
      omega

/-- R21: byte `k` of a stored chunk stands in the page of its 512 bytes. -/
theorem writePages_byte : ∀ {pages : List Nat} {bs : List Byte} {s : State}, pages.Nodup → ∀ {k : Nat}, k < bs.length →
    k / 512 < pages.length → (s.writePages pages bs).mem.get (s.pageAddr (pages.getD (k / 512) 0) + k % 512) = bs.getD k 0
  | [], _, _, _, k, _, h => by simp at h
  | p :: ps, bs, s, nodup, k, hk, hp => by
    obtain ⟨fresh, nodup⟩ := List.nodup_cons.1 nodup
    have some_ : bs.isEmpty = false := by cases bs <;> simp_all
    unfold State.writePages
    rw [if_neg (by simp [some_])]
    rcases Nat.lt_or_ge k 512 with first | later
    · have page : k / 512 = 0 := Nat.div_eq_of_lt first
      rw [page, List.getD_cons_zero, Nat.mod_eq_of_lt first, writePages_frame, State.poke_get_inside]
      · simp [first]
      · simp; omega
      · intro q hq
        have apart := pageAddr_apart s (p := p) (q := q) fun e => fresh (e ▸ hq)
        change s.pageAddr p + k < s.pageAddr q ∨ s.pageAddr q + 512 ≤ s.pageAddr p + k
        omega
    · obtain ⟨m, rfl⟩ : ∃ m, k = m + 512 := ⟨k - 512, by omega⟩
      have page : (m + 512) / 512 = m / 512 + 1 := by omega
      rw [page] at hp ⊢
      rw [List.getD_cons_succ, Nat.add_mod_right]
      refine (writePages_byte (s := s.poke (s.pageAddr p) (bs.take 512)) nodup (k := m) (by simp; omega)
        (Nat.lt_of_succ_lt_succ (by simpa using hp))).trans ?_
      simp [Nat.add_comm]

/-! ## The hand-off (R63) -/

/-- R63: the placement queues of the channels of a list get the chunk, where none of them is FAILED. -/
theorem handedTo_eq (id : Nat) : ∀ (ds : List Drive) (s : State), ds.Nodup → (∀ d ∈ ds, (s.chan d).state ≠ .failed) →
    ∃ q : Vector Channel 2, forEach ds (fun d u => if (u.chan d).state = .failed then u.giveUp id
        else u.modChan d fun c => { c with placeQueue := c.placeQueue ++ [id] }) s = { s with chans := q }
      ∧ ∀ d : Drive, q[d] = if d ∈ ds then { s.chan d with placeQueue := (s.chan d).placeQueue ++ [id] } else s.chan d
  | [], s, _, _ => ⟨s.chans, rfl, fun d => rfl⟩
  | d :: ds, s, nodup, sound => by
    obtain ⟨fresh, nodup⟩ := List.nodup_cons.1 nodup
    let u := s.modChan d fun c => { c with placeQueue := c.placeQueue ++ [id] }
    have other (e : Drive) (he : e ≠ d) : u.chan e = s.chan e := State.chan_modChan_ne _ _ _ _ he.symm
    obtain ⟨q, hq, each⟩ := handedTo_eq id ds u nodup fun e he => by
      rw [other e fun k => fresh (k ▸ he)]
      exact sound e (List.mem_cons_of_mem _ he)
    refine ⟨q, ?_, fun e => ?_⟩
    · refine (congrArg (forEach ds _) (if_neg (sound d List.mem_cons_self))).trans (hq.trans rfl)
    · rw [each]
      by_cases he : e = d
      · subst he
        rw [if_neg fresh, if_pos List.mem_cons_self]
        exact State.chan_modChan_self ..
      · rw [other e he]
        simp [he]

theorem targets_nodup (x : Targets) : x.list.Nodup := List.Nodup.filter _ (by decide)

theorem mem_allDrives (d : Drive) : d ∈ allDrives := by fin_cases d <;> decide

theorem mem_targets (x : Targets) (d : Drive) : d ∈ x.list ↔ x.has d = true := by
  simp [Targets.list, mem_allDrives]

/-! ## What the completion makes of the stream's record -/

theorem countOutcome_same (x : Stream) (mode : JobMode) (packed : Bool) : ∃ r k, x.countOutcome mode packed =
    { x with rawRun := r, skip := k } := by
  unfold Stream.countOutcome
  split
  · exact ⟨_, _, rfl⟩
  · split
    · exact ⟨_, _, rfl⟩
    · split
      · exact ⟨_, _, rfl⟩
      · exact ⟨_, _, rfl⟩

theorem emptied_final {x : Stream} (k : BufId) (hs : x.state = .ending) (hf : x.finalClose = true) :
    (x.emptied k).finalClose = false ∧ (x.emptied k).nextSeq = x.nextSeq + 1
    ∧ (x.emptied k).buf k = { state := .ready, bytes := [], seq := x.nextSeq, setend := true }
    ∧ (x.emptied k).buf k.other = x.buf k.other := by
  cases k <;> simp [Stream.emptied, Stream.setBuf, Stream.closeBuf, Stream.buf, BufId.other, hs, hf]

theorem emptied_idle {x : Stream} (k : BufId) (h : x.state = .closed ∨ (x.state = .ending ∧ x.finalClose = false)
      ∨ (x.state ≠ .ending ∧ (x.buf k.other).state = .filling)) :
    (x.emptied k).buf k = {} ∧ (x.emptied k).buf k.other = x.buf k.other := by
  obtain h | ⟨h, f⟩ | ⟨h, f⟩ := h <;> cases k <;>
    simp_all [Stream.emptied, Stream.setBuf, Stream.refill, Stream.bufIn, Stream.buf, BufId.other]

theorem emptied_filling {x : Stream} (k : BufId) (hc : x.state ≠ .closed) (he : x.state ≠ .ending)
    (ho : (x.buf k.other).state = .ready ∨ (x.buf k.other).state = .packing) :
    (x.emptied k).buf k = { state := .filling } ∧ (x.emptied k).buf k.other = x.buf k.other := by
  obtain ho | ho := ho <;> cases k <;>
    simp_all [Stream.emptied, Stream.setBuf, Stream.refill, Stream.bufIn, Stream.buf, BufId.other]

theorem packBody_packed (mode : JobMode) (input : List Byte) :
    (packBody mode input).1 = true ↔ mode = .encode ∧ (packBody mode input).2.length < input.length := by
  cases mode with
  | copy => simp [packBody]
  | encode =>
    simp only [packBody]
    split <;> simp_all

/-- R19: the skip-mode counts by the outcome of the job. -/
theorem countOutcome_cases (x : Stream) :
    x.countOutcome .copy packed = x
    ∧ x.countOutcome .encode true = { x with rawRun := 0 }
    ∧ (x.rawRun = 7 → x.countOutcome .encode false = { x with rawRun := 0, skip := 64 })
    ∧ (x.rawRun ≠ 7 → x.countOutcome .encode false = { x with rawRun := x.rawRun + 1 }) := by
  refine ⟨rfl, rfl, fun h => if_pos (by omega), fun h => if_neg (by omega)⟩

/-! ## The completion (R20, R32) -/

theorem exec_packCompletion {j : PackJob} (hj : s.pack.job = some j) (hp : s.hasJob .pack = true) (hd : j.discarded = false) :
    exec .packCompletion s =
      .next (s.settle ((((s.endJob .pack).settleJob j).modPack fun p => p.finish j).packChoose)) := by
  change execPackCompletion s = _
  simp only [execPackCompletion, hj, hp, hd, if_true, Bool.false_eq_true, if_false]

theorem jobPages_of_fresh {j : PackJob} {r : ChunkRec} (hr : s.findRec j.record = some r) (empty : r.pages = []) :
    let count := ((storedChunk j.mode j.setend j.input).length + 511) / 512
    s.jobPages j = (s.pool.reservation.take count, s.pool.reservation.drop count) := by
  intro count
  have pages : ceilDiv (storedChunk j.mode j.setend j.input).length Config.pageSize = count := by
    have size : Config.pageSize = 512 := rfl
    rw [ceilDiv, size]
    omega
  simp only [State.jobPages, State.splitReservation, hr, empty, List.append_nil, pages]

/-- R20, R32: the pool and its bytes once the chunk is stored. -/
theorem chunkStored_effect {j : PackJob} {r : ChunkRec} (hr : s.findRec j.record = some r) (empty : r.pages = []) :
    let stored := storedChunk j.mode j.setend j.input
    let count := (stored.length + 511) / 512
    (s.chunkStored j).pool.reservation = [] ∧ (s.chunkStored j).pool.free = s.pool.free ++ s.pool.reservation.drop count
    ∧ (s.chunkStored j).findRec j.record = some (j.packedRec (s.pool.reservation.take count) r)
    ∧ (s.chunkStored j).mem = (s.writePages (s.pool.reservation.take count) stored).mem
    ∧ (s.chunkStored j).streams = s.streams ∧ (s.chunkStored j).chans = s.chans ∧ (s.chunkStored j).restore = s.restore
    ∧ (s.chunkStored j).params = s.params := by
  intro stored count
  have pages := jobPages_of_fresh hr empty
  unfold State.chunkStored
  rw [pages]
  extract_lets s1 s3
  obtain ⟨m, written⟩ := writePages_same (s.pool.reservation.take count) stored s
  have same : s1 = { s with mem := m } := written
  have pool : s1.pool = s.pool := by rw [same]
  obtain ⟨records, free, reservation⟩ := setFree_pool s3 (s3.pool.free ++ s.pool.reservation.drop count)
  refine ⟨reservation.trans rfl, free.trans (congrArg (·.free ++ s.pool.reservation.drop count) pool), ?_, ?_, ?_, ?_,
    ?_, ?_⟩
  · have found : s3.findRec j.record = (s1.findRec j.record).map (j.packedRec (s.pool.reservation.take count)) :=
      State.findRec_modRec _ _ _ fun _ => rfl
    rw [State.findRec, records]
    refine found.trans ?_
    rw [State.findRec, pool]
    exact congrArg (Option.map _) hr
  · exact (mem_of_outside (State.setFree_outside ..)).trans rfl
  · exact (State.setFree_streams ..).trans (by change s1.streams = _; rw [same])
  · exact (State.setFree_chans ..).trans (by change s1.chans = _; rw [same])
  · exact (State.setFree_restore ..).trans (by change s1.restore = _; rw [same])
  · exact (params_of_outside (State.setFree_outside ..)).trans (by change s1.params = _; rw [same])

/-- R63: the hand-off to targets none of which is FAILED. -/
theorem handOff_effect {k : Tag} (id : Nat) (packed : Bool) (sound : ∀ d ∈ (s.stream k).targets.list, (s.chan d).state ≠ .failed) :
    let t := s.handOff k id packed
    t.pool = (s.modRec id fun r => { r with outstanding := (s.stream k).targets.count }).pool ∧ t.mem = s.mem
    ∧ t.pack = s.pack ∧ t.restore = s.restore ∧ t.params = s.params
    ∧ (t.stream k) = { s.stream k with
        chunks := (s.stream k).chunks.add 1, rawChunks := (s.stream k).rawChunks.add (if packed then 0 else 1) }
    ∧ (∀ o, o ≠ k → t.stream o = s.stream o)
    ∧ ∀ d : Drive, (t.chan d).placeQueue =
        (s.chan d).placeQueue ++ (if (s.stream k).targets.has d then [id] else []) := by
  intro t
  let s1 := s.modRec id fun r => { r with outstanding := (s.stream k).targets.count }
  let s2 := s1.modStream k fun x =>
    { x with chunks := x.chunks.add 1, rawChunks := x.rawChunks.add (if packed then 0 else 1) }
  obtain ⟨q, handed, each⟩ := handedTo_eq id (s.stream k).targets.list s2 (targets_nodup _) sound
  have state : t = { s2 with chans := q } := handed
  rw [state]
  refine ⟨rfl, rfl, rfl, rfl, rfl, (stream_of_streams (s := s2) rfl k).trans (State.stream_modStream_self ..), fun o ho => ?_, fun d => ?_⟩
  · exact (stream_of_streams (s := s2) rfl o).trans (stream_modStream_ne _ ho.symm)
  refine (congrArg Channel.placeQueue (each d)).trans ?_
  rw [if_congr (mem_targets (s.stream k).targets d) rfl rfl]
  split
  · rfl
  · exact (List.append_nil _).symm

/-- R20, R32, R63: what the settling of a job makes of the blocks. -/
theorem settleJob_effect {j : PackJob} {r : ChunkRec} (hr : s.findRec j.record = some r) (empty : r.pages = [])
    (sound : ∀ d ∈ (s.stream j.tag).targets.list, (s.chan d).state ≠ .failed) :
    let t := s.settleJob j
    let stored := storedChunk j.mode j.setend j.input
    let count := (stored.length + 511) / 512
    let packed := (packBody j.mode j.input).1
    let x := (s.stream j.tag).countOutcome j.mode packed
    t.pool.reservation = [] ∧ t.pool.free = s.pool.free ++ s.pool.reservation.drop count
    ∧ t.findRec j.record = some { j.packedRec (s.pool.reservation.take count) r with
        outstanding := (s.stream j.tag).targets.count }
    ∧ t.mem = (s.writePages (s.pool.reservation.take count) stored).mem
    ∧ (∃ st, t.stream j.tag = { x.emptied j.buf with
        state := st, chunks := x.chunks.add 1, rawChunks := x.rawChunks.add (if packed then 0 else 1) })
    ∧ (∀ o, o ≠ j.tag → t.stream o = s.stream o)
    ∧ (∀ d : Drive, (t.chan d).placeQueue =
        (s.chan d).placeQueue ++ (if (s.stream j.tag).targets.has d then [j.record] else []))
    ∧ t.restore = s.restore ∧ t.params = s.params := by
  intro t stored count packed x
  obtain ⟨reservation, free, found, mem, streams, chans, restore, params⟩ := chunkStored_effect hr empty
  let s5 := (s.chunkStored j).modStream j.tag fun x => (x.countOutcome j.mode packed).emptied j.buf
  have self : s5.stream j.tag = x.emptied j.buf :=
    (State.stream_modStream_self ..).trans (by rw [stream_of_streams streams])
  obtain ⟨rr, kk, counted⟩ := countOutcome_same (s.stream j.tag) j.mode packed
  obtain ⟨a, b, n, f, emptied⟩ := emptied_same x j.buf
  have targets : (s5.stream j.tag).targets = (s.stream j.tag).targets := by
    rw [self, emptied]; simp only [x, counted]
  obtain ⟨pool, mem', -, restore', params', mine, others, queues⟩ := handOff_effect (s := s5) (k := j.tag) j.record packed fun d hd => by
    rw [targets] at hd
    exact (congrArg Channel.state (chan_of_chans chans d)).trans_ne (sound d hd)
  have done : t = (s5.handOff j.tag j.record packed).suspendTest j.tag := settleJob_eq s j
  have pool' : t.pool = _ := (congrArg State.pool done).trans ((State.suspendTest_pool ..).trans pool)
  rw [targets] at pool'
  refine ⟨by rw [pool']; exact reservation, by rw [pool']; exact free, ?_, ?_, ?_, fun o ho => ?_, fun d => ?_, ?_, ?_⟩
  · rw [State.findRec, pool']
    refine (State.findRec_modRec s5 j.record (fun r => { r with outstanding := (s.stream j.tag).targets.count }) fun _ => rfl).trans ?_
    exact congrArg (Option.map _) found
  · rw [done]
    exact (mem_of_outside (State.suspendTest_outside ..)).trans (mem'.trans mem)
  · rw [self] at mine
    have chunks : (x.emptied j.buf).chunks = x.chunks ∧ (x.emptied j.buf).rawChunks = x.rawChunks := by rw [emptied]; exact ⟨rfl, rfl⟩
    rw [chunks.1, chunks.2] at mine
    rw [done]
    obtain e | ⟨-, e⟩ := suspendTest_stream_self (s5.handOff j.tag j.record packed) j.tag
    · exact ⟨_, e.trans mine⟩
    · exact ⟨.suspended, e.trans (by rw [mine])⟩
  · rw [done, suspendTest_stream_ne ho, others o ho]
    exact (stream_modStream_ne _ ho.symm).trans (stream_of_streams streams o)
  · rw [done, chan_of_chans (State.suspendTest_chans ..), queues, targets]
    exact congrArg (·.placeQueue ++ _) (chan_of_chans chans d)
  · rw [done]; exact (State.suspendTest_restore ..).trans (restore'.trans restore)
  · rw [done]; exact (params_of_outside (State.suspendTest_outside ..)).trans (params'.trans params)

/-- R19, R46, R55: what the completion of a job makes of the record of its stream. -/
theorem completed_fields (x y : Stream) (k : BufId) {mode : JobMode} {packed : Bool} {st : StreamState} {body : Prop}
    (hy : y = { (x.countOutcome mode packed).emptied k with
      state := st, chunks := (x.countOutcome mode packed).chunks.add 1
      rawChunks := (x.countOutcome mode packed).rawChunks.add (if packed then 0 else 1) })
    (hp : packed = true ↔ mode = .encode ∧ body) :
    let other := x.buf k.other
    y.chunks = x.chunks.add 1 ∧ y.rawChunks = x.rawChunks.add (if packed then 0 else 1)
    ∧ (packed = true ↔ mode = .encode ∧ body)
    ∧ (mode = .copy → y.rawRun = x.rawRun ∧ y.skip = x.skip)
    ∧ (mode = .encode → packed = true → y.rawRun = 0 ∧ y.skip = x.skip)
    ∧ (mode = .encode → packed = false → x.rawRun = 7 → y.rawRun = 0 ∧ y.skip = 64)
    ∧ (mode = .encode → packed = false → x.rawRun ≠ 7 → y.rawRun = x.rawRun + 1 ∧ y.skip = x.skip)
    ∧ (x.state = .ending → x.finalClose = true → y.finalClose = false ∧ y.nextSeq = x.nextSeq + 1
        ∧ y.buf k = { state := .ready, bytes := [], seq := x.nextSeq, setend := true } ∧ y.buf k.other = other)
    ∧ (x.state = .closed ∨ (x.state = .ending ∧ x.finalClose = false) ∨ (x.state ≠ .ending ∧ other.state = .filling) →
        y.buf k = {} ∧ y.buf k.other = other)
    ∧ (x.state ≠ .closed → x.state ≠ .ending → other.state = .ready ∨ other.state = .packing →
        y.buf k = { state := .filling } ∧ y.buf k.other = other) := by
  intro other
  obtain ⟨copied, shrunk, eighth, more⟩ := countOutcome_cases (packed := packed) x
  obtain ⟨rr, kk, counted⟩ := countOutcome_same x mode packed
  let c := x.countOutcome mode packed
  obtain ⟨hchunks, hraw, hstate, hclose, hnext, hbuf⟩ : c.chunks = x.chunks ∧ c.rawChunks = x.rawChunks ∧ c.state = x.state
      ∧ c.finalClose = x.finalClose ∧ c.nextSeq = x.nextSeq ∧ ∀ k, c.buf k = x.buf k := by
    rw [show c = _ from counted]
    exact ⟨rfl, rfl, rfl, rfl, rfl, fun k => by cases k <;> rfl⟩
  obtain ⟨a, b, m, f, emptied⟩ := emptied_same c k
  have skips : y.rawRun = c.rawRun ∧ y.skip = c.skip := by
    have kept : (c.emptied k).rawRun = c.rawRun ∧ (c.emptied k).skip = c.skip := by rw [emptied]; exact ⟨rfl, rfl⟩
    rw [hy]; exact kept
  have bufs (i : BufId) : y.buf i = (c.emptied k).buf i := by rw [hy]; cases i <;> rfl
  have rest : y.finalClose = (c.emptied k).finalClose ∧ y.nextSeq = (c.emptied k).nextSeq := by rw [hy]; exact ⟨rfl, rfl⟩
  rw [skips.1, skips.2, rest.1, rest.2, bufs, bufs]
  refine ⟨?_, ?_, hp, fun enc => ?_, fun enc pk => ?_, fun enc pk full => ?_, fun enc pk part => ?_, fun he hf => ?_, fun h => ?_,
    fun hc he ho => ?_⟩
  · rw [hy]; exact congrArg (Counter.add · 1) hchunks
  · rw [hy]; exact congrArg (Counter.add · _) hraw
  · have same : c = x := by simp only [c, enc]; exact copied
    rw [same]; exact ⟨rfl, rfl⟩
  · have same : c = { x with rawRun := 0 } := by simp only [c, enc, pk]; exact shrunk
    rw [same]; exact ⟨rfl, rfl⟩
  · have same : c = { x with rawRun := 0, skip := 64 } := by simp only [c, enc, pk]; exact eighth full
    rw [same]; exact ⟨rfl, rfl⟩
  · have same : c = { x with rawRun := x.rawRun + 1 } := by simp only [c, enc, pk]; exact more part
    rw [same]; exact ⟨rfl, rfl⟩
  · obtain ⟨h1, h2, h3, h4⟩ := emptied_final (x := c) k (hstate.trans he) (hclose.trans hf)
    rw [hnext] at h2 h3
    exact ⟨h1, h2, h3, h4.trans (hbuf _)⟩
  · obtain ⟨h1, h2⟩ := emptied_idle (x := c) k (by rw [hstate, hclose, hbuf]; exact h)
    exact ⟨h1, h2.trans (hbuf _)⟩
  · obtain ⟨h1, h2⟩ := emptied_filling (x := c) k (hstate.trans_ne hc) (hstate.trans_ne he) (by rw [hbuf]; exact ho)
    exact ⟨h1, h2.trans (hbuf _)⟩

/-- Settles O37: the settling of the job, after which the engine is IDLE and searches again. -/
theorem packCompletionHandsTheChunkOff : Obligations.PackCompletionHandsTheChunkOff := by
  intro s j r hj hp hd hr empty sound stored count
  obtain ⟨reservation, free, found, mem, ⟨st, mine⟩, others, queues, restore, outside⟩ := settleJob_effect (s := s.endJob .pack) hr empty sound
  have arm := exec_packCompletion hj hp hd
  generalize (s.endJob .pack).settleJob j = t at *
  let u := t.modPack fun p => p.finish j
  obtain ⟨-, hres, -, hjob, -, -⟩ := packChoose_accounts u
  obtain ⟨n, pool⟩ := packChoose_pool u
  have streams (o : Tag) : u.packChoose.stream o = t.stream o := stream_of_streams (State.packChoose_streams u) o
  have memory : u.packChoose.mem = t.mem := mem_of_outside (State.packChoose_outside ..)
  have page (k : Nat) (hk : k < stored.length) : k / 512 < count := by omega
  refine ⟨u.packChoose, arm, hjob.trans rfl, hres.trans reservation, by rw [pool]; exact free,
    ⟨_, (packChoose_findRec u _).trans found, rfl, rfl, rfl, rfl⟩, fun nodup enough k hk => ?_, fun x hx => ?_, fun d => ?_, ?_,
    fun o ho => (streams o).trans (others o ho), (State.packChoose_restore u).trans restore, ?_⟩
  · have inside := page k hk
    have taken : (s.pool.reservation.take count).getD (k / 512) 0 = s.pool.reservation.getD (k / 512) 0 := by
      rw [List.getD_eq_getElem?_getD, List.getElem?_take, if_pos inside, List.getD_eq_getElem?_getD]
    rw [memory, mem, ← taken]
    exact writePages_byte (s := s.endJob .pack) (nodup.sublist (List.take_sublist ..)) hk (by
      rw [List.length_take]
      change k / 512 < min count s.pool.reservation.length
      omega)
  · rw [memory, mem]
    exact writePages_frame (s := s.endJob .pack) hx
  · rw [chan_of_chans (State.packChoose_chans u)]
    exact queues d
  · exact completed_fields (s.stream j.tag) _ j.buf ((streams j.tag).trans mine) (packBody_packed j.mode j.input)
  · exact (params_of_outside (State.packChoose_outside ..)).trans outside

end Sys2Proof.Machine
end

section
/-! The 64-byte records of the command ring (R6). -/

namespace Sys2Proof.Machine

/-! ## Words of four bytes -/

theorem ofLE_word (w : Word) : w32 (ofLE (leBytes 4 w.toNat)) = w := by
  rw [ofLE_leBytes, w32]
  exact BitVec.eq_of_toNat_eq (by simp [Nat.mod_eq_of_lt w.isLt])

theorem wordsOf_zeros : ∀ n, wordsOf n (List.replicate (4 * n) (0 : Byte)) = List.replicate n (0 : Word)
  | 0 => rfl
  | n + 1 => by
    have four : List.replicate (4 * (n + 1)) (0 : Byte) = [0, 0, 0, 0] ++ List.replicate (4 * n) 0 := by
      rw [Nat.mul_succ, Nat.add_comm, ← List.replicate_append_replicate]
      rfl
    rw [four]
    exact congrArg ((0 : Word) :: ·) (wordsOf_zeros n)

/-- R6: the words of a record's parameters, with zero words up to the end. -/
theorem wordsOf_params : ∀ (n : Nat) (ps : List Word), ps.length ≤ n →
    wordsOf n ((ps.flatMap fun w => leBytes 4 w.toNat) ++ List.replicate (4 * (n - ps.length)) 0)
      = ps ++ List.replicate (n - ps.length) 0
  | n, [], _ => wordsOf_zeros n
  | n + 1, p :: ps, h => by
    have ih := wordsOf_params n ps (Nat.le_of_succ_le_succ h)
    rw [List.length_cons, Nat.succ_sub_succ, List.flatMap_cons, List.append_assoc, wordsOf,
      List.take_left' (leBytes_length 4 _), List.drop_left' (leBytes_length 4 _), ih, ofLE_word]
    rfl

theorem frame_eq (r : CommandRecord) (h : r.params.length ≤ 15) : r.frame = [r.kind, r.flags] ++ leBytes 2 r.tag.toNat
    ++ ((r.params.flatMap fun w => leBytes 4 w.toNat) ++ List.replicate (4 * (15 - r.params.length)) 0) := by
  rw [CommandRecord.frame, padTo, List.append_assoc]
  congr 3
  simp only [List.length_append, leBytes_length, words_length, List.length_cons, List.length_nil]
  omega

/-- R6: a frame is read as its record, with zero words for those that the record does not give. -/
theorem readRecord_frame (r : CommandRecord) (h : r.params.length ≤ 15) : r.frame.length = 64
    ∧ readRecord r.frame = { r with params := r.params ++ List.replicate (15 - r.params.length) 0 } := by
  rw [frame_eq r h]
  refine ⟨?_, ?_⟩
  · simp only [List.length_append, leBytes_length, words_length, List.length_cons, List.length_nil, List.length_replicate]
    omega
  · have tag : BitVec.ofNat 16 (ofLE (leBytes 2 r.tag.toNat)) = r.tag := by
      rw [ofLE_leBytes]
      exact BitVec.eq_of_toNat_eq (by simp [Nat.mod_eq_of_lt r.tag.isLt])
    have words := wordsOf_params 15 r.params h
    rw [readRecord]
    congr 1

/-- What a record asks depends on its parameter words as they are looked up. -/
theorem command_of_params (r : CommandRecord) (ps : List Word) (h : ∀ k, ps.getD k 0 = r.p k) :
    { r with params := ps : CommandRecord }.command = r.command := by
  have look : { r with params := ps : CommandRecord }.p = r.p := funext h
  unfold CommandRecord.command
  rw [look]

theorem decode_frame (r : CommandRecord) (h : r.params.length ≤ 15) : decodeCommandRecord r.frame = r.command := by
  rw [decodeCommandRecord, (readRecord_frame r h).2]
  refine command_of_params r _ fun k => ?_
  rw [CommandRecord.p, List.getD_eq_getElem?_getD, List.getD_eq_getElem?_getD]
  rcases Nat.lt_or_ge k r.params.length with inside | beyond
  · rw [List.getElem?_append_left inside]
  · rw [List.getElem?_append_right beyond, List.getElem?_eq_none beyond, List.getElem?_replicate]
    split <;> rfl

/-! ## What a record asks -/

theorem encode_params {i : Instr} {r : CommandRecord} (h : encodeCommand i = some r) : r.params.length ≤ 15 := by
  cases i
  case unknownCommand tag kind =>
    simp only [encodeCommand] at h
    split at h
    · cases h
    · cases h; simp
  all_goals cases h
  all_goals simp

theorem command_unknown (tag : Half) (kind : Byte) (h : commandKinds.contains kind.toNat = false) :
    ({ kind := kind, flags := 0, tag := tag, params := [] } : CommandRecord).command = .unknownCommand tag kind := by
  unfold CommandRecord.command
  dsimp only
  split
  case h_37 => rfl
  all_goals
    next e => rw [e] at h; exact absurd h (by decide)

/-- Bit 0 of a record's flags is its FORCE bit; OPEN_RESTORE has PREEMPT in bit 1 and CONTINUE in bit 2. -/
theorem flag_bits (force preempt cont : Bool) : (BitVec.ofNat 8 force.toNat).getLsbD 0 = force
    ∧ (BitVec.ofNat 8 (2 * preempt.toNat + 4 * cont.toNat)).getLsbD 1 = preempt
    ∧ (BitVec.ofNat 8 (2 * preempt.toNat + 4 * cont.toNat)).getLsbD 2 = cont := by
  revert force preempt cont
  decide

/-- Every record of the encoder asks the command that it was made of. -/
theorem command_encode {i : Instr} {r : CommandRecord} (h : encodeCommand i = some r) : r.command = i := by
  cases i
  case unknownCommand tag kind =>
    simp only [encodeCommand] at h
    split at h
    · cases h
    · next unlisted =>
      cases h
      have same : BitVec.ofNat 8 kind.toNat = kind := BitVec.eq_of_toNat_eq (by simp)
      rw [same]
      exact command_unknown tag kind (by simpa using unlisted)
  case unmount t force p0 => cases h; exact congrArg (Instr.unmount t · p0) (flag_bits force false false).1
  case openRestore t preempt cont p0 p1 p2 p3 p4 p5 =>
    cases h
    obtain ⟨-, hp, hc⟩ := flag_bits false preempt cont
    exact congrArg₂ (Instr.openRestore t · · p0 p1 p2 p3 p4 p5) hp hc
  case move t force p0 p1 => cases h; exact congrArg (Instr.move t · p0 p1) (flag_bits force false false).1
  case exportCart t force p0 => cases h; exact congrArg (Instr.exportCart t · p0) (flag_bits force false false).1
  all_goals cases h
  all_goals rfl

/-- Settles O10: what a frame is read as, and what that record asks; the records written out are evaluated. -/
theorem commandRecordsRoundTrip : Obligations.CommandRecordsRoundTrip :=
  ⟨fun _ r h => ⟨(readRecord_frame r (encode_params h)).1, (decode_frame r (encode_params h)).trans (command_encode h)⟩,
    rfl, rfl, rfl, rfl, rfl⟩

end Sys2Proof.Machine
end

section
/-! The pack codec (1.5, 1.7): the decoder takes back what the encoder wrote. Tokens and items act on the output so far, newest
byte first, as the decoder does. -/

namespace Sys2Proof.Machine

/-! ## What a token does to the output (R17, R23) -/

def Token.apply (out : List Byte) : Token → List Byte
  | .run lits => lits.reverse ++ out
  | .copy len dist => copyBack dist len out

/-- A token that the decoder takes: a run of at most 128 bytes, or a match that lies in the output. -/
def Token.fits (out : List Byte) : Token → Prop
  | .run lits => 1 ≤ lits.length ∧ lits.length ≤ 128
  | .copy len dist => 3 ≤ len ∧ len ≤ 130 ∧ 1 ≤ dist ∧ dist ≤ out.length ∧ dist < 65536

def tokensFit : List Token → List Byte → Prop
  | [], _ => True
  | t :: ts, out => t.fits out ∧ tokensFit ts (t.apply out)

theorem tokensFit_append : ∀ {ts us : List Token} {out : List Byte},
    tokensFit (ts ++ us) out ↔ tokensFit ts out ∧ tokensFit us (ts.foldl Token.apply out)
  | [], _, _ => by simp [tokensFit]
  | t :: ts, us, out => by
    rw [List.cons_append, tokensFit, tokensFit, tokensFit_append, and_assoc]
    rfl

theorem copyBack_length (d : Nat) : ∀ (n : Nat) (out : List Byte), (copyBack d n out).length = out.length + n
  | 0, _ => rfl
  | n + 1, out => by rw [copyBack, copyBack_length d n, List.length_cons]; omega

theorem apply_length (t : Token) (out : List Byte) : out.length ≤ (t.apply out).length := by
  cases t with
  | run lits => simp [Token.apply]
  | copy len dist => simp [Token.apply, copyBack_length]

theorem foldl_apply_length : ∀ (ts : List Token) (out : List Byte), out.length ≤ (ts.foldl Token.apply out).length
  | [], _ => Nat.le_refl _
  | t :: ts, out => (apply_length t out).trans (foldl_apply_length ts (t.apply out))

/-- One token of the stream: the decoder takes its bytes and acts as it says. -/
theorem decode_token {m k : Nat} {t : Token} {out : List Byte} (body : List Byte) (h : t.fits out)
    (hm : (t.apply out).length ≤ m) : decodeTokens m (k + 1) (t.bytes ++ body) out = decodeTokens m k body (t.apply out) := by
  cases t with
  | run lits =>
    obtain ⟨some_, few⟩ := h
    have code : (BitVec.ofNat 8 (lits.length - 1)).toNat = lits.length - 1 := by
      rw [BitVec.toNat_ofNat]; omega
    have len : lits.length - 1 + 1 = lits.length := by omega
    simp only [Token.apply, List.length_append, List.length_reverse] at hm
    rw [Token.bytes, List.cons_append, decodeTokens, code, len, if_pos (by omega),
      if_neg (by rw [List.length_append]; omega), if_neg (by omega), List.drop_left, List.take_left]
    rfl
  | copy len dist =>
    obtain ⟨three, few, hd, back, near⟩ := h
    have code : (BitVec.ofNat 8 (128 + (len - 3))).toNat = len + 125 := by
      rw [BitVec.toNat_ofNat]; omega
    have bytes : beBytes 2 dist = [BitVec.ofNat 8 (dist / 256), BitVec.ofNat 8 dist] := rfl
    have dists : 256 * (BitVec.ofNat 8 (dist / 256)).toNat + (BitVec.ofNat 8 dist).toNat = dist := by
      rw [BitVec.toNat_ofNat, BitVec.toNat_ofNat]; omega
    simp only [Token.apply, copyBack_length] at hm
    rw [Token.bytes, List.cons_append, decodeTokens, code, if_neg (by omega), bytes]
    simp only [List.cons_append, List.nil_append, dists]
    rw [if_neg (by omega), if_neg (by omega), Nat.add_sub_cancel]
    rfl

theorem token_bytes_pos (t : Token) : 1 ≤ t.bytes.length := by
  cases t <;> simp [Token.bytes]

/-- R23, R24: a whole stream of tokens that fit decodes GOOD to what they write. -/
theorem decode_tokens {m : Nat} : ∀ {ts : List Token} {k : Nat} {out : List Byte}, tokensFit ts out →
    (ts.foldl Token.apply out).length = m → ((ts.map Token.bytes).flatten).length ≤ k →
    decodeTokens m k ((ts.map Token.bytes).flatten) out = (.good, ts.foldl Token.apply out)
  | [], k, out, _, hm, _ => by
    have done : ¬ out.length < m := Nat.not_lt.2 (Nat.le_of_eq hm.symm)
    cases k <;> simp [decodeTokens, done]
  | t :: ts, k, out, h, hm, hk => by
    obtain ⟨fits, rest⟩ := h
    have pos := token_bytes_pos t
    rw [List.map_cons, List.flatten_cons, List.length_append] at hk
    obtain ⟨k, rfl⟩ : ∃ n, k = n + 1 := ⟨k - 1, by omega⟩
    rw [List.map_cons, List.flatten_cons, decode_token _ fits ((foldl_apply_length ts _).trans (Nat.le_of_eq hm))]
    exact decode_tokens rest hm (by omega)

/-! ## Items and their gathering into tokens (R17) -/

def Item.apply (out : List Byte) : Item → List Byte
  | .lit b => b :: out
  | .copy len dist => copyBack dist len out

def Item.fits (out : List Byte) : Item → Prop
  | .lit _ => True
  | .copy len dist => 3 ≤ len ∧ len ≤ 130 ∧ 1 ≤ dist ∧ dist ≤ out.length ∧ dist < 65536

def itemsFit : List Item → List Byte → Prop
  | [], _ => True
  | i :: is, out => i.fits out ∧ itemsFit is (i.apply out)

theorem closeRun_effect (acc out : List Byte) (h : acc.length ≤ 128) :
    tokensFit (closeRun acc) out ∧ (closeRun acc).foldl Token.apply out = acc.reverse ++ out := by
  cases acc with
  | nil => exact ⟨trivial, rfl⟩
  | cons b acc => exact ⟨⟨⟨Nat.succ_le_succ (Nat.zero_le _), h⟩, trivial⟩, rfl⟩

/-- R17: gathering changes neither what is written nor that it fits. -/
theorem gather_effect : ∀ (is : List Item) (acc out : List Byte), acc.length ≤ 128 → itemsFit is (acc.reverse ++ out) →
    tokensFit (gather is acc) out
      ∧ (gather is acc).foldl Token.apply out = is.foldl Item.apply (acc.reverse ++ out)
  | [], acc, out, h, _ => closeRun_effect acc out h
  | .copy len dist :: is, acc, out, h, hf => by
    obtain ⟨fits, rest⟩ := hf
    obtain ⟨runFits, run⟩ := closeRun_effect acc out h
    obtain ⟨restFits, restRun⟩ := gather_effect is [] (copyBack dist len (acc.reverse ++ out)) (Nat.zero_le _) rest
    rw [gather, tokensFit_append, List.foldl_append, run]
    exact ⟨⟨runFits, fits, restFits⟩, restRun⟩
  | .lit b :: is, acc, out, h, hf => by
    obtain ⟨-, rest⟩ := hf
    rw [gather]
    split
    · next full =>
      obtain ⟨restFits, restRun⟩ := gather_effect is [b] (acc.reverse ++ out) (by simp) rest
      exact ⟨⟨⟨by omega, h⟩, restFits⟩, restRun⟩
    · next room =>
      have append : (acc ++ [b]).reverse ++ out = b :: (acc.reverse ++ out) := by simp
      obtain ⟨restFits, restRun⟩ := gather_effect is (acc ++ [b]) out (by simp; omega) (by rw [append]; exact rest)
      rw [append] at restRun
      exact ⟨restFits, restRun⟩

/-! ## The scan (R15, R16) -/

theorem matchLen_le : ∀ (n : Nat) (xs ys : List Byte), matchLen n xs ys ≤ n ∧ matchLen n xs ys ≤ ys.length
    ∧ ∀ i, i < matchLen n xs ys → xs[i]? = ys[i]?
  | 0, _, _ => ⟨Nat.le_refl _, Nat.zero_le _, fun i h => by simp [matchLen] at h⟩
  | n + 1, [], _ => ⟨Nat.zero_le _, Nat.zero_le _, fun i h => by simp [matchLen] at h⟩
  | n + 1, _ :: _, [] => ⟨Nat.zero_le _, Nat.zero_le _, fun i h => by simp [matchLen] at h⟩
  | n + 1, x :: xs, y :: ys => by
    obtain ⟨h1, h2, h3⟩ := matchLen_le n xs ys
    rw [matchLen]
    split
    · next e =>
      refine ⟨Nat.succ_le_succ h1, Nat.succ_le_succ h2, fun i hi => ?_⟩
      cases i with
      | zero => simp [e]
      | succ i => simpa using h3 i (Nat.lt_of_succ_lt_succ hi)
    · exact ⟨Nat.zero_le _, Nat.zero_le _, fun i h => by omega⟩

/-- R23: a match copies the bytes of the input, where each of them is the byte `d` places before it. -/
theorem copyBack_input {b : List Byte} {d : Nat} (hd : 1 ≤ d) : ∀ (n q : Nat), d ≤ q → q + n ≤ b.length →
    (∀ i, i < n → b[q + i - d]? = b[q + i]?) → copyBack d n (b.take q).reverse = (b.take (q + n)).reverse
  | 0, _, _, _, _ => rfl
  | n + 1, q, hq, hn, same => by
    have byte : (b.take q).reverse.getD (d - 1) 0 = b[q] := by
      have h0 : b[q - d]? = some b[q] := (same 0 (Nat.succ_pos n)).trans (List.getElem?_eq_getElem _)
      have idx : min q b.length - 1 - (d - 1) = q - d := by omega
      rw [List.getD_eq_getElem?_getD, List.getElem?_reverse (by simp; omega), List.length_take, idx,
        List.getElem?_take, if_pos (by omega), h0]
      rfl
    have next : b[q] :: (b.take q).reverse = (b.take (q + 1)).reverse := by
      rw [List.take_succ_eq_append_getElem (by omega), List.reverse_append]
      rfl
    rw [copyBack, byte, next, copyBack_input hd n (q + 1) (by omega) (by omega) fun i hi => by
      have := same (i + 1) (by omega)
      rwa [show q + (i + 1) = q + 1 + i by omega] at this]
    congr 2
    omega

theorem hashGet_mem {h : List (Nat × Nat)} {k c : Nat} (hc : hashGet h k = some c) : ∃ e ∈ h, e.2 = c := by
  obtain ⟨e, he, rfl⟩ := Option.map_eq_some_iff.1 hc
  exact ⟨e, List.mem_of_find?_eq_some he, rfl⟩

theorem mem_hashPut {k p : Nat} {e : Nat × Nat} : ∀ {h : List (Nat × Nat)}, e ∈ hashPut k p h → e = (k, p) ∨ e ∈ h
  | [], he => .inl (by simpa [hashPut] using he)
  | x :: h, he => by
    rw [hashPut] at he
    split at he
    · rcases List.mem_cons.1 he with rfl | he
      · exact .inr List.mem_cons_self
      · exact (mem_hashPut he).imp_right (List.mem_cons_of_mem _)
    · split at he
      · exact (List.mem_cons.1 he).imp_right (List.mem_cons_of_mem _)
      · exact List.mem_cons.1 he

theorem table_put {h : List (Nat × Nat)} {p n : Nat} (k : Nat) (old : ∀ e ∈ h, e.2 < p) (hn : 1 ≤ n) :
    ∀ e ∈ hashPut k p h, e.2 < p + n := fun e he => by
  rcases mem_hashPut he with rfl | he
  · exact Nat.lt_add_of_pos_right hn
  · exact Nat.lt_add_right n (old e he)

theorem scan_literal (b : List Byte) (k p : Nat) {x : Byte} {xs : List Byte} (h : List (Nat × Nat)) (short : xs.length < 2) :
    scan b (k + 1) p (x :: xs) h = .lit x :: scan b k (p + 1) xs h := by
  match xs with
  | [] => rfl
  | [_] => rfl

theorem scan_three (b : List Byte) (k p : Nat) (x y z : Byte) (xs : List Byte) (h : List (Nat × Nat)) :
    scan b (k + 1) p (x :: y :: z :: xs) h =
      let len := candidateLen b (x :: y :: z :: xs) (hashGet h (hash3 x y z))
      if 3 ≤ len then .copy len (p - (hashGet h (hash3 x y z)).getD 0)
          :: scan b k (p + len) ((x :: y :: z :: xs).drop len) (hashPut (hash3 x y z) p h)
      else .lit x :: scan b k (p + 1) (y :: z :: xs) (hashPut (hash3 x y z) p h) := rfl

/-- The input up to and with position `p`. -/
theorem take_next {b xs : List Byte} {p : Nat} {x : Byte} (h : x :: xs = b.drop p) :
    p < b.length ∧ xs = b.drop (p + 1) ∧ (b.take (p + 1)).reverse = x :: (b.take p).reverse := by
  have inside : p < b.length := by
    have := congrArg List.length h
    simp at this
    omega
  have split := List.drop_eq_getElem_cons inside
  rw [split] at h
  obtain ⟨rfl, rfl⟩ := List.cons.inj h
  refine ⟨inside, rfl, ?_⟩
  rw [List.take_succ_eq_append_getElem inside, List.reverse_append]
  rfl

/-- R15, R16: a candidate that agrees in three bytes lies before the position, and a copy from it gives the bytes from there. -/
theorem candidate_effect {b rest : List Byte} {p len : Nat} {o : Option Nat} (hr : rest = b.drop p)
    (old : ∀ c, o = some c → c < p) (hp : p ≤ b.length) (hb : b.length ≤ 4096) (hl : len = candidateLen b rest o) (three : 3 ≤ len) :
    Item.fits (b.take p).reverse (.copy len (p - o.getD 0)) ∧ p + len ≤ b.length
      ∧ Item.apply (b.take p).reverse (.copy len (p - o.getD 0)) = (b.take (p + len)).reverse := by
  cases o with
  | none => simp [candidateLen] at hl; omega
  | some c =>
    have before := old c rfl
    obtain ⟨most, inside, agree⟩ := matchLen_le 130 (b.drop c) rest
    rw [show matchLen 130 (b.drop c) rest = len from hl.symm] at most inside agree
    rw [hr, List.length_drop] at inside
    have whole : (b.take p).reverse.length = p := by simp; omega
    refine ⟨⟨three, most, ?_, ?_, ?_⟩, by omega, copyBack_input ?_ len p ?_ (by omega) fun i hi => ?_⟩
    · simp; omega
    · rw [whole]; simp
    · simp; omega
    · simp; omega
    · simp
    · have same := agree i hi
      rw [hr, List.getElem?_drop, List.getElem?_drop] at same
      rw [← same]
      congr 1
      simp
      omega

/-- R15, R16: the items of an input write that input. -/
theorem scan_effect {b : List Byte} (hb : b.length ≤ 4096) : ∀ (k p : Nat) (rest : List Byte) (h : List (Nat × Nat)),
    rest = b.drop p → p ≤ b.length → rest.length ≤ k → (∀ e ∈ h, e.2 < p) →
    itemsFit (scan b k p rest h) (b.take p).reverse
      ∧ (scan b k p rest h).foldl Item.apply (b.take p).reverse = b.reverse
  | k, p, [], h, hr, hp, _, _ => by
    have done : b.take p = b := List.take_of_length_le (List.drop_eq_nil_iff.1 hr.symm)
    have none_ : scan b k p [] h = [] := by cases k <;> rfl
    rw [none_, done]
    exact ⟨trivial, rfl⟩
  | 0, _, _ :: _, _, _, _, hk, _ => by simp at hk
  | k + 1, p, x :: xs, h, hr, hp, hk, old => by
    obtain ⟨inside, rest, written⟩ := take_next hr
    have literal : ∀ h', (∀ e ∈ h', e.2 < p + 1) → itemsFit (.lit x :: scan b k (p + 1) xs h') (b.take p).reverse
        ∧ (Item.lit x :: scan b k (p + 1) xs h').foldl Item.apply (b.take p).reverse = b.reverse := fun h' old' => by
      obtain ⟨fits, effect⟩ := scan_effect hb k (p + 1) xs h' rest inside (by simpa using hk) old'
      rw [written] at fits effect
      exact ⟨⟨trivial, fits⟩, effect⟩
    match xs, hr, hk, rest, literal with
    | [], _, _, _, literal => exact literal h fun e he => Nat.lt_succ_of_lt (old e he)
    | [y], _, _, _, literal => exact literal h fun e he => Nat.lt_succ_of_lt (old e he)
    | y :: z :: xs, hr, hk, _, literal =>
      rw [scan_three]
      extract_lets len
      split
      · next three =>
        obtain ⟨fits, bound, copied⟩ := candidate_effect hr (fun c hc => by
          obtain ⟨e, he, rfl⟩ := hashGet_mem hc
          exact old e he) hp hb rfl three
        obtain ⟨restFits, effect⟩ := scan_effect hb k (p + len) ((x :: y :: z :: xs).drop len) (hashPut (hash3 x y z) p h)
          (by rw [hr, List.drop_drop]) bound (by rw [List.length_drop]; simp at hk ⊢; omega)
          (table_put (hash3 x y z) old (by omega))
        rw [← copied] at restFits effect
        exact ⟨⟨fits, restFits⟩, effect⟩
      · exact literal _ (table_put (hash3 x y z) old (Nat.le_refl 1))

/-- R15 to R18, R23: the token stream of an input of at most 4,096 bytes decodes GOOD to it. -/
theorem decode_tokenStream {b : List Byte} (hb : b.length ≤ 4096) :
    decodeTokens b.length (tokenStream b).length (tokenStream b) [] = (.good, b.reverse) := by
  obtain ⟨itemFits, items⟩ := scan_effect hb b.length 0 b [] rfl (Nat.zero_le _) (Nat.le_refl _) (fun _ h => by simp at h)
  obtain ⟨fits, tokens⟩ := gather_effect (scan b b.length 0 b []) [] [] (Nat.zero_le _) itemFits
  have written : (gather (scan b b.length 0 b []) []).foldl Token.apply [] = b.reverse := tokens.trans items
  rw [← written]
  exact decode_tokens fits (by rw [written, List.length_reverse]) (Nat.le_refl _)

/-! ## The stored chunk (R4, R18, R22) -/

theorem chunkHeader_length (orig body : Nat) (packed setend : Bool) (check : Word) :
    (chunkHeader orig body packed setend check).length = 10 := rfl

/-- R4: the fields of a chunk header are read back. -/
theorem parse_chunkHeader {orig body : Nat} (packed setend : Bool) (check : Word) (rest : List Byte) (ho : orig < 65536)
    (hb : body < 65536) : parseChunk (chunkHeader orig body packed setend check ++ rest) =
      { orig := orig, body := body, form := if packed then 1 else 0, setend := setend, check := check } := by
  have origs : slice (chunkHeader orig body packed setend check ++ rest) 0 2 = beBytes 2 orig := rfl
  have bodies : slice (chunkHeader orig body packed setend check ++ rest) 2 2 = beBytes 2 body := rfl
  have checks : slice (chunkHeader orig body packed setend check ++ rest) 6 4 = beBytes 4 check.toNat := rfl
  have form : (chunkHeader orig body packed setend check ++ rest).getD 4 0 = if packed then 1 else 0 := rfl
  have flags : (chunkHeader orig body packed setend check ++ rest).getD 5 0 = if setend then 1 else 0 := rfl
  have flag : (if setend then 1 else 0 : Byte).getLsbD 0 = setend := by cases setend <;> decide
  have word : w32 check.toNat = check := BitVec.eq_of_toNat_eq (by simp [w32])
  rw [parseChunk, origs, bodies, checks, form, flags, flag, ofBE_beBytes, ofBE_beBytes, ofBE_beBytes,
    Nat.mod_eq_of_lt (show orig < 256 ^ 2 from ho), Nat.mod_eq_of_lt (show body < 256 ^ 2 from hb),
    Nat.mod_eq_of_lt (show check.toNat < 256 ^ 4 from check.isLt), word]

/-- R22 to R24: a chunk whose header tells its body, and whose body the decoder takes back, decodes GOOD. -/
theorem decodeStored_chunk {input body : List Byte} {packed : Bool} (setend : Bool) (hi : input.length ≤ 4096)
    (hb : if packed then body.length < input.length ∧
        decodeTokens input.length body.length body [] = (.good, input.reverse) else body = input) :
    decodeStored (chunkHeader input.length body.length packed setend (crc32 input) ++ body) = (.good, input) := by
  have small : body.length ≤ input.length := by
    cases packed
    · exact Nat.le_of_eq (congrArg List.length (by simpa using hb))
    · exact Nat.le_of_lt (by simpa using hb.1)
  have long : ¬ (chunkHeader input.length body.length packed setend (crc32 input) ++ body).length < Config.chunkHeaderSize := by
    rw [List.length_append, chunkHeader_length]
    exact Nat.not_lt.2 (Nat.le_add_right 10 _)
  have taken : slice (chunkHeader input.length body.length packed setend (crc32 input) ++ body) Config.chunkHeaderSize body.length
      = body := by
    rw [slice, List.drop_left' (show _ = Config.chunkHeaderSize from chunkHeader_length ..), List.take_length]
  have fields := parse_chunkHeader packed setend (crc32 input) body (orig := input.length) (body := body.length) (by omega) (by omega)
  simp only [decodeStored, if_neg long, fields, taken]
  cases packed
  · obtain rfl : body = input := by simpa using hb
    have good : ChunkFields.bad ⟨body.length, body.length, 0#8, setend, crc32 body⟩ = false := by
      simp [ChunkFields.bad]; omega
    simp [good]
  · obtain ⟨shrunk, decoded⟩ : body.length < input.length ∧
        decodeTokens input.length body.length body [] = (.good, input.reverse) := by simpa using hb
    have good : ChunkFields.bad ⟨input.length, body.length, 1#8, setend, crc32 input⟩ = false := by
      simp [ChunkFields.bad]; omega
    simp [good, decoded]

/-- Settles O11: a chunk is PACKED where its token stream is shorter than the input, and holds the input itself otherwise. -/
theorem storedChunksDecodeToTheirInput : Obligations.StoredChunksDecodeToTheirInput := by
  intro mode setend input hi
  have body : if (packBody mode input).1 then (packBody mode input).2.length < input.length ∧
      decodeTokens input.length (packBody mode input).2.length (packBody mode input).2 [] = (.good, input.reverse)
      else (packBody mode input).2 = input := by
    cases mode with
    | copy => rfl
    | encode =>
      simp only [packBody]
      split
      · next shorter => exact ⟨shorter, decode_tokenStream hi⟩
      · rfl
  refine ⟨decodeStored_chunk setend hi body, ?_⟩
  rw [storedChunk, List.length_append, chunkHeader_length]
  refine Nat.add_le_add_left ?_ 10
  split at body
  · exact Nat.le_of_lt body.1
  · exact Nat.le_of_eq (congrArg List.length body)

end Sys2Proof.Machine
end

section
/-! The loader's settings (7.4, 7.6, 8.6), the move queue's commands (8.1), and the cleaning commands (7.1, 8.6). -/

namespace Sys2Proof.Machine

variable {s : State}

/-! ## Operands -/

theorem driveOf_some {w : Word} {d : Drive} (h : w.toNat = d.val) : driveOf w = some d := by
  rw [driveOf, dif_pos (h ▸ d.isLt)]
  exact congrArg some (Fin.ext h)

theorem driveOf_none {w : Word} (h : 1 < w.toNat) : driveOf w = none := dif_neg (by omega)

theorem locOf_some {w : Word} {l : Loc} (h : w.toNat = l.val) : locOf w = some l := by
  rw [locOf, dif_pos (h ▸ l.isLt)]
  exact congrArg some (Fin.ext h)

theorem locOf_none {w : Word} (h : 26 < w.toNat) : locOf w = none := dif_neg (by omega)

theorem locOf_val {w : Word} {l : Loc} (h : locOf w = some l) : w.toNat = l.val := by
  unfold locOf at h
  split at h <;> cases h
  rfl

/-! ## SET_SCRATCH (R161) -/

theorem exec_setScratch (tag : Half) (p0 p1 p2 p3 p4 p5 p6 : Word) (s : State) : exec (.setScratch tag p0 p1 p2 p3 p4 p5 p6) s =
    .next (s.command (.setScratch tag p0 p1 p2 p3 p4 p5 p6) 0x44 tag (setScratchRule p0 p1 p2 p3 p4 p5 p6)) := rfl

/-- R161: slot number `k` of the list, four to a word, the lowest byte first. -/
def scratchSlot (p1 p2 p3 p4 p5 p6 : Word) (k : Nat) : Nat :=
  (([p1, p2, p3, p4, p5, p6].getD (k / 4) 0).toNat / 256 ^ (k % 4)) % 256

theorem scratchBytes_eq (p1 p2 p3 p4 p5 p6 : Word) {n : Nat} (h : n ≤ 24) :
    scratchBytes n [p1, p2, p3, p4, p5, p6] = (List.range n).map (scratchSlot p1 p2 p3 p4 p5 p6) := by
  have all_ : ([p1, p2, p3, p4, p5, p6].flatMap fun w => (leBytes 4 w.toNat).map BitVec.toNat)
      = (List.range 24).map (scratchSlot p1 p2 p3 p4 p5 p6) := by
    simp [leBytes, scratchSlot, List.range, List.range.loop, Nat.div_div_eq_div_mul]
  rw [scratchBytes, all_, ← List.map_take, List.take_range, Nat.min_eq_left h]

theorem slotsOf_none : ∀ {l : List Nat}, (∃ n ∈ l, 23 < n) → slotsOf l = none
  | [], h => by simp at h
  | n :: ns, h => by
    rw [slotsOf]
    split
    · next small =>
      obtain ⟨m, hm, big⟩ := h
      rcases List.mem_cons.1 hm with rfl | hm
      · omega
      · rw [slotsOf_none ⟨m, hm, big⟩]
        rfl
    · rfl

theorem slotsOf_some : ∀ {l : List Nat}, (∀ n ∈ l, n ≤ 23) → ∃ v, slotsOf l = some v ∧ v.map Fin.val = l
  | [], _ => ⟨[], rfl, rfl⟩
  | n :: ns, h => by
    obtain ⟨v, hv, vals⟩ := slotsOf_some fun m hm => h m (List.mem_cons_of_mem _ hm)
    have small : n < 24 := Nat.lt_succ_of_le (h n List.mem_cons_self)
    exact ⟨⟨n, small⟩ :: v, by rw [slotsOf, dif_pos small, hv]; rfl, by rw [List.map_cons, vals]⟩

theorem nodup_map_range (f : Nat → Nat) (n : Nat) :
    ((List.range n).map f).Nodup ↔ ∀ j k, j < k → k < n → f j ≠ f k := by
  rw [List.Nodup, List.pairwise_iff_getElem]
  simp only [List.length_map, List.length_range, List.getElem_map, List.getElem_range]
  exact ⟨fun h j k hjk hk => h j k (by omega) hk hjk, fun h j k _ hk hjk => h j k hjk hk⟩

theorem setScratch_ends (s : State) (tag : Half) (p0 p1 p2 p3 p4 p5 p6 : Word) :
    let scratch := Instr.setScratch tag p0 p1 p2 p3 p4 p5 p6
    let slot := scratchSlot p1 p2 p3 p4 p5 p6
    (24 < p0.toNat ∨ (∃ k < p0.toNat, 23 < slot k)
        ∨ (∃ j k, j < k ∧ k < p0.toNat ∧ slot j = slot k) → TurnedAway scratch 0x44 tag .badParam s)
    ∧ (p0.toNat ≤ 24 → (∀ k < p0.toNat, slot k ≤ 23) → (∀ j k, j < k → k < p0.toNat → slot j ≠ slot k) →
        ∃ l : List (Fin 24), l.length = p0.toNat ∧ (∀ k (h : k < l.length), l[k].val = slot k)
          ∧ Ends scratch 0x44 tag .done {} s { s.atOwner with loader := { s.loader with scratch := l } }) := by
  intro scratch slot
  have arm := exec_setScratch tag p0 p1 p2 p3 p4 p5 p6 s
  refine ⟨fun bad => turnedAway_of_owner arm ?_, fun few small distinct => ?_⟩
  · unfold setScratchRule
    split
    · rfl
    · next few =>
      rw [scratchBytes_eq _ _ _ _ _ _ (Nat.not_lt.1 few)]
      by_cases big : ∃ k < p0.toNat, 23 < slot k
      · obtain ⟨k, hk, big⟩ := big
        rw [slotsOf_none ⟨slot k, List.mem_map.2 ⟨k, List.mem_range.2 hk, rfl⟩, big⟩]
      · obtain ⟨v, hv, vals⟩ := slotsOf_some (l := (List.range p0.toNat).map slot) fun n hn => by
          obtain ⟨k, hk, rfl⟩ := List.mem_map.1 hn
          exact Nat.not_lt.1 fun h => big ⟨k, List.mem_range.1 hk, h⟩
        obtain ⟨j, k, hjk, hk, same⟩ := (bad.resolve_left few).resolve_left big
        have twice : ¬ v.Nodup := fun h =>
          (nodup_map_range slot p0.toNat).1 (vals ▸ h.map Fin.val_injective) j k hjk hk same
        rw [hv]
        exact if_neg twice
  · obtain ⟨v, hv, vals⟩ := slotsOf_some (l := (List.range p0.toNat).map slot) fun n hn => by
      obtain ⟨k, hk, rfl⟩ := List.mem_map.1 hn
      exact small k (List.mem_range.1 hk)
    have len : v.length = p0.toNat := by simpa using congrArg List.length vals
    have once : v.Nodup := .of_map _ (by rw [vals]; exact (nodup_map_range slot p0.toNat).2 distinct)
    refine ⟨v, len, fun k hk => ?_, ends_of_owner arm ?_⟩
    · have at_ := List.getElem_of_eq vals (i := k) (by simpa using hk)
      simpa using at_
    · rw [setScratchRule, if_neg (by omega), scratchBytes_eq _ _ _ _ _ _ few, hv]
      exact if_pos once

/-! ## The door lock and bay power (R135, R139) -/

theorem exec_doorLock (tag : Half) (s : State) :
    exec (.doorLock tag) s = .next (s.command (.doorLock tag) 0x47 tag (doorLockRule true)) := rfl

theorem exec_doorUnlock (tag : Half) (s : State) :
    exec (.doorUnlock tag) s = .next (s.command (.doorUnlock tag) 0x48 tag (doorLockRule false)) := rfl

theorem exec_drivePower (tag : Half) (p0 p1 : Word) (s : State) :
    exec (.drivePower tag p0 p1) s = .next (s.command (.drivePower tag p0 p1) 0x27 tag (drivePowerRule p0 p1)) := rfl

/-- R135: the lock output follows its condition. -/
theorem syncLock_loader (s : State) : s.syncLock.loader = { s.loader with lockOutput := s.lockWanted } := by
  unfold State.syncLock
  split
  · next same => rw [same]
  · exact State.doorEvent_loader ..

theorem doorLockRule_same (s : State) (on : Bool) :
    s.blocksSame { (s.atOwner.modLoader fun l => { l with doorLockFlag := on }).syncLock with loader := s.loader } :=
  ⟨mem_of_outside (State.syncLock_outside _), timebase_of_outside (State.syncLock_outside _),
    params_of_outside (State.syncLock_outside _), State.syncLock_pool _, State.syncLock_pack _, State.syncLock_streams _,
    State.syncLock_chans _, State.syncLock_restore _, rfl⟩

theorem lockWanted_of_flag (s : State) (on : Bool) : (s.modLoader fun l => { l with doorLockFlag := on }).lockWanted =
    (s.running && s.picker.state != .faulted && (on || s.picker.state != .parked)) := by
  change (s.running && match s.picker.state with | .parked => on | .faulted => false | _ => true) = _
  cases s.picker.state <;> cases s.running <;> cases on <;> rfl

theorem drivePowerRule_of_drive {p0 p1 : Word} {d : Drive} (h : p0.toNat = d.val) (hp : p1.toNat ≤ 1) : drivePowerRule p0 p1 s =
    if (s.chan d).state ≠ .unmounted then s.turnAway .refusedState
    else if p1 = 1 ∧ (s.filter (.power d)).debounced = .on then s.turnAway .refusedState
    else (s.modLoader fun l => { l with bayPower := l.bayPower.set d (p1 == 1) }).ok := by
  simp only [drivePowerRule, driveOf_some h, Nat.not_lt.2 hp, if_false]

/-- Settles O55: the scratch list byte by byte, the lock output by its condition, and the power output by the channel. -/
theorem loaderSettingsAreTaken : Obligations.LoaderSettingsAreTaken := by
  intro s tag p0 p1 p2 p3 p4 p5 p6 u scratch slot
  obtain ⟨badScratch, takenScratch⟩ := setScratch_ends s tag p0 p1 p2 p3 p4 p5 p6
  have power := exec_drivePower tag p0 p1 s
  refine ⟨badScratch, takenScratch, ?_, ?_, fun bad => turnedAway_of_owner power ?_, fun d hd hp => ⟨fun refused =>
    turnedAway_of_owner power ?_, fun idle safe => ends_of_owner power ?_⟩⟩
  · let v := (u.modLoader fun l => { l with doorLockFlag := true })
    refine ⟨v.syncLock, ends_of_owner (exec_doorLock tag s) rfl, ?_, ?_, doorLockRule_same s true⟩
    · rw [syncLock_loader]; rfl
    · rw [syncLock_loader]
      exact (lockWanted_of_flag u true).trans (Bool.and_true _)
  · let v := (u.modLoader fun l => { l with doorLockFlag := false })
    refine ⟨v.syncLock, ends_of_owner (exec_doorUnlock tag s) rfl, ?_, ?_, doorLockRule_same s false⟩
    · rw [syncLock_loader]; rfl
    · rw [syncLock_loader]
      exact lockWanted_of_flag u false
  · unfold drivePowerRule
    split
    · rfl
    · next d hd =>
      refine if_pos (bad.resolve_left fun big => ?_)
      rw [driveOf_none big] at hd
      cases hd
  · rw [drivePowerRule_of_drive hd hp]
    by_cases idle : (s.chan d).state = .unmounted
    · exact (if_neg (not_not.2 idle)).trans (if_pos (refused.resolve_left (not_not.2 idle)))
    · exact if_pos idle
  · rw [drivePowerRule_of_drive hd hp]
    refine (if_neg (not_not.2 idle)).trans (if_neg ?_)
    rintro ⟨on, powered⟩
    obtain off | unpowered := safe
    · rw [off] at on; exact absurd on (by decide)
    · exact unpowered powered

/-! ## MOVE, EXPORT and INVENTORY (R149) -/

theorem exec_move (tag : Half) (force : Bool) (p0 p1 : Word) (s : State) : exec (.move tag force p0 p1) s =
    .next (s.command (.move tag force p0 p1) 0x40 tag (settled (moveRule tag force p0 p1))) := rfl

theorem exec_exportCart (tag : Half) (force : Bool) (p0 : Word) (s : State) : exec (.exportCart tag force p0) s =
    .next (s.command (.exportCart tag force p0) 0x41 tag (settled (exportRule tag force p0))) := rfl

theorem exec_inventory (tag : Half) (p0 p1 : Word) (s : State) : exec (.inventory tag p0 p1) s =
    .next (s.command (.inventory tag p0 p1) 0x42 tag (settled (inventoryRule tag p0 p1))) := rfl

/-- R149: the queue holds eight requests of commands, or ten in all. -/
def State.queueBusy (s : State) : Prop := 8 ≤ (s.loader.queue.filter (!·.internal)).length ∨ 10 ≤ s.loader.queue.length

theorem queueBusy_iff (s : State) : (Config.queueCommandMax ≤ s.commandReqs ∨ s.queueFull = true) ↔ s.queueBusy := by
  rw [State.queueFull, decide_eq_true_eq]
  exact Iff.rfl

/-- R149: a request that a command asks stands at the queue's back with the next age stamp. -/
def State.requestJoined (s : State) (tag : Half) (r : Req) : State := { s with loader := { s.loader with
  queue := s.loader.queue ++ [{ r with stamp := s.loader.nextStamp, id := tag, internal := false }]
  nextStamp := s.loader.nextStamp + 1 } }

theorem queueCommand_busy (tag : Half) (r : Req) (h : s.queueBusy) : s.queueCommand tag r = s.turnAway .refusedBusy :=
  if_pos ((queueBusy_iff s).2 h)

theorem queueCommand_free (tag : Half) (r : Req) (h : ¬ s.queueBusy) :
    s.queueCommand tag r = { state := s.requestJoined tag r, outcome := .accepted } :=
  (if_neg fun k => h ((queueBusy_iff s).1 k)).trans rfl

/-- R149: a command whose request is well formed joins the queue, or is turned away by a full one. -/
theorem queueCommand_ends {c : Instr} {kind : Nat} {tag : Half} {rule : State → Effect} {r : Req}
    (arm : exec c s = .next (s.command c kind tag (settled rule))) (h : rule s.atOwner = s.atOwner.queueCommand tag r) :
    (s.queueBusy → TurnedAway c kind tag .refusedBusy s)
    ∧ (¬ s.queueBusy → EndsSettled c kind tag .accepted s (s.atOwner.requestJoined tag r)) :=
  ⟨fun busy => turnedAway_of_settled arm (h.trans (queueCommand_busy (s := s.atOwner) tag r busy)) rfl,
    fun free => endsSettled_of_settled arm (h.trans (queueCommand_free (s := s.atOwner) tag r free)) rfl⟩

theorem move_ends (s : State) (tag : Half) (force : Bool) (p0 p1 : Word) :
    let c := Instr.move tag force p0 p1
    (26 < p0.toNat ∨ 26 < p1.toNat ∨ p0.toNat = p1.toNat → TurnedAway c 0x40 tag .badParam s)
    ∧ ∀ a b : Loc, p0.toNat = a.val → p1.toNat = b.val → a ≠ b →
      (s.queueBusy → TurnedAway c 0x40 tag .refusedBusy s)
      ∧ (¬ s.queueBusy → EndsSettled c 0x40 tag .accepted s
          (s.atOwner.requestJoined tag { newReq .move (some a) b with force := force })) := by
  intro c
  have arm := exec_move tag force p0 p1 s
  refine ⟨fun bad => turnedAway_of_settled arm ?_ rfl, fun a b ha hb hne => queueCommand_ends arm ?_⟩
  · unfold moveRule
    split
    · next a b ha hb =>
      have va := locOf_val ha
      have vb := locOf_val hb
      exact if_pos (Fin.ext (by omega))
    · rfl
  · simp only [moveRule, locOf_some ha, locOf_some hb, hne, if_false]

theorem export_ends (s : State) (tag : Half) (force : Bool) (p0 : Word) :
    let c := Instr.exportCart tag force p0
    (26 < p0.toNat ∨ p0.toNat = 24 → TurnedAway c 0x41 tag .badParam s)
    ∧ ∀ a : Loc, p0.toNat = a.val → a ≠ 24 →
      (s.queueBusy → TurnedAway c 0x41 tag .refusedBusy s)
      ∧ (¬ s.queueBusy → EndsSettled c 0x41 tag .accepted s
          (s.atOwner.requestJoined tag { newReq .exportCart (some a) mailLoc with force := force })) := by
  intro c
  have arm := exec_exportCart tag force p0 s
  refine ⟨fun bad => turnedAway_of_settled arm ?_ rfl, fun a ha hne => queueCommand_ends arm ?_⟩
  · unfold exportRule
    split
    · next a ha =>
      have va := locOf_val ha
      exact if_pos (Fin.ext (show a.val = 24 by omega))
    · rfl
  · have hne' : a ≠ mailLoc := hne
    simp only [exportRule, locOf_some ha, hne', if_false]

theorem inventory_ends (s : State) (tag : Half) (p0 p1 : Word) :
    let c := Instr.inventory tag p0 p1
    (24 < p1.toNat ∨ p1.toNat < p0.toNat → TurnedAway c 0x42 tag .badParam s)
    ∧ ∀ a b : Loc, p0.toNat = a.val → p1.toNat = b.val → a.val ≤ b.val → b.val ≤ 24 →
      (s.queueBusy → TurnedAway c 0x42 tag .refusedBusy s)
      ∧ (¬ s.queueBusy → EndsSettled c 0x42 tag .accepted s
          (s.atOwner.requestJoined tag { newReq .inventory none b with first := a.val, last := b.val, cursor := a.val })) := by
  intro c
  have arm := exec_inventory tag p0 p1 s
  refine ⟨fun bad => turnedAway_of_settled arm ?_ rfl, fun a b ha hb hab hb24 => queueCommand_ends arm ?_⟩
  · unfold inventoryRule
    split
    · next a b ha hb =>
      have va := locOf_val ha
      have vb := locOf_val hb
      refine if_neg fun ⟨le, mail⟩ => ?_
      have le' : a.val ≤ b.val := le
      have mail' : b.val ≤ 24 := mail
      omega
    · rfl
  · have ordered : a ≤ b ∧ b ≤ mailLoc := ⟨hab, hb24⟩
    simp only [inventoryRule, locOf_some ha, locOf_some hb, ordered, and_self, if_true]

/-! ## The end of a request (R153) -/

/-- R153: a request has left the queue and the picker, it is counted, and its reservation is released. -/
def State.reqLeft (s : State) (r : Req) (e : ReqEnd) : State :=
  (s.modLoader fun l =>
    { l with
      queue := l.queue.filter (·.stamp ≠ r.stamp)
      picker := if l.picker.active = some r.stamp then { l.picker with active := none, cut := false } else l.picker
      counters := match e with
        | .done => { l.counters with endedDone := l.counters.endedDone.add 1 }
        | .failed _ => { l.counters with endedFailed := l.counters.endedFailed.add 1 }
        | .cancelled => { l.counters with endedCancelled := l.counters.endedCancelled.add 1 } }).releaseReserved (.request r.stamp)

/-- R153: the records of a request's kind, before its MOVE_END. -/
def State.kindEnd (s : State) (r : Req) (e : ReqEnd) : State :=
  match r.kind with
  | .clean => s.cleanEnd r e
  | .inventory => s.emit (inventoryEnd r e)
  | _ => s

theorem closeReq_eq (s : State) (r : Req) (e : ReqEnd) :
    s.closeReq r e = (((s.reqLeft r e).kindEnd r e).moveEnd r e).endWaiting r.stamp e := rfl

@[simp] theorem moveEnd_streams (s : State) (r : Req) (e : ReqEnd) : (s.moveEnd r e).streams = s.streams := by
  simp only [State.moveEnd]
  split <;> simp

@[simp] theorem cleanEnd_streams (s : State) (r : Req) (e : ReqEnd) : (s.cleanEnd r e).streams = s.streams := by
  simp only [State.cleanEnd]
  split <;> simp

@[simp] theorem kindEnd_streams (s : State) (r : Req) (e : ReqEnd) : (s.kindEnd r e).streams = s.streams := by
  unfold State.kindEnd
  split <;> simp

@[simp] theorem kindEnd_loader (s : State) (r : Req) (e : ReqEnd) : (s.kindEnd r e).loader = s.loader := by
  unfold State.kindEnd
  split <;> simp

@[simp] theorem endWaiting_streams (s : State) (stamp : Nat) (e : ReqEnd) : (s.endWaiting stamp e).streams = s.streams := by
  refine forEach_same (·.streams) _ (fun i t => ?_) _ _
  split
  · cases e <;> simp
  · rfl

theorem closeReq_loader_eq (s : State) (r : Req) (e : ReqEnd) : (s.closeReq r e).loader = (s.reqLeft r e).loader := by
  rw [closeReq_eq]; simp

theorem closeReq_streams (s : State) (r : Req) (e : ReqEnd) : (s.closeReq r e).streams = s.streams := by
  rw [closeReq_eq]; simp [State.reqLeft, State.releaseReserved]

theorem findReq_closeReq_self (s : State) (r : Req) (e : ReqEnd) : (s.closeReq r e).findReq r.stamp = none := by
  rw [State.findReq, (s.closeReq_loader r e).1]
  simp

/-! ## CANCEL_MOVE (R156) -/

theorem exec_cancelMove (tag : Half) (p0 p1 : Word) (s : State) : exec (.cancelMove tag p0 p1) s =
    .next (s.command (.cancelMove tag p0 p1) 0x43 tag (settled (cancelMoveRule p0 p1))) := rfl

theorem cancelMoveRule_unknown {p0 p1 : Word}
    (h : 1 < p1.toNat ∨ (∀ r ∈ s.loader.queue, r.id.toNat = p0.toNat → r.internal ≠ (p1 == 1))) :
    cancelMoveRule p0 p1 s = s.turnAway .badParam := by
  unfold cancelMoveRule
  split
  · rfl
  · next small =>
    have absent : s.loader.queue.find? (fun r => r.id.toNat == p0.toNat && r.internal == (p1 == 1)) = none := by
      refine List.find?_eq_none.2 fun r hr k => ?_
      obtain ⟨id, int⟩ := by simpa only [Bool.and_eq_true, beq_iff_eq] using k
      exact h.resolve_left small r hr id int
    rw [absent]

theorem cancelMoveRule_waiting {p0 p1 : Word} {r : Req} (hp : p1.toNat ≤ 1)
    (hr : s.loader.queue.find? (fun r => r.id.toNat == p0.toNat && r.internal == (p1 == 1)) = some r)
    (kind : r.kind ≠ .returnCart) (idle : r.state ≠ .active) (free : s.loader.preempt = none) :
    cancelMoveRule p0 p1 s = (s.closeReq r .cancelled).ok := by
  simp only [cancelMoveRule, Nat.not_lt.2 hp, hr, kind, free, if_false, Option.any_none, Bool.false_eq_true]
  rw [s.endReq_of_no_preempt r .cancelled free]
  cases st : r.state with
  | active => exact absurd st idle
  | queued => rfl
  | waiting w => rfl

/-- Settles O54: the three requests that commands ask, and the end of one that has not begun. -/
theorem moveCommandsJoinTheQueue : Obligations.MoveCommandsJoinTheQueue := by
  intro s tag force p0 p1 busy joined move export_ inventory
  obtain ⟨badMove, takenMove⟩ := move_ends s tag force p0 p1
  obtain ⟨badExport, takenExport⟩ := export_ends s tag force p0
  obtain ⟨badInventory, takenInventory⟩ := inventory_ends s tag p0 p1
  have arm := exec_cancelMove tag p0 p1 s
  refine ⟨badMove, badExport, badInventory, takenMove, takenExport, takenInventory,
    fun unknown => turnedAway_of_settled arm (cancelMoveRule_unknown (s := s.atOwner) unknown) rfl,
    fun r hp hr kind idle free => ⟨s.atOwner.closeReq r .cancelled,
      endsSettled_of_settled arm (cancelMoveRule_waiting (s := s.atOwner) hp hr kind idle free) rfl,
      findReq_closeReq_self _ _ _, mem_of_outside (s.atOwner.closeReq_outside r .cancelled), closeReq_streams _ _ _, ?_⟩⟩
  rw [closeReq_loader_eq]
  rfl

end Sys2Proof.Machine
end

section
/-! What the write side's operations do to a channel's record (chapter 4), and the commands and timers of the regulator. -/

namespace Sys2Proof.Machine

variable {s t u : State} {d e : Drive} {c : Channel}

/-! ## A change of one channel's record -/

/-- The channels are as before but for one record. -/
def Rechan (d : Drive) (c : Channel) (s t : State) : Prop := t.chans = s.chans.set d c

theorem Rechan.self (h : Rechan d c s t) : t.chan d = c := by
  rw [State.chan, h]
  simp

theorem Rechan.other (h : Rechan d c s t) (ne : e ≠ d) : t.chan e = s.chan e := by
  have ne' : d.val ≠ e.val := fun k => ne (Fin.ext k.symm)
  rw [State.chan, h]
  simp [State.chan, ne']

theorem Rechan.trans {c' : Channel} (h : Rechan d c s t) (k : Rechan d c' t u) : Rechan d c' s u := by
  rw [Rechan, k, h]
  simp

theorem Rechan.refl (s : State) (d : Drive) : Rechan d (s.chan d) s s := by
  rw [Rechan, State.chan]
  simp

theorem Rechan.of_chans (h : t.chans = s.chans) : Rechan d (s.chan d) s t := h.trans (Rechan.refl s d)

theorem Rechan.then_chans (h : Rechan d c s t) (k : u.chans = t.chans) : Rechan d c s u := k.trans h

theorem Rechan.setChan (s : State) (d : Drive) (c : Channel) : Rechan d c s (s.setChan d c) := rfl

theorem Rechan.emit (h : Rechan d c s t) (r : Record) : Rechan d c s (t.emit r) := h.then_chans (t.emit_chans r)

theorem Rechan.modChan (s : State) (d : Drive) (f : Channel → Channel) : Rechan d (f (s.chan d)) s (s.modChan d f) := rfl

/-! ## Closes and the forced restart (R74, R83) -/

/-- R74: a channel's record after a close is asked. -/
def Channel.askedClose (c : Channel) (r : CloseReason) : Channel :=
  if c.assembling.isNone then c
  else match c.activity with
    | .closing _ => c
    | .idle => { c with activity := .closing (c.closeAsked.getD r), closeAsked := none }
    | .placing _ => if c.closeAsked.isSome then c else { c with closeAsked := some r }

theorem Rechan.askClose (s : State) (d : Drive) (r : CloseReason) : Rechan d ((s.chan d).askedClose r) s (s.askClose d r) := by
  unfold State.askClose Channel.askedClose
  dsimp only
  by_cases none : (s.chan d).assembling.isNone = true
  · rw [if_pos none, if_pos none]
    exact .refl s d
  · rw [if_neg none, if_neg none]
    cases act : (s.chan d).activity with
    | idle => rfl
    | closing x => exact .refl s d
    | placing p =>
      by_cases asked : (s.chan d).closeAsked.isSome = true
      · simp only [asked, if_true]
        exact .refl s d
      · simp only [asked]
        rw [← act]
        rfl

theorem Rechan.then_askClose (h : Rechan d c s t) (r : CloseReason) : Rechan d (c.askedClose r) s (t.askClose d r) := by
  have closed := Rechan.askClose t d r
  rw [h.self] at closed
  exact h.trans closed

theorem askedClose_fields (c : Channel) (r : CloseReason) : ∃ a q, c.askedClose r = { c with activity := a, closeAsked := q } := by
  unfold Channel.askedClose
  repeat' split
  · exact ⟨c.activity, c.closeAsked, rfl⟩
  · exact ⟨c.activity, c.closeAsked, rfl⟩
  · exact ⟨_, _, rfl⟩
  · exact ⟨c.activity, c.closeAsked, rfl⟩
  · exact ⟨c.activity, _, rfl⟩

theorem Rechan.closing (h : Rechan d c s t) (r : CloseReason) :
    ∃ a q, Rechan d { c with activity := a, closeAsked := q } s (t.askClose d r) := by
  obtain ⟨a, q, asked⟩ := askedClose_fields c r
  exact ⟨a, q, asked ▸ h.then_askClose r⟩

theorem askedClose_none (r : CloseReason) (h : c.assembling = none) : c.askedClose r = c := by
  rw [Channel.askedClose, h]; rfl

theorem askedClose_idle (r : CloseReason) {i : Image} (h : c.assembling = some i) (ha : c.activity = .idle)
    (hc : c.closeAsked = none) : (c.askedClose r).activity = .closing r := by
  simp [Channel.askedClose, h, ha, hc]

theorem askedClose_placing {p : Placement} (r : CloseReason) {i : Image} (h : c.assembling = some i)
    (ha : c.activity = .placing p) (hc : c.closeAsked = none) :
    (c.askedClose r).closeAsked = some r ∧ (c.askedClose r).activity = .placing p := by
  simp [Channel.askedClose, h, ha, hc]

/-- R83: a channel's record after a forced restart. -/
def Channel.restarted (c : Channel) : Channel :=
  if c.running then c
  else { c with running := true, counters := { c.counters with forcedRestarts := c.counters.forcedRestarts.add 1 } }

theorem Rechan.forceRestart (s : State) (d : Drive) : Rechan d (s.chan d).restarted s (s.forceRestart d) := by
  unfold State.forceRestart Channel.restarted
  dsimp only
  by_cases run : (s.chan d).running = true
  · rw [if_pos run, if_pos run]
    exact .refl s d
  · rw [if_neg run, if_neg run]
    rfl

theorem Rechan.then_forceRestart (h : Rechan d c s t) : Rechan d c.restarted s (t.forceRestart d) := by
  have run := Rechan.forceRestart t d
  rw [h.self] at run
  exact h.trans run

theorem restarted_running (c : Channel) : c.restarted.running = true := by
  unfold Channel.restarted
  split
  · assumption
  · rfl

theorem restarted_fields (c : Channel) : ∃ k, c.restarted = { c with running := true, counters := k }
    ∧ k.forcedRestarts = c.counters.forcedRestarts.add (if c.running then 0 else 1) := by
  unfold Channel.restarted
  split
  · next h => exact ⟨c.counters, by rw [← h], by simp⟩
  · exact ⟨_, rfl, by simp⟩

/-! ## FLUSH and EARLY_WARNING (R85, R79) -/

theorem exec_flush (tag : Half) (p0 : Word) (s : State) :
    exec (.flush tag p0) s = .next (s.command (.flush tag p0) 0x22 tag (settled (flushRule p0))) := rfl

theorem exec_earlyWarning (tag : Half) (p0 : Word) (s : State) :
    exec (.earlyWarning tag p0) s = .next (s.command (.earlyWarning tag p0) 0x23 tag (settled (earlyWarningRule p0))) := rfl

/-- R85: the state after FLUSH of a channel in WRITE. -/
def State.flushed (s : State) (d : Drive) : State :=
  (if (s.chan d).flushable then s.askClose d .flush else s).forceRestart d

theorem flushRule_write {p0 : Word} (h : p0.toNat = d.val) (hs : (s.chan d).state = .write) : flushRule p0 s = (s.flushed d).ok := by
  simp only [flushRule, driveOf_some h, hs]; rfl

theorem flushRule_unmounting {p0 : Word} (h : p0.toNat = d.val) (hs : (s.chan d).state = .unmounting) : flushRule p0 s = s.ok := by
  simp only [flushRule, driveOf_some h, hs]

theorem flushRule_other {p0 : Word} (h : p0.toNat = d.val) (hw : (s.chan d).state ≠ .write)
    (hu : (s.chan d).state ≠ .unmounting) : flushRule p0 s = s.turnAway .refusedState := by
  simp only [flushRule, driveOf_some h]

theorem earlyWarningRule_write {p0 : Word} (h : p0.toNat = d.val) (hs : (s.chan d).state = .write) :
    earlyWarningRule p0 s = if (s.chan d).full.isSome then s.ok else (s.setFull d .warning).ok := by
  simp only [earlyWarningRule, driveOf_some h, hs]

theorem earlyWarningRule_unmounting {p0 : Word} (h : p0.toNat = d.val) (hs : (s.chan d).state = .unmounting) :
    earlyWarningRule p0 s = s.ok := by
  simp only [earlyWarningRule, driveOf_some h, hs]

theorem earlyWarningRule_other {p0 : Word} (h : p0.toNat = d.val) (hw : (s.chan d).state ≠ .write)
    (hu : (s.chan d).state ≠ .unmounting) : earlyWarningRule p0 s = s.turnAway .refusedState := by
  simp only [earlyWarningRule, driveOf_some h]

/-- R85: the channel's record after FLUSH. -/
theorem flushed_rechan (s : State) (d : Drive) : Rechan d
    (if (s.chan d).flushable then (s.chan d).askedClose .flush else s.chan d).restarted s (s.flushed d) := by
  unfold State.flushed
  split
  · exact (Rechan.askClose s d .flush).then_forceRestart
  · exact Rechan.forceRestart s d

theorem flushed_outside (s : State) (d : Drive) : (s.flushed d).outside = s.outside := by
  unfold State.flushed
  split <;> simp

theorem flushable_of_frags {i : Image} (h : c.assembling = some i) (hf : 0 < i.frags) : c.flushable = true := by
  simp [Channel.flushable, h, hf, Option.filter]

theorem flushable_of_placing {p : Placement} (h : c.activity = .placing p) : c.flushable = true := by
  rw [Channel.flushable, h]
  exact Bool.or_true _

theorem flush_ends (s : State) (tag : Half) (p0 : Word) (d : Drive) :
    let c := s.chan d
    p0.toNat = d.val → c.state = .write → ∃ v, EndsSettled (.flush tag p0) 0x22 tag .done s v ∧ v.mem = s.mem ∧ v.ring = s.ring
      ∧ v.streams = s.streams ∧ (∀ e, e ≠ d → v.chan e = s.chan e)
      ∧ (v.chan d).running = true ∧ (v.chan d).images = c.images ∧ (v.chan d).held = c.held
      ∧ (v.chan d).placeQueue = c.placeQueue
      ∧ (v.chan d).counters.forcedRestarts = c.counters.forcedRestarts.add (if c.running then 0 else 1)
      ∧ (∀ i, c.assembling = some i → 0 < i.frags → c.activity = .idle → c.closeAsked = none →
          (v.chan d).activity = .closing .flush)
      ∧ (∀ p, c.activity = .placing p → c.assembling.isSome = true → c.closeAsked = none →
          (v.chan d).closeAsked = some .flush ∧ (v.chan d).activity = .placing p)
      ∧ (c.assembling = none → (v.chan d).activity = c.activity ∧ (v.chan d).closeAsked = c.closeAsked) := by
  intro c hd hw
  have after := flushed_rechan s.atOwner d
  have self := after.self
  change _ = Channel.restarted (if c.flushable then c.askedClose .flush else c) at self
  have asked : ∃ a q, (if c.flushable then c.askedClose .flush else c) = { c with activity := a, closeAsked := q } := by
    split
    · exact askedClose_fields c .flush
    · exact ⟨c.activity, c.closeAsked, rfl⟩
  obtain ⟨a, q, asked⟩ := asked
  obtain ⟨k, run, restarts⟩ := restarted_fields { c with activity := a, closeAsked := q }
  rw [asked] at self
  rw [run] at self
  have mem : (s.atOwner.flushed d).mem = s.mem := mem_of_outside (flushed_outside s.atOwner d)
  have ring : (s.atOwner.flushed d).ring = s.ring := by unfold State.flushed; split <;> simp
  have streams : (s.atOwner.flushed d).streams = s.streams := by unfold State.flushed; split <;> simp
  refine ⟨_, endsSettled_of_settled (exec_flush tag p0 s) (flushRule_write (s := s.atOwner) hd hw) rfl, mem, ring, streams,
    fun e he => after.other he, ?_, ?_, ?_, ?_, ?_, fun i hi hf ha hc => ?_, fun p ha hi hc => ?_, fun none => ?_⟩
  all_goals rw [self]
  · exact restarts
  · have closing := askedClose_idle .flush hi ha hc
    rw [if_pos (flushable_of_frags hi hf)] at asked
    rwa [asked] at closing
  · obtain ⟨i, hi⟩ := Option.isSome_iff_exists.1 hi
    have closing := askedClose_placing .flush hi ha hc
    rw [if_pos (flushable_of_placing ha)] at asked
    rwa [asked] at closing
  · have same : (if c.flushable then c.askedClose .flush else c) = c := by
      rw [askedClose_none .flush none, ite_self]
    rw [same] at asked
    exact ⟨(congrArg Channel.activity asked).symm, (congrArg Channel.closeAsked asked).symm⟩

/-- R79: the channel's record after FULL becomes set. -/
theorem setFull_rechan (s : State) (d : Drive) (r : FullReason) : Rechan d
    (({ s.chan d with full := some r }).askedClose .fullOrUnmount).restarted s (s.setFull d r) := by
  exact (((Rechan.setChan s d _).emit _).then_askClose .fullOrUnmount).then_forceRestart

theorem setFull_streams (s : State) (d : Drive) (r : FullReason) : (s.setFull d r).streams = s.streams := by
  simp [State.setFull]

theorem setFull_mem (s : State) (d : Drive) (r : FullReason) : (s.setFull d r).mem = s.mem :=
  mem_of_outside (s.setFull_outside d r)

theorem setFull_buffer (r : FullReason) {m : Mount} (room : s.ring.room = true) (hm : (s.chan d).mount = some m) :
    (s.setFull d r).ring.buffer = s.ring.buffer ++
      [{ kind := .channelFull, dropped := s.ring.d, subject := BitVec.ofNat 16 d.val, e0 := m.capacity
         e1 := m.nextSeq, e2 := w32 r.code }] := by
  unfold State.setFull
  simp only [hm, Option.getD_some, State.forceRestart_ring, State.askClose_ring]
  exact emit_buffer_of_room (s := s.setChan d _) _ room

/-- Settles O42: by channel state; the channel's record after a close asked and a forced restart. -/
theorem flushAndEarlyWarningReleaseTheRegulator : Obligations.FlushAndEarlyWarningReleaseTheRegulator := by
  intro s tag p0 d c flush warn
  have armF := exec_flush tag p0 s
  have armW := exec_earlyWarning tag p0 s
  refine ⟨fun bad => ⟨turnedAway_of_settled armF (by rw [flushRule, driveOf_none bad]) rfl,
    turnedAway_of_settled armW (by rw [earlyWarningRule, driveOf_none bad]) rfl⟩, fun hd =>
    ⟨fun hw hu => ⟨turnedAway_of_settled armF (flushRule_other (s := s.atOwner) hd hw hu) rfl,
      turnedAway_of_settled armW (earlyWarningRule_other (s := s.atOwner) hd hw hu) rfl⟩,
    fun hu => ⟨endsSettled_of_settled armF (flushRule_unmounting (s := s.atOwner) hd hu) rfl,
      endsSettled_of_settled armW (earlyWarningRule_unmounting (s := s.atOwner) hd hu) rfl⟩,
    flush_ends s tag p0 d hd, fun hw full => endsSettled_of_settled armW
      ((earlyWarningRule_write (s := s.atOwner) hd hw).trans (if_pos full)) rfl, fun hw full => ?_⟩⟩
  have after := setFull_rechan s.atOwner d .warning
  have self := after.self
  obtain ⟨a, q, asked⟩ := askedClose_fields { c with full := some .warning } .fullOrUnmount
  obtain ⟨k, run, -⟩ := restarted_fields { c with full := some .warning, activity := a, closeAsked := q }
  change _ = (Channel.askedClose { c with full := some .warning } .fullOrUnmount).restarted at self
  rw [asked, run] at self
  refine ⟨s.atOwner.setFull d .warning, endsSettled_of_settled armW ((earlyWarningRule_write (s := s.atOwner) hd hw).trans
      (if_neg (by rw [atOwner_chan, full]; exact Bool.false_ne_true))) rfl, setFull_mem .., setFull_streams ..,
    fun e he => after.other he, by rw [self], by rw [self], by rw [self],
    fun room m hm => setFull_buffer (s := s.atOwner) .warning room hm⟩

/-! ## The regulator's timers (R81 to R84) -/

/-- R83: a channel's record after an age release. -/
def Channel.ageReleased (c : Channel) : Channel :=
  { c with running := true, counters := { c.counters with ageReleases := c.counters.ageReleases.add 1 } }

theorem ageRelease_rechan (s : State) (d : Drive) : ∃ a q, Rechan d
    { (s.chan d).ageReleased with activity := a, closeAsked := q } s (s.ageRelease d)
    ∧ (∀ i, (s.chan d).assembling = some i → 0 < i.frags → (s.chan d).activity = .idle → (s.chan d).closeAsked = none →
        a = .closing .age) := by
  have released : Rechan d (s.chan d).ageReleased s (s.modChan d Channel.ageReleased) := .modChan s d _
  unfold State.ageRelease
  dsimp only
  by_cases holds : ((s.chan d).assembling.filter (0 < ·.frags)).isSome = true
  · rw [if_pos holds]
    have closed := released.then_askClose .age
    obtain ⟨a, q, asked⟩ := askedClose_fields (s.chan d).ageReleased .age
    refine ⟨a, q, asked ▸ closed, fun i hi _ ha hc => ?_⟩
    have closing := askedClose_idle (c := (s.chan d).ageReleased) .age hi ha hc
    rwa [asked] at closing
  · rw [if_neg holds]
    exact ⟨_, _, released, fun i hi hf => absurd (by simp [hi, Option.filter, hf]) holds⟩

/-- What the tests of a regulator's restart leave of a channel's record. -/
def Channel.restartedAs (c x : Channel) : Prop :=
  ∃ a q b k, x = { c with activity := a, closeAsked := q, running := b, counters := k } ∧ k.stops = c.counters.stops

theorem Channel.restartedAs.refl (c : Channel) : c.restartedAs c := ⟨c.activity, c.closeAsked, c.running, c.counters, rfl, rfl⟩

theorem Channel.restartedAs.trans {c x y : Channel} (h : c.restartedAs x) (k : x.restartedAs y) : c.restartedAs y := by
  obtain ⟨_, _, _, _, rfl, stops⟩ := h
  obtain ⟨a, q, b, k, rfl, stops'⟩ := k
  exact ⟨a, q, b, k, rfl, stops'.trans stops⟩

theorem markTest_rechan (s : State) (d : Drive) : ∃ x, Rechan d x s (s.markTest d) ∧ (s.chan d).restartedAs x := by
  unfold State.markTest
  dsimp only
  split
  · exact ⟨_, rfl, _, _, _, _, rfl, rfl⟩
  · exact ⟨_, .refl s d, .refl _⟩

theorem ageTest_rechan (s : State) (d : Drive) : ∃ x, Rechan d x s (s.ageTest d) ∧ (s.chan d).restartedAs x := by
  unfold State.ageTest
  dsimp only
  repeat' split
  · obtain ⟨a, q, after, -⟩ := ageRelease_rechan s d
    exact ⟨_, after, a, q, _, _, rfl, rfl⟩
  all_goals exact ⟨_, .refl s d, .refl _⟩

theorem restartTest_rechan (s : State) (d : Drive) : ∃ x, Rechan d x s (s.restartTest d) ∧ (s.chan d).restartedAs x := by
  obtain ⟨x, marked, hx⟩ := markTest_rechan s d
  obtain ⟨y, aged, hy⟩ := ageTest_rechan (s.markTest d) d
  rw [marked.self] at hy
  exact ⟨y, marked.trans aged, hx.trans hy⟩

/-- R84: an early close leaves the regulator. -/
theorem earlyTest_rechan (s : State) (d : Drive) : ∃ a q n, Rechan d
    { s.chan d with activity := a, closeAsked := q, counters := { (s.chan d).counters with earlyCloses := n } } s (s.earlyTest d)
    ∧ ((s.chan d).state ≠ .write → s.earlyTest d = s) := by
  unfold State.earlyTest
  dsimp only
  split
  · next h =>
    have counted : Rechan d _ s (s.countChan d fun k => { k with earlyCloses := k.earlyCloses.add 1 }) := .modChan s d _
    obtain ⟨a, q, closed⟩ := counted.closing .early
    exact ⟨a, q, _, closed, fun idle => absurd h.1 idle⟩
  · exact ⟨_, _, _, .refl s d, fun _ => rfl⟩

/-- R82: what the test of a stop makes of a channel's record. -/
theorem stopTest_rechan (s : State) (d : Drive) :
    ∃ a q b k, Rechan d { s.chan d with activity := a, closeAsked := q, running := b, counters := k } s (s.stopTest d)
    ∧ ((s.chan d).state ≠ .write ∨ (s.chan d).occupancy ≠ 0 → b = (s.chan d).running ∧ k.stops = (s.chan d).counters.stops)
    ∧ ((s.chan d).state = .write → (s.chan d).running = true → (s.chan d).occupancy = 0 →
        k.stops = (s.chan d).counters.stops.add 1) := by
  unfold State.stopTest
  dsimp only
  split
  · next h =>
    obtain ⟨write, -, empty⟩ := h
    have stopped : Rechan d _ s (s.setChan d { s.chan d with
      running := false, counters := { (s.chan d).counters with stops := (s.chan d).counters.stops.add 1 } }) := .setChan s d _
    obtain ⟨x, after, a, q, b, k, hx, stops⟩ := restartTest_rechan (s.setChan d { s.chan d with
      running := false, counters := { (s.chan d).counters with stops := (s.chan d).counters.stops.add 1 } }) d
    rw [stopped.self] at hx stops
    subst hx
    exact ⟨a, q, b, k, stopped.trans after, fun still => still.elim (absurd write) (absurd empty), fun _ _ _ => stops⟩
  · next h =>
    exact ⟨_, _, _, _, .refl s d, fun _ => ⟨rfl, rfl⟩, fun write run empty => absurd ⟨write, run, empty⟩ h⟩

theorem exec_drainTimerExpiry {n : Nat} (h : (s.chan d).drainTimer = some n) : exec (.drainTimerExpiry d) s =
    .next (s.settle ((s.elapseTo n).drainStep d (max n s.timebase))) := by
  change execDrainTimerExpiry d s = _
  rw [execDrainTimerExpiry, h]

theorem exec_ageRelease {n : Nat} (hw : (s.chan d).state = .write) (hr : (s.chan d).running = false) (h : s.ageDue d = some n) :
    exec (.ageRelease d) s = .next (s.settle ((s.elapseTo n).ageRelease d)) := by
  change execAgeRelease d s = _
  rw [execAgeRelease, hw, hr, h]
  rfl

/-- R81: a channel's record after E has fallen by one at a time. -/
def Channel.drainedBy (c : Channel) (now interval : Nat) : Channel :=
  { c with occupancy := c.occupancy - 1, drainTimer := if 1 < c.occupancy then some (now + interval) else none }

/-- Only the ring stall time passes in the ring unit. -/
theorem elapseTo_buffer (s : State) (n : Nat) : (s.elapseTo n).ring.buffer = s.ring.buffer := by
  unfold State.elapseTo State.elapse
  dsimp only
  split <;> rfl

theorem ageRelease_ring (s : State) (d : Drive) : (s.ageRelease d).ring = s.ring := by
  unfold State.ageRelease
  dsimp only
  split <;> simp

theorem restartTest_ring (s : State) (d : Drive) : (s.restartTest d).ring = s.ring := by
  have marked : (s.markTest d).ring = s.ring := by
    unfold State.markTest
    dsimp only
    split <;> simp
  unfold State.restartTest State.ageTest
  dsimp only
  repeat' split
  · rw [ageRelease_ring, marked]
  all_goals exact marked

theorem drainStep_ring (s : State) (d : Drive) (n : Nat) : (s.drainStep d n).ring = s.ring := by
  have stopped (u : State) : (u.stopTest d).ring = u.ring := by
    unfold State.stopTest
    dsimp only
    split
    · rw [restartTest_ring, State.setChan_ring]
    · rfl
  have early (u : State) : (u.earlyTest d).ring = u.ring := by
    unfold State.earlyTest
    dsimp only
    split <;> simp [State.countChan]
  unfold State.drainStep
  rw [early, stopped, State.modChan_ring]

/-- R81, R82: what a drain expiry makes of the channel's record. -/
theorem drainStep_rechan (s : State) (d : Drive) (n : Nat) : ∃ a q b k, Rechan d
    { (s.chan d).drainedBy n s.params.drainInterval[d] with activity := a, closeAsked := q, running := b, counters := k } s
      (s.drainStep d n)
    ∧ ((s.chan d).state ≠ .write ∨ 1 < (s.chan d).occupancy → b = (s.chan d).running
        ∧ k.stops = (s.chan d).counters.stops)
    ∧ ((s.chan d).state = .write → (s.chan d).running = true → (s.chan d).occupancy = 1 →
        k.stops = (s.chan d).counters.stops.add 1) := by
  have drained : Rechan d ((s.chan d).drainedBy n s.params.drainInterval[d]) s
    (s.modChan d fun c => c.drainedBy n s.params.drainInterval[d]) := .modChan s d _
  obtain ⟨a, q, b, k, stopped, still, stops⟩ := stopTest_rechan (s.modChan d fun c => c.drainedBy n s.params.drainInterval[d]) d
  obtain ⟨a', q', n', early, -⟩ := earlyTest_rechan
    ((s.modChan d fun c => c.drainedBy n s.params.drainInterval[d]).stopTest d) d
  rw [stopped.self] at early
  rw [drained.self] at stopped early still stops
  refine ⟨a', q', b, _, drained.trans (stopped.trans early), fun h => ?_, fun write run one => stops write run ?_⟩
  · obtain ⟨run, count⟩ := still (h.imp id fun more => by simp only [Channel.drainedBy]; omega)
    exact ⟨run, count⟩
  · simp only [Channel.drainedBy, one]

/-- Settles O47: what a drain expiry, its stop and its early close, and an age release make of the channel's record. -/
theorem regulatorTimersDrainAndRelease : Obligations.RegulatorTimersDrainAndRelease := by
  intro s d t c
  refine ⟨fun timer some => ?_, fun write idle due => ?_⟩
  · obtain ⟨a, q, b, k, after, still, stops⟩ := drainStep_rechan (s.elapseTo t) d (max t s.timebase)
    refine ⟨_, exec_drainTimerExpiry timer, ?_, ?_, ?_, ?_, ?_, ?_, ?_, ?_, ?_⟩
    · rw [after.self]; rfl
    · rw [timebase_of_outside (State.drainStep_outside _ _ _), elapseTo_timebase]
    · rw [after.self]; rfl
    · rw [after.self]
      intro unmounting
      exact (still (.inl fun w => by rw [show c.state = _ from w] at unmounting; cases unmounting)).1
    · rw [after.self]
      intro write run
      by_cases one : c.occupancy = 1
      · rw [if_pos one]
        exact stops write run one
      · rw [if_neg one, counter_add_zero]
        exact (still (.inr (by change 1 < c.occupancy; omega))).2
    · rw [after.self]
      exact fun more => (still (.inr more)).1
    · rw [after.self]; rfl
    · rw [mem_of_outside (State.drainStep_outside _ _ _)]; rfl
    · rw [drainStep_ring]
      exact elapseTo_buffer s t
  · obtain ⟨a, q, after, closing⟩ := ageRelease_rechan (s.elapseTo t) d
    refine ⟨_, exec_ageRelease write idle due, ?_, ?_, ?_, ?_, ?_, fun i hi hf ha hc => ?_⟩
    · rw [after.self]; rfl
    · rw [after.self]; rfl
    · rw [timebase_of_outside (State.ageRelease_outside _ _), elapseTo_timebase]
    · rw [after.self]; rfl
    · rw [mem_of_outside (State.ageRelease_outside _ _)]; rfl
    · rw [after.self]
      exact closing i hi hf ha hc

end Sys2Proof.Machine
end

section
/-! Restore sessions and readers as other blocks end them (R40, R114, R119, R125, R127): what is left of the records that an
event wrote, of the channels and of the other sessions. -/

namespace Sys2Proof.Machine

variable {s t u : State} {d e : Drive} {i j : SessionId}

/-! ## A loop that changes each index apart -/

/-- A loop whose step at an index changes what stands there alone changes each index of its list once. -/
theorem forEach_apart {α β : Type} [DecidableEq α] (get : State → α → β) (f : α → State → State) (g : α → β → β)
    (at_ : ∀ x t, get (f x t) x = g x (get t x)) (off : ∀ x y t, y ≠ x → get (f x t) y = get t y) :
    ∀ (l : List α) (s : State), l.Nodup →
      (∀ y ∈ l, get (forEach l f s) y = g y (get s y)) ∧ ∀ y ∉ l, get (forEach l f s) y = get s y
  | [], s, _ => ⟨by simp, fun _ _ => rfl⟩
  | x :: l, s, once => by
    obtain ⟨fresh, once⟩ := List.nodup_cons.1 once
    obtain ⟨inside, outside⟩ := forEach_apart get f g at_ off l (f x s) once
    change (∀ y ∈ x :: l, get (forEach l f (f x s)) y = _) ∧ ∀ y ∉ x :: l, get (forEach l f (f x s)) y = _
    refine ⟨fun y hy => ?_, fun y hy => ?_⟩
    · rcases List.mem_cons.1 hy with rfl | hy
      · rw [outside y fresh, at_]
      · rw [inside y hy, off x y s fun e => fresh (e ▸ hy)]
    · obtain ⟨ne, hy⟩ := not_or.1 (fun h => hy (List.mem_cons.2 h))
      rw [outside y hy, off x y s ne]

theorem mem_allSessions (i : SessionId) : i ∈ allSessions := by
  revert i
  decide

/-- What a loop over the sessions leaves, where each step changes its session alone. -/
theorem forEach_session (f : SessionId → State → State) (g : SessionId → Session → Session)
    (at_ : ∀ x t, (f x t).session x = g x (t.session x)) (off : ∀ x y t, y ≠ x → (f x t).session y = t.session y) (s : State)
    (i : SessionId) : (forEach allSessions f s).session i = g i (s.session i) :=
  (forEach_apart State.session f g at_ off allSessions s (by decide)).1 i (mem_allSessions i)

/-- What a loop over the drives leaves, where each step changes its channel alone. -/
theorem forEach_chan (f : Drive → State → State) (g : Drive → Channel → Channel)
    (at_ : ∀ x t, (f x t).chan x = g x (t.chan x)) (off : ∀ x y t, y ≠ x → (f x t).chan y = t.chan y) (s : State)
    (d : Drive) : (forEach allDrives f s).chan d = g d (s.chan d) :=
  (forEach_apart State.chan f g at_ off allDrives s (by decide)).1 d (mem_allDrives d)

/-! ## Reassembly records leave the blocks in progress -/

/-- The channels are as before, but for what their readers hold of a block in progress. -/
def Rereceived (s t : State) : Prop :=
  ∀ d, ∃ rx, t.chan d = { s.chan d with reader := { (s.chan d).reader with rx := rx } } ∧ ((s.chan d).reader.rx = {} → rx = {})

theorem Rereceived.of_chans (h : t.chans = s.chans) : Rereceived s t := fun d =>
  ⟨(s.chan d).reader.rx, chan_of_chans h d, id⟩

theorem Rereceived.refl (s : State) : Rereceived s s := .of_chans rfl

theorem Rereceived.trans (h : Rereceived s t) (k : Rereceived t u) : Rereceived s u := fun d => by
  obtain ⟨rx, eq, empty⟩ := h d
  obtain ⟨rx', eq', empty'⟩ := k d
  refine ⟨rx', by rw [eq', eq], fun none => empty' ?_⟩
  rw [eq]
  exact empty none

theorem Rereceived.loop {α : Type} {f : α → State → State} (hf : ∀ x t, Rereceived t (f x t)) :
    ∀ (l : List α) (s : State), Rereceived s (forEach l f s)
  | [], s => .refl s
  | x :: l, s => (hf x s).trans (Rereceived.loop hf l (f x s))

theorem Rereceived.modRx (s : State) (f : BlockRx → BlockRx) (hf : f {} = {}) : Rereceived s
    (forEach allDrives (fun d t => t.modChan d fun c => { c with reader := { c.reader with rx := f c.reader.rx } }) s) := fun d => by
  refine ⟨f (s.chan d).reader.rx, ?_, fun none => by rw [none, hf]⟩
  exact forEach_chan _ (fun _ c => { c with reader := { c.reader with rx := f c.reader.rx } })
    (fun x t => t.chan_modChan_self x _) (fun x y t ne => t.chan_modChan_ne x y _ ne.symm) s d

theorem Rereceived.purge (s : State) (ids : List Nat) : Rereceived s (s.purge ids) :=
  .modRx s (fun rx => { rx with
    targets := rx.targets.filter fun i => !ids.contains i
    frags := rx.frags.map fun f => { f with records := f.records.filter fun i => !ids.contains i } }) rfl

theorem Rereceived.dropOwner (s : State) (q : Requester) : Rereceived s (s.dropOwner q) :=
  .modRx s (fun rx => { rx with owners := rx.owners.filter (· ≠ q) }) rfl

theorem Rereceived.freeWhere (s : State) (sel : ChunkRec → Bool) : Rereceived s (s.freeWhere sel) :=
  (Rereceived.purge s _).trans (.loop (fun id t => .of_chans (t.freeRec_chans id)) _ _)

/-- But for its block in progress a channel's record is the one before. -/
theorem Rereceived.chan (h : Rereceived s t) (d : Drive) : { t.chan d with reader := (s.chan d).reader } = s.chan d := by
  obtain ⟨rx, eq, -⟩ := h d
  rw [eq]

/-! ## The ends of a session (R119, R125) -/

theorem modRestore_session (s : State) (f : Restore → Restore) (h : (f s.restore).sessions = s.restore.sessions) (i : SessionId) :
    (s.modRestore f).session i = s.session i := by
  rw [State.session, State.session, State.modRestore_restore, h]

theorem session_of_restore (h : t.restore = s.restore) (i : SessionId) : t.session i = s.session i := by
  rw [State.session, h]; rfl

theorem session_modSession_self (s : State) (i : SessionId) (f : Session → Session) :
    (s.modSession i f).session i = f (s.session i) := State.session_setSession_self s i _

theorem session_modSession_ne (s : State) (f : Session → Session) (h : j ≠ i) :
    (s.modSession i f).session j = s.session j := State.session_setSession_ne s i j _ h.symm

/-- Of the sessions, a discarded decode changes none. -/
theorem discardDecode_session (s : State) (q : Requester) (i : SessionId) : (s.discardDecode q).session i = s.session i :=
  modRestore_session s _ rfl i

/-- R119: a session that awaits the next cartridge. -/
def Session.awaiting (x : Session) : Session := { x with state := .awaitNext, pendingRec := none, stall := none }

/-- R119: what is left of the other blocks as a session comes to await the next cartridge. -/
def State.awaitTold (s : State) (i : SessionId) : State :=
  ((s.emit { kind := .restoreAwaitNext, subject := BitVec.ofNat 16 i.val, e0 := (s.session i).setId
             e1 := (s.session i).nextSeq, e2 := match (s.session i).drive with | some d => w32 d.val | none => 0 }).freeWhere
    fun r => r.role == .restore i && r.state == .reassembling).discardDecode (.session i)

theorem awaitNext_eq (s : State) (i : SessionId) : s.awaitNext i =
    ((s.awaitTold i).modSession i Session.awaiting).modRestore fun r => { r with awaitNexts := r.awaitNexts.add 1 } := rfl

theorem awaitTold_session (s : State) (i j : SessionId) : (s.awaitTold i).session j = s.session j :=
  (discardDecode_session _ _ j).trans (session_of_restore ((State.freeWhere_restore _ _).trans (State.emit_restore _ _)) j)

theorem awaitNext_session_self (s : State) (i : SessionId) : (s.awaitNext i).session i = (s.session i).awaiting := by
  rw [awaitNext_eq, modRestore_session _ _ rfl, session_modSession_self, awaitTold_session]

theorem awaitNext_session_ne (s : State) (h : j ≠ i) : (s.awaitNext i).session j = s.session j := by
  rw [awaitNext_eq, modRestore_session _ _ rfl, session_modSession_ne _ _ h, awaitTold_session]

theorem Rereceived.awaitNext (s : State) (i : SessionId) : Rereceived s (s.awaitNext i) := by
  have told : Rereceived s (s.awaitTold i) := (Rereceived.of_chans (s.emit_chans _)).trans
    ((Rereceived.freeWhere _ _).trans (.of_chans (State.discardDecode_chans _ _)))
  rw [awaitNext_eq]
  exact told.trans (.of_chans (by simp))

theorem awaitAttached_session (s : State) (d : Drive) (st : SessionState) (i : SessionId) : (s.awaitAttached d st).session i =
    if (s.session i).drive = some d ∧ (s.session i).state = st ∧ !(s.session i).final then (s.session i).awaiting
    else s.session i := by
  refine forEach_session _ (fun _ x => if x.drive = some d ∧ x.state = st ∧ !x.final then x.awaiting else x)
    (fun x t => ?_) (fun x y t ne => ?_) s i
  · split
    · exact awaitNext_session_self t x
    · rfl
  · split
    · exact awaitNext_session_ne t ne
    · rfl

theorem Rereceived.awaitAttached (s : State) (d : Drive) (st : SessionState) : Rereceived s (s.awaitAttached d st) :=
  .loop (fun x t => by split; exacts [.awaitNext t x, .refl t]) _ s

/-- R125: what is left of the other blocks as a session ends. -/
def State.endTold (s : State) (i : SessionId) (e : SessionEnd) : State :=
  (((s.emit (restoreEndRecord i (s.session i) e)).freeWhere fun r => r.role == .restore i && r.waits).discardDecode
    (.session i)).dropOwner (.session i)

/-- R125: a session that has ended. -/
def Session.ended (x : Session) : Session :=
  { x with state := .free, drive := none, pendingRec := none, final := false, queue := [], buffer := {}
           stall := none, mountReq := none, link := none }

/-- R125: the count of a session's end. -/
def Restore.ended (r : Restore) (e : SessionEnd) : Restore :=
  match e with
  | .done => { r with endsDone := r.endsDone.add 1 }
  | .failed _ => { r with endsFailed := r.endsFailed.add 1 }
  | .cancelled => { r with endsCancelled := r.endsCancelled.add 1 }

theorem ended_sessions (r : Restore) (e : SessionEnd) : (r.ended e).sessions = r.sessions := by cases e <;> rfl

theorem endSession_free (e : SessionEnd) (h : (s.session i).state = .free) : s.endSession i e = s := if_pos h

theorem endSession_eq (e : SessionEnd) (h : (s.session i).state ≠ .free) : s.endSession i e =
    ((s.endTold i e).setSession i (s.session i).ended).modRestore fun r => r.ended e := (if_neg h).trans rfl

theorem endTold_session (s : State) (i : SessionId) (e : SessionEnd) (j : SessionId) : (s.endTold i e).session j = s.session j := by
  refine (session_of_restore (State.dropOwner_restore _ _) j).trans ((discardDecode_session _ _ j).trans ?_)
  exact session_of_restore ((State.freeWhere_restore _ _).trans (State.emit_restore _ _)) j

theorem endSession_session_self (e : SessionEnd) (h : (s.session i).state ≠ .free) :
    (s.endSession i e).session i = (s.session i).ended := by
  rw [endSession_eq e h, modRestore_session _ _ (ended_sessions _ e), State.session_setSession_self]

theorem endSession_state (s : State) (i : SessionId) (e : SessionEnd) : ((s.endSession i e).session i).state = .free := by
  by_cases h : (s.session i).state = .free
  · rw [endSession_free e h, h]
  · rw [endSession_session_self e h]; rfl

theorem endSession_session_ne (s : State) (e : SessionEnd) (h : j ≠ i) : (s.endSession i e).session j = s.session j := by
  by_cases free : (s.session i).state = .free
  · rw [endSession_free e free]
  · rw [endSession_eq e free, modRestore_session _ _ (ended_sessions _ e), State.session_setSession_ne _ _ _ _ h.symm,
      endTold_session]

theorem Rereceived.endSession (s : State) (i : SessionId) (e : SessionEnd) : Rereceived s (s.endSession i e) := by
  by_cases h : (s.session i).state = .free
  · rw [endSession_free e h]; exact .refl s
  · rw [endSession_eq e h]
    have told : Rereceived s (s.endTold i e) := (Rereceived.of_chans (s.emit_chans _)).trans ((Rereceived.freeWhere _ _).trans
      ((Rereceived.of_chans (State.discardDecode_chans _ _)).trans (.dropOwner _ _)))
    exact told.trans (.of_chans (by simp))

/-- R127: the sessions attached to a channel have ended, and the others are as before. -/
theorem failAttached_session (s : State) (d : Drive) (c : Cause) (i : SessionId) : (s.failAttached d c).session i =
    if (s.session i).drive = some d ∧ (s.session i).state ≠ .free then (s.session i).ended else s.session i := by
  refine forEach_session _ (fun _ x => if x.drive = some d ∧ x.state ≠ .free then x.ended else x)
    (fun x t => ?_) (fun x y t ne => ?_) s i
  · by_cases h : (t.session x).drive = some d
    · by_cases free : (t.session x).state = .free
      · rw [if_pos h, endSession_free _ free, if_neg fun k => k.2 free]
      · rw [if_pos h, endSession_session_self _ free, if_pos ⟨h, free⟩]
    · rw [if_neg h, if_neg fun k => h k.1]
  · split
    · exact endSession_session_ne t _ ne
    · rfl

theorem failAttached_free (s : State) (c : Cause) (h : (s.session i).drive = some d) :
    ((s.failAttached d c).session i).state = .free := by
  rw [failAttached_session]
  split
  · rfl
  · next k => exact not_not.1 fun ne => k ⟨h, ne⟩

theorem Rereceived.failAttached (s : State) (d : Drive) (c : Cause) : Rereceived s (s.failAttached d c) :=
  .loop (fun x t => by split; exacts [.endSession t x _, .refl t]) _ s

end Sys2Proof.Machine
end

section
/-! Changes of a channel's state (R66, R69, R114, R159) and the cleaning commands (8.6). -/

namespace Sys2Proof.Machine

variable {s t u : State} {d e : Drive} {i : SessionId} {c : Channel} {st : ChanState}

/-! ## A channel's record under a change of its block in progress -/

/-- A channel's record with another block in progress. -/
def Channel.withRx (c : Channel) (rx : BlockRx) : Channel := { c with reader := { c.reader with rx := rx } }

/-- A change of a channel's record that does not look at its block in progress commutes with what sessions leave of it. -/
theorem Rereceived.modChan (h : Rereceived s t) (d : Drive) (f : Channel → Channel)
    (hf : ∀ c rx, f (c.withRx rx) = (f c).withRx rx) : Rereceived (s.modChan d f) (t.modChan d f) := fun e => by
  obtain ⟨rx, eq, empty⟩ := h e
  by_cases same : e = d
  · subst same
    refine ⟨rx, ?_, fun none => empty ?_⟩
    · rw [State.chan_modChan_self, State.chan_modChan_self, eq]
      exact hf (s.chan e) rx
    · have kept : (f (s.chan e)).reader.rx = (s.chan e).reader.rx := by
        have same := congrArg (fun c : Channel => c.reader.rx) (hf (s.chan e) (s.chan e).reader.rx)
        exact same
      rw [← kept]
      rwa [State.chan_modChan_self] at none
  · rw [State.chan_modChan_ne _ d e _ (Ne.symm same), State.chan_modChan_ne _ d e _ (Ne.symm same)]
    exact ⟨rx, eq, empty⟩

/-- What is left of the channel itself. -/
theorem Rereceived.self {f : Channel → Channel} (h : Rereceived (s.modChan d f) t) : ∃ rx, t.chan d = (f (s.chan d)).withRx rx
    ∧ ((f (s.chan d)).reader.rx = {} → rx = {}) := by
  obtain ⟨rx, eq, empty⟩ := h d
  rw [State.chan_modChan_self] at eq empty
  exact ⟨rx, eq, empty⟩

theorem Rereceived.other {f : Channel → Channel} (h : Rereceived (s.modChan d f) t) (ne : e ≠ d) :
    { t.chan e with reader := (s.chan e).reader } = s.chan e := by
  have kept := h.chan e
  rwa [State.chan_modChan_ne _ d e _ ne.symm] at kept

theorem Rechan.rereceived {f : Channel → Channel} (h : Rechan d (f (s.chan d)) s t) : Rereceived (s.modChan d f) t := .of_chans h

/-! ## Entering a state (R66) -/

/-- R66: a channel's record as it enters a state. -/
def Channel.entered (c : Channel) (st : ChanState) : Channel :=
  if c.state = st then c else { c with state := st, cleaningMark := false }

theorem Rechan.enter (s : State) (d : Drive) (st : ChanState) : Rechan d ((s.chan d).entered st) s (s.enter d st) := by
  unfold State.enter Channel.entered
  dsimp only
  by_cases same : (s.chan d).state = st
  · rw [if_pos same, if_pos same]
    exact .refl s d
  · rw [if_neg same, if_neg same]
    exact (Rechan.setChan s d _).emit _

theorem Rechan.then_enter (h : Rechan d c s t) (st : ChanState) : Rechan d (c.entered st) s (t.enter d st) := by
  have entered := Rechan.enter t d st
  rw [h.self] at entered
  exact h.trans entered

theorem entered_fields (c : Channel) (st : ChanState) : ∃ m, c.entered st = { c with state := st, cleaningMark := m }
    ∧ (c.state ≠ st → m = false) := by
  unfold Channel.entered
  split
  · next h => exact ⟨c.cleaningMark, by rw [← h], fun ne => absurd h ne⟩
  · exact ⟨false, rfl, fun _ => rfl⟩

theorem entered_withRx (c : Channel) (st : ChanState) (rx : BlockRx) : (c.withRx rx).entered st = (c.entered st).withRx rx := by
  unfold Channel.entered
  by_cases same : c.state = st
  · rw [if_pos same, if_pos (show (c.withRx rx).state = st from same)]
  · rw [if_neg same, if_neg (show (c.withRx rx).state ≠ st from same)]
    rfl

/-- R159: a channel's record as it enters UNMOUNTED. -/
def Channel.emptied (c : Channel) : Channel := ({ c with mount := none, ejectTimer := none } : Channel).entered .unmounted

theorem Rechan.then_enterUnmounted (h : Rechan d c s t) : Rechan d c.emptied s (t.enterUnmounted d) := by
  have gone := (h.trans (Rechan.modChan t d fun c => { c with mount := none, ejectTimer := none })).then_enter .unmounted
  rw [h.self] at gone
  exact gone

/-! ## EJECT_WAIT (R159) -/

/-- R159: a channel's record as it enters EJECT_WAIT. -/
def Channel.ejecting (c : Channel) (deadline : Nat) : Channel :=
  ({ c with mountTimer := none, cleanTimer := none, ejectTimer := some deadline } : Channel).entered .ejectWait

/-- R159: a channel's record after the entry to EJECT_WAIT, where the cartridge may stand in the way no more. -/
def Channel.ejected (c : Channel) (loaded : Bool) (deadline : Nat) : Channel :=
  if loaded then c.ejecting deadline else (c.ejecting deadline).emptied

theorem ejected_fields (c : Channel) (loaded : Bool) (deadline : Nat) : ∃ m, c.ejected loaded deadline =
      { c with state := if loaded then .ejectWait else .unmounted, mountTimer := none, cleanTimer := none, cleaningMark := m
               ejectTimer := if loaded then some deadline else none, mount := if loaded then c.mount else none }
    ∧ (c.state ≠ .ejectWait → m = false) := by
  obtain ⟨m, entered, left⟩ := entered_fields
    { c with mountTimer := none, cleanTimer := none, ejectTimer := some deadline } .ejectWait
  cases loaded with
  | true => exact ⟨m, entered, left⟩
  | false =>
    obtain ⟨m', gone, left'⟩ := entered_fields
      { c with mountTimer := none, cleanTimer := none, ejectTimer := none, mount := none, state := .ejectWait, cleaningMark := m }
      .unmounted
    refine ⟨m', ?_, fun _ => left' (nomatch ·)⟩
    change ({ c.ejecting deadline with mount := none, ejectTimer := none } : Channel).entered .unmounted = _
    rw [Channel.ejecting, entered]
    exact gone

theorem ejected_withRx (c : Channel) (loaded : Bool) (deadline : Nat) (rx : BlockRx) :
    (c.withRx rx).ejected loaded deadline = (c.ejected loaded deadline).withRx rx := by
  have ejecting : (c.withRx rx).ejecting deadline = (c.ejecting deadline).withRx rx :=
    entered_withRx { c with mountTimer := none, cleanTimer := none, ejectTimer := some deadline } .ejectWait rx
  cases loaded with
  | true => exact ejecting
  | false =>
    change ((c.withRx rx).ejecting deadline).emptied = _
    rw [ejecting]
    exact entered_withRx { c.ejecting deadline with mount := none, ejectTimer := none } .unmounted rx

/-- R159: the deadline of the eject timer. -/
def State.ejectDeadline (s : State) : Nat := s.timebase + timeoutMicros s.params.mountTimeout

/-- R159: a channel has entered EJECT_WAIT and its record CHANNEL_STATE is written. -/
def State.ejectEntered (s : State) (d : Drive) : State :=
  (s.modChan d fun c =>
    { c with mountTimer := none, cleanTimer := none
             ejectTimer := some (s.timebase + timeoutMicros s.params.mountTimeout) }).enter d .ejectWait

/-- R159: EJECT_READY of a channel that has left a state. -/
def State.readyRec (s : State) (d : Drive) (forced : Bool) (left : ChanState) : Record :=
  { kind := .ejectReady, subject := BitVec.ofNat 16 d.val, e0 := if forced then 1 else 0
    e1 := if (match s.bayCart d with | some k => k.suspect | none => false) then 1 else 0, e2 := w32 left.code }

/-- R159: EJECT_READY is written, and the sessions that wait to read await the next cartridge. -/
def State.ejectTold (s : State) (d : Drive) (forced : Bool) : State :=
  ((s.ejectEntered d).emit ((s.ejectEntered d).readyRec d forced (s.chan d).state)).awaitAttached d .waitRead

theorem enterEject_eq (s : State) (d : Drive) (forced : Bool) : s.enterEject d forced =
    if (s.ejectTold d forced).bayPos d = .on then s.ejectTold d forced else (s.ejectTold d forced).enterUnmounted d := rfl

theorem ejectEntered_rechan (s : State) (d : Drive) : Rechan d ((s.chan d).ejecting s.ejectDeadline) s (s.ejectEntered d) :=
  (Rechan.modChan s d _).then_enter .ejectWait

theorem ejectTold_loader (s : State) (d : Drive) (forced : Bool) : (s.ejectTold d forced).loader = s.loader := by
  simp [State.ejectTold, State.ejectEntered]

theorem bayPos_of_loader (h : t.loader = s.loader) (d : Drive) : t.bayPos d = s.bayPos d := by
  rw [State.bayPos, State.filter, h]; rfl

theorem bayCart_of_loader (h : t.loader = s.loader) (d : Drive) : t.bayCart d = s.bayCart d := by
  rw [State.bayCart, State.loc, h]; rfl

theorem ejectTold_chans (s : State) (d : Drive) (forced : Bool) :
    Rereceived (s.modChan d fun c => c.ejecting s.ejectDeadline) (s.ejectTold d forced) :=
  (ejectEntered_rechan s d).rereceived.trans ((Rereceived.of_chans (State.emit_chans _ _)).trans (.awaitAttached _ d .waitRead))

/-- R159: what the entry to EJECT_WAIT makes of the channels. -/
theorem enterEject_chans (s : State) (d : Drive) (forced : Bool) :
    Rereceived (s.modChan d fun c => c.ejected (s.bayPos d = .on) s.ejectDeadline) (s.enterEject d forced) := by
  have told := ejectTold_chans s d forced
  rw [enterEject_eq, bayPos_of_loader (ejectTold_loader s d forced)]
  by_cases on : s.bayPos d = .on
  · simpa [on, Channel.ejected] using told
  · rw [if_neg on]
    have gone := Rereceived.of_chans (s := (s.ejectTold d forced).modChan d Channel.emptied)
      ((Rechan.refl (s.ejectTold d forced) d).then_enterUnmounted)
    have ejected := (told.modChan d Channel.emptied fun c rx =>
      entered_withRx { c with mount := none, ejectTimer := none } .unmounted rx).trans gone
    have both := Rereceived.of_chans (s := s.modChan d fun c => c.ejected (s.bayPos d = .on) s.ejectDeadline)
      (t := (s.modChan d fun c => c.ejecting s.ejectDeadline).modChan d Channel.emptied)
      (by simp [on, Channel.ejected, State.chan])
    exact both.trans ejected

/-- R159: the channel that enters EJECT_WAIT. -/
theorem enterEject_chan (s : State) (d : Drive) (forced : Bool) : ∃ rx m, (s.enterEject d forced).chan d =
      { s.chan d with state := if s.bayPos d = .on then .ejectWait else .unmounted, mountTimer := none, cleanTimer := none
                      cleaningMark := m, ejectTimer := if s.bayPos d = .on then some s.ejectDeadline else none
                      mount := if s.bayPos d = .on then (s.chan d).mount else none
                      reader := { (s.chan d).reader with rx := rx } }
    ∧ ((s.chan d).state ≠ .ejectWait → m = false) ∧ ((s.chan d).reader.rx = {} → rx = {}) := by
  obtain ⟨rx, eq, empty⟩ := (enterEject_chans s d forced).self
  obtain ⟨m, ejected, left⟩ := ejected_fields (s.chan d) (s.bayPos d = .on) s.ejectDeadline
  rw [ejected] at eq empty
  refine ⟨rx, m, ?_, left, empty⟩
  rw [eq]
  by_cases on : s.bayPos d = .on <;> simp [on, Channel.withRx]

theorem enterEject_streams (s : State) (d : Drive) (forced : Bool) : (s.enterEject d forced).streams = s.streams := by
  have told : (s.ejectTold d forced).streams = s.streams := by simp [State.ejectTold, State.ejectEntered]
  rw [enterEject_eq]
  split
  · exact told
  · rw [State.enterUnmounted, State.enter_streams, State.modChan_streams, told]

theorem enterEject_loader (s : State) (d : Drive) (forced : Bool) : (s.enterEject d forced).loader = s.loader := by
  rw [enterEject_eq]
  split
  · exact ejectTold_loader s d forced
  · rw [State.enterUnmounted, State.enter_loader, State.modChan_loader, ejectTold_loader]

/-! ## Cleaning (R130, R162, R163) -/

theorem exec_clean (tag : Half) (p0 : Word) (s : State) :
    exec (.clean tag p0) s = .next (s.command (.clean tag p0) 0x45 tag (settled (cleanRule p0))) := rfl

theorem exec_setCleanUses (tag : Half) (p0 p1 : Word) (s : State) : exec (.setCleanUses tag p0 p1) s =
    .next (s.command (.setCleanUses tag p0 p1) 0x46 tag (settled (setCleanUsesRule p0 p1))) := rfl

theorem exec_cleanDone (tag : Half) (p0 : Word) (s : State) :
    exec (.cleanDone tag p0) s = .next (s.command (.cleanDone tag p0) 0x26 tag (settled (cleanDoneRule p0))) := rfl

theorem exec_cleanTimeout {n : Nat} (h : (s.chan d).cleanTimer = some n) :
    exec (.cleanTimeout d) s = .next (s.settle ((s.elapseTo n).endCleaning d false)) := by
  change execCleanTimeout d s = _
  rw [execCleanTimeout, h]

/-- R130: a change of a cleaner's medium tells only that a cleaner may have come. -/
theorem cleanerTest_loader (s : State) (a b : Media) : ∃ n, s.cleanerTest a b = s.modLoader fun l => { l with noCleaner := n } := by
  unfold State.cleanerTest
  split
  · exact ⟨_, rfl⟩
  · exact ⟨s.loader.noCleaner, rfl⟩

theorem setCleanUses_ends (s : State) (tag : Half) (p0 p1 : Word) :
    (26 < p0.toNat ∨ 255 < p1.toNat → TurnedAway (.setCleanUses tag p0 p1) 0x46 tag .badParam s)
    ∧ (∀ (l : Loc) k, p0.toNat = l.val → p1.toNat ≤ 255 → (s.loc l).cart = some k →
        (k.label.bind (·.getLast?)) = some 0x43 → ∃ v, EndsSettled (.setCleanUses tag p0 p1) 0x46 tag .done s v
        ∧ (v.loc l).cart = some { k with uses := p1.toNat } ∧ (∀ m, m ≠ l → v.loc m = s.loc m) ∧ v.chans = s.chans
        ∧ v.mem = s.mem ∧ v.ring = s.ring)
    ∧ (∀ l : Loc, p0.toNat = l.val → p1.toNat ≤ 255 →
        ((s.loc l).cart = none ∨ ∃ k, (s.loc l).cart = some k ∧ (k.label.bind (·.getLast?)) ≠ some 0x43) →
        TurnedAway (.setCleanUses tag p0 p1) 0x46 tag .refusedState s) := by
  have arm := exec_setCleanUses tag p0 p1 s
  refine ⟨fun bad => turnedAway_of_settled arm ?_ rfl, fun l k hl small hk label => ?_, fun l hl small none =>
    turnedAway_of_settled arm ?_ rfl⟩
  · unfold setCleanUsesRule
    split
    · rfl
    · next l hl =>
      refine if_pos (bad.resolve_left fun big => ?_)
      rw [locOf_none big] at hl
      cases hl
  · obtain ⟨n, test⟩ := cleanerTest_loader (s.atOwner.modLoc l fun x => { x with cart := some { k with uses := p1.toNat } })
      k.media ({ k with uses := p1.toNat } : Cart).media
    have rule : setCleanUsesRule p0 p1 s.atOwner = ((s.atOwner.modLoc l fun x =>
        { x with cart := some { k with uses := p1.toNat } }).cleanerTest k.media ({ k with uses := p1.toNat } : Cart).media).ok := by
      simp only [setCleanUsesRule, locOf_some hl, Nat.not_lt.2 small, atOwner_loc, hk, label, if_true, if_false]
    refine ⟨_, endsSettled_of_settled arm rule rfl, ?_, fun m hm => ?_, ?_, ?_, ?_⟩
    all_goals rw [test]
    · change ((s.atOwner.modLoc l fun x => { x with cart := some { k with uses := p1.toNat } }).loc l).cart = _
      rw [State.loc_modLoc_self]
    · exact State.loc_setLoc_ne s.atOwner l m _ (Ne.symm hm)
    all_goals rfl
  · simp only [setCleanUsesRule, locOf_some hl, Nat.not_lt.2 small, atOwner_loc, if_false]
    obtain none | ⟨k, hk, label⟩ := none
    · rw [none]
    · rw [hk]
      exact if_neg label

/-- R163: what a cleaning load that ended, or timed out, leaves before its channel enters EJECT_WAIT. -/
def State.cleaned (s : State) (d : Drive) (clean : Bool) : State :=
  if clean then
    (s.modLoader fun l => { l with cleaningDue := l.cleaningDue.set d false }).modChan d fun c => { c with blocksMoved := 0 }
  else
    s.modLoader fun l =>
      { l with queue := l.queue.map fun r =>
          if r.kind = .clean ∧ r.drive = some d ∧ r.legsDone ≠ 0 then { r with recorded := some .timeout } else r }

theorem endCleaning_eq (s : State) (d : Drive) (clean : Bool) : s.endCleaning d clean = (s.cleaned d clean).enterEject d false := rfl

theorem cleaned_chan (s : State) (d : Drive) (clean : Bool) : (s.cleaned d clean).chan d =
    { s.chan d with blocksMoved := if clean then 0 else (s.chan d).blocksMoved } := by
  cases clean with
  | true => exact State.chan_modChan_self (s.modLoader _) d fun c => { c with blocksMoved := 0 }
  | false => rfl

theorem cleaned_due (s : State) (d : Drive) (clean : Bool) : (s.cleaned d clean).loader.cleaningDue =
    if clean then s.loader.cleaningDue.set d false else s.loader.cleaningDue := by
  cases clean <;> rfl

theorem cleaned_bayPos (s : State) (d : Drive) (clean : Bool) : (s.cleaned d clean).bayPos d = s.bayPos d := by
  cases clean <;> rfl

/-- R163: what the end of a cleaning load makes of its channel. -/
theorem endCleaning_chan (s : State) (d : Drive) (clean : Bool) (h : (s.chan d).state = .mounting) :
    ((s.endCleaning d clean).chan d).blocksMoved = (if clean then 0 else (s.chan d).blocksMoved)
    ∧ (s.endCleaning d clean).loader.cleaningDue = (if clean then s.loader.cleaningDue.set d false else s.loader.cleaningDue)
    ∧ ((s.endCleaning d clean).chan d).cleaningMark = false ∧ ((s.endCleaning d clean).chan d).cleanTimer = none
    ∧ ((s.endCleaning d clean).chan d).state = (if s.bayPos d = .on then .ejectWait else .unmounted) := by
  have chan := cleaned_chan s d clean
  have due := cleaned_due s d clean
  have pos := cleaned_bayPos s d clean
  rw [endCleaning_eq]
  generalize s.cleaned d clean = u at *
  obtain ⟨rx, m, eq, left, -⟩ := enterEject_chan u d false
  rw [eq, enterEject_loader, due, pos, chan]
  exact ⟨rfl, rfl, left (by rw [chan]; simp [h]), rfl, rfl⟩

/-- Settles O56: the flags, the cleaner's uses, and the end of a cleaning load as the entry to EJECT_WAIT. -/
theorem cleaningCommandsAct : Obligations.CleaningCommandsAct := by
  intro s tag p0 p1 d u
  obtain ⟨badUses, uses, noUses⟩ := setCleanUses_ends s tag p0 p1
  have clean := exec_clean tag p0 s
  have done := exec_cleanDone tag p0 s
  refine ⟨⟨fun bad => ⟨turnedAway_of_settled clean (by rw [cleanRule, driveOf_none bad]) rfl,
      turnedAway_of_settled done (by rw [cleanDoneRule, driveOf_none bad]) rfl⟩, badUses,
    fun hd => endsSettled_of_settled clean (by rw [cleanRule, driveOf_some hd]; rfl) rfl, uses, noUses,
    fun hd idle => turnedAway_of_settled done ?_ rfl, fun hd mounting mark => ?_⟩, fun n timer mounting => ?_⟩
  · simp only [cleanDoneRule, driveOf_some hd, atOwner_chan]
    refine if_neg fun ⟨mounting, mark⟩ => idle.elim (· mounting) fun off => ?_
    rw [off] at mark
    cases mark
  · have rule : cleanDoneRule p0 s.atOwner = (s.atOwner.endCleaning d true).ok := by
      simp only [cleanDoneRule, driveOf_some hd, atOwner_chan, mounting, mark, and_self, if_true]
    obtain ⟨moved, due, unmarked, timer, state⟩ := endCleaning_chan s.atOwner d true mounting
    refine ⟨_, endsSettled_of_settled done rule rfl, moved, ?_, unmarked, timer, state, mem_of_outside (State.endCleaning_outside _ _ _)⟩
    rw [due]
    simp
  · obtain ⟨moved, due, -, off, state⟩ := endCleaning_chan (s.elapseTo n) d false mounting
    refine ⟨_, exec_cleanTimeout timer, ?_, due, moved, off, state, ?_⟩
    · rw [timebase_of_outside (State.endCleaning_outside _ _ _), elapseTo_timebase]
    · rw [mem_of_outside (State.endCleaning_outside _ _ _)]; rfl

end Sys2Proof.Machine
end

section
/-! The ends that a channel brings to what hangs on it: the streams that target it (R59), its assembler's work (R34), and its
reader (R114, R115). -/

namespace Sys2Proof.Machine

variable {s t u : State} {d e : Drive} {k : Tag} {c : Channel}

/-! ## The streams that target a channel (R59) -/

/-- What a loop over the streams leaves, where each step changes its stream alone. -/
theorem forEach_stream (f : Tag → State → State) (g : Tag → Stream → Stream)
    (at_ : ∀ x t, (f x t).stream x = g x (t.stream x)) (off : ∀ x y t, y ≠ x → (f x t).stream y = t.stream y) (s : State)
    (k : Tag) : (forEach allTags f s).stream k = g k (s.stream k) :=
  (forEach_apart State.stream f g at_ off allTags s (by decide)).1 k (mem_allTags k)

/-- R59: a stream that targets the channel is CLOSED, and every other one is as before. -/
theorem abortTargeting_stream (s : State) (d : Drive) (cause : Cause) (k : Tag) :
    (s.abortTargeting d cause).stream k = if (s.stream k).targets.has d ∧ (s.stream k).state ≠ .closed then
      Stream.closing { s.stream k with bufA := (s.stream k).bufA.aborted, bufB := (s.stream k).bufB.aborted } else s.stream k := by
  refine (stream_of_streams (State.packChoose_streams _) k).trans (forEach_stream _ (fun _ x =>
    if x.targets.has d ∧ x.state ≠ .closed then Stream.closing { x with bufA := x.bufA.aborted, bufB := x.bufB.aborted } else x)
    (fun x t => ?_) (fun x y t ne => ?_) s k)
  · dsimp only
    by_cases has : (t.stream x).targets.has d = true
    · rw [if_pos has]
      by_cases closed : (t.stream x).state = .closed
      · rw [abortCore_closed _ _ closed, if_neg fun h => h.2 closed]
      · rw [abortCore_stream_self _ _ closed, if_pos ⟨has, closed⟩]
    · rw [if_neg has, if_neg fun h => has h.1]
  · dsimp only
    split
    · exact abortCore_stream_ne _ _ ne
    · rfl

theorem abortTargeting_closed (cause : Cause) (h : (s.stream k).targets.has d = true) :
    ((s.abortTargeting d cause).stream k).state = .closed := by
  rw [abortTargeting_stream]
  split
  · rfl
  · next n => exact not_not.1 fun open_ => n ⟨h, open_⟩

/-- Of a channel, the placement queue alone changes, and it loses chunks alone. -/
def Unqueued (s t : State) : Prop :=
  ∀ d, ∃ q, t.chan d = { s.chan d with placeQueue := q } ∧ ∀ id ∈ q, id ∈ (s.chan d).placeQueue

theorem Unqueued.of_chans (h : t.chans = s.chans) : Unqueued s t := fun d =>
  ⟨(s.chan d).placeQueue, chan_of_chans h d, fun _ mem => mem⟩

theorem Unqueued.trans (h : Unqueued s t) (k : Unqueued t u) : Unqueued s u := fun d => by
  obtain ⟨q, eq, sub⟩ := h d
  obtain ⟨q', eq', sub'⟩ := k d
  rw [eq] at eq' sub'
  exact ⟨q', eq', fun id mem => sub id (sub' id mem)⟩

theorem Unqueued.loop {α : Type} {f : α → State → State} (hf : ∀ x t, Unqueued t (f x t)) :
    ∀ (l : List α) (s : State), Unqueued s (forEach l f s)
  | [], _ => .of_chans rfl
  | x :: l, s => (hf x s).trans (Unqueued.loop hf l (f x s))

theorem Unqueued.abortTargeting (s : State) (d : Drive) (cause : Cause) : Unqueued s (s.abortTargeting d cause) :=
  (Unqueued.loop (fun k t => by split; exacts [abortCore_chan t k cause _, .of_chans rfl]) allTags s).trans
    (.of_chans (State.packChoose_chans _))

/-- A channel whose placement queue is empty is as before. -/
theorem Unqueued.chan (h : Unqueued s t) (empty : (s.chan d).placeQueue = []) : t.chan d = s.chan d := by
  obtain ⟨q, eq, sub⟩ := h d
  have none : q = [] := List.eq_nil_iff_forall_not_mem.2 fun id mem => by
    have old := sub id mem
    rw [empty] at old
    cases old
  rw [eq, none, ← empty]

theorem abortTargeting_loader (s : State) (d : Drive) (cause : Cause) : (s.abortTargeting d cause).loader = s.loader :=
  (State.packChoose_loader _).trans (forEach_same (·.loader) _
    (fun k t => by dsimp only; split; exacts [abortCore_loader t k cause _, rfl]) _ _)

theorem abortTargeting_restore (s : State) (d : Drive) (cause : Cause) : (s.abortTargeting d cause).restore = s.restore :=
  (State.packChoose_restore _).trans (forEach_same (·.restore) _
    (fun k t => by dsimp only; split; exacts [abortCore_restore t k cause _, rfl]) _ _)

/-! ## The assembler's work (R34) -/

/-- R34: the accesses whose answers an assembler's activity still owes. -/
def Channel.owed (c : Channel) : List (Option Nat) :=
  match c.activity with
  | .placing p => [some p.record]
  | .closing _ => [none]
  | .idle => []

/-- R34: a channel's record as its assembler drops its work. -/
def Channel.dropped (c : Channel) : Channel :=
  { c with activity := .idle, closeAsked := none, held := none, placeQueue := [], abandoned := c.abandoned ++ c.owed }

/-- R34: the chunks given up at once, in their order. -/
def Channel.givenUp (c : Channel) : List Nat :=
  (match c.held with
    | some (r, _) => if c.owed.contains (some r) then [] else [r]
    | none => []) ++ c.placeQueue

/-- R52: the streams whose chunks leave the placement queue. -/
def State.leaving (s : State) (d : Drive) (k : Tag) : Bool :=
  (s.chan d).placeQueue.any fun id => match s.findRec id with
    | some r => r.role == .backup k
    | none => false

theorem dropAssembler_eq (s : State) (d : Drive) : s.dropAssembler d =
    forEach (allTags.filter (s.leaving d)) (fun k u => u.suspendTest k)
      ((s.setChan d (s.chan d).dropped).giveUpAll (s.chan d).givenUp) := rfl

theorem Rechan.dropAssembler (s : State) (d : Drive) : Rechan d (s.chan d).dropped s (s.dropAssembler d) := by
  rw [dropAssembler_eq]
  exact (Rechan.setChan s d _).then_chans ((forEach_same (·.chans) _ (fun k t => t.suspendTest_chans k) _ _).trans
    (State.giveUpAll_chans _ _))

theorem dropAssembler_loader (s : State) (d : Drive) : (s.dropAssembler d).loader = s.loader := by
  rw [dropAssembler_eq]
  exact (forEach_same (·.loader) _ (fun k t => t.suspendTest_loader k) _ _).trans (State.giveUpAll_loader _ _)

theorem dropAssembler_restore (s : State) (d : Drive) : (s.dropAssembler d).restore = s.restore := by
  rw [dropAssembler_eq]
  exact (forEach_same (·.restore) _ (fun k t => t.suspendTest_restore k) _ _).trans (State.giveUpAll_restore _ _)

theorem suspendTest_targets (s : State) (j k : Tag) : ((s.suspendTest j).stream k).targets = (s.stream k).targets := by
  obtain same | ⟨-, r, told⟩ := suspendTest_cases s j
  · rw [same]
  · rw [told, stream_of_streams (State.emit_streams _ _)]
    by_cases e : k = j
    · subst e
      rw [State.stream_setStream_self]
    · rw [State.stream_setStream_ne _ _ _ _ (Ne.symm e)]

theorem dropAssembler_targets (s : State) (d : Drive) (k : Tag) : ((s.dropAssembler d).stream k).targets = (s.stream k).targets := by
  rw [dropAssembler_eq]
  exact (forEach_same (fun t => (t.stream k).targets) _ (fun j t => suspendTest_targets t j k) _ _).trans
    (congrArg Stream.targets (stream_of_streams (State.giveUpAll_streams _ _) k))

end Sys2Proof.Machine
end

section
/-! O43 fails: with two chunk records of one number, a reader's stop frees both where it discards the first. -/

namespace Sys2Proof.Machine

variable {s t u v : State}

/-! ## The end of an event keeps the part's startup state -/

theorem running_of_works (h : Works s t) : t.running = s.running := by
  rw [State.running, State.running, layout_startup h.layout]

theorem settle_running (ref s : State) : (ref.settle s).running = s.running := running_of_works ((Works.refl s).settle ref)

theorem endCommand_running (s : State) (kind : Nat) (tag : Half) (o : CmdOutcome) (r : Results) (extra : Word) :
    (s.endCommand kind tag o r extra).running = s.running := by
  rw [endCommand_eq, State.running, layout_startup (intakeTest_layout _)]
  rfl

/-- A command that is read leaves the channels alone determined, where the part is not in RUNNING. -/
theorem chans_of_endsSettled {c : Instr} {kind : Nat} {tag : Half} {o : CmdOutcome} (reads : s.takes c = true)
    (hu : EndsSettled c kind tag o s u) (hv : EndsSettled c kind tag o s v) (idle : u.running = false) : v.chans = u.chans := by
  have same := (hu reads).symm.trans (hv reads)
  have states : (s.atOwner.settle u).endCommand kind tag o {} 0 = (s.atOwner.settle v).endCommand kind tag o {} 0 := by
    injection same
  have runs := congrArg State.running states
  rw [endCommand_running, endCommand_running, settle_running, settle_running, idle] at runs
  have chans := congrArg State.chans states
  rw [State.endCommand_chans, State.endCommand_chans, settle_of_not_running _ _ idle, settle_of_not_running _ _ runs.symm] at chans
  exact chans.symm

/-- The record of END_OF_DATA for DC0, in the command slot. -/
def endOfDataFrame : List Byte := ((encodeCommand (.endOfData 1 0)).map (·.frame)).getD []

/-- A channel in READ on a verify pass, whose block in progress has touched record 0; the table lists two records of this number,
one that the block created and one that holds a complete chunk of the pass. -/
def twoRecords : State :=
  { State.reset with
    path := { State.reset.path with
      windows := [⟨0x100000, 0x4000, .control, 0⟩]
      port := { State.reset.path.port with issued := some (.owned (.slotRead 0)) } }
    ring := { intake := .reading, reserved := true, p := 1 }
    pool := { records := [
      { id := 0, role := .verify 0, setId := 5, seq := 0, state := .reassembling, created := true },
      { id := 0, role := .verify 0, setId := 5, seq := 1, state := .complete }] }
    chans := State.reset.chans.set 0
      { state := .read, mount := some { size := 0, nextSeq := 40, capacity := 500, session := 7 }
        reader := { running := true, verify := true
                    rx := { frags := [{ setId := 5, seq := 0, last := true, number := 0, index := 0, records := [0] }] } } } }.poke
    (0x100000 + 0x40) endOfDataFrame

theorem twoRecords_reads : twoRecords.takes (.endOfData 1 0) = true := by decide +kernel

/-- What END_OF_DATA leaves of the two records. -/
def twoRecordsEnded : State := twoRecords.atOwner.endReading 0

theorem twoRecordsEnded_unchecked : (twoRecordsEnded.chan 0).reader.tallies.unchecked = 0 := by decide +kernel

theorem twoRecords_ends : EndsSettled (.endOfData 1 0) 0x24 1 .done twoRecords twoRecordsEnded :=
  endsSettled_of_settled (rule := endOfDataRule 0) rfl rfl rfl

/-- Refutes O43: the table of `twoRecords` lists two records of number 0. The stop discards the first, which its block created, and
frees both; the summary then counts no chunk unchecked, where the statement counts the complete one. -/
theorem not_endOfDataAndUnmountEndTheUseOfACartridge : ¬ Obligations.EndOfDataAndUnmountEndTheUseOfACartridge := by
  intro holds
  obtain ⟨-, -, reads⟩ := holds.1 twoRecords 1 0 0
  obtain ⟨v, ends, -, -, -, -, -, -, -, -, -, -, -, summary, -⟩ := reads rfl rfl rfl
  obtain ⟨tallies, -⟩ := summary rfl (by decide)
  have chans := chans_of_endsSettled twoRecords_reads twoRecords_ends ends rfl
  have none : (v.chan 0).reader.tallies.unchecked = 0 := by
    rw [chan_of_chans chans]
    exact twoRecordsEnded_unchecked
  rw [tallies] at none
  exact absurd none (by decide)

end Sys2Proof.Machine
end

section
/-! The reader's stop (R114, R115), the modes (4.2, 6.1), the reset and the failure of a channel (4.8). -/

namespace Sys2Proof.Machine

variable {s t u : State} {d e : Drive} {i : SessionId} {k : Tag} {c : Channel}

/-! ## The reader's stop (R114) -/

/-- The channels are as before but for their readers. -/
def Reread (s t : State) : Prop := ∀ d, ∃ r, t.chan d = { s.chan d with reader := r }

theorem Reread.of_chans (h : t.chans = s.chans) : Reread s t := fun d => ⟨(s.chan d).reader, chan_of_chans h d⟩

theorem Reread.trans (h : Reread s t) (k : Reread t u) : Reread s u := fun d => by
  obtain ⟨r, eq⟩ := h d
  obtain ⟨r', eq'⟩ := k d
  exact ⟨r', by rw [eq', eq]⟩

theorem Rereceived.reread (h : Rereceived s t) : Reread s t := fun d => by
  obtain ⟨rx, eq, -⟩ := h d
  exact ⟨_, eq⟩

theorem Reread.modReader (s : State) (d : Drive) (f : Reader → Reader) :
    Reread s (s.modChan d fun c => { c with reader := f c.reader }) := fun e => by
  by_cases same : e = d
  · subst same
    exact ⟨_, State.chan_modChan_self s e _⟩
  · exact ⟨(s.chan e).reader, State.chan_modChan_ne s d e _ (Ne.symm same)⟩

/-- R114: what the stop of a running reader leaves before the end of its pass. -/
def State.readerEmptied (s : State) (d : Drive) : State :=
  let s1 := s.discardBlock d
  let unchecked := (s1.pool.records.filter fun r =>
    r.role == .verify d && ((r.state == .reassembling && 0 < r.committed) || r.state == .complete
      || r.state == .decoding)).length
  let s2 := if (s1.chan d).reader.verify then
      s1.modChan d fun c => { c with reader := { c.reader with tallies :=
        { c.reader.tallies with unchecked := c.reader.tallies.unchecked.add unchecked } } }
    else s1
  ((s2.freeWhere fun r => r.role == .verify d && r.waits).discardDecode (.verify d)).modChan d fun c =>
    { c with reader := { c.reader with pendingVerify := none, verifyQueue := [] } }

/-- R115: the pass of a reader that stops has ended, if it was on one. -/
def State.readerHalted (s : State) (d : Drive) (normal : Bool) : State :=
  if ((s.discardBlock d).chan d).reader.verify then (s.readerEmptied d).endPass d normal else s.readerEmptied d

/-- R114: a reader that runs no more. -/
def Reader.halted (r : Reader) : Reader := { r with running := false, verify := false }

theorem stopReader_idle (normal : Bool) (h : (s.chan d).reader.running = false) : s.stopReader d normal = s :=
  if_pos (by rw [h]; rfl)

theorem stopReader_eq (normal : Bool) (h : (s.chan d).reader.running = true) : s.stopReader d normal =
    if normal then ((s.readerHalted d normal).modChan d fun c => { c with reader := c.reader.halted }).awaitAttached d .active
    else (s.readerHalted d normal).modChan d fun c => { c with reader := c.reader.halted } :=
  (if_neg (by rw [h]; exact Bool.false_ne_true)).trans rfl

theorem discardBlock_reread (s : State) (d : Drive) : Reread s (s.discardBlock d) :=
  (Reread.of_chans (forEach_same (·.chans) _ (fun id t => t.discardRec_chans id) _ _)).trans
    (.modReader _ d fun r => { r with rx := {}, staleWrites := r.staleWrites + r.rx.writes })

theorem endPass_chans (s : State) (d : Drive) (normal : Bool) : (s.endPass d normal).chans = s.chans := by
  unfold State.endPass
  dsimp only
  split
  · exact State.emit_chans _ _
  · exact State.emit_chans _ _

theorem readerEmptied_reread (s : State) (d : Drive) : Reread s (s.readerEmptied d) := by
  unfold State.readerEmptied
  extract_lets s1 unchecked s2
  have first : Reread s s1 := discardBlock_reread s d
  have second : Reread s1 s2 := by
    unfold s2
    split
    · exact .modReader s1 d fun r => { r with tallies := { r.tallies with unchecked := r.tallies.unchecked.add unchecked } }
    · exact .of_chans rfl
  have third := (Rereceived.freeWhere s2 fun r => r.role == .verify d && r.waits).reread.trans
    (.of_chans (State.discardDecode_chans _ (.verify d)))
  exact first.trans (second.trans (third.trans (.modReader _ d fun r => { r with pendingVerify := none, verifyQueue := [] })))

theorem readerHalted_reread (s : State) (d : Drive) (normal : Bool) : Reread s (s.readerHalted d normal) := by
  unfold State.readerHalted
  split
  · exact (readerEmptied_reread s d).trans (.of_chans (endPass_chans _ d normal))
  · exact readerEmptied_reread s d

/-- What the discards and the frees of a stop keep, the stop keeps up to the end of its pass. -/
theorem readerEmptied_same {β : Type} (g : State → β) (block : ∀ t, g (t.discardBlock d) = g t)
    (chan : ∀ t f, g (t.modChan d f) = g t) (free : ∀ t sel, g (t.freeWhere sel) = g t)
    (decode : ∀ t q, g (t.discardDecode q) = g t) (s : State) : g (s.readerEmptied d) = g s := by
  unfold State.readerEmptied
  extract_lets s1 unchecked s2
  have second : g s2 = g s := by
    unfold s2
    split
    · rw [chan, block]
    · rw [block]
  rw [chan, decode, free, second]

theorem readerHalted_same {β : Type} (g : State → β) (normal : Bool) (emptied : ∀ t, g (t.readerEmptied d) = g t)
    (pass : ∀ t, g (t.endPass d normal) = g t) (s : State) : g (s.readerHalted d normal) = g s := by
  unfold State.readerHalted
  split
  · rw [pass, emptied]
  · rw [emptied]

/-- R114: a stop leaves the channels as they are but for their readers, and this reader stopped. -/
theorem stopReader_reread (s : State) (d : Drive) (normal : Bool) : Reread s (s.stopReader d normal)
    ∧ ((s.stopReader d normal).chan d).reader.running = false := by
  cases run : (s.chan d).reader.running with
  | false =>
    rw [stopReader_idle normal run]
    exact ⟨.of_chans rfl, run⟩
  | true =>
    rw [stopReader_eq normal run]
    have halted := readerHalted_reread s d normal
    generalize s.readerHalted d normal = v at *
    have stopped := halted.trans (Reread.modReader v d Reader.halted)
    have off : ((v.modChan d fun c => { c with reader := c.reader.halted }).chan d).reader.running = false := by
      rw [State.chan_modChan_self]; rfl
    cases normal with
    | false => exact ⟨stopped, off⟩
    | true =>
      rw [if_pos rfl]
      have awaited := Rereceived.awaitAttached (v.modChan d fun c => { c with reader := c.reader.halted }) d .active
      refine ⟨stopped.trans awaited.reread, ?_⟩
      obtain ⟨rx, eq, -⟩ := awaited d
      rw [eq]
      exact off

/-- R114: the channel whose reader stops. -/
theorem stopReader_chan (s : State) (d : Drive) (normal : Bool) : ∃ r, (s.stopReader d normal).chan d = { s.chan d with reader := r }
    ∧ r.running = false := by
  obtain ⟨reread, off⟩ := stopReader_reread s d normal
  obtain ⟨r, eq⟩ := reread d
  rw [eq] at off
  exact ⟨r, eq, off⟩

/-- R115: a pass that is cut clears no SUSPECT mark. -/
theorem endPass_cut (s : State) (d : Drive) : (s.endPass d false).loader = s.loader := by
  have unclean (r : Reader) : r.clean false = false := rfl
  simp [State.endPass, unclean]

theorem readerHalted_cut (s : State) (d : Drive) : (s.readerHalted d false).loader = s.loader :=
  readerHalted_same (·.loader) false (readerEmptied_same (·.loader) (fun t => t.discardBlock_loader d) (fun _ _ => rfl)
    (fun t sel => t.freeWhere_loader sel) (fun t q => t.discardDecode_loader q)) (fun t => endPass_cut t d) s

theorem stopReader_cut_loader (s : State) (d : Drive) : (s.stopReader d false).loader = s.loader := by
  cases run : (s.chan d).reader.running with
  | false => rw [stopReader_idle false run]
  | true =>
    rw [stopReader_eq false run, if_neg Bool.false_ne_true, State.modChan_loader]
    exact readerHalted_cut s d

theorem endPass_session (s : State) (d : Drive) (normal : Bool) (i : SessionId) : (s.endPass d normal).session i = s.session i := by
  unfold State.endPass
  dsimp only
  split
  · exact session_of_restore (State.emit_restore _ _) i
  · exact session_of_restore (State.emit_restore _ _) i

theorem readerHalted_session (s : State) (d : Drive) (normal : Bool) (i : SessionId) :
    (s.readerHalted d normal).session i = s.session i :=
  readerHalted_same (·.session i) normal (readerEmptied_same (·.session i)
    (fun t => session_of_restore (t.discardBlock_restore d) i) (fun _ _ => rfl)
    (fun t sel => session_of_restore (t.freeWhere_restore sel) i) (fun t q => discardDecode_session t q i))
    (fun t => endPass_session t d normal i) s

/-- R114: a stop that is cut leaves the sessions as they are. -/
theorem stopReader_cut_session (s : State) (d : Drive) (i : SessionId) : (s.stopReader d false).session i = s.session i := by
  cases run : (s.chan d).reader.running with
  | false => rw [stopReader_idle false run]
  | true =>
    rw [stopReader_eq false run, if_neg Bool.false_ne_true]
    exact readerHalted_session s d false i

theorem endPass_streams (s : State) (d : Drive) (normal : Bool) : (s.endPass d normal).streams = s.streams := by
  unfold State.endPass
  dsimp only
  split
  · exact State.emit_streams _ _
  · exact State.emit_streams _ _

theorem readerHalted_streams (s : State) (d : Drive) (normal : Bool) : (s.readerHalted d normal).streams = s.streams :=
  readerHalted_same (·.streams) normal (readerEmptied_same (·.streams) (fun t => t.discardBlock_streams d) (fun _ _ => rfl)
    (fun t sel => t.freeWhere_streams sel) (fun t q => t.discardDecode_streams q)) (fun t => endPass_streams t d normal) s

theorem stopReader_streams (s : State) (d : Drive) (normal : Bool) : (s.stopReader d normal).streams = s.streams := by
  cases run : (s.chan d).reader.running with
  | false => rw [stopReader_idle normal run]
  | true =>
    rw [stopReader_eq normal run]
    split
    · rw [State.awaitAttached_streams, State.modChan_streams, readerHalted_streams]
    · rw [State.modChan_streams, readerHalted_streams]

/-! ## The modes (R67 to R69, R107) -/

theorem exec_mounted (tag : Half) (p0 p1 p2 p3 p4 p5 p6 p7 : Word) (s : State) : exec (.mounted tag p0 p1 p2 p3 p4 p5 p6 p7) s =
    .next (s.command (.mounted tag p0 p1 p2 p3 p4 p5 p6 p7) 0x20 tag (settled (mountedRule p0 p1 p2 p3 p4 p5 p6 p7))) := rfl

theorem exec_setMode (tag : Half) (p0 p1 p2 p3 : Word) (s : State) : exec (.setMode tag p0 p1 p2 p3) s =
    .next (s.command (.setMode tag p0 p1 p2 p3) 0x21 tag (settled (setModeRule p0 p1 p2 p3))) := rfl

theorem modeOf_none {w : Word} (h : 2 < w.toNat) : modeOf w = none := by
  have ne0 : w ≠ 0 := by rintro rfl; simp at h
  have ne1 : w ≠ 1 := by rintro rfl; simp at h
  have ne2 : w ≠ 2 := by rintro rfl; simp at h
  rw [modeOf, if_neg ne0, if_neg ne1, if_neg ne2]

theorem word_cases {w : Word} (h : w.toNat ≤ 2) : w = 0 ∨ w = 1 ∨ w = 2 := by
  have range : w.toNat = 0 ∨ w.toNat = 1 ∨ w.toNat = 2 := by omega
  exact range.imp (fun e => BitVec.eq_of_toNat_eq e)
    (Or.imp (fun e => BitVec.eq_of_toNat_eq e) fun e => BitVec.eq_of_toNat_eq e)

/-- R79: what the test of the capacity counter may make of a channel's record. -/
theorem fullTest_rechan (s : State) (d : Drive) : ∃ f a q b k, Rechan d
    { s.chan d with full := f, activity := a, closeAsked := q, running := b, counters := k } s (s.fullTest d) := by
  have still : ∃ f a q b k, Rechan d
      { s.chan d with full := f, activity := a, closeAsked := q, running := b, counters := k } s s :=
    ⟨_, _, _, _, _, .refl s d⟩
  unfold State.fullTest
  dsimp only
  split
  · split
    · obtain ⟨a, q, asked⟩ := askedClose_fields { s.chan d with full := some .capacity } .fullOrUnmount
      obtain ⟨k, run, -⟩ := restarted_fields { s.chan d with full := some .capacity, activity := a, closeAsked := q }
      have after := setFull_rechan s d .capacity
      rw [asked, run] at after
      exact ⟨_, _, _, _, _, after⟩
    · exact still
  · exact still

/-- R69: the channel that enters WRITE. -/
theorem enterWrite_rechan (s : State) (d : Drive) : ∃ f a q b k m, Rechan d
    { (s.chan d).startWrite (s.params.checkMode[d] == 1) with
      full := f, activity := a, closeAsked := q, running := b, counters := k, state := .write, cleaningMark := m } s
      (s.enterWrite d) := by
  have started := (Rechan.modChan s d fun c => c.startWrite (s.params.checkMode[d] == 1)).then_enter .write
  obtain ⟨m, entered, -⟩ := entered_fields ((s.chan d).startWrite (s.params.checkMode[d] == 1)) .write
  rw [entered] at started
  obtain ⟨f, a, q, b, k, tested⟩ := fullTest_rechan
    ((s.modChan d fun c => c.startWrite (s.params.checkMode[d] == 1)).enter d .write) d
  rw [started.self] at tested
  exact ⟨f, a, q, b, k, m, started.trans tested⟩

/-- R119, R126: the sessions after the entry to READ. -/
def State.sessionsActive (s : State) (d : Drive) : State :=
  forEach allSessions (fun i t => t.modSession i fun x => x.activated d s.timebase) s

theorem sessionsActive_session (s : State) (d : Drive) (i : SessionId) :
    (s.sessionsActive d).session i = (s.session i).activated d s.timebase :=
  forEach_session (fun i t => t.modSession i fun x => x.activated d s.timebase) (fun _ x => x.activated d s.timebase)
    (fun x t => session_modSession_self t x _) (fun _ _ t ne => session_modSession_ne t _ ne) s i

theorem sessionsActive_chans (s : State) (d : Drive) : (s.sessionsActive d).chans = s.chans :=
  forEach_same (·.chans) (fun i t => t.modSession i fun x => x.activated d s.timebase) (fun _ _ => rfl) _ _

theorem enterRead_eq (s : State) (d : Drive) (options first : Word) : s.enterRead d options first =
    ((s.modReader d fun r => r.started options first).sessionsActive d).enter d .read := rfl

/-- R107: the channel that enters READ. -/
theorem enterRead_rechan (s : State) (d : Drive) (options first : Word) : ∃ m, Rechan d
    { s.chan d with reader := (s.chan d).reader.started options first, state := .read, cleaningMark := m } s
      (s.enterRead d options first) := by
  have started : Rechan d { s.chan d with reader := (s.chan d).reader.started options first } s
    (s.modReader d fun r => r.started options first) := .modChan s d _
  have active := started.then_chans
    (u := (s.modReader d fun r => r.started options first).sessionsActive d) (sessionsActive_chans _ d)
  obtain ⟨m, entered, -⟩ := entered_fields { s.chan d with reader := (s.chan d).reader.started options first } .read
  exact ⟨m, entered ▸ active.then_enter .read⟩

theorem enterRead_session (s : State) (d : Drive) (options first : Word) (i : SessionId) :
    (s.enterRead d options first).session i = (s.session i).activated d s.timebase := by
  rw [enterRead_eq, session_of_restore (State.enter_restore _ _ _), sessionsActive_session]
  rfl

theorem activated_of_waits {x : Session} {n : Nat} (hd : x.drive = some d) (hs : x.state = .waitRead ∨ x.state = .awaitNext)
    (hf : x.final = false) : (x.activated d n).state = .active ∧ (x.activated d n).stall = some n := by
  have waits : x.activated d n = { x with state := .active, stall := some n } := if_pos ⟨hd, hs, by rw [hf]; rfl⟩
  rw [waits]
  exact ⟨rfl, rfl⟩

/-- What is so of a channel that has entered a mode, and of the others. -/
def InMode (s : State) (d : Drive) (m options first : Word) (v : State) : Prop :=
  v.mem = s.mem ∧ v.params = s.params ∧ (∀ e, e ≠ d → v.chan e = s.chan e)
  ∧ (m = 0 → (v.chan d).state = .idle)
  ∧ (m = 1 → (v.chan d).state = .write ∧ (v.chan d).occupancy = 0 ∧ (v.chan d).changeoverAsked = false
      ∧ (v.chan d).checkPeriod = (s.params.checkMode[d] == 1))
  ∧ (m = 2 → (v.chan d).state = .read ∧ (v.chan d).reader.running = true
      ∧ (v.chan d).reader.verify = options.getLsbD 0
      ∧ (v.chan d).reader.expected = (if options.getLsbD 1 then none else some first)
      ∧ (v.chan d).reader.tallies = {} ∧ (v.chan d).reader.recovering = false
      ∧ ∀ i, (s.session i).drive = some d → (s.session i).state = .waitRead ∨ (s.session i).state = .awaitNext →
          (s.session i).final = false →
          (v.session i).state = .active ∧ (v.session i).stall = some s.timebase)

/-- R67, R68: a channel enters the mode that a word names; its mount and its mount timer stay. -/
theorem enterMode_effect (s : State) (d : Drive) {w : Word} (h : w.toNat ≤ 2) (options first : Word) :
    ∃ m, modeOf w = some m ∧ InMode s d w options first (s.enterMode d m options first)
      ∧ ((s.enterMode d m options first).chan d).mount = (s.chan d).mount
      ∧ ((s.enterMode d m options first).chan d).mountTimer = (s.chan d).mountTimer := by
  obtain rfl | rfl | rfl := word_cases h
  · have after := Rechan.enter s d .idle
    obtain ⟨k, eq, -⟩ := entered_fields (s.chan d) .idle
    rw [eq] at after
    have outside := s.enter_outside d .idle
    refine ⟨.idle, rfl, ⟨mem_of_outside outside, params_of_outside outside, fun e ne => after.other ne, fun _ => ?_,
      (nomatch ·), (nomatch ·)⟩, ?_, ?_⟩
    all_goals exact after.self ▸ rfl
  · obtain ⟨f, a, q, b, k, m, after⟩ := enterWrite_rechan s d
    have outside := s.enterWrite_outside d
    refine ⟨.write, rfl, ⟨mem_of_outside outside, params_of_outside outside, fun e ne => after.other ne, (nomatch ·),
      fun _ => ?_, (nomatch ·)⟩, ?_, ?_⟩
    · change ((s.enterWrite d).chan d).state = _ ∧ ((s.enterWrite d).chan d).occupancy = _
        ∧ ((s.enterWrite d).chan d).changeoverAsked = _ ∧ ((s.enterWrite d).chan d).checkPeriod = _
      rw [after.self]
      exact ⟨rfl, rfl, rfl, rfl⟩
    all_goals exact after.self ▸ rfl
  · obtain ⟨m, after⟩ := enterRead_rechan s d options first
    have outside := s.enterRead_outside d options first
    refine ⟨.read, rfl, ⟨mem_of_outside outside, params_of_outside outside, fun e ne => after.other ne, (nomatch ·),
      (nomatch ·), fun _ => ?_⟩, ?_, ?_⟩
    · have self : ((s.enterMode d .read options first).chan d) = _ := after.self
      rw [self]
      refine ⟨rfl, rfl, rfl, rfl, rfl, rfl, fun i hd hs hf => ?_⟩
      have active := activated_of_waits (n := s.timebase) hd hs hf
      rw [← enterRead_session s d options first] at active
      exact active
    all_goals exact after.self ▸ rfl

theorem mounted_ends (s : State) (tag : Half) (p0 p1 p2 p3 p4 p5 p6 p7 : Word) (d : Drive) :
    let c := s.chan d
    let mounted := Instr.mounted tag p0 p1 p2 p3 p4 p5 p6 p7
    (1 < p0.toNat ∨ 3 < p1.toNat ∨ 2 < p5.toNat → TurnedAway mounted 0x20 tag .badParam s)
    ∧ (p0.toNat = d.val → p1.toNat ≤ 3 → p5.toNat ≤ 2 →
        (c.state ≠ .mounting → c.state ≠ .idle → TurnedAway mounted 0x20 tag .refusedState s)
        ∧ (c.state = .mounting → c.cleaningMark = true → TurnedAway mounted 0x20 tag .refusedState s)
        ∧ ((c.state = .mounting ∧ c.cleaningMark = false) ∨ c.state = .idle → ∃ v, EndsSettled mounted 0x20 tag .done s v
          ∧ InMode s d p5 p6 p7 v ∧ (v.chan d).mountTimer = none
          ∧ ∃ m, (v.chan d).mount = some m ∧ m.size.val = p1.toNat ∧ m.nextSeq = p2 ∧ m.capacity = p3 ∧ m.session = p4)) := by
  intro c mounted
  have arm := exec_mounted tag p0 p1 p2 p3 p4 p5 p6 p7 s
  refine ⟨fun bad => turnedAway_of_settled arm ?_ rfl, fun hd size mode => ?_⟩
  · unfold mountedRule
    split
    · next d' m hd' hm =>
      refine dif_neg fun small => ?_
      obtain big | big | big := bad
      · rw [driveOf_none big] at hd'; cases hd'
      · omega
      · rw [modeOf_none big] at hm; cases hm
    · rfl
  have small : p1.toNat < 4 := by omega
  let mount : Mount := { size := ⟨p1.toNat, small⟩, nextSeq := p2, capacity := p3, session := p4 }
  let u := s.atOwner.setChan d { c with mount := some mount, mountTimer := none }
  obtain ⟨m, hm, inMode, mountIs, timer⟩ := enterMode_effect u d mode p6 p7
  have rule : mountedRule p0 p1 p2 p3 p4 p5 p6 p7 s.atOwner = if (c.state = .mounting ∧ !c.cleaningMark) ∨ c.state = .idle then
      (u.enterMode d m p6 p7).ok else s.atOwner.turnAway .refusedState := by
    simp only [mountedRule, driveOf_some hd, hm, small, dif_pos]
    rfl
  refine ⟨fun notMounting notIdle => turnedAway_of_settled arm (rule.trans (if_neg ?_)) rfl, fun mounting mark =>
    turnedAway_of_settled arm (rule.trans (if_neg ?_)) rfl, fun ready =>
    ⟨_, endsSettled_of_settled arm (rule.trans (if_pos ?_)) rfl, ?_, ?_, mount, ?_, rfl, rfl, rfl, rfl⟩⟩
  · exact fun h => h.elim (fun h => notMounting h.1) notIdle
  · intro h
    obtain ⟨-, unmarked⟩ | idle := h
    · rw [mark] at unmarked; cases unmarked
    · rw [mounting] at idle; cases idle
  · exact ready.imp_left fun h => ⟨h.1, by rw [h.2]; rfl⟩
  · obtain ⟨mem, params, others, modes⟩ := inMode
    refine ⟨mem, params, fun e ne => (others e ne).trans (State.chan_setChan_ne s.atOwner d e _ (Ne.symm ne)), modes⟩
  · rw [timer, State.chan_setChan_self]
  · rw [mountIs, State.chan_setChan_self]

theorem modeOf_zero : modeOf 0 = some .idle := rfl
theorem modeOf_one : modeOf 1 = some .write := rfl
theorem modeOf_two : modeOf 2 = some .read := rfl

/-- R69: the channel that leaves WRITE for IDLE. -/
theorem leaveWrite_rechan (s : State) (d : Drive) : ∃ m, Rechan d
    { (s.chan d).leaveWrite with state := .idle, cleaningMark := m } s ((s.modChan d Channel.leaveWrite).enter d .idle) := by
  obtain ⟨m, entered, -⟩ := entered_fields (s.chan d).leaveWrite .idle
  exact ⟨m, entered ▸ (Rechan.modChan s d Channel.leaveWrite).then_enter .idle⟩

/-- R116: the channel that ends its reading. -/
theorem endReading_chan (s : State) (d : Drive) : ∃ r m, (s.endReading d).chan d =
    { s.chan d with reader := r, state := .idle, cleaningMark := m } ∧ r.running = false := by
  obtain ⟨r, eq, off⟩ := stopReader_chan s d true
  have after := Rechan.enter (s.stopReader d true) d .idle
  obtain ⟨m, entered, -⟩ := entered_fields ((s.stopReader d true).chan d) .idle
  rw [entered, eq] at after
  exact ⟨r, m, after.self, off⟩

/-- Settles O41: MOUNTED and SET_MODE by channel state, and what the entry to each mode leaves. -/
theorem mountedAndSetModeEnterTheirMode : Obligations.MountedAndSetModeEnterTheirMode := by
  intro s tag p0 p1 p2 p3 p4 p5 p6 p7 d c mounted setMode entered
  obtain ⟨badMount, mounts⟩ := mounted_ends s tag p0 p1 p2 p3 p4 p5 p6 p7 d
  have arm := exec_setMode tag p0 p1 p2 p3 s
  refine ⟨badMount, fun bad => turnedAway_of_settled arm ?_ rfl, mounts, fun hd mode => ?_⟩
  · unfold setModeRule
    split
    · next d' m hd' hm =>
      obtain big | big := bad
      · rw [driveOf_none big] at hd'; cases hd'
      · rw [modeOf_none big] at hm; cases hm
    · rfl
  obtain ⟨m, hm, inMode, mountIs, -⟩ := enterMode_effect s.atOwner d mode p2 p3
  refine ⟨fun same => endsSettled_of_settled arm ?_ rfl, fun idle change bare => turnedAway_of_settled arm ?_ rfl,
    fun idle change mount => ⟨s.atOwner.enterMode d m p2 p3, endsSettled_of_settled arm ?_ rfl, inMode, mountIs⟩,
    fun write zero dirty => turnedAway_of_settled arm ?_ rfl, fun write zero drained => ?_, fun read zero => ?_,
    fun other => turnedAway_of_settled arm ?_ rfl⟩
  · obtain ⟨state, rfl⟩ | ⟨state, rfl⟩ | ⟨state, rfl⟩ := same
    · simp only [setModeRule, driveOf_some hd, modeOf_zero, atOwner_chan, show (s.chan d).state = _ from state]; rfl
    · simp only [setModeRule, driveOf_some hd, modeOf_one, atOwner_chan, show (s.chan d).state = _ from state]; rfl
    · simp only [setModeRule, driveOf_some hd, modeOf_two, atOwner_chan, show (s.chan d).state = _ from state]; rfl
  · have none : (s.chan d).mount.isSome = false := by rw [show (s.chan d).mount = none from bare]; rfl
    obtain rfl | rfl | rfl := word_cases mode
    · exact absurd rfl change
    · simp only [setModeRule, driveOf_some hd, modeOf_one, atOwner_chan, if_false, Bool.false_eq_true, show (s.chan d).state = _ from idle, none]
    · simp only [setModeRule, driveOf_some hd, modeOf_two, atOwner_chan, if_false, Bool.false_eq_true, show (s.chan d).state = _ from idle, none]
  · have some : (s.chan d).mount.isSome = true := mount
    obtain rfl | rfl | rfl := word_cases mode
    · exact absurd rfl change
    · cases hm
      simp only [setModeRule, driveOf_some hd, modeOf_one, atOwner_chan, if_true, show (s.chan d).state = _ from idle, some]; rfl
    · cases hm
      simp only [setModeRule, driveOf_some hd, modeOf_two, atOwner_chan, if_true, show (s.chan d).state = _ from idle, some]; rfl
  · subst zero
    simp only [setModeRule, driveOf_some hd, modeOf_zero, atOwner_chan, if_false, Bool.false_eq_true, show (s.chan d).state = _ from write, show (s.chan d).drained = _ from dirty]
  · subst zero
    have rule : setModeRule p0 0 p2 p3 s.atOwner = ((s.atOwner.modChan d Channel.leaveWrite).enter d .idle).ok := by
      simp only [setModeRule, driveOf_some hd, modeOf_zero, atOwner_chan, if_true, show (s.chan d).state = _ from write,
        show (s.chan d).drained = _ from drained]
    obtain ⟨k, after⟩ := leaveWrite_rechan s.atOwner d
    refine ⟨_, endsSettled_of_settled arm rule rfl, ?_, ?_, ?_, ?_, ?_, ?_, ?_⟩
    case refine_7 => exact mem_of_outside (State.enter_outside _ _ _)
    all_goals exact after.self ▸ rfl
  · subst zero
    have rule : setModeRule p0 0 p2 p3 s.atOwner = (s.atOwner.endReading d).ok := by
      simp only [setModeRule, driveOf_some hd, modeOf_zero, atOwner_chan, show (s.chan d).state = _ from read]
    obtain ⟨r, k, after, off⟩ := endReading_chan s.atOwner d
    refine ⟨_, endsSettled_of_settled arm rule rfl, ?_, ?_, ?_, mem_of_outside (State.endReading_outside _ d)⟩
    · rw [after]
    · rw [after]; exact off
    · rw [after]; rfl
  · obtain ⟨state, rfl⟩ | ⟨state, rfl⟩ | ⟨notIdle, notWrite, notRead⟩ := other
    · simp only [setModeRule, driveOf_some hd, modeOf_two, atOwner_chan, show (s.chan d).state = _ from state]
    · simp only [setModeRule, driveOf_some hd, modeOf_one, atOwner_chan, show (s.chan d).state = _ from state]
    · simp only [setModeRule, driveOf_some hd, hm, atOwner_chan]
      cases state : (s.chan d).state with
      | idle => exact absurd state notIdle
      | write => exact absurd state notWrite
      | read => exact absurd state notRead
      | _ => cases m <;> rfl

end Sys2Proof.Machine
end

section
/-! The reset (R88) and the failure (R86) of a channel, and the end of a preempt (R165). -/

namespace Sys2Proof.Machine

variable {s t u : State} {d e : Drive} {i : SessionId} {k : Tag} {c : Channel}

/-! ## The end of a preempt (R165) -/

/-- R165: a preempt's record and the sessions' links are gone. -/
def State.preemptUnlinked (s : State) : State :=
  forEach allSessions (fun i t => t.modSession i fun x => { x with link := none }) (s.setPreemptRec none)

theorem endPreempt_eq (s : State) : s.endPreempt = forEach allTags (fun k u => u.setPreempt false k) s.preemptUnlinked := rfl

theorem preemptUnlinked_session (s : State) (i : SessionId) : s.preemptUnlinked.session i = { s.session i with link := none } :=
  forEach_session (fun i t => t.modSession i fun x => { x with link := none }) (fun _ x => { x with link := none })
    (fun x t => session_modSession_self t x _) (fun _ _ t ne => session_modSession_ne t _ ne) (s.setPreemptRec none) i

/-- What a change of the sessions' links keeps, and of the record, the unlinking keeps. -/
theorem preemptUnlinked_same {β : Type} (g : State → β) (session : ∀ t i f, g (t.modSession i f) = g t) (s : State) :
    g s.preemptUnlinked = g (s.setPreemptRec none) :=
  forEach_same g _ (fun i t => session t i _) _ _

/-- What PREEMPT leaving the streams keeps, the end of a preempt keeps besides the unlinking. -/
theorem endPreempt_same {β : Type} (g : State → β) (h : ∀ t k, g (t.setPreempt false k) = g t) (s : State) :
    g s.endPreempt = g s.preemptUnlinked := forEach_same g _ (fun k t => h t k) _ _

theorem endPreempt_chans (s : State) : s.endPreempt.chans = s.chans :=
  (endPreempt_same (·.chans) (fun t k => t.setPreempt_chans false k) s).trans
    (preemptUnlinked_same (·.chans) (fun _ _ _ => rfl) s)

theorem endPreempt_loader (s : State) : s.endPreempt.loader = { s.loader with preempt := none } :=
  (endPreempt_same (·.loader) (fun t k => t.setPreempt_loader false k) s).trans
    (preemptUnlinked_same (·.loader) (fun _ _ _ => rfl) s)

theorem endPreempt_pool (s : State) : s.endPreempt.pool = s.pool :=
  (endPreempt_same (·.pool) (fun t k => t.setPreempt_pool false k) s).trans
    (preemptUnlinked_same (·.pool) (fun _ _ _ => rfl) s)

theorem endPreempt_session (s : State) (i : SessionId) : s.endPreempt.session i = { s.session i with link := none } :=
  (endPreempt_same (·.session i) (fun t k => session_of_restore (t.setPreempt_restore false k) i) s).trans
    (preemptUnlinked_session s i)

theorem setPreempt_closed (on : Bool) (j : Tag) (h : (s.stream j).state = .closed) : s.setPreempt on j = s :=
  if_pos (.inl h)

theorem causesChanged_stream_ne {j : Tag} (h : k ≠ j) : (s.causesChanged j).stream k = s.stream k := by
  unfold State.causesChanged
  dsimp only
  repeat' split
  · rw [suspendTest_stream_ne h, State.stream_setStream_ne _ _ _ _ h.symm]
  · rfl
  · rfl
  · exact State.stream_setStream_ne _ _ _ _ h.symm
  · rfl
  · exact State.stream_setStream_ne _ _ _ _ h.symm
  · rfl

theorem setPreempt_stream_ne {j : Tag} (on : Bool) (h : k ≠ j) : (s.setPreempt on j).stream k = s.stream k := by
  unfold State.setPreempt
  split
  · rfl
  · rw [causesChanged_stream_ne h, State.modStream, State.stream_setStream_ne _ _ _ _ h.symm]

/-- What each step of a loop keeps, the loop keeps. -/
theorem forEach_keeps {α : Type} {P : State → Prop} {f : α → State → State} (hf : ∀ x t, P t → P (f x t)) :
    ∀ (l : List α) (s : State), P s → P (forEach l f s)
  | [], _, h => h
  | x :: l, s, h => forEach_keeps hf l (f x s) (hf x s h)

/-- A CLOSED stream stays so as PREEMPT leaves the streams. -/
theorem endPreempt_closed (h : (s.stream k).state = .closed) : (s.endPreempt.stream k).state = .closed := by
  have unlinked : s.preemptUnlinked.streams = s.streams := preemptUnlinked_same (·.streams) (fun _ _ _ => rfl) s
  rw [endPreempt_eq]
  refine forEach_keeps (P := fun t => (t.stream k).state = .closed) (fun j t closed => ?_) allTags _
    ((congrArg Stream.state (stream_of_streams unlinked k)).trans h)
  by_cases same : k = j
  · subst same
    rw [setPreempt_closed false k closed]
    exact closed
  · rw [setPreempt_stream_ne false same]
    exact closed

/-! ## The reset of a channel (R88) -/

theorem exec_resetChannel (tag : Half) (p0 : Word) (s : State) :
    exec (.resetChannel tag p0) s = .next (s.command (.resetChannel tag p0) 0x28 tag (settled (resetChannelRule p0))) := rfl

/-- R88, R158: the cartridge in the bay of a channel that holds images or a held chunk becomes SUSPECT. -/
def State.suspected (s : State) (d : Drive) (dirty : Bool) : State :=
  if dirty then s.modBayCart d fun k => { k with suspect := true } else s

/-- R88: the write side is cleared, and the streams that target the channel are CLOSED. -/
def State.resetWrites (s : State) (d : Drive) : State :=
  ((((s.dropAssembler d).modChan d Channel.cleared).suspected d
    (!(s.chan d).images.isEmpty || (s.chan d).held.isSome)).abortTargeting d .reset)

/-- R88: the reader has stopped, and the sessions attached to the channel have failed. -/
def State.resetReads (s : State) (d : Drive) : State :=
  ((s.resetWrites d).stopReader d false).failAttached d .reset

theorem resetChannel_eq (s : State) (d : Drive) : s.resetChannel d = (s.resetReads d).resetState d := rfl

theorem suspected_chans (s : State) (d : Drive) (dirty : Bool) : (s.suspected d dirty).chans = s.chans := by
  cases dirty <;> rfl

theorem suspected_streams (s : State) (d : Drive) (dirty : Bool) : (s.suspected d dirty).streams = s.streams := by
  cases dirty <;> rfl

theorem suspected_restore (s : State) (d : Drive) (dirty : Bool) : (s.suspected d dirty).restore = s.restore := by
  cases dirty <;> rfl

theorem modBayCart_bayCart (s : State) (d : Drive) (f : Cart → Cart) : (s.modBayCart d f).bayCart d = (s.bayCart d).map f := by
  unfold State.bayCart State.modBayCart
  rw [State.loc_modLoc_self]

theorem suspected_bayCart (s : State) (d : Drive) (dirty : Bool) : (s.suspected d dirty).bayCart d =
    if dirty then (s.bayCart d).map fun k => { k with suspect := true } else s.bayCart d := by
  cases dirty with
  | false => rfl
  | true => exact modBayCart_bayCart s d _

/-- R88: the record of a channel whose write side is cleared. -/
theorem resetWrites_chan (s : State) (d : Drive) : (s.resetWrites d).chan d = (s.chan d).dropped.cleared := by
  have dropped := (Rechan.dropAssembler s d).trans (.modChan (s.dropAssembler d) d Channel.cleared)
  rw [(Rechan.dropAssembler s d).self] at dropped
  have marked := dropped.then_chans (suspected_chans ((s.dropAssembler d).modChan d Channel.cleared) d
    (!(s.chan d).images.isEmpty || (s.chan d).held.isSome))
  exact ((Unqueued.abortTargeting _ d .reset).chan (by rw [marked.self]; rfl)).trans marked.self

theorem resetReads_chan (s : State) (d : Drive) : ∃ r, (s.resetReads d).chan d = { (s.chan d).dropped.cleared with reader := r }
    ∧ r.running = false := by
  obtain ⟨r, eq, off⟩ := stopReader_chan (s.resetWrites d) d false
  obtain ⟨rx, eq', -⟩ := Rereceived.failAttached ((s.resetWrites d).stopReader d false) d .reset d
  rw [eq, resetWrites_chan] at eq'
  exact ⟨_, eq', off⟩

theorem resetReads_bayCart (s : State) (d : Drive) : (s.resetReads d).bayCart d =
    if !(s.chan d).images.isEmpty || (s.chan d).held.isSome then (s.bayCart d).map fun k => { k with suspect := true }
    else s.bayCart d := by
  have read : (s.resetReads d).loader = (s.resetWrites d).loader :=
    (State.failAttached_loader _ _ _).trans (stopReader_cut_loader _ d)
  have dropped : ((s.dropAssembler d).modChan d Channel.cleared).loader = s.loader := dropAssembler_loader s d
  rw [bayCart_of_loader read, State.resetWrites, bayCart_of_loader (abortTargeting_loader _ _ _), suspected_bayCart,
    bayCart_of_loader dropped]

theorem resetReads_closed (h : (s.stream k).targets.has d = true) : ((s.resetReads d).stream k).state = .closed := by
  have streams : (s.resetReads d).streams = (s.resetWrites d).streams :=
    (State.failAttached_streams _ _ _).trans (stopReader_streams _ d false)
  rw [stream_of_streams streams]
  refine abortTargeting_closed .reset ?_
  rw [stream_of_streams (suspected_streams _ _ _)]
  exact (congrArg (Targets.has · d) (dropAssembler_targets s d k)).trans h

theorem resetReads_free (h : (s.session i).drive = some d) : ((s.resetReads d).session i).state = .free := by
  refine failAttached_free _ .reset ?_
  rw [stopReader_cut_session, State.resetWrites, session_of_restore (abortTargeting_restore _ _ _),
    session_of_restore (suspected_restore _ _ _)]
  exact (congrArg Session.drive (session_of_restore (dropAssembler_restore s d) i)).trans h

/-- R88: the channel after its reset. -/
theorem resetState_chan (s : State) (d : Drive) : ∃ m, (s.resetState d).chan d =
    if (s.bayCart d).isSome then { s.chan d with state := .idle, cleaningMark := m }
    else { s.chan d with mount := none, ejectTimer := none, state := .unmounted, cleaningMark := m } := by
  unfold State.resetState
  by_cases cart : (s.bayCart d).isSome = true
  · obtain ⟨m, entered, -⟩ := entered_fields (s.chan d) .idle
    refine ⟨m, ?_⟩
    rw [if_pos cart, if_pos cart, (Rechan.enter s d .idle).self, entered]
  · obtain ⟨m, entered, -⟩ := entered_fields { s.chan d with mount := none, ejectTimer := none } .unmounted
    refine ⟨m, ?_⟩
    rw [if_neg cart, if_neg cart, ((Rechan.refl s d).then_enterUnmounted).self, Channel.emptied, entered]

theorem resetState_blocks (s : State) (d : Drive) : (s.resetState d).loader = s.loader ∧ (s.resetState d).streams = s.streams
    ∧ (s.resetState d).restore = s.restore := by
  unfold State.resetState State.enterUnmounted
  split <;> simp

theorem resetVictim_effect (s : State) (d : Drive) : (s.resetVictim d).chans = s.chans
    ∧ (s.resetVictim d).bayCart d = s.bayCart d
    ∧ (∀ k, (s.stream k).state = .closed → ((s.resetVictim d).stream k).state = .closed)
    ∧ ∀ i, ((s.resetVictim d).session i).state = (s.session i).state := by
  unfold State.resetVictim
  split
  · refine ⟨endPreempt_chans s, ?_, fun k => endPreempt_closed, fun i => by rw [endPreempt_session]⟩
    rw [State.bayCart, State.loc, endPreempt_loader]
    rfl
  · exact ⟨rfl, rfl, fun _ => id, fun _ => rfl⟩

/-- Settles O44: the write side cleared, the streams closed, the reader stopped and the sessions ended, in this order. -/
theorem resetChannelCleansAnyState : Obligations.ResetChannelCleansAnyState := by
  intro s tag p0 d
  have arm := exec_resetChannel tag p0 s
  refine ⟨fun bad => turnedAway_of_settled arm (by rw [resetChannelRule, driveOf_none bad]) rfl, fun hd => ?_⟩
  obtain ⟨r, reads, off⟩ := resetReads_chan s.atOwner d
  have cart := resetReads_bayCart s.atOwner d
  have closed := fun k (h : (s.stream k).targets.has d = true) => resetReads_closed (s := s.atOwner) h
  have free := fun i (h : (s.session i).drive = some d) => resetReads_free (s := s.atOwner) h
  obtain ⟨m, chan⟩ := resetState_chan (s.atOwner.resetReads d) d
  obtain ⟨loader, streams, restore⟩ := resetState_blocks (s.atOwner.resetReads d) d
  rw [← resetChannel_eq] at chan loader streams restore
  obtain ⟨chans', cart', closed', free'⟩ := resetVictim_effect (s.atOwner.resetChannel d) d
  have outside : ((s.atOwner.resetChannel d).resetVictim d).outside = s.outside :=
    (State.resetVictim_outside _ d).trans (State.resetChannel_outside _ d)
  have rule : resetChannelRule p0 s.atOwner = ((s.atOwner.resetChannel d).resetVictim d).ok := by
    rw [resetChannelRule, driveOf_some hd]
  have kept : (s.atOwner.resetReads d).bayCart d = none ↔ s.bayCart d = none := by
    rw [cart]
    split
    · rw [Option.map_eq_none_iff]; rfl
    · rfl
  rw [reads] at chan
  refine ⟨_, endsSettled_of_settled arm rule rfl, mem_of_outside outside, params_of_outside outside, ?_, fun k h => closed' k ?_,
    fun i h => (free' i).trans ?_, fun dirty k hk => ?_⟩
  · dsimp only
    rw [chan_of_chans chans']
    by_cases loaded : ((s.atOwner.resetReads d).bayCart d).isSome = true
    · rw [if_pos loaded] at chan
      rw [chan]
      have some : s.bayCart d ≠ none := fun none => by rw [kept.2 none] at loaded; cases loaded
      exact ⟨rfl, rfl, rfl, rfl, rfl, rfl, rfl, rfl, rfl, rfl, rfl, rfl, rfl, rfl, rfl, rfl, rfl, rfl, off,
        fun _ => ⟨rfl, rfl⟩, fun none => absurd none some⟩
    · rw [if_neg loaded] at chan
      rw [chan]
      have none : s.bayCart d = none := kept.1 (by simpa using loaded)
      exact ⟨rfl, rfl, rfl, rfl, rfl, rfl, rfl, rfl, rfl, rfl, rfl, rfl, rfl, rfl, rfl, rfl, rfl, rfl, off,
        fun some => (by rw [none] at some; cases some), fun _ => ⟨rfl, rfl⟩⟩
  · rw [stream_of_streams streams]
    exact closed k h
  · rw [session_of_restore restore]
    exact free i h
  · have marked : (!(s.atOwner.chan d).images.isEmpty || (s.atOwner.chan d).held.isSome) = true := by
      rw [atOwner_chan]
      obtain images | held := dirty
      · simp [images]
      · simp [held]
    rw [cart', bayCart_of_loader loader, cart, if_pos marked] at hk
    obtain ⟨x, -, rfl⟩ := Option.map_eq_some_iff.1 hk
    rfl

/-! ## The failure of a channel (R86, R87) -/

/-- The counters of the path unit and the pool's memory faults are as before. -/
def Accounted (s t : State) : Prop := t.path.counters = s.path.counters ∧ t.pool.memFaults = s.pool.memFaults

theorem Accounted.of_blocks (path : t.path = s.path) (pool : t.pool = s.pool) : Accounted s t :=
  ⟨by rw [path], by rw [pool]⟩

theorem Accounted.trans (h : Accounted s t) (k : Accounted t u) : Accounted s u := ⟨k.1.trans h.1, k.2.trans h.2⟩

theorem SameAccounts.accounted (h : SameAccounts s t) : Accounted s t := ⟨h.counters, h.memFaults⟩

theorem Accounted.loop {α : Type} {f : α → State → State} (hf : ∀ x t, Accounted t (f x t)) :
    ∀ (l : List α) (s : State), Accounted s (forEach l f s)
  | [], _ => .of_blocks rfl rfl
  | x :: l, s => (hf x s).trans (Accounted.loop hf l (f x s))

theorem Accounted.dropAssembler (s : State) (d : Drive) : Accounted s (s.dropAssembler d) := by
  rw [dropAssembler_eq]
  exact (Accounted.of_blocks (State.setChan_path s d _) (State.setChan_pool s d _)).trans
    ((SameAccounts.giveUpAll _ _).accounted.trans (.loop (fun k t => (SameAccounts.suspendTest t k).accounted) _ _))

theorem Accounted.packChoose (s : State) : Accounted s s.packChoose := by
  obtain ⟨path, -, faults, -⟩ := packChoose_accounts s
  exact ⟨by rw [path], faults⟩

theorem Accounted.abortTargeting (s : State) (d : Drive) (cause : Cause) : Accounted s (s.abortTargeting d cause) :=
  (Accounted.loop (fun k t => by split; exacts [(SameAccounts.abortCore t k cause _).accounted, .of_blocks rfl rfl]) allTags s).trans
    (.packChoose _)

theorem Accounted.freeWhere (s : State) (sel : ChunkRec → Bool) : Accounted s (s.freeWhere sel) :=
  (Accounted.of_blocks (State.purge_path s _) (State.purge_pool s _)).trans
    (.loop (fun id t => (SameAccounts.freeRec t id).accounted) _ _)

theorem Accounted.discardBlock (s : State) (d : Drive) : Accounted s (s.discardBlock d) := by
  refine (Accounted.loop (fun id t => ?_) (s.chan d).reader.rx.touched s).trans
    (.of_blocks (State.modChan_path _ d _) (State.modChan_pool _ d _))
  unfold State.discardRec
  split
  · exact .of_blocks rfl rfl
  · split
    · exact (SameAccounts.freeRec t id).accounted
    · have recs (f : ChunkRec → ChunkRec) : Accounted t (t.modRec id f) := ⟨rfl, rfl⟩
      exact (recs _).trans (SameAccounts.returnPages _ _).accounted

theorem Accounted.endSession (s : State) (i : SessionId) (e : SessionEnd) : Accounted s (s.endSession i e) := by
  by_cases h : (s.session i).state = .free
  · rw [endSession_free e h]; exact .of_blocks rfl rfl
  · rw [endSession_eq e h]
    have told : Accounted s (s.endTold i e) := (SameAccounts.emit s _).accounted.trans ((Accounted.freeWhere _ _).trans
      ((Accounted.of_blocks (State.discardDecode_path _ _) (State.discardDecode_pool _ _)).trans
        (.of_blocks (State.dropOwner_path _ _) (State.dropOwner_pool _ _))))
    exact told.trans (.of_blocks (by simp) (by simp))

theorem Accounted.failAttached (s : State) (d : Drive) (c : Cause) : Accounted s (s.failAttached d c) :=
  .loop (fun i t => by split; exacts [.endSession t i _, .of_blocks rfl rfl]) _ s

theorem Accounted.endPass (s : State) (d : Drive) : Accounted s (s.endPass d false) := by
  have unclean (r : Reader) : r.clean false = false := rfl
  have told : s.endPass d false = s.emit (summaryRecord d (s.chan d).reader false) := by
    unfold State.endPass
    dsimp only
    rw [unclean, if_neg Bool.false_ne_true]
  rw [told]
  exact (SameAccounts.emit s _).accounted

/-- A stop that is cut counts nothing at the port or in the pool. -/
theorem Accounted.stopReader (s : State) (d : Drive) : Accounted s (s.stopReader d false) := by
  cases run : (s.chan d).reader.running with
  | false => rw [stopReader_idle false run]; exact .of_blocks rfl rfl
  | true =>
    have counters (t : State) : (t.readerEmptied d).path.counters = t.path.counters :=
      readerEmptied_same (fun t : State => t.path.counters) (fun t => (Accounted.discardBlock t d).1) (fun _ _ => rfl)
        (fun t sel => (Accounted.freeWhere t sel).1) (fun _ _ => rfl) t
    have faults (t : State) : (t.readerEmptied d).pool.memFaults = t.pool.memFaults :=
      readerEmptied_same (fun t : State => t.pool.memFaults) (fun t => (Accounted.discardBlock t d).2) (fun _ _ => rfl)
        (fun t sel => (Accounted.freeWhere t sel).2) (fun _ _ => rfl) t
    have halted : Accounted s (s.readerHalted d false) :=
      ⟨readerHalted_same (fun t : State => t.path.counters) false counters (fun t => (Accounted.endPass t d).1) s,
        readerHalted_same (fun t : State => t.pool.memFaults) false faults (fun t => (Accounted.endPass t d).2) s⟩
    rw [stopReader_eq false run, if_neg Bool.false_ne_true]
    exact halted.trans (.of_blocks (State.modChan_path _ d _) (State.modChan_pool _ d _))

/-- R87: the first-fault record of a channel that fails. -/
def State.firstFaultOf (s : State) (d : Drive) (cause : Cause) (named : Option Image) : FirstFault :=
  (s.chan d).firstFault.getD ((s.chan d).faultRecord cause s.timebase named)

/-- R86: the channel has failed, and the streams that target it are CLOSED. -/
def State.failedWrites (s : State) (d : Drive) (cause : Cause) (named : Option Image) : State :=
  (((s.dropAssembler d).modChan d fun x => x.failing (s.firstFaultOf d cause named)).emit
    (failedRecord d cause (s.chan d).state (s.firstFaultOf d cause named))).abortTargeting d .drive

theorem failChannel_eq (cause : Cause) (named : Option Image) (h : (s.chan d).state ≠ .failed) : s.failChannel d cause named =
    ((s.failedWrites d cause named).stopReader d false).failAttached d .drive := (if_neg h).trans rfl

theorem failedWrites_chan (s : State) (d : Drive) (cause : Cause) (named : Option Image) :
    (s.failedWrites d cause named).chan d = (s.chan d).dropped.failing (s.firstFaultOf d cause named) := by
  have failed := ((Rechan.dropAssembler s d).trans (.modChan (s.dropAssembler d) d fun x =>
    x.failing (s.firstFaultOf d cause named))).emit (failedRecord d cause (s.chan d).state (s.firstFaultOf d cause named))
  rw [(Rechan.dropAssembler s d).self] at failed
  exact ((Unqueued.abortTargeting _ d .drive).chan (by rw [failed.self]; rfl)).trans failed.self

/-- What is so of a channel that has failed for a cause, and of what hangs on it. -/
def HasFailed (s : State) (d : Drive) (v : State) (cause : Cause) : Prop :=
  (v.chan d).state = .failed ∧ (v.chan d).images = (s.chan d).images ∧ (v.chan d).verifyList = (s.chan d).verifyList
  ∧ (v.chan d).placeQueue = [] ∧ (v.chan d).held = none ∧ (v.chan d).activity = .idle ∧ (v.chan d).cursor = none
  ∧ (v.chan d).running = false ∧ (v.chan d).occupancy = 0 ∧ (v.chan d).full = none
  ∧ (v.chan d).changeoverAsked = false ∧ (v.chan d).drainTimer = none ∧ (v.chan d).mountTimer = none
  ∧ (v.chan d).ejectTimer = none ∧ (v.chan d).readbackTimer = false ∧ (v.chan d).reader.running = false
  ∧ (∀ x, (s.stream x).targets.has d = true → (v.stream x).state = .closed)
  ∧ (∀ i, (s.session i).drive = some d → (v.session i).state = .free) ∧ v.mem = s.mem
  ∧ ∃ f, (v.chan d).firstFault = some f
      ∧ ((s.chan d).firstFault = none → f.cause = cause ∧ f.time = v.timebase)
      ∧ (∀ g, (s.chan d).firstFault = some g → f = g)

/-- R86: the failure of a channel that has not failed. -/
theorem failChannel_effect (cause : Cause) (named : Option Image) (h : (s.chan d).state ≠ .failed) :
    HasFailed s d (s.failChannel d cause named) cause ∧ Accounted s (s.failChannel d cause named) := by
  have outside := s.failChannel_outside d cause named
  have mem := mem_of_outside outside
  have timebase := timebase_of_outside outside
  rw [failChannel_eq cause named h] at mem timebase ⊢
  obtain ⟨r, eq, off⟩ := stopReader_chan (s.failedWrites d cause named) d false
  obtain ⟨rx, chan, -⟩ := Rereceived.failAttached ((s.failedWrites d cause named).stopReader d false) d .drive d
  rw [eq, failedWrites_chan] at chan
  have closed (k : Tag) (hk : (s.stream k).targets.has d = true) :
      ((((s.failedWrites d cause named).stopReader d false).failAttached d .drive).stream k).state = .closed := by
    rw [stream_of_streams ((State.failAttached_streams _ _ _).trans (stopReader_streams _ d false))]
    refine abortTargeting_closed .drive ?_
    rw [stream_of_streams (State.emit_streams _ _)]
    exact (congrArg (Targets.has · d) (dropAssembler_targets s d k)).trans hk
  have free (i : SessionId) (hi : (s.session i).drive = some d) :
      ((((s.failedWrites d cause named).stopReader d false).failAttached d .drive).session i).state = .free := by
    refine failAttached_free _ .drive ?_
    rw [stopReader_cut_session, State.failedWrites, session_of_restore (abortTargeting_restore _ _ _),
      session_of_restore (State.emit_restore _ _)]
    exact (congrArg Session.drive (session_of_restore (dropAssembler_restore s d) i)).trans hi
  have writes : Accounted s (s.failedWrites d cause named) := (Accounted.dropAssembler s d).trans
    ((Accounted.of_blocks (State.modChan_path _ d _) (State.modChan_pool _ d _)).trans
      ((SameAccounts.emit _ _).accounted.trans (.abortTargeting _ d .drive)))
  refine ⟨?_, writes.trans ((Accounted.stopReader _ d).trans (.failAttached _ d .drive))⟩
  generalize ((s.failedWrites d cause named).stopReader d false).failAttached d .drive = v at *
  rw [HasFailed, chan]
  refine ⟨rfl, rfl, rfl, rfl, rfl, rfl, rfl, rfl, rfl, rfl, rfl, rfl, rfl, rfl, rfl, off, closed, free, mem,
    s.firstFaultOf d cause named, rfl, fun none => ?_, fun g hg => by rw [State.firstFaultOf, hg]; rfl⟩
  rw [State.firstFaultOf, none, Option.getD_none, timebase]
  cases named <;> exact ⟨rfl, rfl⟩

/-- R41, R177: a FAULT answer to an assembler's access has been counted. -/
def State.asmFaulted (s : State) (d : Drive) (acc : AsmAccess) : State := (s.passJob (.assembler d)).asmFault acc

theorem asmFaulted_blocks (s : State) (d : Drive) (acc : AsmAccess) : (s.asmFaulted d acc).chans = s.chans
    ∧ (s.asmFaulted d acc).streams = s.streams ∧ (s.asmFaulted d acc).mem = s.mem ∧ (s.asmFaulted d acc).restore = s.restore
    ∧ (s.asmFaulted d acc).ring = s.ring ∧ (s.asmFaulted d acc).loader = s.loader := by
  cases acc <;> exact ⟨rfl, rfl, rfl, rfl, rfl, rfl⟩

theorem asmFaulted_counts (s : State) (d : Drive) (acc : AsmAccess) :
    (s.asmFaulted d acc).path.counters.ownFaults = s.path.counters.ownFaults.add 1
    ∧ (s.asmFaulted d acc).pool.memFaults = s.pool.memFaults.add (match acc with | .chunkRead => 1 | .imageWrite => 0) := by
  cases acc with
  | chunkRead => exact ⟨rfl, rfl⟩
  | imageWrite => exact ⟨rfl, (counter_add_zero _).symm⟩

theorem exec_assemblerMemoryFault (acc : AsmAccess) (h : s.hasJob (.assembler d) = true) : exec (.assemblerMemoryFault d acc) s =
    match (s.chan d).abandoned, (s.chan d).activity with
    | a :: _, _ => .next (if makesAccess a.isSome acc then s.asmFaulted d acc else s)
    | [], .idle => .next s
    | [], .placing _ => .next (s.settle ((s.asmFaulted d acc).failChannel d .memory (s.chan d).assembling))
    | [], .closing _ => .next (if makesAccess false acc then
        s.settle ((s.asmFaulted d acc).failChannel d .memory (s.chan d).assembling) else s) := by
  change execAssemblerMemoryFault d acc s = _
  unfold execAssemblerMemoryFault
  simp only [h, Bool.not_true, Bool.false_eq_true, if_false]
  rfl

theorem exec_mountTimeout {n : Nat} (h : (s.chan d).mountTimer = some n) :
    exec (.mountTimeout d) s = .next (s.settle ((s.elapseTo n).failChannel d .mountTimeout none)) := by
  change execMountTimeout d s = _
  rw [execMountTimeout, h]

theorem exec_ejectTimeout {n : Nat} (h : (s.chan d).ejectTimer = some n) :
    exec (.ejectTimeout d) s = .next (s.settle ((s.elapseTo n).failChannel d .ejectTimeout none)) := by
  change execEjectTimeout d s = _
  rw [execEjectTimeout, h]

/-- What a failure makes of a state is what it makes of another one with the same channels, sessions, targets and memory. -/
theorem HasFailed.of_blocks {cause : Cause} (h : HasFailed t d u cause) (chan : t.chan d = s.chan d)
    (targets : ∀ k, (t.stream k).targets = (s.stream k).targets) (session : ∀ i, t.session i = s.session i) (mem : t.mem = s.mem) :
    HasFailed s d u cause := by
  unfold HasFailed at h ⊢
  simpa only [chan, targets, session, mem] using h

theorem elapseTo_targets (s : State) (n : Nat) (k : Tag) : ((s.elapseTo n).stream k).targets = (s.stream k).targets := by
  obtain ⟨ms, us, eq⟩ := elapse_stream s (n - s.timebase) k
  rw [State.elapseTo, eq]

/-- R86: an expiry fails the channel at its deadline. -/
theorem timeout_fails (cause : Cause) (n : Nat) (h : (s.chan d).state ≠ .failed) :
    HasFailed s d ((s.elapseTo n).failChannel d cause none) cause
    ∧ ((s.elapseTo n).failChannel d cause none).timebase = max s.timebase n := by
  obtain ⟨failed, -⟩ := failChannel_effect (s := s.elapseTo n) cause none h
  exact ⟨failed.of_blocks rfl (elapseTo_targets s n) (fun _ => rfl) rfl,
    (timebase_of_outside (State.failChannel_outside _ _ _ _)).trans (elapseTo_timebase s n)⟩

/-- Settles O46: an abandoned activity's fault counts alone; a placement's, a close's and a timeout fail the channel. -/
theorem failuresStopAChannel : Obligations.FailuresStopAChannel := by
  intro s d acc n c failed faults
  obtain ⟨chans, streams, mem, restore, ring, loader⟩ := asmFaulted_blocks s d acc
  have counts := asmFaulted_counts s d acc
  have busy : c.state ≠ .failed → HasFailed s d ((s.asmFaulted d acc).failChannel d .memory c.assembling) .memory
      ∧ faults ((s.asmFaulted d acc).failChannel d .memory c.assembling) := fun h => by
    obtain ⟨fails, port, pool⟩ := failChannel_effect (s := s.asmFaulted d acc) .memory c.assembling
      (by rw [chan_of_chans chans]; exact h)
    refine ⟨fails.of_blocks (chan_of_chans chans d) (fun k => by rw [stream_of_streams streams])
      (fun i => session_of_restore restore i) mem, ?_, pool.trans counts.2⟩
    rw [port]
    exact counts.1
  refine ⟨fun a rest job abandoned access => ⟨s.asmFaulted d acc, ?_, counts, chans, streams, mem, restore, ring, loader⟩,
    fun h => ⟨fun job empty activity => ⟨_, ?_, busy h⟩, fun timer => ⟨_, exec_mountTimeout timer, timeout_fails _ n h⟩,
      fun timer => ⟨_, exec_ejectTimeout timer, timeout_fails _ n h⟩⟩⟩
  · have makes : makesAccess a.isSome acc = true := by
      obtain placing | write := access
      · cases acc with
        | chunkRead => exact placing
        | imageWrite => rfl
      · rw [write]; rfl
    rw [exec_assemblerMemoryFault acc job, show (s.chan d).abandoned = a :: rest from abandoned]
    exact congrArg _ (if_pos makes)
  · rw [exec_assemblerMemoryFault acc job, show (s.chan d).abandoned = [] from empty]
    obtain ⟨p, placing⟩ | ⟨⟨r, closing⟩, write⟩ := activity
    · rw [show (s.chan d).activity = _ from placing]
    · rw [show (s.chan d).activity = _ from closing, write]
      rfl

end Sys2Proof.Machine
end

section
/-! The assembler (4.4): the start and the end of a placement, and the end of a close. -/

namespace Sys2Proof.Machine

variable {s t u : State} {d e : Drive} {i : Image} {c : Channel} {r : ChunkRec}

/-! ## A job at the memory port -/

theorem issue_keeps {p : Port} {o : Owned} (h : p.issued = some (.owned o) ∨ o ∈ p.ownWait) :
    p.issue.issued = some (.owned o) ∨ o ∈ p.issue.ownWait := by
  obtain ⟨fs, os, i, fav⟩ := p
  cases i with
  | some i => exact h
  | none =>
    have waits : o ∈ os := h.resolve_left (nomatch ·)
    cases os with
    | nil => cases waits
    | cons x os =>
      have split_ : o = x ∨ o ∈ os := List.mem_cons.1 waits
      cases fs with
      | nil => exact split_.imp (fun e => by rw [e]; rfl) id
      | cons f fs => cases fav with
        | forwarded => exact .inr waits
        | owned => exact split_.imp (fun e => by rw [e]; rfl) id

theorem joinOwned_keeps {p : Port} {o x : Owned} (h : p.issued = some (.owned o) ∨ o ∈ p.ownWait) :
    (p.joinOwned x).issued = some (.owned o) ∨ o ∈ (p.joinOwned x).ownWait :=
  issue_keeps (p := { p with ownWait := p.ownWait ++ [x] }) (h.imp_right (List.mem_append_left _))

theorem jobAtPort_of_port {j : Engine} (h : s.jobAtPort j) (port : t.path.port = s.path.port) : t.jobAtPort j := by
  unfold State.jobAtPort
  rw [port]
  exact h

/-- A record that joins the buffer leaves a job at the memory port. -/
theorem jobAtPort_emit {j : Engine} (h : s.jobAtPort j) (x : Record) : (s.emit x).jobAtPort j := by
  cases room : s.ring.room with
  | false =>
    rw [s.emit_of_full x room]
    exact h
  | true =>
    rw [s.emit_of_room x room, joinBuffer_eq]
    unfold State.jobAtPort
    dsimp only
    split
    · exact joinOwned_keeps h
    · exact h

theorem jobAtPort_suspendTest {j : Engine} (h : s.jobAtPort j) (k : Tag) : (s.suspendTest k).jobAtPort j := by
  obtain same | ⟨-, x, told⟩ := suspendTest_cases s k
  · rw [same]; exact h
  · rw [told]
    exact jobAtPort_emit (jobAtPort_of_port (t := s.setStream k _) h rfl) x

/-! ## The start of a placement (R71 to R73) -/

theorem exec_placementStart (d : Drive) (s : State) : exec (.placementStart d) s = .next (s.settle (s.assemble d)) := rfl

/-- R71: a channel's record as a placement starts. -/
def Channel.placingOf (c : Channel) (p : Placement) (held : Bool) : Channel :=
  { c with activity := .placing p, placeQueue := if held then c.placeQueue else c.placeQueue.tail }

/-- R71: what a placement's start leaves. -/
theorem startPlacement_effect (s : State) (d : Drive) (r : ChunkRec) (held : Option Nat) (i : Image) :
    Rechan d ((s.chan d).placingOf (placementOf r.id held r.storedSize ((s.chan d).space i)) held.isSome) s
      (s.startPlacement d r held i)
    ∧ (s.startPlacement d r held i).jobAtPort (.assembler d) := by
  let v := (s.modChan d fun c => c.placingOf (placementOf r.id held r.storedSize ((s.chan d).space i)) held.isSome).startJob
    (.assembler d)
  have started : Rechan d ((s.chan d).placingOf (placementOf r.id held r.storedSize ((s.chan d).space i)) held.isSome) s v :=
    (Rechan.modChan s d fun c => c.placingOf (placementOf r.id held r.storedSize ((s.chan d).space i)) held.isSome).then_chans
      (State.startJob_chans _ _)
  have atPort : v.jobAtPort (.assembler d) := startJob_atPort _ _
  have either : s.startPlacement d r held i = v ∨ ∃ k, s.startPlacement d r held i = v.suspendTest k := by
    cases held with
    | some n => exact .inl rfl
    | none =>
      cases role : r.role with
      | backup k => exact .inr ⟨k, by simp only [State.startPlacement, role] <;> rfl⟩
      | restore j => exact .inl (by simp only [State.startPlacement, role] <;> rfl)
      | verify e => exact .inl (by simp only [State.startPlacement, role] <;> rfl)
  obtain same | ⟨k, tested⟩ := either
  · rw [same]
    exact ⟨started, atPort⟩
  · rw [tested]
    exact ⟨started.then_chans (State.suspendTest_chans v k), jobAtPort_suspendTest atPort k⟩

/-- R72: the image that a channel opens. -/
def Channel.opened (c : Channel) (now : Nat) : Image :=
  { slot := c.nextSlot, state := .assembling, seq := match c.mount with | some m => m.nextSeq | none => 0
    openTime := now, frags := 0, payload := 0, marks := [], sends := 0, trailer := 0 }

/-- R72: a channel's record after an image has opened. -/
def Channel.withOpened (c : Channel) (now capacity : Nat) : Channel :=
  { c with images := c.images ++ [c.opened now], nextSlot := if c.nextSlot + 1 < capacity then c.nextSlot + 1 else 0
           mount := c.mount.map fun m => { m with nextSeq := m.nextSeq + 1 } }

theorem openImage_rechan (s : State) (d : Drive) : Rechan d ((s.chan d).withOpened s.timebase s.params.imageCapacity[d]) s
    (s.openImage d) := .modChan s d _

theorem withOpened_assembling (now capacity : Nat) (h : c.assembling = none) :
    (c.withOpened now capacity).assembling = some (c.opened now) := by
  change (c.images ++ [c.opened now]).find? _ = _
  rw [List.find?_append, show c.images.find? (·.state == .assembling) = none from h]
  rfl

theorem withOpened_size (c : Channel) (now capacity : Nat) : (c.withOpened now capacity).size = c.size := by
  unfold Channel.size Channel.withOpened
  cases c.mount <;> rfl

/-- R71: the chunk at the head of the assembler's work, its record, and where its rest begins if it is the held chunk. -/
def State.heads (s : State) (d : Drive) (r : ChunkRec) (held : Option Nat) : Prop :=
  (s.chan d).activity = .idle ∧ ∃ id, (s.chan d).nextChunk = some (id, held.isSome) ∧ s.findRec id = some r
    ∧ (held.isSome = true → (s.chan d).held.map (·.2) = held)

theorem heads_of_queue {id : Nat} {rest : List Nat} (hs : (s.chan d).state = .write) (full : (s.chan d).full = none)
    (idle : (s.chan d).activity = .idle) (held : (s.chan d).held = none) (queue : (s.chan d).placeQueue = id :: rest)
    (hr : s.findRec id = some r) : s.heads d r none :=
  ⟨idle, id, by simp [Channel.nextChunk, held, hs, full, queue], hr, fun h => absurd h (by simp)⟩

theorem heads_of_held {id start : Nat} (hs : (s.chan d).state = .write ∨ (s.chan d).state = .unmounting)
    (idle : (s.chan d).activity = .idle) (held : (s.chan d).held = some (id, start)) (hr : s.findRec id = some r) :
    s.heads d r (some start) :=
  ⟨idle, id, by simp [Channel.nextChunk, held, hs], hr, fun _ => by rw [held]; rfl⟩

/-- R71 to R73: what the idle assembler does with the head of its work. -/
theorem assemble_of_heads {held : Option Nat} (h : s.heads d r held) : s.assemble d =
    match (s.chan d).assembling with
    | some i =>
      if r.setend = some true ∧ i.marks.length = 8 then s.askClose d .setEndLimit else s.startPlacement d r held i
    | none =>
      if (s.chan d).slotFree then
        match ((s.openImage d).chan d).assembling with
        | some i => (s.openImage d).startPlacement d r held i
        | none => s.openImage d
      else s := by
  obtain ⟨idle, id, next, hr, start⟩ := h
  have rests : (if held.isSome = true then (s.chan d).held.map (·.2) else none) = held := by
    cases held with
    | none => rfl
    | some n => exact start rfl
  simp only [State.assemble, idle, next, hr, rests] <;> rfl

/-- R73: the placement of a chunk into an ASSEMBLING image that can take it. -/
theorem places_in_image {held : Option Nat} (h : s.heads d r held) (hi : (s.chan d).assembling = some i)
    (marks : ¬ (r.setend = some true ∧ i.marks.length = 8)) :
    exec (.placementStart d) s = .next (s.settle (s.startPlacement d r held i)) := by
  rw [exec_placementStart, assemble_of_heads h, hi]
  exact congrArg (fun v => Host.Outcome.next (s.settle v)) (if_neg marks)

/-- R72: the placement of a chunk into an image that opens for it. -/
theorem places_in_new {held : Option Nat} (h : s.heads d r held) (none : (s.chan d).assembling = none)
    (free : ∀ x ∈ (s.chan d).images, x.slot ≠ (s.chan d).nextSlot) :
    exec (.placementStart d) s = .next (s.settle ((s.openImage d).startPlacement d r held ((s.chan d).opened s.timebase))) := by
  have slot : (s.chan d).slotFree = true := by
    rw [Channel.slotFree, Bool.not_eq_true', ← Bool.not_eq_true, List.any_eq_true]
    rintro ⟨x, hx, taken⟩
    exact free x hx (by simpa using taken)
  have opened : ((s.openImage d).chan d).assembling = some ((s.chan d).opened s.timebase) := by
    rw [(openImage_rechan s d).self, withOpened_assembling _ _ none]
  rw [exec_placementStart, assemble_of_heads h, none]
  simp only [slot, if_true, opened]

theorem new_image_effect (s : State) (d : Drive) (r : ChunkRec) (held : Option Nat) :
    let i := (s.chan d).opened s.timebase
    Rechan d (((s.chan d).withOpened s.timebase s.params.imageCapacity[d]).placingOf
        (placementOf r.id held r.storedSize (capacityOf (s.chan d).size)) held.isSome) s ((s.openImage d).startPlacement d r held i)
    ∧ ((s.openImage d).startPlacement d r held i).jobAtPort (.assembler d) := by
  intro i
  obtain ⟨after, atPort⟩ := startPlacement_effect (s.openImage d) d r held i
  have opened := openImage_rechan s d
  have space : ((s.openImage d).chan d).space i = capacityOf (s.chan d).size := by
    rw [opened.self, Channel.space, withOpened_size]
    rfl
  rw [space, opened.self] at after
  exact ⟨opened.trans after, atPort⟩

theorem startPlacement_mem (s : State) (d : Drive) (r : ChunkRec) (held : Option Nat) (i : Image) :
    (s.startPlacement d r held i).mem = s.mem := mem_of_outside (State.startPlacement_outside s d r held i)

theorem openedPlacement_mem (s : State) (d : Drive) (r : ChunkRec) (held : Option Nat) (i : Image) :
    ((s.openImage d).startPlacement d r held i).mem = s.mem := startPlacement_mem _ d r held i

/-- R73: the first fragment of a chunk, by the space left. -/
theorem placementOf_first (r : ChunkRec) (space : Nat) : placementOf r.id none r.storedSize space =
    { record := r.id, number := 0, last := decide (12 + (10 + r.bodyLen.getD 0) ≤ space), start := 0
      len := if 12 + (10 + r.bodyLen.getD 0) ≤ space then 10 + r.bodyLen.getD 0 else space - 12 } := by
  unfold placementOf ChunkRec.storedSize
  by_cases fits : 12 + (10 + r.bodyLen.getD 0) ≤ space <;> simp [fits]

theorem opened_of_mount {m : Mount} (h : c.mount = some m) (now : Nat) : c.opened now =
    { slot := c.nextSlot, state := .assembling, seq := m.nextSeq, openTime := now, frags := 0, payload := 0, marks := []
      sends := 0, trailer := 0 } := by
  rw [Channel.opened, h]

theorem withOpened_mount {m : Mount} (h : c.mount = some m) (now capacity : Nat) :
    (c.withOpened now capacity).mount = some { m with nextSeq := m.nextSeq + 1 } := by
  rw [Channel.withOpened, h]; rfl

/-- R71 to R73: the placement of the head of the placement queue. -/
theorem queue_head_placed (s : State) (d : Drive) (id : Nat) (rest : List Nat) (r : ChunkRec) :
    let c := s.chan d
    let size := 10 + r.bodyLen.getD 0
    let fragment (space : Nat) : Placement :=
      { record := id, number := 0, last := decide (12 + size ≤ space), start := 0
        len := if 12 + size ≤ space then size else space - 12 }
    c.state = .write → c.full = none → c.activity = .idle → c.held = none → c.placeQueue = id :: rest →
    s.findRec id = some r →
    (∀ i, c.assembling = some i → ¬ (r.setend = some true ∧ i.marks.length = 8) → ∃ v,
      exec (.placementStart d) s = .next (s.settle v) ∧ v.mem = s.mem ∧ (v.chan d).placeQueue = rest
      ∧ (v.chan d).activity = .placing (fragment (capacityOf c.size - i.payload)) ∧ (v.chan d).images = c.images
      ∧ v.jobAtPort (.assembler d))
    ∧ (∀ i, c.assembling = some i → r.setend = some true → i.marks.length = 8 → c.closeAsked = none → ∃ v,
      exec (.placementStart d) s = .next (s.settle v) ∧ v.mem = s.mem ∧ (v.chan d).activity = .closing .setEndLimit
      ∧ (v.chan d).placeQueue = c.placeQueue ∧ (v.chan d).images = c.images ∧ v.jobAtPort (.assembler d))
    ∧ (∀ m, c.assembling = none → c.mount = some m → (∀ i ∈ c.images, i.slot ≠ c.nextSlot) → ∃ v,
      exec (.placementStart d) s = .next (s.settle v) ∧ v.mem = s.mem ∧ (v.chan d).placeQueue = rest
      ∧ (v.chan d).activity = .placing (fragment (capacityOf c.size)) ∧ (v.chan d).mount = some { m with nextSeq := m.nextSeq + 1 }
      ∧ (v.chan d).nextSlot = (if c.nextSlot + 1 < s.params.imageCapacity[d] then c.nextSlot + 1 else 0)
      ∧ (v.chan d).images = c.images ++ [{ slot := c.nextSlot, state := .assembling, seq := m.nextSeq
                                           openTime := s.timebase, frags := 0, payload := 0, marks := [], sends := 0
                                           trailer := 0 }]) := by
  intro c size fragment hs full idle held queue hr
  have heads := heads_of_queue hs full idle held queue hr
  have name : r.id = id := s.findRec_id hr
  have first (space : Nat) : placementOf r.id none r.storedSize space = fragment space := by
    rw [placementOf_first, name]
  have tail : (s.chan d).placeQueue.tail = rest := congrArg List.tail queue
  refine ⟨fun i hi marks => ?_, fun i hi setend eight free => ?_, fun m bare hm free => ?_⟩
  · obtain ⟨after, atPort⟩ := startPlacement_effect s d r none i
    rw [first] at after
    refine ⟨_, places_in_image heads hi marks, startPlacement_mem .., ?_, ?_, ?_, atPort⟩
    all_goals rw [after.self]
    · exact tail
    · rfl
    · rfl
  · have arm : exec (.placementStart d) s = .next (s.settle (s.askClose d .setEndLimit)) := by
      rw [exec_placementStart, assemble_of_heads heads, show (s.chan d).assembling = some i from hi]
      exact congrArg (fun v => Host.Outcome.next (s.settle v)) (if_pos ⟨setend, eight⟩)
    have after := Rechan.askClose s d .setEndLimit
    obtain ⟨a, q, fields⟩ := askedClose_fields (s.chan d) .setEndLimit
    have closing := askedClose_idle .setEndLimit hi idle free
    refine ⟨_, arm, mem_of_outside (State.askClose_outside _ _ _), by rw [after.self]; exact closing, ?_, ?_, ?_⟩
    · rw [after.self, fields]
    · rw [after.self, fields]
    · have started : s.askClose d .setEndLimit = (s.setChan d
          { c with activity := .closing (c.closeAsked.getD .setEndLimit), closeAsked := none }).startJob (.assembler d) := by
        unfold State.askClose
        dsimp only
        rw [if_neg (by rw [show (s.chan d).assembling = some i from hi]; exact Bool.false_ne_true),
          show (s.chan d).activity = _ from idle]
      rw [started]
      exact startJob_atPort _ _
  · obtain ⟨after, -⟩ := new_image_effect s d r none
    rw [first] at after
    refine ⟨_, places_in_new heads bare free, openedPlacement_mem .., ?_, ?_, ?_, ?_, ?_⟩
    all_goals rw [after.self]
    · exact tail
    · rfl
    · exact withOpened_mount hm s.timebase s.params.imageCapacity[d]
    · rfl
    · exact congrArg (fun x => c.images ++ [x]) (opened_of_mount hm s.timebase)

/-- R71, R73: the rest of a held chunk. -/
theorem held_chunk_placed (s : State) (d : Drive) (id start : Nat) (r : ChunkRec) :
    let c := s.chan d
    let rest : Placement :=
      { record := id, number := 1, last := true, start := start, len := 10 + r.bodyLen.getD 0 - start }
    c.state = .write ∨ c.state = .unmounting → c.activity = .idle → c.held = some (id, start) → s.findRec id = some r →
    (∀ i, c.assembling = some i → ¬ (r.setend = some true ∧ i.marks.length = 8) → ∃ v,
      exec (.placementStart d) s = .next (s.settle v) ∧ v.mem = s.mem ∧ (v.chan d).activity = .placing rest
      ∧ (v.chan d).placeQueue = c.placeQueue ∧ (v.chan d).held = c.held ∧ (v.chan d).images = c.images
      ∧ v.jobAtPort (.assembler d))
    ∧ (∀ m, c.assembling = none → c.mount = some m → (∀ i ∈ c.images, i.slot ≠ c.nextSlot) → ∃ v,
      exec (.placementStart d) s = .next (s.settle v) ∧ v.mem = s.mem ∧ (v.chan d).activity = .placing rest
      ∧ (v.chan d).placeQueue = c.placeQueue ∧ (v.chan d).held = c.held
      ∧ (v.chan d).mount = some { m with nextSeq := m.nextSeq + 1 }
      ∧ (v.chan d).images = c.images ++ [{ slot := c.nextSlot, state := .assembling, seq := m.nextSeq
                                           openTime := s.timebase, frags := 0, payload := 0, marks := [], sends := 0
                                           trailer := 0 }]
      ∧ v.jobAtPort (.assembler d)) := by
  intro c rest hs idle held hr
  have heads := heads_of_held hs idle held hr
  have name : r.id = id := s.findRec_id hr
  have second (space : Nat) : placementOf r.id (some start) r.storedSize space = rest := by
    rw [name]; rfl
  refine ⟨fun i hi marks => ?_, fun m bare hm free => ?_⟩
  · obtain ⟨after, atPort⟩ := startPlacement_effect s d r (some start) i
    rw [second] at after
    refine ⟨_, places_in_image heads hi marks, startPlacement_mem .., ?_, ?_, ?_, ?_, atPort⟩
    all_goals rw [after.self]; rfl
  · obtain ⟨after, atPort⟩ := new_image_effect s d r (some start)
    rw [second] at after
    refine ⟨_, places_in_new heads bare free, openedPlacement_mem .., ?_, ?_, ?_, ?_, ?_, atPort⟩
    all_goals rw [after.self]
    · rfl
    · rfl
    · rfl
    · exact withOpened_mount hm s.timebase s.params.imageCapacity[d]
    · exact congrArg (fun x => c.images ++ [x]) (opened_of_mount hm s.timebase)

end Sys2Proof.Machine
end

section
/-! The end of a placement (R73, R74, R56) and the end of a close (R75). -/

namespace Sys2Proof.Machine

variable {s t u v : State} {d : Drive} {i : Image} {c : Channel} {r : ChunkRec}

/-! ## What the tests behind a placement and a close leave -/

/-- The pool, the streams and the ring are as before: what the closes and the tests of the write side leave. -/
def Unmoved (s t : State) : Prop := t.pool = s.pool ∧ t.streams = s.streams ∧ t.ring = s.ring ∧ t.mem = s.mem

theorem Unmoved.refl (s : State) : Unmoved s s := ⟨rfl, rfl, rfl, rfl⟩

theorem Unmoved.trans (h : Unmoved s t) (k : Unmoved t u) : Unmoved s u := by
  obtain ⟨pool, streams, ring, mem⟩ := h
  obtain ⟨pool', streams', ring', mem'⟩ := k
  exact ⟨pool'.trans pool, streams'.trans streams, ring'.trans ring, mem'.trans mem⟩

theorem Unmoved.askClose (s : State) (d : Drive) (x : CloseReason) : Unmoved s (s.askClose d x) :=
  ⟨State.askClose_pool s d x, State.askClose_streams s d x, State.askClose_ring s d x, mem_of_outside (State.askClose_outside s d x)⟩

theorem Unmoved.earlyTest (s : State) (d : Drive) : Unmoved s (s.earlyTest d) := by
  unfold State.earlyTest
  dsimp only
  split
  · exact Unmoved.trans (t := s.countChan d _) ⟨rfl, rfl, rfl, rfl⟩ (.askClose _ d .early)
  · exact .refl s

theorem Unmoved.markTest (s : State) (d : Drive) : Unmoved s (s.markTest d) := by
  unfold State.markTest
  dsimp only
  split
  · exact ⟨rfl, rfl, rfl, rfl⟩
  · exact .refl s

/-- R74: a step of the closes that a placement's end asks. -/
def CloseStep (d : Drive) (s t : State) : Prop :=
  Unmoved s t ∧ ∃ a q, Rechan d { s.chan d with activity := a, closeAsked := q } s t

theorem CloseStep.refl (s : State) : CloseStep d s s := ⟨.refl s, _, _, .refl s d⟩

theorem CloseStep.askClose (s : State) (x : CloseReason) : CloseStep d s (s.askClose d x) :=
  ⟨.askClose s d x, (Rechan.refl s d).closing x⟩

theorem CloseStep.trans (h : CloseStep d s t) (k : CloseStep d t u) : CloseStep d s u := by
  obtain ⟨unmoved, a, q, after⟩ := h
  obtain ⟨unmoved', a', q', after'⟩ := k
  rw [after.self] at after'
  exact ⟨unmoved.trans unmoved', a', q', after.trans after'⟩

theorem CloseStep.closeAfter (s : State) (d : Drive) : CloseStep d s (s.closeAfter d) := by
  have ite_ (b : Prop) [Decidable b] (t : State) (x : CloseReason) (h : CloseStep d s t) :
      CloseStep d s (if b then t.askClose d x else t) := by
    split
    · exact h.trans (.askClose t x)
    · exact h
  unfold State.closeAfter
  dsimp only
  split
  · exact .refl s
  · refine ite_ _ _ _ (ite_ _ _ _ ?_)
    split
    · exact .askClose s _
    · exact .refl s

/-- R158: a channel that holds an image does not drain. -/
theorem drainTest_still (h : (s.chan d).images ≠ []) : s.drainTest d = s := by
  refine if_neg fun ⟨_, drained⟩ => h ?_
  have empty : (s.chan d).images.isEmpty = true := by
    simp only [Channel.drained, Bool.and_eq_true] at drained
    exact drained.1.1
  exact List.isEmpty_iff.1 empty

/-! ## The end of a placement (R73) -/

theorem exec_placementEnd {p : Placement} (job : s.hasJob (.assembler d) = true) (idle : (s.chan d).abandoned = [])
    (act : (s.chan d).activity = .placing p) :
    exec (.placementEnd d) s = .next (s.settle ((s.endJob (.assembler d)).endPlacement d p)) := by
  change execPlacementEnd d s = _
  unfold execPlacementEnd
  simp only [job, idle, act, Bool.not_true, Bool.false_eq_true, if_false]

/-- R73: the fragment stands in the image, and its record is PLACING. -/
def State.fragmentPlaced (s : State) (d : Drive) (i : Image) (r : ChunkRec) (p : Placement) : State :=
  ((s.writeFragment d i r p).modChan d fun c => c.afterFragment i.slot r p).modRec p.record fun x => { x with state := .placing }

/-- R34, R56: a chunk whose LAST fragment is placed is given up after the test for the end of its stream. -/
def State.chunkPlaced (s : State) (r : ChunkRec) (p : Placement) : State :=
  if p.last then (s.endTest r).giveUp p.record else s

/-- R73: the tests at the end of a placement. -/
def State.placementTests (s : State) (d : Drive) : State := ((s.closeAfter d).earlyTest d).drainTest d

theorem endPlacement_eq {p : Placement} (hi : (s.chan d).assembling = some i) (hr : s.findRec p.record = some r) :
    s.endPlacement d p = ((s.fragmentPlaced d i r p).chunkPlaced r p).placementTests d := by
  simp only [State.endPlacement, hi, hr] <;> rfl

theorem chunkPlaced_chans (s : State) (r : ChunkRec) (p : Placement) : (s.chunkPlaced r p).chans = s.chans := by
  unfold State.chunkPlaced
  split <;> simp

theorem chunkPlaced_mem (s : State) (r : ChunkRec) (p : Placement) : (s.chunkPlaced r p).mem = s.mem := by
  unfold State.chunkPlaced
  split
  · exact mem_of_outside ((State.giveUp_outside _ _).trans (State.endTest_outside _ _))
  · rfl

/-- R73: of a channel that holds an image, the tests leave all but the closes asked and the count of early closes. -/
theorem placementTests_effect (h : (s.chan d).images ≠ []) : Unmoved s (s.placementTests d)
    ∧ ∃ a q n, (s.placementTests d).chan d =
      { s.chan d with activity := a, closeAsked := q, counters := { (s.chan d).counters with earlyCloses := n } } := by
  obtain ⟨unmoved, a, q, after⟩ := CloseStep.closeAfter s d
  obtain ⟨a', q', n, early, -⟩ := earlyTest_rechan (s.closeAfter d) d
  rw [after.self] at early
  have held : (((s.closeAfter d).earlyTest d).chan d).images ≠ [] := by
    rw [early.self]
    exact h
  rw [State.placementTests, drainTest_still held]
  exact ⟨unmoved.trans (.earlyTest _ d), a', q', n, early.self⟩

theorem fragmentPlaced_chan (s : State) (d : Drive) (i : Image) (r : ChunkRec) (p : Placement) :
    (s.fragmentPlaced d i r p).chan d = (s.chan d).afterFragment i.slot r p :=
  State.chan_modChan_self (s.writeFragment d i r p) d fun c => c.afterFragment i.slot r p

theorem assembling_mem (h : c.assembling = some i) : i ∈ c.images := List.mem_of_find?_eq_some h

/-- An image of a slot is among those of a channel whose images of the slot have changed. -/
theorem modImage_mem (f : Image → Image) (h : i ∈ c.images) : f i ∈ (c.modImage i.slot f).images :=
  List.mem_map.2 ⟨i, h, if_pos rfl⟩

theorem afterFragment_mem (p : Placement) (h : i ∈ c.images) :
    i.afterFragment r p ∈ (c.afterFragment i.slot r p).images := modImage_mem (fun i => i.afterFragment r p) h

/-- R73: the bytes of a fragment and of its chunk in the image. -/
theorem fragmentPlaced_mem (s : State) (d : Drive) (i : Image) (r : ChunkRec) (p : Placement) : (s.fragmentPlaced d i r p).mem =
    (s.poke (s.slotAddr d i.slot + 16 + i.payload)
      (fragHeader r.setId r.seq p.len p.last p.number ++ s.chunkBytes r.pages p.start p.len)).mem := rfl

/-! ## The end of a stream with its last chunk (R56) -/

/-- R56: nothing ends unless the chunk carries SETEND, belongs to its ENDING stream, and has no other target left. -/
theorem endTest_still (h : ∀ k, r.role = .backup k → r.setend ≠ some true ∨ r.orphan = true ∨ 1 < r.outstanding
    ∨ (s.stream k).state ≠ .ending) : s.endTest r = s := by
  unfold State.endTest
  split
  · next k role =>
    refine if_neg fun ⟨setend, orphan, last, ending⟩ => ?_
    obtain no | kept | more | other := h k role
    · exact no setend
    · rw [kept] at orphan; cases orphan
    · omega
    · exact other ending
  · rfl

/-- R56: a stream that has ended. -/
def Stream.finished (x : Stream) : Stream :=
  { x with state := .closed, causeCommand := false, causePreempt := false, admin := false, endTag := none, finalClose := false }

theorem endTest_ends {k : Tag} (role : r.role = .backup k) (setend : r.setend = some true) (orphan : r.orphan = false)
    (last : r.outstanding ≤ 1) (ending : (s.stream k).state = .ending) :
    s.endTest r = (s.emit (endedRecord k (s.stream k))).setStream k (s.stream k).finished := by
  simp only [State.endTest, role, setend, orphan, last, ending] <;> rfl

theorem endTest_stream_ne {k o : Tag} (role : r.role = .backup k) (ne : o ≠ k) : (s.endTest r).stream o = s.stream o := by
  simp only [State.endTest, role]
  split
  · rw [State.stream_setStream_ne _ _ _ _ ne.symm, stream_of_streams (State.emit_streams _ _)]
  · rfl

/-- R34: the record of a chunk with further targets counts one less. -/
theorem chunkPlaced_more {p : Placement} (last : p.last = true) (hr : s.findRec p.record = some { r with state := .placing })
    (more : 1 < r.outstanding) : (s.chunkPlaced r p).findRec p.record =
      some { r with state := .placing, outstanding := r.outstanding - 1 }
    ∧ (s.chunkPlaced r p).streams = s.streams ∧ (s.chunkPlaced r p).pool.free = s.pool.free := by
  have still : s.endTest r = s := endTest_still fun k _ => .inr (.inr (.inl more))
  rw [State.chunkPlaced, if_pos last, still, giveUp_more hr more]
  refine ⟨?_, rfl, rfl⟩
  rw [State.findRec_modRec s p.record (fun x => { x with outstanding := x.outstanding - 1 }) (fun _ => rfl), hr]
  rfl

/-- R34: the record of a chunk without further targets is freed, and its pages return. -/
theorem chunkPlaced_freed {p : Placement} (last : p.last = true) (hr : s.findRec p.record = some { r with state := .placing })
    (none : r.outstanding ≤ 1) : (s.chunkPlaced r p).findRec p.record = Option.none
    ∧ (s.chunkPlaced r p).pool.free = s.pool.free ++ r.pages
    ∧ (s.chunkPlaced r p).streams = (s.endTest r).streams
    ∧ (s.endTest r).ring.buffer <+: (s.chunkPlaced r p).ring.buffer := by
  have found : (s.endTest r).findRec p.record = some { r with state := .placing } := by
    rw [State.findRec, State.endTest_pool]
    exact hr
  have less : ((s.endTest r).modRec p.record fun x => { x with outstanding := x.outstanding - 1 }).findRec p.record =
      some { r with state := .placing, outstanding := r.outstanding - 1 } := by
    rw [State.findRec_modRec _ p.record (fun x => { x with outstanding := x.outstanding - 1 }) (fun _ => rfl), found]
    rfl
  obtain ⟨-, free, -⟩ := freeRec_pool _ less
  have grows := ((Works.refl (s.endTest r)).giveUp p.record).buffer
  rw [giveUp_last found none] at grows
  rw [State.chunkPlaced, if_pos last, giveUp_last found none]
  refine ⟨findRec_freeRec_self less, free.trans ?_, State.freeRec_streams _ _, grows⟩
  rw [State.modRec, State.modPool_pool, State.endTest_pool]

/-- R56: STREAM_ENDED finds its place where the ring has room. -/
theorem endTest_record {k : Tag} (room : s.ring.room = true) (role : r.role = .backup k) (setend : r.setend = some true)
    (orphan : r.orphan = false) (last : r.outstanding ≤ 1) (ending : (s.stream k).state = .ending) :
    (s.endTest r).ring.buffer = s.ring.buffer ++ [{ endedRecord k (s.stream k) with dropped := s.ring.d }] := by
  rw [endTest_ends role setend orphan last ending]
  exact emit_buffer_of_room _ room

/-- What R73, R34 and R56 leave of the records, the pages and the streams, when the chunk of `r` is placed. -/
def ChunkPlaced (s : State) (p : Placement) (r : ChunkRec) (v : State) : Prop :=
  (p.last = false → v.findRec p.record = some { r with state := .placing } ∧ v.streams = s.streams ∧ v.pool.free = s.pool.free)
  ∧ (p.last = true →
    (1 < r.outstanding → v.findRec p.record = some { r with state := .placing, outstanding := r.outstanding - 1 }
      ∧ v.streams = s.streams ∧ v.pool.free = s.pool.free)
    ∧ (r.outstanding ≤ 1 → v.findRec p.record = none ∧ v.pool.free = s.pool.free ++ r.pages
      ∧ (∀ t, r.role = .backup t →
        (∀ o, o ≠ t → v.stream o = s.stream o)
        ∧ (r.setend ≠ some true ∨ r.orphan = true ∨ (s.stream t).state ≠ .ending → v.stream t = s.stream t)
        ∧ (r.setend = some true → r.orphan = false → (s.stream t).state = .ending → (v.stream t).state = .closed
          ∧ (s.ring.room = true →
            s.ring.buffer ++ [{ endedRecord t (s.stream t) with dropped := s.ring.d }] <+: v.ring.buffer)))))

theorem ChunkPlaced.unmoved {p : Placement} (h : ChunkPlaced s p r t) (k : Unmoved t u) : ChunkPlaced s p r u := by
  obtain ⟨pool, streams, ring, -⟩ := k
  have found : u.findRec p.record = t.findRec p.record := by rw [State.findRec, pool, ← State.findRec]
  have stream (o : Tag) : u.stream o = t.stream o := stream_of_streams streams o
  simpa only [ChunkPlaced, pool, streams, ring, found, stream] using h

theorem fragmentPlaced_findRec {p : Placement} (d : Drive) (i : Image) (hr : s.findRec p.record = some r) :
    (s.fragmentPlaced d i r p).findRec p.record = some { r with state := .placing } := by
  rw [State.fragmentPlaced, State.findRec_modRec _ p.record (fun x => { x with state := .placing }) (fun _ => rfl)]
  rw [show ((s.writeFragment d i r p).modChan d fun c => c.afterFragment i.slot r p).findRec p.record = some r from hr]
  rfl

theorem chunkPlaced_effect {p : Placement} (d : Drive) (i : Image) (hr : s.findRec p.record = some r) :
    ChunkPlaced s p r ((s.fragmentPlaced d i r p).chunkPlaced r p) := by
  have found := fragmentPlaced_findRec d i hr
  refine ⟨fun more => ?_, fun last => ⟨fun more => chunkPlaced_more last found more, fun none => ?_⟩⟩
  · rw [State.chunkPlaced, if_neg (by rw [more]; exact Bool.false_ne_true)]
    exact ⟨found, rfl, rfl⟩
  obtain ⟨gone, free, streams, prior⟩ := chunkPlaced_freed last found none
  have stream (o : Tag) := stream_of_streams streams o
  refine ⟨gone, free, fun k role => ⟨fun o ne => (stream o).trans (endTest_stream_ne role ne), fun no => ?_, ?_⟩⟩
  · rw [stream, endTest_still fun k' role' => ?_]
    · rfl
    · cases role.symm.trans role'
      exact no.imp_right (Or.imp_right Or.inr)
  · refine fun setend orphan ending => ⟨?_, fun room => ?_⟩
    · rw [stream, endTest_ends (s := s.fragmentPlaced d i r p) role setend orphan none ending, State.stream_setStream_self]
      rfl
    · exact endTest_record (s := s.fragmentPlaced d i r p) room role setend orphan none ending ▸ prior

/-- R73: the end of a placement. -/
theorem endPlacement_effect {p : Placement} (hi : (s.chan d).assembling = some i) (hr : s.findRec p.record = some r) :
    (s.endPlacement d p).mem = (s.fragmentPlaced d i r p).mem ∧ ChunkPlaced s p r (s.endPlacement d p)
    ∧ ∃ a q n, (s.endPlacement d p).chan d = { (s.chan d).afterFragment i.slot r p with
        activity := a, closeAsked := q, counters := { ((s.chan d).afterFragment i.slot r p).counters with earlyCloses := n } } := by
  have chan : ((s.fragmentPlaced d i r p).chunkPlaced r p).chan d = (s.chan d).afterFragment i.slot r p :=
    (chan_of_chans (chunkPlaced_chans _ r p) d).trans (fragmentPlaced_chan s d i r p)
  have holds : (((s.fragmentPlaced d i r p).chunkPlaced r p).chan d).images ≠ [] := by
    rw [chan]
    exact List.ne_nil_of_mem (afterFragment_mem p (assembling_mem hi))
  obtain ⟨unmoved, a, q, n, left⟩ := placementTests_effect holds
  obtain ⟨-, -, -, mem⟩ := id unmoved
  rw [endPlacement_eq hi hr]
  exact ⟨mem.trans (chunkPlaced_mem _ r p), (chunkPlaced_effect d i hr).unmoved unmoved, a, q, n, chan ▸ left⟩

end Sys2Proof.Machine
end

section
/-! The assembler's clauses for PLACEMENT_END and CLOSE_END, and O45. -/

namespace Sys2Proof.Machine

variable {s t u v : State} {d : Drive} {i : Image} {c : Channel} {r : ChunkRec}

/-- R186: room for `n` more records, as the obligations write it, is room for one where `n` is not 0. -/
theorem room_of_space {g : Ring} {n : Nat} (pos : 0 < n)
    (h : g.reserved.toNat + n ≤ g.freePlaces ∧ g.reserved.toNat + g.buffer.length + n ≤ 32) : g.room = true := by
  obtain ⟨places, buffer⟩ := h
  rw [room_iff]
  simp only [Ring.freePlaces, Config.statusSlots] at places
  omega

/-- A record behind the buffer of an event's beginning is among its news. -/
theorem mem_news {b new : List Record} {r : Record} {dropped : Half} (fresh : r.dropped = 0)
    (h : b ++ [{ r with dropped := dropped }] <+: new) :
    r ∈ (new.drop b.length).map fun x => { x with dropped := 0 } := by
  obtain ⟨more, rfl⟩ := h
  rw [List.append_assoc, List.drop_left]
  refine List.mem_map.2 ⟨{ r with dropped := dropped }, List.mem_append_left _ (List.mem_singleton_self _), ?_⟩
  rw [← fresh]

/-- R73: PLACEMENT_END. -/
theorem placement_ends {p : Placement} (job : s.hasJob (.assembler d) = true) (idle : (s.chan d).abandoned = [])
    (hi : (s.chan d).assembling = some i) (act : (s.chan d).activity = .placing p) (hr : s.findRec p.record = some r) :
    ∃ v, exec (.placementEnd d) s = .next (s.settle v)
      ∧ v.mem = (s.poke (s.slotAddr d i.slot + 16 + i.payload)
          (fragHeader r.setId r.seq p.len p.last p.number ++ s.chunkBytes r.pages p.start p.len)).mem
      ∧ ChunkPlaced s p r v
      ∧ ∃ a q n, v.chan d = { (s.chan d).afterFragment i.slot r p with
          activity := a, closeAsked := q
          counters := { ((s.chan d).afterFragment i.slot r p).counters with earlyCloses := n } } := by
  obtain ⟨mem, placed, left⟩ := endPlacement_effect (s := s.endJob (.assembler d)) (d := d) hi hr
  exact ⟨_, exec_placementEnd job idle act, mem, placed, left⟩

/-! ## The end of a close (R75) -/

theorem exec_closeEnd {x : CloseReason} (job : s.hasJob (.assembler d) = true) (idle : (s.chan d).abandoned = [])
    (act : (s.chan d).activity = .closing x) :
    exec (.closeEnd d) s = .next (s.settle ((s.endJob (.assembler d)).endClose d x)) := by
  change execCloseEnd d s = _
  unfold execCloseEnd
  simp only [job, idle, act, Bool.not_true, Bool.false_eq_true, if_false]

/-- R75: the channel of a closed image. -/
def Channel.closed (c : Channel) (slot : Nat) (crc : Word) (x : CloseReason) : Channel :=
  { (c.modImage slot fun i => { i with state := .queued, trailer := crc }) with
    activity := .idle, counters := c.counters.countClose x }

/-- R83: the test at a close restarts the regulator alone. -/
theorem markTest_chan (s : State) (d : Drive) : ((s.markTest d).chan d).images = (s.chan d).images
    ∧ ((s.markTest d).chan d).activity = (s.chan d).activity := by
  unfold State.markTest
  dsimp only
  split
  · rw [State.chan_setChan_self]
    exact ⟨rfl, rfl⟩
  · exact ⟨rfl, rfl⟩

theorem endClose_effect {x : CloseReason} (hi : (s.chan d).assembling = some i) :
    (s.endClose d x).mem = (s.writeBlock d i).1.mem
    ∧ ((s.endClose d x).chan d).images = ((s.chan d).closed i.slot (s.writeBlock d i).2 x).images
    ∧ ((s.endClose d x).chan d).activity = .idle := by
  have eq : s.endClose d x =
      (((s.writeBlock d i).1.modChan d fun c => c.closed i.slot (s.writeBlock d i).2 x).markTest d).drainTest d := by
    simp only [State.endClose, hi] <;> rfl
  have chan : ((s.writeBlock d i).1.modChan d fun c => c.closed i.slot (s.writeBlock d i).2 x).chan d =
      (s.chan d).closed i.slot (s.writeBlock d i).2 x := State.chan_modChan_self (s.writeBlock d i).1 d _
  obtain ⟨images, activity⟩ := markTest_chan ((s.writeBlock d i).1.modChan d fun c => c.closed i.slot (s.writeBlock d i).2 x) d
  rw [chan] at images activity
  have holds : ((((s.writeBlock d i).1.modChan d fun c => c.closed i.slot (s.writeBlock d i).2 x).markTest d).chan d).images ≠ [] := by
    rw [images]
    exact List.ne_nil_of_mem (modImage_mem (fun x => { x with state := .queued, trailer := (s.writeBlock d i).2 }) (assembling_mem hi))
  obtain ⟨-, -, -, mem⟩ := Unmoved.markTest ((s.writeBlock d i).1.modChan d fun c => c.closed i.slot (s.writeBlock d i).2 x) d
  rw [eq, drainTest_still holds]
  exact ⟨mem, images, activity⟩

theorem peek_eq (sound : s.memorySound) (a n : Nat) : s.peek a n = (List.range n).map fun k => s.mem.get (a + k) :=
  Memory.read_eq n a 0 s.mem sound

theorem imageHeader_length (c : Channel) (i : Image) : (c.imageHeader i).length = 16 := by
  simp only [Channel.imageHeader, blockHeader, List.length_append, beBytes_length, List.length_cons, List.length_nil]

/-- R75: the block of a closed image: header, payload, zero padding and the CRC trailer, and no other byte. -/
theorem writeBlock_mem (sound : s.memorySound) (fits : 16 + i.payload + 4 ≤ blockSize (s.chan d).size) :
    let base := s.slotAddr d i.slot
    let size := blockSize (s.chan d).size
    let w := s.writeBlock d i
    (∀ k, k < 16 → w.1.mem.get (base + k) = ((s.chan d).imageHeader i).getD k 0)
    ∧ (∀ k, k < i.payload → w.1.mem.get (base + 16 + k) = s.mem.get (base + 16 + k))
    ∧ (∀ k, 16 + i.payload ≤ k → k < size - 4 → w.1.mem.get (base + k) = 0)
    ∧ (∀ x, x < base ∨ base + size ≤ x → w.1.mem.get x = s.mem.get x)
    ∧ w.2 = crc32 ((List.range (size - 4)).map fun k => w.1.mem.get (base + k))
    ∧ (∀ k, k < 4 → w.1.mem.get (base + (size - 4) + k) = (beBytes 4 w.2.toNat).getD k 0) := by
  intro base size w
  let headed := s.poke base ((s.chan d).imageHeader i)
  let padded := headed.poke (base + 16 + i.payload) (List.replicate (size - 4 - (16 + i.payload)) 0)
  have header := imageHeader_length (s.chan d) i
  have padding : (List.replicate (size - 4 - (16 + i.payload)) (0 : Byte)).length = size - 4 - (16 + i.payload) :=
    List.length_replicate
  have length (n : Nat) : (beBytes 4 n).length = 4 := beBytes_length 4 n
  have fits : 16 + i.payload + 4 ≤ size := fits
  have in_header (x : Nat) (h : x < base ∨ base + 16 ≤ x) : headed.mem.get x = s.mem.get x :=
    State.poke_get_outside s base _ x (by rw [header]; exact h)
  have in_padding (x : Nat) (h : x < base + 16 + i.payload ∨ base + size - 4 ≤ x) : padded.mem.get x = headed.mem.get x :=
    State.poke_get_outside headed _ _ x (by rw [padding]; omega)
  have in_trailer (x : Nat) (h : x < base + size - 4 ∨ base + size ≤ x) : w.1.mem.get x = padded.mem.get x :=
    State.poke_get_outside padded (base + size - 4) (beBytes 4 w.2.toNat) x (by rw [length]; omega)
  refine ⟨fun k hk => ?_, fun k hk => ?_, fun k lo hi => ?_, fun x hx => ?_, ?_, fun k hk => ?_⟩
  · rw [in_trailer _ (by omega), in_padding _ (by omega)]
    exact State.poke_get_inside s base _ k (by omega)
  · rw [in_trailer _ (by omega), in_padding _ (by omega), in_header _ (by omega)]
  · obtain ⟨j, rfl⟩ := Nat.exists_eq_add_of_le lo
    rw [in_trailer _ (by omega), show base + (16 + i.payload + j) = base + 16 + i.payload + j by omega]
    refine (State.poke_get_inside headed _ _ j (by omega)).trans ?_
    rw [List.getD_eq_getElem _ _ (by omega), List.getElem_replicate]
  · rw [in_trailer _ (by omega), in_padding _ (by omega), in_header _ (by omega)]
  · change crc32 (padded.peek base (size - 4)) = _
    rw [peek_eq (State.poke_sound _ _ _ (State.poke_sound _ _ _ sound))]
    refine congrArg crc32 (List.map_congr_left fun k hk => (in_trailer _ ?_).symm)
    have := List.mem_range.1 hk
    omega
  · rw [show base + (size - 4) = base + size - 4 by omega]
    exact State.poke_get_inside padded (base + size - 4) (beBytes 4 w.2.toNat) k (by rw [length]; exact hk)

/-- R75: CLOSE_END. -/
theorem close_ends {x : CloseReason} (job : s.hasJob (.assembler d) = true) (idle : (s.chan d).abandoned = [])
    (hi : (s.chan d).assembling = some i) (act : (s.chan d).activity = .closing x) :
    ∃ v, exec (.closeEnd d) s = .next (s.settle v) ∧ v.mem = (s.writeBlock d i).1.mem
      ∧ (v.chan d).images = ((s.chan d).closed i.slot (s.writeBlock d i).2 x).images ∧ (v.chan d).activity = .idle := by
  obtain ⟨mem, images, left⟩ := endClose_effect (s := s.endJob (.assembler d)) (d := d) (x := x) hi
  exact ⟨_, exec_closeEnd job idle act, mem, images, left⟩

/-- Settles O45: PLACEMENT_START by the head of the queue and by the held chunk, PLACEMENT_END and CLOSE_END. -/
theorem assemblerPlacesAndClosesImages : Obligations.AssemblerPlacesAndClosesImages := by
  unfold Obligations.AssemblerPlacesAndClosesImages
  refine ⟨queue_head_placed, held_chunk_placed, ?_⟩
  intro s d i c base size space news job idle hi sound
  refine ⟨fun p r act hr => ?_, fun reason act fits => ?_⟩
  · obtain ⟨v, run, mem, ⟨more, last⟩, a, q, n, left⟩ := placement_ends job idle hi act hr
    refine ⟨v, run, fun k hk => ?_, fun x hx => ?_, ?_, ?_⟩
    · rw [mem]
      exact State.poke_get_inside s _ _ k hk
    · rw [mem]
      exact State.poke_get_outside s _ _ x hx
    · rw [left]
      rfl
    refine ⟨i.afterFragment r p, ?_, rfl, rfl, rfl, rfl, ?_, ?_, more, fun whole _ => ?_⟩
    · rw [left]
      exact afterFragment_mem p (assembling_mem hi)
    · rw [left]
      cases h : p.last <;> simp only [Channel.afterFragment, h] <;> simp [c]
    · rw [left]
      cases h : p.last <;> simp only [Channel.afterFragment, h] <;> simp [c]
    · obtain ⟨further, none⟩ := last whole
      refine ⟨further, fun only => ?_⟩
      obtain ⟨gone, free, streams⟩ := none only
      refine ⟨gone, free, fun t role => ?_⟩
      obtain ⟨others, stays, ends⟩ := streams t role
      refine ⟨others, stays, fun setend orphan ending => ?_⟩
      obtain ⟨closed, told⟩ := ends setend orphan ending
      exact ⟨closed, fun room => mem_news rfl (told (room_of_space (by omega) room))⟩
  · obtain ⟨v, run, mem, images, left⟩ := close_ends job idle hi act
    obtain ⟨header, payload, padding, others, crc, trailer⟩ := writeBlock_mem sound fits
    rw [← mem] at header payload padding others crc trailer
    refine ⟨v, run, header, payload, padding, others, left, { i with state := .queued, trailer := (s.writeBlock d i).2 }, ?_, rfl,
      rfl, crc, trailer⟩
    rw [images]
    exact modImage_mem (fun x => { x with state := .queued, trailer := (s.writeBlock d i).2 }) (assembling_mem hi)

end Sys2Proof.Machine
end

section
/-! Requests in the queue by their age stamp, and the phases of a preempt (R164, R165): O60. -/

namespace Sys2Proof.Machine

variable {s t u ref : State} {d v : Drive} {i : SessionId} {k : Tag} {r : Req} {p : Preempt}

/-! ## Requests by age stamp -/

theorem findReq_of_queue (h : t.loader.queue = s.loader.queue) (x : Nat) : t.findReq x = s.findReq x := by
  rw [State.findReq, h, ← State.findReq]

theorem findReq_modReq_self (s : State) (x : Nat) {f : Req → Req} (hf : ∀ r, (f r).stamp = r.stamp) :
    (s.modReq x f).findReq x = (s.findReq x).map f := by
  simp only [State.findReq, State.modReq, State.modLoader]
  induction s.loader.queue with
  | nil => rfl
  | cons r rs ih =>
    by_cases h : r.stamp = x
    · simp [h, hf]
    · simpa [h] using ih

theorem findReq_modReq_ne (s : State) {x y : Nat} (f : Req → Req) (hf : ∀ r, r.stamp = x → (f r).stamp = x) (h : y ≠ x) :
    (s.modReq x f).findReq y = s.findReq y := by
  simp only [State.findReq, State.modReq, State.modLoader]
  induction s.loader.queue with
  | nil => rfl
  | cons r rs ih =>
    by_cases hr : r.stamp = x
    · simpa [hr, hf r hr, h.symm] using ih
    · by_cases hy : r.stamp = y
      · simp [hy, h]
      · simpa [hr, hy] using ih

theorem stamp_of_findReq {x : Nat} (h : s.findReq x = some r) : r.stamp = x := by
  simpa using List.find?_some h

/-! ## What a loop reaches -/

/-- What one step of a loop reaches, while the others keep it, stands after the loop. -/
theorem forEach_reaches {α : Type} {P R : State → Prop} {f : α → State → State} {x : α} (invariant : ∀ y t, R t → R (f y t))
    (hit : ∀ t, R t → P (f x t)) (keep : ∀ y t, R t → P t → P (f y t)) :
    ∀ (l : List α) (s : State), x ∈ l → R s → P (forEach l f s) := by
  intro l
  induction l with
  | nil => exact fun s mem => absurd mem (List.not_mem_nil)
  | cons y l ih =>
    intro s mem h
    by_cases here : x = y
    · subst here
      exact (forEach_keeps (P := fun t => R t ∧ P t) (fun y t both => ⟨invariant y t both.1, keep y t both.1 both.2⟩) l (f x s)
        ⟨invariant x s h, hit s h⟩).2
    · exact ih (f y s) ((List.mem_cons.1 mem).resolve_left here) (invariant y s h)

/-! ## PREEMPT comes to a stream and leaves it (R51) -/

/-- R51: what a change of the causes leaves of a stream. -/
def Stream.Recaused (x y : Stream) : Prop :=
  ∃ st a b, y = { x with state := st, bufA := a, bufB := b } ∧ (st = .closed ↔ x.state = .closed)

theorem causesChanged_stream_self (s : State) (k : Tag) : (s.stream k).Recaused ((s.causesChanged k).stream k) := by
  have reopened (h : (s.stream k).state ≠ .closed) :
      (s.stream k).Recaused ((s.setStream k (Stream.refill { s.stream k with state := .opened })).stream k) := by
    obtain ⟨a, b, eq, -⟩ := refill_eq { s.stream k with state := .opened }
    rw [State.stream_setStream_self, eq]
    exact ⟨.opened, a, b, rfl, by simp [h]⟩
  unfold State.causesChanged
  dsimp only
  split
  case h_1 opened =>
    split
    · obtain stays | ⟨-, settles⟩ := suspendTest_stream_self (s.setStream k { s.stream k with state := .suspending }) k
      · rw [stays, State.stream_setStream_self]
        exact ⟨.suspending, _, _, rfl, by simp [opened]⟩
      · rw [settles, State.stream_setStream_self]
        exact ⟨.suspended, _, _, rfl, by simp [opened]⟩
    · exact ⟨_, _, _, rfl, Iff.rfl⟩
  case h_2 suspending =>
    split
    · exact ⟨_, _, _, rfl, Iff.rfl⟩
    · exact reopened (by rw [suspending]; decide)
  case h_3 suspended =>
    split
    · exact ⟨_, _, _, rfl, Iff.rfl⟩
    · exact reopened (by rw [suspended]; decide)
  case h_4 => exact ⟨_, _, _, rfl, Iff.rfl⟩

/-- R51: the targets of a stream stay at a change of PREEMPT, and so does whether it is CLOSED. -/
theorem setPreempt_stream (s : State) (on : Bool) (j k : Tag) :
    ((s.setPreempt on j).stream k).targets = (s.stream k).targets
    ∧ (((s.setPreempt on j).stream k).state = .closed ↔ (s.stream k).state = .closed)
    ∧ ((s.stream k).state ≠ .closed → j = k ∨ (s.stream k).causePreempt = on →
        ((s.setPreempt on j).stream k).causePreempt = on) := by
  by_cases ne : k = j
  · subst ne
    unfold State.setPreempt
    split
    · next still => exact ⟨rfl, Iff.rfl, fun live _ => still.resolve_left live⟩
    · obtain ⟨st, a, b, eq, closes⟩ := causesChanged_stream_self (s.modStream k fun x => { x with causePreempt := on }) k
      rw [State.modStream, State.stream_setStream_self] at closes
      rw [eq, State.modStream, State.stream_setStream_self]
      exact ⟨rfl, closes, fun _ _ => rfl⟩
  · rw [setPreempt_stream_ne on ne]
    exact ⟨rfl, Iff.rfl, fun _ h => h.resolve_left (Ne.symm ne)⟩

/-- R165: PREEMPT leaves every stream. -/
theorem endPreempt_causePreempt (h : (s.stream k).state ≠ .closed) : (s.endPreempt.stream k).causePreempt = false := by
  have unlinked : s.preemptUnlinked.streams = s.streams := preemptUnlinked_same (·.streams) (fun _ _ _ => rfl) s
  rw [endPreempt_eq]
  refine forEach_reaches (P := fun t => (t.stream k).causePreempt = false) (R := fun t => (t.stream k).state ≠ .closed) (x := k)
    (fun j t live => ?_) (fun t live => ?_) (fun j t live clear => ?_) allTags _ (mem_allTags k) ?_
  · exact fun closed => live ((setPreempt_stream t false j k).2.1.1 closed)
  · exact (setPreempt_stream t false k k).2.2 live (.inl rfl)
  · exact (setPreempt_stream t false j k).2.2 live (.inr clear)
  · rw [stream_of_streams unlinked]
    exact h

/-! ## The beginning of a preempt (R164) -/

/-- R164: PREEMPT comes to the streams that target the victim. -/
def State.preemptTargets (s : State) (v : Drive) : State :=
  forEach allTags (fun t u => if (u.stream t).targets.has v then u.setPreempt true t else u) s

theorem preemptTargets_same {β : Type} (g : State → β) (h : ∀ t k, g (t.setPreempt true k) = g t) (s : State) (v : Drive) :
    g (s.preemptTargets v) = g s := by
  refine forEach_same g _ (fun k t => ?_) _ _
  split
  · exact h t k
  · rfl

theorem preemptTargets_causePreempt (targets : (s.stream k).targets.has v = true) (live : (s.stream k).state ≠ .closed) :
    ((s.preemptTargets v).stream k).causePreempt = true := by
  refine forEach_reaches (P := fun t => (t.stream k).causePreempt = true)
    (R := fun t => (t.stream k).state ≠ .closed ∧ (t.stream k).targets.has v = true) (x := k)
    (fun j t h => ?_) (fun t h => ?_) (fun j t h set => ?_) allTags s (mem_allTags k) ⟨live, targets⟩
  · obtain ⟨live, targets⟩ := h
    split
    · obtain ⟨same, closes, -⟩ := setPreempt_stream t true j k
      exact ⟨fun closed => live (closes.1 closed), same ▸ targets⟩
    · exact ⟨live, targets⟩
  · rw [if_pos h.2]
    exact (setPreempt_stream t true k k).2.2 h.1 (.inl rfl)
  · split
    · exact (setPreempt_stream t true j k).2.2 h.1 (.inr set)
    · exact set

theorem preemptTargets_still (h : (s.stream k).targets.has v = false ∨ (s.stream k).state = .closed) :
    (s.preemptTargets v).stream k = s.stream k := by
  refine forEach_keeps (P := fun t => t.stream k = s.stream k) (fun j t same => ?_) allTags s rfl
  split
  · next targets =>
    by_cases ne : k = j
    · subst ne
      rw [same] at targets
      rw [setPreempt_closed true k (same ▸ h.resolve_left (by rw [targets]; decide))]
      exact same
    · rw [setPreempt_stream_ne true ne]
      exact same
  · exact same

/-- R164: a channel in IDLE or WRITE can be the victim. -/
def State.able (s : State) (d : Drive) : Bool := (s.chan d).state == .idle || (s.chan d).state == .write

theorem able_iff (s : State) (d : Drive) : s.able d = true ↔ (s.chan d).state = .idle ∨ (s.chan d).state = .write := by
  simp [State.able]

/-- R164: the victim of either drive, by which of them can be one. -/
theorem chooseVictim_either (s : State) : s.chooseVictim allDrives =
    if s.able 0 then
      if s.able 1 then if (s.chan 1).backlog < (s.chan 0).backlog then some 1 else some 0 else some 0
    else if s.able 1 then some 1 else none := by
  have drives : allDrives.filter s.able = (if s.able 0 then [0] else []) ++ if s.able 1 then [1] else [] := by
    rw [show allDrives = [0, 1] from rfl]
    cases h0 : s.able 0 <;> cases h1 : s.able 1 <;> simp [h0, h1]
  change (match allDrives.filter s.able with
    | [a, b] => if (s.chan b).backlog < (s.chan a).backlog then some b else some a
    | a :: _ => some a
    | [] => none) = _
  rw [drives]
  cases s.able 0 <;> cases s.able 1 <;> rfl

/-- R164: the victim is the able drive with the smaller backlog, D0 when they are equal. -/
theorem chooseVictim_eq (prefers : v ∈ r.prefers) (able : (s.chan v).state = .idle ∨ (s.chan v).state = .write)
    (least : ∀ d ∈ r.prefers, d ≠ v → (s.chan d).state = .idle ∨ (s.chan d).state = .write →
      (s.chan v).backlog < (s.chan d).backlog ∨ ((s.chan v).backlog = (s.chan d).backlog ∧ v = 0)) :
    s.chooseVictim r.prefers = some v := by
  have isAble := (able_iff s v).2 able
  cases pref : r.pref with
  | some d =>
    have only : r.prefers = [d] := by rw [Req.prefers, pref]
    rw [only] at prefers ⊢
    obtain rfl := List.mem_singleton.1 prefers
    have able : [v].filter s.able = [v] := by simp [isAble]
    change (match [v].filter s.able with
      | [a, b] => if (s.chan b).backlog < (s.chan a).backlog then some b else some a
      | a :: _ => some a
      | [] => none) = _
    rw [able]
  | none =>
    have both : r.prefers = allDrives := by rw [Req.prefers, pref]
    rw [both] at least ⊢
    have other (d : Drive) (ne : d ≠ v) (h : s.able d = true) := least d (mem_allDrives d) ne ((able_iff s d).1 h)
    rw [chooseVictim_either]
    match v, isAble, other with
    | 0, isAble, other =>
      rw [if_pos isAble]
      split
      · next second =>
        have := other 1 (by decide) second
        rw [if_neg (by omega)]
      · rfl
    | 1, isAble, other =>
      rw [if_pos isAble, if_pos isAble]
      split
      · next first =>
        rw [if_pos ((other 0 (by decide) first).resolve_right fun h => absurd h.2 (by decide))]
      · rfl

/-- R164: the record of a preempt that begins, counted. -/
def State.preempting (s : State) (r : Req) (v : Drive) : State :=
  (s.setPreemptRec (some { victim := v, cart := (s.bayCart v).map (·.uid), mount := r.stamp, phase := .draining })).countLoader
    fun c => { c with preempts := c.preempts.add 1 }

/-- R164: the victim is freed of its streams and sessions. -/
def State.victimCleared (s : State) (r : Req) (v : Drive) : State :=
  ((s.preempting r v).preemptTargets v).failAttached v .preempted

/-- R164: the MOUNT's first leg becomes the victim's cartridge's way home. -/
def Req.viaVictim (r : Req) (v : Drive) (home : Loc) : Req :=
  { r with
    src := some (bayLoc v), dst := home, second := r.src.map fun l => (l, bayLoc v)
    rewritten := true, state := .waiting .preempt }

theorem beginPreempt_eq (s : State) (r : Req) (v : Drive) : s.beginPreempt r v =
    (s.victimCleared r v).modReq r.stamp fun x => x.viaVictim v (homeOr (s.bayCart v)) := rfl

theorem victimCleared_loader (s : State) (r : Req) (v : Drive) : (s.victimCleared r v).loader = (s.preempting r v).loader :=
  (State.failAttached_loader _ v .preempted).trans (preemptTargets_same (·.loader) (fun t k => t.setPreempt_loader true k) _ v)

theorem victimCleared_streams (s : State) (r : Req) (v : Drive) :
    (s.victimCleared r v).streams = ((s.preempting r v).preemptTargets v).streams := State.failAttached_streams _ v .preempted

theorem victimCleared_session (s : State) (r : Req) (v : Drive) (i : SessionId) : (s.victimCleared r v).session i =
    if (s.session i).drive = some v ∧ (s.session i).state ≠ .free then (s.session i).ended else s.session i := by
  have same : ((s.preempting r v).preemptTargets v).session i = s.session i :=
    session_of_restore (preemptTargets_same (·.restore) (fun t k => t.setPreempt_restore true k) _ v) i
  rw [State.victimCleared, failAttached_session, same]

theorem modReq_loader (s : State) (x : Nat) (f : Req → Req) : (s.modReq x f).loader =
    { s.loader with queue := s.loader.queue.map fun r => if r.stamp = x then f r else r } := rfl

/-- R164: the beginning of a preempt. -/
theorem beginPreempt_loader (s : State) (r : Req) (v : Drive) : (s.beginPreempt r v).loader =
    { (s.preempting r v).loader with queue := s.loader.queue.map fun x =>
        if x.stamp = r.stamp then x.viaVictim v (homeOr (s.bayCart v)) else x } := by
  rw [beginPreempt_eq, modReq_loader, victimCleared_loader]
  rfl

theorem beginPreempt_streams (s : State) (r : Req) (v : Drive) :
    (s.beginPreempt r v).streams = ((s.preempting r v).preemptTargets v).streams := by
  rw [beginPreempt_eq, State.modReq, State.modLoader_streams, victimCleared_streams]

theorem beginPreempt_session (s : State) (r : Req) (v : Drive) (i : SessionId) : (s.beginPreempt r v).session i =
    if (s.session i).drive = some v ∧ (s.session i).state ≠ .free then (s.session i).ended else s.session i := by
  rw [beginPreempt_eq, State.modReq, session_of_restore (State.modLoader_restore _ _), victimCleared_session]

theorem beginPreempt_findReq (v : Drive) (h : s.findReq r.stamp = some r) :
    (s.beginPreempt r v).findReq r.stamp = some (r.viaVictim v (homeOr (s.bayCart v))) := by
  rw [beginPreempt_eq, findReq_modReq_self (f := fun x => x.viaVictim v (homeOr (s.bayCart v))) _ _ fun _ => rfl,
    findReq_of_queue (congrArg Loader.queue (victimCleared_loader s r v))]
  rw [show (s.preempting r v).findReq r.stamp = s.findReq r.stamp from rfl, h]
  rfl

/-- R164: a MOUNT with PREEMPT that no bay is free for begins a preempt. -/
theorem mountBlocked_begins (preempt : r.preempt = true) (none : s.loader.preempt = none)
    (busy : ∀ d ∈ r.prefers, (s.chan d).state ≠ .unmounted ∨ s.presence (bayLoc d) ≠ .empty)
    (victim : s.chooseVictim r.prefers = some v) : s.mountBlocked r = s.beginPreempt r v := by
  have noBay : r.prefers.any s.bayFree = false := by
    refine List.any_eq_false.2 fun d hd free => ?_
    simp only [State.bayFree, Bool.and_eq_true, beq_iff_eq] at free
    exact (busy d hd).elim (fun h => h free.1) fun h => h free.2
  simp only [State.mountBlocked, preempt, if_true, none, Option.isSome_none, Bool.false_eq_true, if_false, noBay, victim]

/-! ## The end of the legs of the MOUNT (R164) -/

theorem attachWaiting_same {β : Type} (g : State → β) (h : ∀ t i f, g (t.modSession i f) = g t) (s : State) (stamp : Nat)
    (d : Drive) (link : Option (Drive × Option Nat)) : g (s.attachWaiting stamp d link) = g s := by
  refine forEach_same g _ (fun i t => ?_) _ _
  split
  · exact h t i _
  · rfl

/-- R119: a session that waits on a MOUNT, attached. -/
def Session.attachedTo (x : Session) (d : Drive) (link : Option (Drive × Option Nat)) : Session :=
  { x with state := .waitRead, drive := some d, mountReq := none, link := link }

theorem attachWaiting_session (s : State) (stamp : Nat) (d : Drive) (link : Option (Drive × Option Nat)) (i : SessionId) :
    (s.attachWaiting stamp d link).session i =
      if (s.session i).mountReq = some stamp then (s.session i).attachedTo d link else s.session i := by
  refine forEach_session _ (fun _ x => if x.mountReq = some stamp then x.attachedTo d link else x) (fun x t => ?_)
    (fun x y t ne => ?_) s i
  · split
    · exact session_modSession_self t x _
    · rfl
  · split
    · exact session_modSession_ne t _ ne
    · rfl

theorem mountLegEnd_first (has : s.loader.preempt = some p) (mine : p.mount = r.stamp) (second : r.second.isSome = true) :
    s.mountLegEnd r = s.setPreemptRec (some { p with phase := .loading }) := by
  have filter : s.loader.preempt.filter (·.mount == r.stamp) = some p := by simp [has, mine]
  simp only [State.mountLegEnd, filter, second, if_true]

theorem bayOf_bayLoc (d : Drive) : bayOf (bayLoc d) = some d := by
  match d with
  | 0 => rfl
  | 1 => rfl

theorem mountLegEnd_second (has : s.loader.preempt = some p) (mine : p.mount = r.stamp) (second : r.second = none)
    (dst : r.dst = bayLoc v) : s.mountLegEnd r =
      (s.setPreemptRec (some { p with phase := .restoring })).attachWaiting r.stamp v (some (p.victim, p.cart)) := by
  have filter : s.loader.preempt.filter (·.mount == r.stamp) = some p := by simp [has, mine]
  simp only [State.mountLegEnd, filter, second, dst, bayOf_bayLoc, Option.isSome_none, Bool.false_eq_true, if_false]

/-! ## The end of the victim's use, and of the preempt (R165) -/

/-- R165: what a preempt's end leaves. -/
def PreemptEnded (s t : State) : Prop :=
  t.loader.preempt = none ∧ (∀ i, (t.session i).link = none)
  ∧ (∀ x : Tag, (s.stream x).state ≠ .closed → (t.stream x).causePreempt = false)
  ∧ t.loader.queue = s.loader.queue ∧ t.picker = s.picker ∧ t.chans = s.chans ∧ t.mem = s.mem ∧ t.params = s.params

theorem endPreempt_ended (s : State) : PreemptEnded s s.endPreempt := by
  have loader := endPreempt_loader s
  refine ⟨?_, fun i => ?_, fun x => endPreempt_causePreempt, ?_, ?_, endPreempt_chans s,
    mem_of_outside (State.endPreempt_outside s), params_of_outside (State.endPreempt_outside s)⟩
  · rw [loader]
  · rw [endPreempt_session]
  · rw [loader]
  · rw [State.picker, loader, ← State.picker]

/-- R165: the sessions' links, cleared. -/
def State.unlinked (s : State) : State := forEach allSessions (fun i t => t.modSession i fun x => { x with link := none }) s

theorem unlinked_same {β : Type} (g : State → β) (h : ∀ t i f, g (t.modSession i f) = g t) (s : State) : g s.unlinked = g s :=
  forEach_same g _ (fun i t => h t i _) _ _

theorem unlinked_session (s : State) (i : SessionId) : s.unlinked.session i = { s.session i with link := none } :=
  forEach_session (fun i t => t.modSession i fun x => { x with link := none }) (fun _ x => { x with link := none })
    (fun x t => session_modSession_self t x _) (fun _ _ t ne => session_modSession_ne t _ ne) s i

theorem restoreOver_iff (s : State) : s.restoreOver = true ↔ ∀ i, (s.session i).link = none ∨ (s.session i).state = .free
    ∨ (s.session i).state = .awaitNext ∨ (s.session i).final = true := by
  simp only [State.restoreOver, List.all_eq_true, Bool.or_eq_true, Option.isNone_iff_eq_none, beq_iff_eq]
  exact ⟨fun h i => by simpa only [or_assoc] using h i (mem_allSessions i), fun h i _ => by simpa only [or_assoc] using h i⟩

theorem preemptTest_restoring (has : s.loader.preempt = some p) (phase : p.phase = .restoring) :
    ref.preemptTest s = if s.restoreOver then s.beginRemount p else s := by
  simp only [State.preemptTest, has, phase]

theorem preemptTest_remounting (has : s.loader.preempt = some p) (phase : p.phase = .remounting) : ref.preemptTest s =
    if ref.victimFailed s p ∨ (p.released ∧ (s.chan p.victim).state ≠ .mounting) then s.endPreempt else s := by
  simp only [State.preemptTest, has, phase]

/-- R165: the victim's cartridge still stands in its bay. -/
theorem beginRemount_still {c : Cart} (bay : s.bayCart p.victim = some c) (same : p.cart = some c.uid) :
    s.beginRemount p = s.unlinked.endPreempt := by
  have bay' : s.unlinked.bayCart p.victim = some c := (unlinked_same (·.bayCart p.victim) (fun _ _ _ => rfl) s).trans bay
  have still : (p.cart == some c.uid) = true := by rw [same, beq_self_eq_true]
  change (if (match s.unlinked.bayCart p.victim with | some c => p.cart == some c.uid | none => false) = true then
    s.unlinked.endPreempt else _) = _
  rw [bay']
  exact if_pos still

theorem remountReq_both {c : Cart} {h : Fin 24} {l : Loc} {x : Nat} (bay : s.bayCart p.victim = some c) (home : c.home = some h)
    (full : s.presence (bayLoc p.victim) ≠ .empty) (cart : p.cart = some x) (at_ : s.cartLoc x = some l) :
    s.remountReq p = { newReq .remount (some (bayLoc p.victim)) (slotLoc h) with
      second := some (l, bayLoc p.victim), drive := some p.victim } := by
  have away : homeOr (s.bayCart p.victim) = slotLoc h := by rw [bay]; simp only [homeOr, Option.bind_some, home]
  have back : (p.cart.bind s.cartLoc).map (fun l => (l, bayLoc p.victim)) = some (l, bayLoc p.victim) := by
    rw [cart, Option.bind_some, at_, Option.map_some]
  simp only [State.remountReq, if_neg full, away, back, Option.isSome_some, if_true] <;> rfl

/-- R165: phase REMOUNTING, with the REMOUNT queued. -/
def State.remounting (s : State) (p : Preempt) (r : Req) : State :=
  (s.unlinked.setPreemptRec (some { p with phase := .remounting, remount := some s.loader.nextStamp })).joinInternal r

/-- R165: another cartridge stands in the bay. -/
theorem beginRemount_queued {c : Cart} (bay : s.bayCart p.victim = some c) (other : p.cart ≠ some c.uid)
    (room : s.loader.queue.length < 10) (legs : (s.remountReq p).src ≠ some (s.remountReq p).dst) :
    s.beginRemount p = s.remounting p (s.remountReq p) := by
  have bay' : s.unlinked.bayCart p.victim = some c := (unlinked_same (·.bayCart p.victim) (fun _ _ _ => rfl) s).trans bay
  have req : s.unlinked.remountReq p = s.remountReq p := unlinked_same (·.remountReq p) (fun _ _ _ => rfl) s
  have stamp : s.unlinked.loader.nextStamp = s.loader.nextStamp := unlinked_same (·.loader.nextStamp) (fun _ _ _ => rfl) s
  have gone : ¬ (p.cart == some c.uid) = true := fun h => other (eq_of_beq h)
  have full : ¬ s.unlinked.queueFull = true := by
    rw [unlinked_same (·.queueFull) (fun _ _ _ => rfl) s]
    intro h
    have : 10 ≤ s.loader.queue.length := of_decide_eq_true h
    omega
  change (if (match s.unlinked.bayCart p.victim with | some c => p.cart == some c.uid | none => false) = true then _ else
    if s.unlinked.queueFull = true then _ else if (s.unlinked.remountReq p).src = some (s.unlinked.remountReq p).dst then _ else
      (s.unlinked.setPreemptRec (some { p with phase := .remounting, remount := some s.unlinked.loader.nextStamp })).joinInternal
        (s.unlinked.remountReq p)) = _
  rw [bay', if_neg gone, if_neg full, req, if_neg legs, stamp]
  rfl

theorem bayLoc_ne_slotLoc (d : Drive) (h : Fin 24) : bayLoc d ≠ slotLoc h := by
  intro eq
  have := congrArg Fin.val eq
  simp only [bayLoc, slotLoc] at this
  omega

/-- R165: the end of the victim's use, where its cartridge has given way to another one. -/
theorem remounting_effect {r : Req} :
    (s.remounting p r).loader.preempt = some { p with phase := .remounting, remount := some s.loader.nextStamp }
    ∧ (∀ i, ((s.remounting p r).session i).link = none)
    ∧ (s.remounting p r).loader.queue = s.loader.queue ++
        [{ r with stamp := s.loader.nextStamp, id := BitVec.ofNat 16 s.loader.nextId, internal := true }]
    ∧ (s.remounting p r).streams = s.streams ∧ (s.remounting p r).chans = s.chans ∧ (s.remounting p r).picker = s.picker
    ∧ (s.remounting p r).mem = s.mem ∧ (s.remounting p r).params = s.params := by
  have loader : s.unlinked.loader = s.loader := unlinked_same (·.loader) (fun _ _ _ => rfl) s
  refine ⟨rfl, fun i => ?_, ?_, unlinked_same (·.streams) (fun _ _ _ => rfl) s, unlinked_same (·.chans) (fun _ _ _ => rfl) s,
    unlinked_same (·.picker) (fun _ _ _ => rfl) s, unlinked_same (·.mem) (fun _ _ _ => rfl) s,
    unlinked_same (·.params) (fun _ _ _ => rfl) s⟩
  · have same : (s.remounting p r).session i = s.unlinked.session i := session_of_restore rfl i
    rw [same, unlinked_session]
  · change s.unlinked.loader.queue ++ [{ r with
      stamp := s.unlinked.loader.nextStamp, id := BitVec.ofNat 16 s.unlinked.loader.nextId, internal := true }] = _
    rw [loader]

theorem unlinked_endPreempt_ended (s : State) : PreemptEnded s s.unlinked.endPreempt := by
  obtain ⟨gone, links, causes, queue, picker, chans, mem, params⟩ := endPreempt_ended s.unlinked
  refine ⟨gone, links, fun x live => causes x ?_, queue.trans (unlinked_same (·.loader.queue) (fun _ _ _ => rfl) s),
    picker.trans (unlinked_same (·.picker) (fun _ _ _ => rfl) s), chans.trans (unlinked_same (·.chans) (fun _ _ _ => rfl) s),
    mem.trans (unlinked_same (·.mem) (fun _ _ _ => rfl) s), params.trans (unlinked_same (·.params) (fun _ _ _ => rfl) s)⟩
  rw [stream_of_streams (unlinked_same (·.streams) (fun _ _ _ => rfl) s)]
  exact live

theorem endPreempt_preempt (s : State) : s.endPreempt.loader.preempt = none := by rw [endPreempt_loader]

/-- R165: the end of the REMOUNT of a preempt, or of its MOUNT. -/
theorem endReq_preempt (r : Req) (e : ReqEnd) (has : s.loader.preempt = some p) : s.endReq r e =
    if e = .done then s.closeReq r e else if p.remount = some r.stamp then (s.closeReq r e).endPreempt
    else if p.mount = r.stamp then
      (if p.unmountTaken then (s.closeReq r e).beginRemount p else (s.closeReq r e).endPreempt)
    else s.closeReq r e := by
  obtain ⟨-, same, -⟩ := s.closeReq_loader r e
  simp only [State.endReq, same, has]

/-- R152: a MOUNT whose leg begins in a bay is judged by the row that the bay gives. -/
theorem verdict_of_bay (kind : r.kind = .mount) (src : r.src = some (bayLoc v)) (sure : s.presence (bayLoc v) ≠ .unsure) (sure' : s.presence r.dst ≠ .unsure)
    (shut : s.inOpenMagazine r.dst = false) (x : Verdict) (judged : s.judgeSource r v = some x) : s.verdict r = x := by
  have places : r.places = [bayLoc v, r.dst] := by simp only [Req.places, kind, src]; rfl
  have bay : s.inOpenMagazine (bayLoc v) = false := by
    match v with
    | 0 => rfl
    | 1 => rfl
  have none : (r.places.any fun l => s.presence l == .unsure) = false := by simp [places, sure, sure']
  have none' : r.places.any s.inOpenMagazine = false := by simp [places, bay, shut]
  have source : (r.src.bind bayOf).bind (s.judgeSource r) = some x := by rw [src, Option.bind_some, bayOf_bayLoc, Option.bind_some, judged]
  simp only [State.verdict, kind, none, none', source, reduceCtorEq, false_and, if_false, Bool.false_eq_true]

theorem preemptBusy_iff (s : State) : s.preemptBusy = true ↔
    ∃ x : Tag, (s.stream x).causePreempt = true ∧ (s.stream x).state ≠ .suspended ∧ (s.stream x).state ≠ .closed := by
  simp only [State.preemptBusy, List.any_eq_true, Bool.and_eq_true, bne_iff_ne, and_assoc]
  exact ⟨fun ⟨x, _, h⟩ => ⟨x, h⟩, fun ⟨x, h⟩ => ⟨x, mem_allTags x, h⟩⟩

theorem judgeSource_of_preempt (has : s.loader.preempt = some p) (mine : p.mount = r.stamp) (kind : r.kind = .mount) :
    s.judgeSource r v = if s.preemptBusy then some (.wait .preempt) else match (s.chan v).state with
      | .idle | .write | .read => some (.unmount v)
      | .unmounted => if s.bayPos v = .on then some (.unmount v) else none
      | .unmounting => if r.force then some (.force v) else some (.wait .channel)
      | _ => some (.wait .channel) := by
  simp only [State.judgeSource, has, mine, kind, Option.any_some, beq_self_eq_true, Bool.true_and] <;> rfl

/-- Settles O60: a preempt's beginning, its phases and its end. -/
theorem preemptsGoThroughTheirPhases : Obligations.PreemptsGoThroughTheirPhases := by
  unfold Obligations.PreemptsGoThroughTheirPhases
  intro ref s v others ended
  refine ⟨fun r preempt has => ?_, fun r found kind preempt none prefers able busy least => ?_,
    fun r p has mine kind src sure sure' shut => ⟨fun busy => ?_, fun settled able => ?_⟩,
    fun r p has mine => ⟨fun second => ?_, fun second dst => ?_⟩,
    fun p has victim phase => ⟨fun used => ?_, fun c unused bay same => ?_, fun c h x l unused bay home other full cart at_ room => ?_⟩,
    fun p has victim phase => ⟨fun released left => ?_, fun failed before was => ?_, fun held live => ?_,
      fun r e failed mine => ?_, fun r e other notMount => ?_, fun r kind mine dst second => ?_, fun r kind other => ?_⟩⟩
  · simp only [State.mountBlocked, preempt, has, if_true]
  · rw [mountBlocked_begins preempt none busy (chooseVictim_eq prefers able least)]
    have loader := beginPreempt_loader s r v
    have stream := stream_of_streams (beginPreempt_streams s r v)
    have outside : (s.beginPreempt r v).outside = s.outside := State.beginPreempt_outside s r v
    refine ⟨?_, ?_, fun x targets live => ?_, fun x still => ?_, fun i attached => ?_, fun i apart => ?_,
      beginPreempt_findReq v found, ?_, ?_, mem_of_outside outside, params_of_outside outside⟩
    · rw [loader]
      rfl
    · rw [loader]
      rfl
    · rw [stream]
      exact preemptTargets_causePreempt (s := s.preempting r v) targets live
    · rw [stream]
      exact preemptTargets_still (s := s.preempting r v) still
    · rw [beginPreempt_session]
      split
      · rfl
      · next h => exact Decidable.not_not.1 fun live => h ⟨attached, live⟩
    · rw [beginPreempt_session, if_neg fun h => apart h.1]
    · rw [State.picker, loader]
      rfl
    · rw [loader]
      rfl
  · refine verdict_of_bay kind src sure sure' shut _ ?_
    rw [judgeSource_of_preempt has mine kind, if_pos ((preemptBusy_iff s).2 busy)]
  · refine verdict_of_bay kind src sure sure' shut _ ?_
    have idle : ¬ s.preemptBusy = true := fun busy => by
      obtain ⟨x, cause, live, open_⟩ := (preemptBusy_iff s).1 busy
      exact (settled x cause).elim live open_
    rw [judgeSource_of_preempt has mine kind, if_neg idle]
    obtain h | h := able <;> rw [h]
  · exact mountLegEnd_first has mine second
  · rw [mountLegEnd_second has mine second dst]
    have same (i : SessionId) : (s.setPreemptRec (some { p with phase := .restoring })).session i = s.session i :=
      session_of_restore rfl i
    refine ⟨?_, fun i waits => ?_, fun i other => ?_, ?_, ?_, ?_, ?_, ?_⟩
    · exact attachWaiting_same (·.loader.preempt) (fun _ _ _ => rfl) _ _ _ _
    · rw [attachWaiting_session, same, if_pos waits]
      rfl
    · rw [attachWaiting_session, same, if_neg other]
    · exact attachWaiting_same (·.chans) (fun _ _ _ => rfl) _ _ _ _
    · exact attachWaiting_same (·.streams) (fun _ _ _ => rfl) _ _ _ _
    · exact attachWaiting_same (·.loader.queue) (fun _ _ _ => rfl) _ _ _ _
    · exact attachWaiting_same (·.mem) (fun _ _ _ => rfl) _ _ _ _
    · exact attachWaiting_same (·.params) (fun _ _ _ => rfl) _ _ _ _
  · rw [preemptTest_restoring has phase, if_neg fun unused => used ((restoreOver_iff s).1 unused)]
  · subst victim
    rw [preemptTest_restoring has phase, if_pos ((restoreOver_iff s).2 unused), beginRemount_still bay same]
    exact unlinked_endPreempt_ended s
  · subst victim
    have req := remountReq_both bay home full cart at_
    have legs : (s.remountReq p).src ≠ some (s.remountReq p).dst := by
      rw [req]
      exact fun eq => bayLoc_ne_slotLoc _ _ (Option.some.inj eq)
    have moved : p.cart ≠ some c.uid := by
      rw [cart]
      exact fun eq => other (Option.some.inj eq).symm
    rw [preemptTest_restoring has phase, if_pos ((restoreOver_iff s).2 unused), beginRemount_queued bay moved room legs, req]
    obtain ⟨preempt, links, queue, streams, chans, picker, mem, params⟩ := remounting_effect (s := s) (p := p) (r :=
      { newReq .remount (some (bayLoc p.victim)) (slotLoc h) with second := some (l, bayLoc p.victim), drive := some p.victim })
    exact ⟨preempt, links, queue, streams, chans, picker, mem, params⟩
  · subst victim
    rw [preemptTest_remounting has phase, if_pos (.inr ⟨released, left⟩)]
    exact endPreempt_ended s
  · subst victim
    have fails : ref.victimFailed s p = true := by simp [State.victimFailed, failed, before, was]
    rw [preemptTest_remounting has phase, if_pos (.inl fails)]
    exact endPreempt_ended s
  · subst victim
    have stands : ¬ ref.victimFailed s p = true := by simp [State.victimFailed, live]
    rw [preemptTest_remounting has phase, if_neg (fun h => h.elim stands fun h => absurd h.1 (by rw [held]; decide))]
  · rw [endReq_preempt r e has, if_neg failed, if_pos mine, endPreempt_preempt]
  · obtain ⟨-, same, -⟩ := s.closeReq_loader r e
    rw [endReq_preempt r e has, if_neg other, if_neg notMount, ite_self]
    exact same.trans has
  · simp only [State.legKind, kind, has, mine, dst, victim, second, Option.isNone_none, and_self, if_true]
    rfl
  · simp only [State.legKind, kind, has, other, false_and, if_false]

end Sys2Proof.Machine
end

section
/-! OPEN_RESTORE (R118): O52. -/

namespace Sys2Proof.Machine

variable {s u : State} {d : Drive} {i : SessionId} {l : Loc} {k : Cart}
  {tag : Half} {preempt cont : Bool} {p0 p1 p2 p3 p4 p5 : Word}

theorem exec_openRestore (s : State) (tag : Half) (preempt cont : Bool) (p0 p1 p2 p3 p4 p5 : Word) :
    exec (.openRestore tag preempt cont p0 p1 p2 p3 p4 p5) s =
      .next (s.command (.openRestore tag preempt cont p0 p1 p2 p3 p4 p5) 0x30 tag
        (settled (openRestoreRule tag preempt cont p0 p1 p2 p3 p4 p5))) := rfl

theorem sessionOf_some {w : Word} (h : w.toNat = i.val) : sessionOf w = some i := by
  rw [sessionOf, dif_pos (h ▸ i.isLt)]
  exact congrArg some (Fin.ext h)

theorem sessionOf_none {w : Word} (h : 3 < w.toNat) : sessionOf w = none := dif_neg (by omega)

theorem prefOf_isSome_iff {w : Word} : (prefOf w).isSome = true ↔ w.toNat ≤ 2 := by
  unfold prefOf
  split
  · next h => subst h; decide
  · split
    · next h => subst h; decide
    · split
      · next h => subst h; decide
      · next h0 h1 h2 =>
        have n0 : w.toNat ≠ 0 := fun h => h0 (BitVec.eq_of_toNat_eq h)
        have n1 : w.toNat ≠ 1 := fun h => h1 (BitVec.eq_of_toNat_eq h)
        have n2 : w.toNat ≠ 2 := fun h => h2 (BitVec.eq_of_toNat_eq h)
        simp only [Option.isSome_none, Bool.false_eq_true, false_iff]
        omega

/-! ## The checks -/

theorem openRestoreRule_bad (s : State) (tag : Half) (preempt cont : Bool) (p1 p2 p3 : Word)
    (h : 3 < p0.toNat ∨ 2 < p5.toNat ∨ p4.toNat = 24 ∨ 26 < p4.toNat) :
    openRestoreRule tag preempt cont p0 p1 p2 p3 p4 p5 s = s.turnAway .badParam := by
  unfold openRestoreRule
  split
  · next i pref l hi hp hl =>
    refine if_pos ?_
    have named : ¬ 3 < p0.toNat := fun bad => by rw [sessionOf_none bad] at hi; cases hi
    have preferred : p5.toNat ≤ 2 := prefOf_isSome_iff.1 (by rw [hp]; rfl)
    have located := locOf_val hl
    have inside := l.isLt
    exact Fin.ext (show l.val = 24 by omega)
  · rfl

/-- R118: with a session, a preference and a place named, the checks look at the session and at the cartridge record. -/
theorem openRestoreRule_eq {pref : Option Drive} (hi : p0.toNat = i.val) (hp : prefOf p5 = some pref) (hl : p4.toNat = l.val)
    (mail : l ≠ 24) : openRestoreRule tag preempt cont p0 p1 p2 p3 p4 p5 s =
      if (s.session i).state ≠ .free then s.turnAway .refusedState
      else match (s.loc l).cart with
        | none => s.turnAway .refusedState
        | some c =>
          if c.media ≠ .data ∧ c.media ≠ .unknown then s.turnAway .refusedState
          else match bayOf l with
            | some d => s.openOnBay i (openedSession tag cont p1 p2 p3) d
            | none => s.openOnSlot i (openedSession tag cont p1 p2 p3) l c.uid pref preempt := by
  have place : l ≠ mailLoc := mail
  simp only [openRestoreRule, sessionOf_some hi, hp, locOf_some hl, place, if_false] <;> rfl

theorem openRestoreRule_refused {pref : Option Drive} (hi : p0.toNat = i.val) (hp : prefOf p5 = some pref)
    (hl : p4.toNat = l.val) (mail : l ≠ 24) (h : (s.session i).state ≠ .free ∨ (s.loc l).cart = none
      ∨ ∃ k, (s.loc l).cart = some k ∧ (k.media = .cleaning ∨ k.media = .expired)) :
    openRestoreRule tag preempt cont p0 p1 p2 p3 p4 p5 s = s.turnAway .refusedState := by
  rw [openRestoreRule_eq hi hp hl mail]
  obtain busy | none | ⟨k, cart, media⟩ := h
  · exact if_pos busy
  · rw [none, ite_self]
  · have bad : k.media ≠ .data ∧ k.media ≠ .unknown := by obtain h | h := media <;> rw [h] <;> decide
    rw [cart]
    dsimp only
    rw [if_pos bad, ite_self]

theorem openRestoreRule_opens {pref : Option Drive} (hi : p0.toNat = i.val) (hp : prefOf p5 = some pref)
    (hl : p4.toNat = l.val) (mail : l ≠ 24) (free : (s.session i).state = .free) (cart : (s.loc l).cart = some k)
    (media : k.media = .data ∨ k.media = .unknown) : openRestoreRule tag preempt cont p0 p1 p2 p3 p4 p5 s =
      match bayOf l with
      | some d => s.openOnBay i (openedSession tag cont p1 p2 p3) d
      | none => s.openOnSlot i (openedSession tag cont p1 p2 p3) l k.uid pref preempt := by
  have good : ¬ (k.media ≠ .data ∧ k.media ≠ .unknown) := fun h => media.elim h.1 h.2
  rw [openRestoreRule_eq hi hp hl mail, if_neg (not_not_intro free), cart]
  exact if_neg good

/-! ## A session on a bay -/

theorem bayOf_of_val (h : l.val = 25 + d.val) : bayOf l = some d := by
  rw [bayOf, dif_pos (by omega)]
  exact congrArg some (Fin.ext (by simp only [h]; omega))

theorem bayOf_of_slot (h : l.val < 24) : bayOf l = none := dif_neg (by omega)

/-- R118: a session that a bay's channel serves, or that waits for its reader. -/
def Session.onBay (x : Session) (d : Drive) (reads : Bool) (time : Nat) : Session :=
  if reads then { x with state := .active, drive := some d, stall := some time }
  else { x with state := .waitRead, drive := some d }

theorem openOnBay_eq (x : Session) (live : (s.chan d).state ≠ .failed) : s.openOnBay i x d =
    { state := s.setSession i (x.onBay d ((s.chan d).state = .read) s.timebase), outcome := .accepted } := by
  simp only [State.openOnBay, live, if_false, Session.onBay, decide_eq_true_eq]

/-! ## A session that waits on a MOUNT -/

/-- R118: a session that waits on the MOUNT of an age stamp. -/
def Session.onMount (x : Session) (stamp : Nat) : Session := { x with state := .waitMount, mountReq := some stamp }

/-- R118, R149: the MOUNT that a session on a storage slot asks for. -/
def sessionMount (l : Loc) (uid : Nat) (pref : Option Drive) (preempt : Bool) : Req :=
  { newReq .mount (some l) (bayLoc (pref.getD 0)) with pref := pref, preempt := preempt, cart := some uid }

theorem openOnSlot_shared {x : Session} {uid : Nat} {pref : Option Drive} {r : Req}
    (h : s.loader.queue.find? (fun r => r.kind == .mount && r.cart == some uid) = some r) :
    s.openOnSlot i x l uid pref preempt = { state := s.setSession i (x.onMount r.stamp), outcome := .accepted } := by
  simp only [State.openOnSlot, h] <;> rfl

theorem openOnSlot_full {x : Session} {uid : Nat} {pref : Option Drive}
    (h : s.loader.queue.find? (fun r => r.kind == .mount && r.cart == some uid) = none) (full : 10 ≤ s.loader.queue.length) :
    s.openOnSlot i x l uid pref preempt = s.turnAway .refusedBusy := by
  have busy : s.queueFull = true := decide_eq_true full
  simp only [State.openOnSlot, h, busy, if_true]

theorem openOnSlot_queued {x : Session} {uid : Nat} {pref : Option Drive}
    (h : s.loader.queue.find? (fun r => r.kind == .mount && r.cart == some uid) = none) (room : s.loader.queue.length < 10) :
    s.openOnSlot i x l uid pref preempt =
      { state := (s.setSession i (x.onMount s.loader.nextStamp)).joinInternal (sessionMount l uid pref preempt)
        outcome := .accepted } := by
  have busy : s.queueFull = false := decide_eq_false (show ¬ 10 ≤ _ by omega)
  simp only [State.openOnSlot, h, busy, Bool.false_eq_true, if_false] <;> rfl

/-- Settles O52: the checks of OPEN_RESTORE, and the session that it opens on a bay or on a MOUNT. -/
theorem openRestoreOpensASession : Obligations.OpenRestoreOpensASession := by
  unfold Obligations.OpenRestoreOpensASession
  intro s tag preempt cont p0 p1 p2 p3 p4 p5 c
  have arm := exec_openRestore s tag preempt cont p0 p1 p2 p3 p4 p5
  refine ⟨fun bad => turnedAway_of_settled arm (openRestoreRule_bad _ tag preempt cont p1 p2 p3 bad) rfl,
    fun i l hi hl le mail => ?_⟩
  obtain ⟨pref, hp⟩ := Option.isSome_iff_exists.1 (prefOf_isSome_iff.2 le)
  refine ⟨fun refused => turnedAway_of_settled arm (openRestoreRule_refused (s := s.atOwner) hi hp hl mail refused) rfl, ?_⟩
  intro k free cart media opened
  have rule := openRestoreRule_opens (s := s.atOwner) (tag := tag) (preempt := preempt) (cont := cont) (p1 := p1) (p2 := p2)
    (p3 := p3) hi hp hl mail free cart media
  refine ⟨fun d bay => ⟨fun failed => ?_, fun live => ?_⟩, fun slot => ⟨fun r shared => ?_, fun alone => ⟨fun full => ?_, fun room => ?_⟩⟩⟩
  · rw [bayOf_of_val bay] at rule
    exact turnedAway_of_settled arm (rule.trans (if_pos failed)) rfl
  · rw [bayOf_of_val bay] at rule
    refine ⟨_, endsSettled_of_settled arm (rule.trans (openOnBay_eq (s := s.atOwner) _ live)) rfl, ?_⟩
    by_cases reads : (s.chan d).state = .read <;> simp [Session.onBay, reads, opened, openedSession]
  · rw [bayOf_of_slot slot] at rule
    exact ⟨_, endsSettled_of_settled arm (rule.trans (openOnSlot_shared (s := s.atOwner) shared)) rfl,
      by simp [opened, openedSession, Session.onMount], rfl, rfl⟩
  · rw [bayOf_of_slot slot] at rule
    exact turnedAway_of_settled arm (rule.trans (openOnSlot_full (s := s.atOwner) alone full)) rfl
  · rw [bayOf_of_slot slot] at rule
    have joined : ((s.atOwner.setSession i ((openedSession tag cont p1 p2 p3).onMount s.loader.nextStamp)).joinInternal
        (sessionMount l k.uid pref preempt)).session i = (openedSession tag cont p1 p2 p3).onMount s.loader.nextStamp :=
      (session_of_restore rfl i).trans (State.session_setSession_self s.atOwner i _)
    refine ⟨_, endsSettled_of_settled arm (rule.trans (openOnSlot_queued (s := s.atOwner) alone room)) rfl, ?_, ?_, ?_, rfl, rfl,
      _, rfl, rfl, rfl, rfl, rfl, rfl, rfl⟩
    all_goals rw [show s.atOwner.loader.nextStamp = s.loader.nextStamp from rfl, joined]
    · simp [opened, openedSession, Session.onMount]
    all_goals rfl

end Sys2Proof.Machine
end

section
/-! The unpack engine's choice of a requester, and the end of a decode (R22 to R25, R122, R123): O53. -/

namespace Sys2Proof.Machine

variable {s t u : State} {d : Drive} {i : SessionId} {q : Requester} {r : ChunkRec} {id : Nat} {j : DecodeJob}

/-! ## The requester that is granted (R122) -/

/-- The first element of a list to which a function gives a value. -/
theorem findSome?_at {α β : Type} {f : α → Option β} {a : α} {b : β} (fa : f a = some b) :
    ∀ (l : List α) (n : Nat), l[n]? = some a → (∀ j x, j < n → l[j]? = some x → f x = none) → l.findSome? f = some b
  | x :: l, 0, h, _ => by
    cases h
    simp only [List.findSome?_cons, fa]
  | x :: l, n + 1, h, before => by
    simp only [List.findSome?_cons, before 0 x (by omega) rfl]
    exact findSome?_at fa l n h fun j y hj hy => before (j + 1) y (by omega) hy

/-- R122: the requesters after the last one served stand in circular order. -/
theorem requestersAfter_getElem : ∀ k < 6, ∀ j < 6, ∀ q ∈ allRequesters[k]?,
    (requestersAfter q)[j]? = allRequesters[(k + 1 + j) % 6]? := by decide

/-- R122: a requester requests the decode of a record. -/
def State.Wants (s : State) (q : Requester) (id : Nat) : Prop := match q with
  | .session i => (s.session i).state ≠ .free ∧ (s.session i).buffer.bytes.length ≤ (s.session i).buffer.offset
      ∧ (s.session i).queue.head? = some (.chunk id)
  | .verify d => (s.chan d).reader.verifyQueue.head? = some id

theorem requested_iff (s : State) (q : Requester) (id : Nat) : s.requested q = some id ↔ s.Wants q id := by
  cases q with
  | verify d => exact Iff.rfl
  | session i =>
    by_cases idle : (s.session i).state = .free
    · simp [State.requested, State.Wants, idle]
    by_cases read : (s.session i).buffer.bytes.length ≤ (s.session i).buffer.offset
    · have none : (s.session i).buffer.unread = false := decide_eq_false (by omega)
      cases queue : (s.session i).queue with
      | nil => simp [State.requested, State.Wants, idle, none, queue]
      | cons e l => cases e <;> simp [State.requested, State.Wants, idle, none, queue, read]
    · have some : (s.session i).buffer.unread = true := decide_eq_true (by omega)
      simp [State.requested, State.Wants, some, read]

theorem requested_none (s : State) (q : Requester) (h : ∀ id, ¬ s.Wants q id) : s.requested q = none :=
  Option.eq_none_iff_forall_not_mem.2 fun id hid => h id ((requested_iff s q id).1 hid)

/-- R122: the first requester after the last one served is granted, within one turn. -/
theorem granted_eq {k n : Nat} (last : allRequesters[k]? = some s.restore.lastServed) (hk : k < 6) (pos : 1 ≤ n) (turn : n ≤ 6)
    (before : ∀ i p x, 1 ≤ i → i < n → allRequesters[(k + i) % 6]? = some p → ¬ s.Wants p x)
    (next : allRequesters[(k + n) % 6]? = some q) (wants : s.Wants q id) : s.granted = some (q, id) := by
  have at_ (j : Nat) (hj : j < 6) := requestersAfter_getElem k hk j hj s.restore.lastServed last
  refine findSome?_at (a := q) (n := n - 1) (by rw [(requested_iff s q id).2 wants]; rfl) _ ?_ fun j p hj hp => ?_
  · rw [at_ (n - 1) (by omega), show k + 1 + (n - 1) = k + n by omega]
    exact next
  · rw [at_ j (by omega), show k + 1 + j = k + (j + 1) by omega] at hp
    rw [requested_none s p fun x => before (j + 1) p x (by omega) (by omega) hp]
    rfl

/-! ## The start of a decode (R22) -/

/-- R22: the decode of a record for a requester. -/
def State.decodeBegun (s : State) (q : Requester) (id : Nat) (r : ChunkRec) : State :=
  (((s.dropHead q).modRec id fun x => { x with state := .decoding }).modRestore fun x =>
    { x with
      job := some { requester := q, record := id, discarded := false, headerBad := (decodeStored (s.storedBytes r)).1 == .headerBad }
      output := [], lastServed := q }).startJob .unpack

theorem exec_decodeStart (idle : s.restore.job = none) (grant : s.granted = some (q, id)) (hr : s.findRec id = some r) :
    exec .decodeStart s = .next (s.decodeBegun q id r) := by
  change execDecodeStart s = _
  simp only [execDecodeStart, idle, grant, hr, Option.isSome_none, Bool.false_eq_true, if_false] <;> rfl

theorem dropHead_session (s : State) (q : Requester) (i : SessionId) : (s.dropHead q).session i =
    if q = .session i then { s.session i with queue := (s.session i).queue.tail } else s.session i := by
  cases q with
  | verify d =>
    rw [if_neg (by simp)]
    exact session_of_restore rfl i
  | session k =>
    by_cases h : k = i
    · subst h
      rw [if_pos rfl]
      exact session_modSession_self s k _
    · rw [if_neg (by simp [h])]
      exact session_modSession_ne s _ (Ne.symm h)

theorem session_of_sessions (h : t.restore.sessions = s.restore.sessions) (i : SessionId) : t.session i = s.session i :=
  congrArg (fun v : Vector Session 4 => v[i]) h

theorem dropHead_same {β : Type} (g : State → β) (session : ∀ t i f, g (t.modSession i f) = g t)
    (reader : ∀ t d f, g (t.modReader d f) = g t) (s : State) (q : Requester) : g (s.dropHead q) = g s := by
  cases q with
  | session i => exact session s i fun x => { x with queue := x.queue.tail }
  | verify d => exact reader s d fun r => { r with verifyQueue := r.verifyQueue.tail }

/-- R22: what the start of a decode does. -/
theorem decode_starts (s : State) {k n : Nat} (idle : s.restore.job = none) (hk : k < 6) (pos : 1 ≤ n) (turn : n ≤ 6)
    (last : allRequesters[k]? = some s.restore.lastServed)
    (before : ∀ i p x, 1 ≤ i → i < n → allRequesters[(k + i) % 6]? = some p → ¬ s.Wants p x)
    (next : allRequesters[(k + n) % 6]? = some q) (wants : s.Wants q id) (hr : s.findRec id = some r) : ∃ v,
      exec .decodeStart s = .next v ∧ v.restore.lastServed = q ∧ v.mem = s.mem ∧ v.pool.free = s.pool.free
      ∧ v.ring = s.ring ∧ v.streams = s.streams
      ∧ v.restore.job = some { requester := q, record := id, discarded := false
                               headerBad := (decodeStored (s.storedBytes r)).1 == .headerBad }
      ∧ v.findRec id = some { r with state := .decoding }
      ∧ (∀ i, v.session i = if q = .session i then { s.session i with queue := (s.session i).queue.tail } else s.session i)
      ∧ v.path = { s.path with port := s.path.port.joinOwned (.job .unpack) } := by
  refine ⟨_, exec_decodeStart idle (granted_eq last hk pos turn before next wants) hr, rfl, ?_, ?_, ?_, ?_, rfl, ?_, fun i => ?_, ?_⟩
  · exact dropHead_same (·.mem) (fun _ _ _ => rfl) (fun _ _ _ => rfl) s q
  · exact dropHead_same (·.pool.free) (fun _ _ _ => rfl) (fun _ _ _ => rfl) s q
  · exact dropHead_same (·.ring) (fun _ _ _ => rfl) (fun _ _ _ => rfl) s q
  · exact dropHead_same (·.streams) (fun _ _ _ => rfl) (fun _ _ _ => rfl) s q
  · change ((s.dropHead q).modRec id _).findRec id = _
    rw [State.findRec_modRec _ id (fun x => { x with state := .decoding }) (fun _ => rfl),
      dropHead_same (·.findRec id) (fun _ _ _ => rfl) (fun _ _ _ => rfl) s q, hr]
    rfl
  · exact (session_of_sessions rfl i).trans (dropHead_session s q i)
  · exact congrArg (fun p : Path => { p with port := p.port.joinOwned (.job .unpack) })
      (dropHead_same (·.path) (fun _ _ _ => rfl) (fun _ _ _ => rfl) s q)

/-! ## The end of a decode (R24, R25, R123) -/

/-- R25: the restore block with the decode of a requester discarded. -/
def Restore.discarded (r : Restore) (q : Requester) : Restore :=
  { r with job := r.job.map fun j => if j.requester = q then { j with discarded := true } else j }

theorem discardDecode_restore (s : State) (q : Requester) : (s.discardDecode q).restore = s.restore.discarded q := rfl

theorem endTold_restore (s : State) (i : SessionId) (e : SessionEnd) :
    (s.endTold i e).restore = s.restore.discarded (.session i) := by
  rw [State.endTold, State.dropOwner_restore, discardDecode_restore, State.freeWhere_restore, State.emit_restore]

/-- R125: the restore block as a session ends, but for the session's own record. -/
theorem endSession_restore (e : SessionEnd) (h : (s.session i).state ≠ .free) : (s.endSession i e).restore =
    { (s.restore.discarded (.session i)).ended e with sessions := s.restore.sessions.set i (s.session i).ended } := by
  rw [endSession_eq e h]
  change ({ (s.endTold i e).restore with sessions := (s.endTold i e).restore.sessions.set i (s.session i).ended } : Restore).ended e = _
  rw [endTold_restore]
  cases e <;> rfl

/-- What the end of a chunk for session `i` leaves: the other sessions, the streams, memory and an idle unpack engine. -/
def Served (i : SessionId) (s t : State) : Prop :=
  t.streams = s.streams ∧ t.mem = s.mem ∧ Accounted s t ∧ (s.restore.job = none → t.restore.job = none)
  ∧ ∀ e, e ≠ i → t.session e = s.session e

theorem Served.refl (i : SessionId) (s : State) : Served i s s := ⟨rfl, rfl, .of_blocks rfl rfl, id, fun _ _ => rfl⟩

theorem Served.trans (h : Served i s t) (k : Served i t u) : Served i s u := by
  obtain ⟨streams, mem, counts, job, others⟩ := h
  obtain ⟨streams', mem', counts', job', others'⟩ := k
  exact ⟨streams'.trans streams, mem'.trans mem, counts.trans counts', job' ∘ job, fun e ne => (others' e ne).trans (others e ne)⟩

theorem Served.setSession (s : State) (i : SessionId) (x : Session) : Served i s (s.setSession i x) :=
  ⟨rfl, rfl, .of_blocks rfl rfl, id, fun e ne => State.session_setSession_ne s i e x ne.symm⟩

theorem Served.endSession (s : State) (i : SessionId) (e : SessionEnd) : Served i s (s.endSession i e) := by
  refine ⟨State.endSession_streams s i e, mem_of_outside (State.endSession_outside s i e), .endSession s i e, fun idle => ?_,
    fun k ne => endSession_session_ne s e ne⟩
  by_cases free : (s.session i).state = .free
  · rw [endSession_free e free, idle]
  · rw [endSession_restore e free]
    cases e <;> simp [Restore.ended, Restore.discarded, idle]

theorem Served.fullyRead (s : State) (i : SessionId) : Served i s (s.fullyRead i) := by
  unfold State.fullyRead
  dsimp only
  repeat' split
  · exact .endSession s i .done
  · exact .setSession s i _
  · exact .refl i s

theorem Served.fillBuffer (s : State) (i : SessionId) (b : Delivery) : Served i s (s.fillBuffer i b) := by
  unfold State.fillBuffer
  dsimp only
  split
  · exact (Served.setSession s i _).trans (.fullyRead _ i)
  · exact .setSession s i _

theorem Served.sessionOutcome (s : State) (i : SessionId) (r : ChunkRec) (o : DecodeOutcome) (out : List Byte) :
    Served i s (s.sessionOutcome i r o out) := by
  unfold State.sessionOutcome
  dsimp only
  repeat' split
  · exact .fillBuffer s i _
  · exact (Served.setSession s i _).trans (.fillBuffer _ i _)
  · exact .endSession s i _

theorem Served.freeRec (s : State) (i : SessionId) (id : Nat) : Served i s (s.freeRec id) := by
  have same := State.freeRec_restore s id
  exact ⟨State.freeRec_streams s id, mem_of_outside (State.freeRec_outside s id), (SameAccounts.freeRec s id).accounted,
    fun idle => same ▸ idle, fun e _ => session_of_restore same e⟩

theorem fillBuffer_some {b : Delivery} (h : b.bytes ≠ []) : s.fillBuffer i b = s.modSession i fun x => { x with buffer := b } := by
  have some : ¬ b.bytes.isEmpty = true := fun e => h (List.isEmpty_iff.1 e)
  rw [State.fillBuffer, if_neg some]

/-- R24: a decode at whose end the engine is idle, a read FAULT of its counted. -/
def State.decodeAnswered (s : State) (fault : Bool) (out : List Byte) : State :=
  (if fault then (s.endJob .unpack).poolFault else s.endJob .unpack).modRestore fun x => { x with job := none, output := out }

/-- R24, R123: the outcome acts on its requester. -/
def State.outcomeActs (s : State) (j : DecodeJob) (r : ChunkRec) (o : DecodeOutcome) (out : List Byte) : State :=
  if j.discarded then s
  else match j.requester with
    | .session i => s.sessionOutcome i r o out
    | .verify d => s.verifyOutcome d o

/-- R24: the outcome of a decode. -/
def DecodeJob.outcome (j : DecodeJob) (fault : Bool) (o : DecodeOutcome) : DecodeOutcome :=
  if fault then .truncated else if j.headerBad then .headerBad else o

/-- R24, R25: what the end of a decode leaves. -/
def State.decodeEnded (s : State) (j : DecodeJob) (r : ChunkRec) (fault : Bool) : State :=
  let decoded := decodeStored (s.storedBytes r)
  ((s.decodeAnswered fault decoded.2).outcomeActs j r (j.outcome fault decoded.1) decoded.2).freeRec j.record

theorem exec_decodeCompletion (job : s.restore.job = some j) (owes : s.hasJob .unpack = true) (hr : s.findRec j.record = some r)
    (fault : Bool) : exec (.decodeCompletion fault) s = .next (s.settle (s.decodeEnded j r fault)) := by
  change execDecodeCompletion fault s = _
  cases fault
  · have hr' : (s.endJob .unpack).findRec j.record = some r := hr
    simp only [execDecodeCompletion, job, owes, Bool.not_true, Bool.false_eq_true, if_false, hr'] <;> rfl
  · have hr' : (s.endJob .unpack).poolFault.findRec j.record = some r := hr
    simp only [execDecodeCompletion, job, owes, Bool.not_true, Bool.false_eq_true, if_false, if_true, hr'] <;> rfl

theorem decodeAnswered_findRec (s : State) (fault : Bool) (out : List Byte) (id : Nat) :
    (s.decodeAnswered fault out).findRec id = s.findRec id := by cases fault <;> rfl

theorem decodeAnswered_free (s : State) (fault : Bool) (out : List Byte) :
    (s.decodeAnswered fault out).pool.free = s.pool.free := by cases fault <;> rfl

theorem decodeAnswered_memFaults (s : State) (fault : Bool) (out : List Byte) :
    (s.decodeAnswered fault out).pool.memFaults = s.pool.memFaults.add (if fault = true then 1 else 0) := by
  cases fault
  · exact (counter_add_zero _).symm
  · rfl

theorem decodeAnswered_session (s : State) (fault : Bool) (out : List Byte) (i : SessionId) :
    (s.decodeAnswered fault out).session i = s.session i := by cases fault <;> exact session_of_sessions rfl i

theorem decodeAnswered_same (s : State) (fault : Bool) (out : List Byte) : (s.decodeAnswered fault out).restore.job = none
    ∧ (s.decodeAnswered fault out).mem = s.mem ∧ (s.decodeAnswered fault out).streams = s.streams
    ∧ (s.decodeAnswered fault out).chans = s.chans
    ∧ (s.decodeAnswered fault out).restore.sessions = s.restore.sessions
    ∧ (s.decodeAnswered fault out).restore.endsFailed = s.restore.endsFailed := by
  cases fault <;> exact ⟨rfl, rfl, rfl, rfl, rfl, rfl⟩

theorem freeRec_gone (s : State) (id : Nat) : (s.freeRec id).findRec id = none := by
  cases h : s.findRec id with
  | none => rw [freeRec_absent s h, h]
  | some r => exact findRec_freeRec_self h

/-- R24: the outcome leaves what the end of a decode must not touch. -/
theorem outcomeActs_served (s : State) (j : DecodeJob) (r : ChunkRec) (o : DecodeOutcome) (out : List Byte) :
    ∃ i, Served i s (s.outcomeActs j r o out) := by
  unfold State.outcomeActs
  repeat' split
  · exact ⟨0, .refl 0 s⟩
  · next i _ => exact ⟨i, .sessionOutcome s i r o out⟩
  · exact ⟨0, rfl, rfl, .of_blocks rfl rfl, id, fun _ _ => rfl⟩

theorem outcomeActs_discarded {o : DecodeOutcome} {out : List Byte} (h : j.discarded = true) : s.outcomeActs j r o out = s :=
  if_pos h

theorem outcomeActs_session {o : DecodeOutcome} {out : List Byte} (h : j.discarded = false) (hq : j.requester = .session i) :
    s.outcomeActs j r o out = s.sessionOutcome i r o out := by
  simp only [State.outcomeActs, h, hq, Bool.false_eq_true, if_false]

theorem outcomeActs_verify {o : DecodeOutcome} {out : List Byte} (h : j.discarded = false) (hq : j.requester = .verify d) :
    s.outcomeActs j r o out = s.verifyOutcome d o := by
  simp only [State.outcomeActs, h, hq, Bool.false_eq_true, if_false]

/-- R123: the delivery buffer that an outcome fills. -/
def filledWith (x : Session) (r : ChunkRec) (bs : List Byte) : Delivery :=
  { bytes := bs, setend := r.setend == some true, lastChunk := x.lastSeq == some r.seq }

theorem sessionOutcome_good {o : DecodeOutcome} {out : List Byte} (good : o = .good) (some : out ≠ []) :
    s.sessionOutcome i r o out = s.modSession i fun x => { x with buffer := filledWith (s.session i) r out } := by
  subst good
  exact fillBuffer_some (b := filledWith (s.session i) r out) some

theorem sessionOutcome_damaged {o : DecodeOutcome} {out : List Byte} (bad : o ≠ .good) (cont : (s.session i).cont = true)
    (some : r.lostLen ≠ 0) : s.sessionOutcome i r o out =
      (s.setSession i { s.session i with damaged := (s.session i).damaged.add 1 }).modSession i fun x =>
        { x with buffer := filledWith (s.session i) r (List.replicate r.lostLen 0) } := by
  have bytes : (filledWith (s.session i) r (List.replicate r.lostLen 0)).bytes ≠ [] :=
    fun e => some (List.replicate_eq_nil_iff _ |>.1 e)
  simp only [State.sessionOutcome, bad, if_false, cont, if_true]
  exact fillBuffer_some bytes

theorem sessionOutcome_fails {o : DecodeOutcome} {out : List Byte} (bad : o ≠ .good) (cont : (s.session i).cont = false) :
    s.sessionOutcome i r o out = s.endSession i (.failed .check) := by
  simp only [State.sessionOutcome, bad, if_false, cont, Bool.false_eq_true]

theorem endSession_endsFailed (c : Cause) (h : (s.session i).state ≠ .free) :
    (s.endSession i (.failed c)).restore.endsFailed = s.restore.endsFailed.add 1 := by
  rw [endSession_restore _ h]
  rfl

/-- The pages of a decode's record return behind the free ones. -/
theorem decodeEnded_free {fault : Bool} (hr : s.findRec j.record = some r)
    (same : ((s.decodeAnswered fault (decodeStored (s.storedBytes r)).2).outcomeActs j r
      (j.outcome fault (decodeStored (s.storedBytes r)).1) (decodeStored (s.storedBytes r)).2).pool =
        (s.decodeAnswered fault (decodeStored (s.storedBytes r)).2).pool) : (s.decodeEnded j r fault).pool.free = s.pool.free ++ r.pages := by
  have found : ((s.decodeAnswered fault (decodeStored (s.storedBytes r)).2).outcomeActs j r
      (j.outcome fault (decodeStored (s.storedBytes r)).1) (decodeStored (s.storedBytes r)).2).findRec j.record = some r := by
    rw [State.findRec, same, ← State.findRec, decodeAnswered_findRec, hr]
  obtain ⟨-, free, -⟩ := freeRec_pool _ found
  rw [State.decodeEnded, free, same, decodeAnswered_free]

/-- R113: the reader of a verify pass behind an outcome. -/
def Reader.judgedChunk (x : Reader) (o : DecodeOutcome) : Reader :=
  if o = .good then { x with tallies := { x.tallies with chunksGood := x.tallies.chunksGood.add 1 } } else x.chunkBad

theorem verifyOutcome_reader (s : State) (d : Drive) (o : DecodeOutcome) :
    ((s.verifyOutcome d o).chan d).reader = (s.chan d).reader.judgedChunk o := by
  rw [State.verifyOutcome, State.modReader, State.chan_modChan_self]
  rfl

theorem judgedChunk_tallies (x : Reader) (o : DecodeOutcome) : (x.judgedChunk o).tallies =
    if o = .good then { x.tallies with chunksGood := x.tallies.chunksGood.add 1 }
    else { x.tallies with chunksBad := x.tallies.chunksBad.add 1 } := by
  unfold Reader.judgedChunk
  split <;> rfl

/-- R24, R25, R123: what the end of a decode does. -/
theorem decode_ends {fault : Bool} (job : s.restore.job = some j) (owes : s.hasJob .unpack = true)
    (hr : s.findRec j.record = some r) :
    let decoded := decodeStored (s.storedBytes r)
    let outcome := j.outcome fault decoded.1
    ∃ v, exec (.decodeCompletion fault) s = .next (s.settle v) ∧ v.restore.job = none ∧ v.mem = s.mem
      ∧ v.streams = s.streams ∧ v.findRec j.record = none
      ∧ v.pool.memFaults = s.pool.memFaults.add (if fault = true then 1 else 0)
      ∧ (j.discarded = true → v.pool.free = s.pool.free ++ r.pages ∧ v.restore.sessions = s.restore.sessions
          ∧ v.chans = s.chans)
      ∧ (∀ i, j.discarded = false → j.requester = .session i →
        let x := s.session i
        (outcome = .good → decoded.2 ≠ [] →
            v.pool.free = s.pool.free ++ r.pages ∧ v.session i = { x with buffer := filledWith x r decoded.2 })
        ∧ (outcome ≠ .good → x.cont = true → r.lostLen ≠ 0 → v.pool.free = s.pool.free ++ r.pages
            ∧ v.session i = { x with damaged := x.damaged.add 1, buffer := filledWith x r (List.replicate r.lostLen 0) })
        ∧ (outcome ≠ .good → x.cont = false → x.state ≠ .free →
            (v.session i).state = .free ∧ v.restore.endsFailed = s.restore.endsFailed.add 1)
        ∧ ∀ e, e ≠ i → v.session e = s.session e)
      ∧ (∀ d, j.discarded = false → j.requester = .verify d →
        let k := (s.chan d).reader.tallies
        v.pool.free = s.pool.free ++ r.pages ∧ v.restore.sessions = s.restore.sessions
          ∧ (v.chan d).reader.tallies = (if outcome = .good then { k with chunksGood := k.chunksGood.add 1 }
              else { k with chunksBad := k.chunksBad.add 1 })) := by
  intro decoded outcome
  obtain ⟨idle, mem, streams, chans, sessions, failed⟩ := decodeAnswered_same s fault decoded.2
  have answered := decodeAnswered_session s fault decoded.2
  obtain ⟨k, acted⟩ := outcomeActs_served (s.decodeAnswered fault decoded.2) j r outcome decoded.2
  obtain ⟨streams', mem', ⟨-, faults⟩, job', -⟩ := acted.trans (.freeRec _ k j.record)
  have restore := State.freeRec_restore ((s.decodeAnswered fault decoded.2).outcomeActs j r outcome decoded.2) j.record
  refine ⟨_, exec_decodeCompletion job owes hr fault, job' idle, mem'.trans mem, streams'.trans streams, freeRec_gone _ _,
    faults.trans (decodeAnswered_memFaults s fault _), fun discarded => ?_, fun i live hq => ⟨fun good some => ?_,
    fun bad cont some => ?_, fun bad cont busy => ?_, fun e ne => ?_⟩, fun d live hq => ?_⟩
  · refine ⟨decodeEnded_free hr (by rw [outcomeActs_discarded discarded]), ?_, ?_⟩
    · rw [State.decodeEnded, State.freeRec_restore, outcomeActs_discarded discarded, sessions]
    · rw [State.decodeEnded, State.freeRec_chans, outcomeActs_discarded discarded, chans]
  · refine ⟨decodeEnded_free hr ?_, ?_⟩
    · rw [outcomeActs_session live hq, sessionOutcome_good good some]
      rfl
    · refine (session_of_restore restore i).trans ?_
      rw [outcomeActs_session live hq, sessionOutcome_good good some, session_modSession_self, answered]
  · refine ⟨decodeEnded_free hr ?_, ?_⟩
    · rw [outcomeActs_session live hq, sessionOutcome_damaged bad (answered i ▸ cont) some]
      rfl
    · refine (session_of_restore restore i).trans ?_
      rw [outcomeActs_session live hq, sessionOutcome_damaged bad (answered i ▸ cont) some, session_modSession_self,
        State.session_setSession_self, answered]
  · refine ⟨(congrArg Session.state (session_of_restore restore i)).trans ?_, (congrArg Restore.endsFailed restore).trans ?_⟩
    · rw [outcomeActs_session live hq, sessionOutcome_fails bad (answered i ▸ cont), endSession_state]
    · rw [outcomeActs_session live hq, sessionOutcome_fails bad (answered i ▸ cont), endSession_endsFailed _ (answered i ▸ busy), failed]
  · refine (session_of_restore restore e).trans ?_
    rw [outcomeActs_session live hq]
    obtain ⟨-, -, -, -, others⟩ := Served.sessionOutcome (s.decodeAnswered fault decoded.2) i r outcome decoded.2
    exact (others e ne).trans (answered e)
  · refine ⟨decodeEnded_free hr ?_, ?_, ?_⟩
    · rw [outcomeActs_verify live hq]
      rfl
    · rw [State.decodeEnded, State.freeRec_restore, outcomeActs_verify live hq]
      exact sessions
    · have chan : (s.decodeEnded j r fault).chan d = ((s.decodeAnswered fault decoded.2).verifyOutcome d outcome).chan d := by
        rw [State.decodeEnded, chan_of_chans (State.freeRec_chans _ _), outcomeActs_verify live hq]
      rw [chan, verifyOutcome_reader, chan_of_chans chans, judgedChunk_tallies]

/-- Settles O53: the requester that a decode serves, and what its end does. -/
theorem decodesServeTheNextRequester : Obligations.DecodesServeTheNextRequester := by
  unfold Obligations.DecodesServeTheNextRequester
  intro s ring wants
  refine ⟨fun k n q id r idle hk pos turn last before next wanted hr => ?_, fun j r fault job owes hr => decode_ends job owes hr⟩
  refine decode_starts s idle hk pos turn last (fun i p x lo hi at_ want => before i p x lo hi at_ ?_) next ?_ hr
  · cases p <;> exact want
  · cases q <;> exact wanted

end Sys2Proof.Machine
end

section
/-! Delivery to a RESTORE master and the ends of a session (R124 to R127): O51. -/

namespace Sys2Proof.Machine

variable {s t u v : State} {i : SessionId} {x : Session} {b : Delivery}

/-! ## The records that a session's end frees -/

theorem freeRec_records (s : State) (id : Nat) : (s.freeRec id).pool.records = s.pool.records.filter (·.id ≠ id) := by
  cases h : s.findRec id with
  | some r => exact (freeRec_pool s h).1
  | none =>
    rw [freeRec_absent s h]
    refine (List.filter_eq_self.2 fun r hr => ?_).symm
    have other := List.find?_eq_none.1 h r hr
    simpa using other

theorem mem_freeAll {r : ChunkRec} : ∀ (ids : List Nat) (s : State),
    r ∈ (forEach ids (fun id t => t.freeRec id) s).pool.records → r ∈ s.pool.records ∧ r.id ∉ ids := by
  intro ids
  induction ids with
  | nil => exact fun s h => ⟨h, List.not_mem_nil⟩
  | cons id ids ih =>
    intro s h
    obtain ⟨mem, apart⟩ := ih (s.freeRec id) h
    rw [freeRec_records, List.mem_filter] at mem
    obtain ⟨mem, ne⟩ := mem
    have other : r.id ≠ id := by simpa using ne
    exact ⟨mem, fun h => (List.mem_cons.1 h).elim other apart⟩

/-- R40: no record that a test selects is left. -/
theorem freeWhere_none_left {sel : ChunkRec → Bool} {r : ChunkRec} (h : r ∈ (s.freeWhere sel).pool.records) : sel r = false := by
  obtain ⟨mem, apart⟩ := mem_freeAll _ _ h
  rw [State.purge_pool] at mem
  cases selected : sel r with
  | false => rfl
  | true => exact absurd (List.mem_map.2 ⟨r, List.mem_filter.2 ⟨mem, selected⟩, rfl⟩) apart

/-! ## The end of a session (R125) -/

/-- R125: what the end of session `i` leaves, by the record that tells it. -/
def SessionOver (s : State) (i : SessionId) (x : Session) (code cause : Nat) (total : Dword) (v : State) : Prop :=
  (v.session i).state = .free ∧ (v.session i).queue = [] ∧ (v.session i).drive = none ∧ (v.session i).stall = none
  ∧ (∀ j, j ≠ i → v.session j = s.session j)
  ∧ (∀ r ∈ v.pool.records, r.role = .restore i → r.state ≠ .reassembling ∧ r.state ≠ .complete)
  ∧ v.mem = s.mem ∧ v.streams = s.streams
  ∧ (s.ring.room = true → v.ring.buffer[s.ring.buffer.length]? = some
      { kind := .restoreEnd, byte1 := BitVec.ofNat 8 code, tag := x.tag, dropped := s.ring.d
        subject := BitVec.ofNat 16 i.val, e0 := w32 cause, e1 := x.setId, e2 := x.nextSeq, e3 := lowWord total
        e4 := highWord total, e5 := x.damaged })

theorem SessionOver.of_same {code cause : Nat} {total : Dword} (h : SessionOver t i x code cause total v) (ring : t.ring = s.ring)
    (mem : t.mem = s.mem) (streams : t.streams = s.streams) (others : ∀ j, j ≠ i → t.session j = s.session j) :
    SessionOver s i x code cause total v := by
  obtain ⟨state, queue, drive, stall, rest, records, mem', streams', told⟩ := h
  rw [ring] at told
  exact ⟨state, queue, drive, stall, fun j ne => (rest j ne).trans (others j ne), records, mem'.trans mem, streams'.trans streams, told⟩

theorem endSession_records {e : SessionEnd} {r : ChunkRec} (live : (s.session i).state ≠ .free)
    (h : r ∈ (s.endSession i e).pool.records) (role : r.role = .restore i) : r.state ≠ .reassembling ∧ r.state ≠ .complete := by
  rw [endSession_eq e live] at h
  have selected := freeWhere_none_left (s := s.emit (restoreEndRecord i (s.session i) e))
    (sel := fun r => r.role == .restore i && r.waits) h
  rw [role] at selected
  simpa [ChunkRec.waits] using selected

/-- The record of a session's end comes first among those of its end. -/
theorem endSession_told {e : SessionEnd} (live : (s.session i).state ≠ .free) (room : s.ring.room = true) :
    (s.endSession i e).ring.buffer[s.ring.buffer.length]? = some { restoreEndRecord i (s.session i) e with dropped := s.ring.d } := by
  have told : (s.emit (restoreEndRecord i (s.session i) e)).ring.buffer <+: (s.endSession i e).ring.buffer := by
    rw [endSession_eq e live]
    exact (((((Works.refl _).freeWhere _).discardDecode _).dropOwner _).setSession _ _ |>.modRestore _).buffer
  rw [emit_buffer_of_room _ room] at told
  obtain ⟨more, eq⟩ := told
  rw [← eq, List.append_assoc, List.getElem?_append_right (by omega), Nat.sub_self]
  rfl

theorem endSession_over (e : SessionEnd) (code cause : Nat) (live : (s.session i).state ≠ .free)
    (record : restoreEndRecord i (s.session i) e =
      { kind := .restoreEnd, byte1 := BitVec.ofNat 8 code, tag := (s.session i).tag, subject := BitVec.ofNat 16 i.val
        e0 := w32 cause, e1 := (s.session i).setId, e2 := (s.session i).nextSeq, e3 := lowWord (s.session i).delivered
        e4 := highWord (s.session i).delivered, e5 := (s.session i).damaged }) :
    SessionOver s i (s.session i) code cause (s.session i).delivered (s.endSession i e) := by
  have ended := endSession_session_self e live
  refine ⟨by rw [ended]; rfl, by rw [ended]; rfl, by rw [ended]; rfl, by rw [ended]; rfl,
    fun j ne => endSession_session_ne s e ne, fun r hr => endSession_records live hr,
    mem_of_outside (State.endSession_outside s i e), State.endSession_streams s i e, fun room => ?_⟩
  rw [endSession_told live room, record]

/-! ## Delivery (R124) -/

/-- R124: a session behind the delivery of `n` bytes of its buffer. -/
def Session.delivering (x : Session) (n : Nat) : Session :=
  { x with
    buffer := { x.buffer with offset := x.buffer.offset + n }
    delivered := x.delivered + BitVec.ofNat 64 n, bytesDelivered := x.bytesDelivered.add n }

/-- R124: bytes of a session's buffer are answered to its master. -/
def State.delivered (s : State) (i : SessionId) (len : Nat) : State :=
  let data := slice (s.session i).buffer.bytes (s.session i).buffer.offset len
  (s.setSession i ((s.session i).delivering data.length)).answer [.done (padTo len data)]

theorem deliver_eq (s : State) (i : SessionId) (len : Nat) : s.deliver i len =
    if (s.session i).buffer.offset + (slice (s.session i).buffer.bytes (s.session i).buffer.offset len).length =
        (s.session i).buffer.bytes.length then (s.delivered i len).fullyRead i else s.delivered i len := rfl

theorem delivered_session_self (s : State) (i : SessionId) (len : Nat) : (s.delivered i len).session i =
    (s.session i).delivering (slice (s.session i).buffer.bytes (s.session i).buffer.offset len).length :=
  (session_of_restore rfl i).trans (State.session_setSession_self s i _)

theorem delivered_session_ne (s : State) (len : Nat) {j : SessionId} (h : j ≠ i) : (s.delivered i len).session j = s.session j :=
  (session_of_restore rfl j).trans (State.session_setSession_ne s i j _ h.symm)

theorem slice_length_of_lt {bs : List Byte} {a n : Nat} (h : a + n ≤ bs.length) : (slice bs a n).length = n := by
  rw [slice, List.length_take, List.length_drop]
  omega

theorem slice_to_end {bs : List Byte} {a n : Nat} (h : bs.length ≤ a + n) : slice bs a n = bs.drop a := by
  rw [slice, List.take_of_length_le]
  rw [List.length_drop]
  omega

/-- What a chunk that is fully read leaves of the session that read it. -/
def ReadThrough (s : State) (i : SessionId) (marked : Prop) (k : Nat) (v : State) : Prop :=
  let x := s.session i
  let total := x.delivered + BitVec.ofNat 64 k
  (marked → SessionOver s i x 0x00 0 total v ∧ v.restore.endsDone = s.restore.endsDone.add 1)
  ∧ (¬ marked → (v.session i).state = x.state ∧ (v.session i).delivered = total
      ∧ (v.session i).bytesDelivered = x.bytesDelivered.add k ∧ (v.session i).drive = x.drive
      ∧ (v.session i).stall = (if x.state = .active ∧ x.final = false then some s.timebase else x.stall)
      ∧ (∀ j, j ≠ i → v.session j = s.session j) ∧ v.mem = s.mem ∧ v.ring = s.ring)

/-- Of the path unit, a step leaves all but the port. -/
theorem portOnly_trans (h : s.portOnly t) (k : t.portOnly u) : s.portOnly u := by
  rw [State.portOnly] at h k ⊢
  rw [k, h]

theorem portOnly_of_path (h : t.path = s.path) : s.portOnly t := by rw [State.portOnly, h]

theorem portOnly_loop {α : Type} {f : α → State → State} (hf : ∀ x t, State.portOnly t (f x t)) :
    ∀ (l : List α) (s : State), s.portOnly (forEach l f s)
  | [], _ => portOnly_of_path rfl
  | x :: l, s => portOnly_trans (hf x s) (portOnly_loop hf l (f x s))

theorem freeWhere_portOnly (s : State) (sel : ChunkRec → Bool) : s.portOnly (s.freeWhere sel) :=
  portOnly_trans (t := s.purge _) (portOnly_of_path (State.purge_path s _)) (portOnly_loop (fun id t => (SameAccounts.freeRec t id).1) _ _)

theorem endSession_portOnly (s : State) (i : SessionId) (e : SessionEnd) : s.portOnly (s.endSession i e) := by
  by_cases free : (s.session i).state = .free
  · rw [endSession_free e free]
    exact portOnly_of_path rfl
  · rw [endSession_eq e free]
    have told : s.portOnly (s.endTold i e) := portOnly_trans (SameAccounts.emit s _).1 (portOnly_trans (freeWhere_portOnly _ _)
      (portOnly_of_path ((State.dropOwner_path _ _).trans (State.discardDecode_path _ _))))
    exact portOnly_trans told (portOnly_of_path rfl)

theorem answers_of_portOnly (h : s.portOnly t) : t.path.answers = s.path.answers := by
  rw [h]

theorem fullyRead_answers (s : State) (i : SessionId) : (s.fullyRead i).path.answers = s.path.answers := by
  unfold State.fullyRead
  dsimp only
  repeat' split
  · exact answers_of_portOnly (endSession_portOnly s i .done)
  · rfl
  · rfl

theorem deliver_answers (s : State) (i : SessionId) (len : Nat) : (s.deliver i len).path.answers =
    [.done (padTo len (slice (s.session i).buffer.bytes (s.session i).buffer.offset len))] := by
  rw [deliver_eq]
  split
  · exact fullyRead_answers _ i
  · rfl

/-- R124, R125, R126: a chunk of session `i` is fully read, where the session's end tells of the buffer's marks. -/
theorem fullyRead_marked (live : (s.session i).state ≠ .free)
    (marked : (s.session i).buffer.setend = true ∨ (s.session i).buffer.lastChunk = true) :
    SessionOver s i (s.session i) 0x00 0 (s.session i).delivered (s.fullyRead i)
    ∧ (s.fullyRead i).restore.endsDone = s.restore.endsDone.add 1 := by
  have ends : s.fullyRead i = s.endSession i .done := if_pos marked
  rw [ends]
  refine ⟨endSession_over .done 0x00 0 live rfl, ?_⟩
  rw [endSession_restore _ live]
  rfl

/-- R126: a session behind a chunk that was not its last: its stall timer restarts while it collects. -/
def Session.readOn (x : Session) (time : Nat) : Session :=
  { x with stall := if x.state = .active ∧ x.final = false then some time else x.stall }

theorem fullyRead_unmarked (unmarked : ¬ ((s.session i).buffer.setend = true ∨ (s.session i).buffer.lastChunk = true)) :
    (s.fullyRead i).session i = (s.session i).readOn s.timebase ∧ (∀ j, j ≠ i → (s.fullyRead i).session j = s.session j)
    ∧ (s.fullyRead i).mem = s.mem ∧ (s.fullyRead i).ring = s.ring := by
  have read : s.fullyRead i = if (s.session i).state = .active ∧ !(s.session i).final then
      s.setSession i { s.session i with stall := some s.timebase } else s := if_neg unmarked
  rw [read]
  split
  · next runs =>
    have runs' : (s.session i).state = .active ∧ (s.session i).final = false := by simpa using runs
    refine ⟨?_, fun j ne => State.session_setSession_ne s i j _ ne.symm, rfl, rfl⟩
    rw [State.session_setSession_self, Session.readOn, if_pos runs']
  · next idle =>
    have idle' : ¬ ((s.session i).state = .active ∧ (s.session i).final = false) := by simpa using idle
    refine ⟨?_, fun _ _ => rfl, rfl, rfl⟩
    rw [Session.readOn, if_neg idle']

/-- R124: a session whose queue and delivery buffer a read has moved on. -/
def Session.fed (x : Session) (q : List QueueEntry) (b : Delivery) : Session := { x with queue := q, buffer := b }

/-- R124: a read reads to the end of the buffer. -/
theorem deliver_through (q : List QueueEntry) {len : Nat} {marked : Prop} (live : (s.session i).state ≠ .free)
    (whole : b.offset + (slice b.bytes b.offset len).length = b.bytes.length)
    (marks : marked ↔ b.setend = true ∨ b.lastChunk = true) :
    ReadThrough s i marked (slice b.bytes b.offset len).length ((s.setSession i ((s.session i).fed q b)).deliver i len)
    ∧ (¬ marked → (((s.setSession i ((s.session i).fed q b)).deliver i len).session i).buffer =
          { b with offset := b.bytes.length }
      ∧ (((s.setSession i ((s.session i).fed q b)).deliver i len).session i).queue = q) := by
  have set : (s.setSession i ((s.session i).fed q b)).session i = (s.session i).fed q b := State.session_setSession_self s i _
  have now : ((s.setSession i ((s.session i).fed q b)).delivered i len).session i =
      ((s.session i).fed q b).delivering (slice b.bytes b.offset len).length := by
    rw [delivered_session_self, set]
    rfl
  have others (j : SessionId) (ne : j ≠ i) : ((s.setSession i ((s.session i).fed q b)).delivered i len).session j = s.session j :=
    (delivered_session_ne _ len ne).trans (State.session_setSession_ne s i j _ ne.symm)
  rw [show (s.setSession i ((s.session i).fed q b)).deliver i len =
    ((s.setSession i ((s.session i).fed q b)).delivered i len).fullyRead i by rw [deliver_eq, set]; exact if_pos whole]
  by_cases mark : marked
  · obtain ⟨told, count⟩ := fullyRead_marked (s := (s.setSession i ((s.session i).fed q b)).delivered i len) (i := i)
      (by rw [now]; exact live) (by rw [now]; exact marks.1 mark)
    rw [now] at told
    exact ⟨⟨fun _ => ⟨told.of_same rfl rfl rfl others, count⟩, fun no => absurd mark no⟩, fun no => absurd mark no⟩
  · obtain ⟨self, rest, mem, ring⟩ := fullyRead_unmarked (s := (s.setSession i ((s.session i).fed q b)).delivered i len) (i := i)
      (by rw [now]; exact fun h => mark (marks.2 h))
    rw [now] at self
    refine ⟨⟨fun yes => absurd yes mark, fun _ => ⟨?_, ?_, ?_, ?_, ?_, fun j ne => (rest j ne).trans (others j ne), mem, ring⟩⟩,
      fun _ => ⟨?_, ?_⟩⟩
    all_goals rw [self]
    exacts [rfl, rfl, rfl, rfl, rfl, congrArg (fun n => { b with offset := n }) whole, rfl]

/-- R124: a read that stops before the end of the buffer. -/
theorem deliver_part (q : List QueueEntry) {len : Nat} (part : b.offset + len < b.bytes.length) :
    let v := (s.setSession i ((s.session i).fed q b)).deliver i len
    v.session i = ((s.session i).fed q b).delivering len ∧ (∀ j, j ≠ i → v.session j = s.session j)
    ∧ v.mem = s.mem ∧ v.ring = s.ring := by
  have set : (s.setSession i ((s.session i).fed q b)).session i = (s.session i).fed q b := State.session_setSession_self s i _
  have size : (slice b.bytes b.offset len).length = len := slice_length_of_lt (by omega)
  have stops : (s.setSession i ((s.session i).fed q b)).deliver i len = (s.setSession i ((s.session i).fed q b)).delivered i len := by
    rw [deliver_eq, set]
    exact if_neg (by change ¬ b.offset + (slice b.bytes b.offset len).length = b.bytes.length; omega)
  intro v
  rw [show v = _ from stops]
  refine ⟨?_, fun j ne => (delivered_session_ne _ len ne).trans (State.session_setSession_ne s i j _ ne.symm), rfl, rfl⟩
  rw [delivered_session_self, set]
  exact congrArg ((s.session i).fed q b).delivering size

/-! ## RESTORE reads (R124) -/

theorem decoding_iff (s : State) (i : SessionId) : s.decoding (.session i) = true ↔
    ∃ j, s.restore.job = some j ∧ j.requester = .session i ∧ j.discarded = false := by
  unfold State.decoding
  cases s.restore.job <;> simp

theorem setSession_same (s : State) (i : SessionId) : s.setSession i (s.session i) = s := by
  rw [State.setSession, State.session]
  simp

section
variable {a : Addr} {n : Nat} (shaped : (Access.read a n).shaped = true) (master : s.restoreSession a = some i)
  (live : (s.session i).state ≠ .free)
include shaped master live

theorem restoreRead_unread (unread : (s.session i).buffer.offset < (s.session i).buffer.bytes.length) :
    exec (.restoreRead a n) s = .next (s.settle
      ((s.setSession i ((s.session i).fed (s.session i).queue (s.session i).buffer)).deliver i n)) := by
  have bytes : (s.session i).buffer.unread = true := decide_eq_true unread
  change execRestoreRead a n s = _
  simp only [execRestoreRead, master, shaped, live, bytes, Bool.not_true, Bool.false_eq_true, if_false, if_true]
  rw [show (s.session i).fed (s.session i).queue (s.session i).buffer = s.session i from rfl, setSession_same]

theorem restoreRead_zero {first : Word} {count len : Nat} {setend : Bool} {q : List QueueEntry}
    (read : (s.session i).buffer.bytes.length ≤ (s.session i).buffer.offset) (idle : s.decoding (.session i) = false)
    (head : (s.session i).queue = .zero first count len setend :: q) : exec (.restoreRead a n) s = .next (s.settle
      ((s.setSession i ((s.session i).takeZero first count len setend q)).deliver i n)) := by
  have bytes : (s.session i).buffer.unread = false := decide_eq_false (by omega)
  change execRestoreRead a n s = _
  simp only [execRestoreRead, master, shaped, live, bytes, idle, head, Bool.not_true, Bool.false_eq_true, if_false]

theorem restoreRead_waits (read : (s.session i).buffer.bytes.length ≤ (s.session i).buffer.offset)
    (waits : s.decoding (.session i) = true ∨ (s.session i).queue = [] ∨ ∃ id q, (s.session i).queue = .chunk id :: q) :
    exec (.restoreRead a n) s = .next (s.answer [.retry]) := by
  have bytes : (s.session i).buffer.unread = false := decide_eq_false (by omega)
  change execRestoreRead a n s = _
  simp only [execRestoreRead, master, shaped, live, bytes, Bool.not_true, Bool.false_eq_true, if_false]
  by_cases busy : s.decoding (.session i) = true
  · rw [if_pos busy]
  · rw [if_neg busy]
    obtain none | ⟨id, q, chunk⟩ := waits.resolve_left busy
    · rw [none]
    · rw [chunk]

end

theorem takeZero_eq (x : Session) (first : Word) (count len : Nat) (setend : Bool) (q : List QueueEntry) :
    x.takeZero first count len setend q = x.fed (if count ≤ 1 then q else .zero (first + 1) (count - 1) len setend :: q)
      { bytes := List.replicate len 0, setend := decide (count ≤ 1) && setend
        lastChunk := decide (count ≤ 1) && x.lastSeq == some first } := by
  unfold Session.takeZero Session.fed
  by_cases last : count ≤ 1 <;> simp [last]

theorem deliver_zeros (s : State) (i : SessionId) (q : List QueueEntry) {len n : Nat} (m l : Bool) :
    ((s.setSession i ((s.session i).fed q { bytes := List.replicate len 0, setend := m, lastChunk := l })).deliver i n).path.answers =
      [.done (List.replicate n 0)] := by
  rw [deliver_answers, State.session_setSession_self]
  change [Answer.done (padTo n (slice (List.replicate len 0) 0 n))] = _
  rw [slice, List.drop_zero, List.take_replicate, padTo, List.length_replicate, List.replicate_append_replicate]
  congr 3
  omega

/-! ## The stall timeout and CANCEL_RESTORE (R126, R127) -/

theorem exec_restoreStallTimeout {n : Nat} (h : (s.session i).stall = some n) : exec (.restoreStallTimeout i) s =
    .next (s.settle ((s.elapseTo (n + timeoutMicros s.params.restoreStallTimeout)).endSession i (.failed .timeout))) := by
  change execRestoreStallTimeout i s = _
  simp only [execRestoreStallTimeout, State.stallDeadline, h, Option.map_some]

theorem exec_cancelRestore (s : State) (tag : Half) (p0 : Word) : exec (.cancelRestore tag p0) s =
    .next (s.command (.cancelRestore tag p0) 0x31 tag (settled (cancelRestoreRule p0))) := rfl

theorem elapseTo_restore (s : State) (n : Nat) : (s.elapseTo n).restore = s.restore := rfl

/-- R124: the RESTORE reads of a session that is not FREE. -/
theorem restore_reads {a : Addr} {n : Nat} (shaped : (Access.read a n).shaped = true) (master : s.restoreSession a = some i)
    (live : (s.session i).state ≠ .free) :
    let x := s.session i
    let decoding : Prop := ∃ j, s.restore.job = some j ∧ j.requester = .session i ∧ j.discarded = false
    (x.buffer.offset + n < x.buffer.bytes.length → ∃ v, exec (.restoreRead a n) s = .next (s.settle v)
      ∧ v.path.answers = [.done (slice x.buffer.bytes x.buffer.offset n)]
      ∧ (v.session i).buffer.offset = x.buffer.offset + n ∧ (v.session i).state = x.state
      ∧ (v.session i).delivered = x.delivered + BitVec.ofNat 64 n ∧ (v.session i).queue = x.queue
      ∧ (v.session i).stall = x.stall
      ∧ (∀ j, j ≠ i → v.session j = s.session j) ∧ v.mem = s.mem ∧ v.ring = s.ring)
    ∧ (x.buffer.offset < x.buffer.bytes.length → x.buffer.bytes.length ≤ x.buffer.offset + n →
      let left := x.buffer.bytes.drop x.buffer.offset
      let marked : Prop := x.buffer.setend = true ∨ x.buffer.lastChunk = true
      ∃ v, exec (.restoreRead a n) s = .next (s.settle v)
      ∧ v.path.answers = [.done (left ++ List.replicate (n - left.length) 0)] ∧ ReadThrough s i marked left.length v
      ∧ (¬ marked → (v.session i).buffer = { x.buffer with offset := x.buffer.bytes.length }
          ∧ (v.session i).queue = x.queue))
    ∧ (∀ first count len setend q, x.buffer.bytes.length ≤ x.buffer.offset → ¬ decoding → len ≤ n →
        x.queue = .zero first count len setend :: q →
      let marked : Prop := count ≤ 1 ∧ (setend = true ∨ x.lastSeq = some first)
      ∃ v, exec (.restoreRead a n) s = .next (s.settle v)
      ∧ v.path.answers = [.done (List.replicate n 0)] ∧ ReadThrough s i marked len v
      ∧ (¬ marked → (v.session i).buffer.bytes = List.replicate len 0 ∧ (v.session i).buffer.offset = len
          ∧ (v.session i).queue = (if count ≤ 1 then q else .zero (first + 1) (count - 1) len setend :: q)))
    ∧ (∀ first count len setend q, x.buffer.bytes.length ≤ x.buffer.offset → ¬ decoding → n < len →
        x.queue = .zero first count len setend :: q → ∃ v, exec (.restoreRead a n) s = .next (s.settle v)
      ∧ v.path.answers = [.done (List.replicate n 0)] ∧ (v.session i).buffer.bytes = List.replicate len 0
      ∧ (v.session i).buffer.offset = n ∧ (v.session i).delivered = x.delivered + BitVec.ofNat 64 n
      ∧ (v.session i).queue = (if count ≤ 1 then q else .zero (first + 1) (count - 1) len setend :: q)
      ∧ (∀ j, j ≠ i → v.session j = s.session j) ∧ v.mem = s.mem ∧ v.ring = s.ring)
    ∧ (x.buffer.bytes.length ≤ x.buffer.offset → (decoding ∨ x.queue = [] ∨ ∃ id q, x.queue = .chunk id :: q) →
      exec (.restoreRead a n) s = .next { s with path := { s.path with
        answers := [.retry], counters := { s.path.counters with retries := s.path.counters.retries.add 1 } } }) := by
  intro x decoding
  have idle (h : ¬ decoding) : s.decoding (.session i) = false := Bool.eq_false_iff.2 fun busy => h ((decoding_iff s i).1 busy)
  refine ⟨fun part => ?_, fun unread ends => ?_, fun first count len setend q read free fits head => ?_,
    fun first count len setend q read free part head => ?_, fun read waits => ?_⟩
  · obtain ⟨self, others, mem, ring⟩ := deliver_part (s := s) (i := i) (b := x.buffer) x.queue part
    refine ⟨_, restoreRead_unread shaped master live (Nat.lt_of_le_of_lt (Nat.le_add_right _ n) part), ?_, ?_, ?_, ?_, ?_, ?_, others, mem, ring⟩
    · rw [deliver_answers, State.session_setSession_self]
      change [Answer.done (padTo n (slice x.buffer.bytes x.buffer.offset n))] = _
      rw [padTo, slice_length_of_lt (by omega), Nat.sub_self, List.replicate_zero, List.append_nil]
    all_goals exact self ▸ rfl
  · intro left marked
    have toEnd : slice x.buffer.bytes x.buffer.offset n = left := slice_to_end ends
    have whole : x.buffer.offset + (slice x.buffer.bytes x.buffer.offset n).length = x.buffer.bytes.length := by
      rw [toEnd, List.length_drop]
      omega
    obtain ⟨through, kept⟩ := deliver_through (s := s) (i := i) (b := x.buffer) (marked := marked) x.queue live whole Iff.rfl
    rw [toEnd] at through
    refine ⟨_, restoreRead_unread shaped master live unread, ?_, through, kept⟩
    rw [deliver_answers, State.session_setSession_self]
    change [Answer.done (padTo n (slice x.buffer.bytes x.buffer.offset n))] = _
    rw [toEnd]
    rfl
  · intro marked
    have data : slice (List.replicate len (0 : Byte)) 0 n = List.replicate len 0 := by
      rw [slice_to_end (by rw [List.length_replicate]; omega), List.drop_zero]
    obtain ⟨through, kept⟩ := deliver_through (s := s) (i := i) (len := n) (marked := marked)
      (b := { bytes := List.replicate len 0, setend := decide (count ≤ 1) && setend
              lastChunk := decide (count ≤ 1) && x.lastSeq == some first })
      (if count ≤ 1 then q else .zero (first + 1) (count - 1) len setend :: q) live
      (by dsimp only; rw [data, List.length_replicate]; omega) (by simp [marked, and_or_left])
    refine ⟨_, restoreRead_zero shaped master live read (idle free) head, ?_, ?_, fun unmarked => ?_⟩
    · rw [takeZero_eq]
      exact deliver_zeros s i _ _ _
    · rw [takeZero_eq]
      dsimp only at through
      rw [data, List.length_replicate] at through
      exact through
    · obtain ⟨buffer, queue⟩ := kept unmarked
      rw [takeZero_eq, buffer, queue]
      exact ⟨rfl, List.length_replicate, rfl⟩
  · obtain ⟨self, others, mem, ring⟩ := deliver_part (s := s) (i := i) (len := n)
      (b := { bytes := List.replicate len 0, setend := decide (count ≤ 1) && setend
              lastChunk := decide (count ≤ 1) && x.lastSeq == some first })
      (if count ≤ 1 then q else .zero (first + 1) (count - 1) len setend :: q) (by rw [List.length_replicate]; simpa using part)
    have exec_ := restoreRead_zero shaped master live read (idle free) head
    rw [takeZero_eq] at exec_
    refine ⟨_, exec_, deliver_zeros s i _ _ _, ?_, ?_, ?_, ?_, others, mem, ring⟩
    · exact self ▸ rfl
    · exact self ▸ Nat.zero_add n
    · exact self ▸ rfl
    · exact self ▸ rfl
  · exact restoreRead_waits shaped master live read (waits.imp_left (decoding_iff s i).2)

/-- Settles O51: the RESTORE reads, the stall timeout and CANCEL_RESTORE. -/
theorem sessionsDeliverUntilTheyEnd : Obligations.SessionsDeliverUntilTheyEnd := by
  unfold Obligations.SessionsDeliverUntilTheyEnd
  intro s i x decoding ended fully
  refine ⟨fun a n shaped master live => restore_reads shaped master live, fun t stall live => ?_, fun tag p0 =>
    ⟨fun bad => ?_, fun hi free => ?_, fun hi live => ?_⟩⟩
  · have same (j : SessionId) : (s.elapseTo (t + timeoutMicros s.params.restoreStallTimeout)).session j = s.session j :=
      session_of_restore (elapseTo_restore s _) j
    have live' : ((s.elapseTo (t + timeoutMicros s.params.restoreStallTimeout)).session i).state ≠ .free := by
      rw [same]
      exact live
    refine ⟨_, exec_restoreStallTimeout stall, ?_, endSession_state _ _ _, ?_, ?_, fun j ne => ?_, ?_⟩
    · rw [timebase_of_outside (State.endSession_outside _ _ _), elapseTo_timebase]
    · rw [endSession_session_self _ live']
      rfl
    · rw [endSession_endsFailed _ live', elapseTo_restore]
    · rw [endSession_session_ne _ _ ne, same]
    · rw [mem_of_outside (State.endSession_outside _ _ _)]
      rfl
  · exact turnedAway_of_settled (exec_cancelRestore s tag p0) (by rw [cancelRestoreRule, sessionOf_none bad]) rfl
  · exact turnedAway_of_settled (exec_cancelRestore s tag p0)
      (by rw [cancelRestoreRule, sessionOf_some hi]; exact if_pos free) rfl
  · refine ⟨s.atOwner.endSession i .cancelled, endsSettled_of_settled (exec_cancelRestore s tag p0)
      (by rw [cancelRestoreRule, sessionOf_some hi]; exact if_neg live) rfl, ?_, ?_⟩
    · exact (endSession_over (s := s.atOwner) .cancelled 0x20 0 live rfl).of_same rfl rfl rfl fun _ _ => rfl
    · rw [endSession_restore (s := s.atOwner) .cancelled live]
      rfl

end Sys2Proof.Machine
end

section
/-! O59 fails: a judgement writes over every request of its age stamp, and with it a CLEAN that bears the same one. -/

namespace Sys2Proof.Machine

/-- A MOVE from slot 0 to bay 0. -/
def moveToBay : Req := { newReq .move (some 0) (bayLoc 0) with stamp := 1 }

/-- The CLEAN of DC0, of the same age stamp as the MOVE. -/
def cleanOfBay : Req := { newReq .clean none (bayLoc 0) with stamp := 1, drive := some 0 }

/-- Slot 0 is FULL, and both requests stand in the queue. -/
def twoStamps : State :=
  ({ State.reset with loader := { State.reset.loader with queue := [moveToBay, cleanOfBay] } }).setFilter (.presence 0)
    { raw := .on, debounced := .on }

theorem twoStamps_waits : (twoStamps.judge moveToBay).findReq 1 ≠
    some { moveToBay with judged := some (bayLoc 0), state := .waiting .cleaning } := by decide +kernel

/-- Refutes O59: the queue of `twoStamps` lists a MOVE into bay 0 and the CLEAN of its drive under one age stamp. The judgement of
the MOVE takes the place of both, so that no CLEAN is in the queue any more and the MOVE does not wait for it. -/
theorem not_eventsEndWithTheLoadersTests : ¬ Obligations.EventsEndWithTheLoadersTests := by
  intro holds
  obtain ⟨-, -, judgement, -⟩ := holds
  obtain ⟨-, rows⟩ := judgement twoStamps moveToBay 0 (bayLoc 0) (.inl ⟨.inl rfl, rfl⟩) (by decide +kernel) rfl rfl
    (by decide +kernel) (by decide +kernel) (by decide +kernel) (by decide +kernel)
  obtain ⟨-, destination⟩ := rows fun d eq => absurd eq (by revert d; decide)
  obtain ⟨-, cleaning, -⟩ := destination (by decide +kernel) 0 rfl
  obtain ⟨waits, -⟩ := cleaning (by decide +kernel) (by decide +kernel)
  exact twoStamps_waits waits

end Sys2Proof.Machine
end

section
/-! The records that an event tells, where the status ring has room for them (R186). -/

namespace Sys2Proof.Machine

variable {s t u v : State} {rs qs : List Record} {r : Record} {n : Nat}

/-- R186: room for `n` more records, in the ring and in the buffer, beside the reserved place. -/
def Ring.spaceFor (g : Ring) (n : Nat) : Prop :=
  g.reserved.toNat + n ≤ g.freePlaces ∧ g.reserved.toNat + g.buffer.length + n ≤ 32

/-- The records that have joined the buffer since a state, but for their dropped counts. -/
def State.news (s v : State) : List Record := (v.ring.buffer.drop s.ring.buffer.length).map fun r => { r with dropped := 0 }

/-- The step from `s` to `t` tells the records `rs`: they join the buffer, where there is room for them all. -/
def Tells (s t : State) (rs : List Record) : Prop :=
  t.ring.control = s.ring.control ∧ (s.ring.spaceFor rs.length →
    ∃ bs, t.ring.buffer = s.ring.buffer ++ bs ∧ bs.map (fun r => { r with dropped := 0 }) = rs)

theorem Ring.spaceFor.mono {g : Ring} {m : Nat} (h : g.spaceFor n) (le : m ≤ n) : g.spaceFor m := by
  obtain ⟨places, buffer⟩ := h
  exact ⟨by omega, by omega⟩

/-- The room left behind records that have joined the buffer. -/
theorem spaceFor_append {g k : Ring} {bs : List Record} (control : k.control = g.control) (buffer : k.buffer = g.buffer ++ bs)
    (h : g.spaceFor (bs.length + n)) : k.spaceFor n := by
  obtain ⟨places, room⟩ := h
  obtain ⟨hs, hu, -⟩ := control_status control
  obtain ⟨-, -, -, reserved⟩ := control_commands control
  simp only [Ring.spaceFor, Ring.freePlaces, hs, hu, reserved, buffer, List.length_append] at places ⊢
  omega

theorem Tells.of_buffer (control : t.ring.control = s.ring.control) (buffer : t.ring.buffer = s.ring.buffer) : Tells s t [] :=
  ⟨control, fun _ => ⟨[], by rw [buffer, List.append_nil], rfl⟩⟩

theorem Tells.of_ring (h : t.ring = s.ring) : Tells s t [] := .of_buffer (by rw [h]) (by rw [h])

theorem Tells.refl (s : State) : Tells s s [] := .of_ring rfl

theorem Tells.trans (h : Tells s t rs) (k : Tells t u qs) : Tells s u (rs ++ qs) := by
  obtain ⟨control, tell⟩ := h
  obtain ⟨control', tell'⟩ := k
  refine ⟨control'.trans control, fun space => ?_⟩
  rw [List.length_append] at space
  obtain ⟨bs, buffer, records⟩ := tell (space.mono (by omega))
  have length : bs.length = rs.length := by rw [← records, List.length_map]
  obtain ⟨bs', buffer', records'⟩ := tell' (spaceFor_append control buffer (length ▸ space))
  exact ⟨bs ++ bs', by rw [buffer', buffer, List.append_assoc], by rw [List.map_append, records, records']⟩

theorem Tells.then_ring (h : Tells s t rs) (ring : u.ring = t.ring) : Tells s u rs := by
  rw [Tells, ring]
  exact h

theorem Tells.emit (s : State) (fresh : r.dropped = 0) : Tells s (s.emit r) [r] := by
  refine ⟨((Works.refl s).emit r).control, fun space => ?_⟩
  have room : s.ring.room = true := room_of_space (n := 1) (by omega) space
  exact ⟨_, emit_buffer_of_room r room, by simp only [List.map_cons, List.map_nil]; rw [← fresh]⟩

theorem Tells.then_emit (h : Tells s t rs) (fresh : r.dropped = 0) : Tells s (t.emit r) (rs ++ [r]) := h.trans (.emit t fresh)

theorem Tells.news (h : Tells s t rs) (space : s.ring.spaceFor n) (le : rs.length ≤ n) : s.news t = rs := by
  obtain ⟨bs, buffer, records⟩ := h.2 (space.mono le)
  rw [State.news, buffer, List.drop_left, records]

/-- What a step has told stands at the front of what the event tells. -/
theorem Tells.news_prefix (h : Tells s t rs) (space : s.ring.spaceFor n) (le : rs.length ≤ n)
    (later : t.ring.buffer <+: v.ring.buffer) : rs <+: s.news v := by
  obtain ⟨bs, buffer, records⟩ := h.2 (space.mono le)
  obtain ⟨more, eq⟩ := later
  rw [State.news, ← eq, buffer, List.append_assoc, List.drop_left, List.map_append, records]
  exact List.prefix_append _ _

theorem head_of_prefix {α : Type} {a : α} {l m : List α} (h : a :: l <+: m) : m.head? = some a := by
  obtain ⟨more, rfl⟩ := h
  rfl

end Sys2Proof.Machine
end

section
/-! Debounced changes of the sensor inputs (7.2 to 7.6, R159): O58. -/

namespace Sys2Proof.Machine

variable {s t u w : State} {x y : Sensor} {v : Level} {l m : Loc} {d e : Drive} {f : Filter} {n : Nat} {old new : Level}

/-! ## Filters -/

theorem filter_setFilter_self (s : State) (x : Sensor) (f : Filter) : (s.setFilter x f).filter x = f := by
  simp [State.filter, State.setFilter, State.modLoader]

/-- The number of a filter tells its sensor. -/
theorem sensorIx_injective : sensorIx x = sensorIx y → x = y := by
  intro h
  have val : (sensorIx x).val = (sensorIx y).val := congrArg Fin.val h
  rcases x with ⟨l, hl⟩ | ⟨d, hd⟩ | _ | _ | ⟨m, hm⟩ | _ | ⟨d, hd⟩ <;>
    rcases y with ⟨l', hl'⟩ | ⟨d', hd'⟩ | _ | _ | ⟨m', hm'⟩ | _ | ⟨d', hd'⟩ <;>
    simp only [sensorIx, Fin.isValue] at val <;> grind

theorem filter_setFilter_ne (s : State) (f : Filter) (ne : y ≠ x) : (s.setFilter x f).filter y = s.filter y := by
  have apart : (sensorIx x).val ≠ (sensorIx y).val := fun h => ne (sensorIx_injective (Fin.ext h)).symm
  exact Vector.getElem_set_ne (sensorIx x).isLt (sensorIx y).isLt apart

theorem filter_of_filters (h : t.loader.filters = s.loader.filters) (y : Sensor) : t.filter y = s.filter y := by
  rw [State.filter, h, State.filter]

/-- R131: the debounced value of a sensor has become `v`, at the time `n` at the earliest. -/
def State.settledInput (s : State) (x : Sensor) (v : Level) (n : Nat) : State :=
  (s.elapseTo n).setFilter x { s.filter x with debounced := v, candidate := none, deadline := none }

theorem exec_rawSensorChange (run : s.running = true) (takes : x.takes v = true) : exec (.rawSensorChange x v) s =
    .next (s.settle (s.setFilter x ((s.filter x).take v (s.timebase + 1000 * s.debounce x)))) := by
  change execRawSensorChange x v s = _
  rw [execRawSensorChange, takes, run]
  rfl

theorem exec_sensorSettleExpiry (run : s.running = true) (candidate : (s.filter x).candidate = some v)
    (deadline : (s.filter x).deadline = some n) : exec (.sensorSettleExpiry x) s =
    .next (s.settle ((s.settledInput x v n).debounced x (s.filter x).debounced v)) := by
  change execSensorSettleExpiry x s = _
  rw [execSensorSettleExpiry]
  simp only [candidate, deadline, run, if_true]
  rfl

theorem settledInput_tells (s : State) (x : Sensor) (v : Level) (n : Nat) : Tells s (s.settledInput x v n) [] :=
  .of_buffer ((Works.refl s).elapseTo n).control (elapseTo_buffer s n)

theorem settledInput_loader (s : State) (x : Sensor) (v : Level) (n : Nat) : (s.settledInput x v n).loader =
    { s.loader with filters := (s.settledInput x v n).loader.filters } := rfl

/-! ## The presence of a place (R132, R138) -/

theorem releaseReserved_loc (s : State) (r : Reservation) (l : Loc) : (s.releaseReserved r).loc l =
    if (s.loc l).reserved = some r then { s.loc l with reserved := none } else s.loc l :=
  Vector.getElem_map _ _

theorem loc_modLoc_ne (s : State) (f : Location → Location) (ne : m ≠ l) : (s.modLoc l f).loc m = s.loc m :=
  Vector.getElem_set_ne l.isLt m.isLt fun h => ne (Fin.ext h).symm

theorem emit_loc (s : State) (r : Record) (l : Loc) : (s.emit r).loc l = s.loc l := by rw [State.loc, State.emit_loader, State.loc]

/-- R132: a change by hand has been counted. -/
def State.handled (s : State) : State := s.countLoader fun c => { c with manualChanges := c.manualChanges.add 1 }

/-- R132: what a change by hand makes of the cartridge records. -/
def State.cartChanged (s : State) (l : Loc) (full : Bool) : State :=
  match full, (s.loc l).cart with
  | true, none => s.handled.newCart.2.modLoc l fun x => { x with cart := some { uid := s.loader.nextUid } }
  | false, some k => (s.handled.modLoc l fun x => { x with cart := none }).releaseReserved (.homeOf k.uid)
  | _, _ => s.handled

/-- R132: the record of a change by hand. -/
def State.changeRecord (s : State) (l : Loc) (full : Bool) : Record :=
  match full, (s.loc l).cart with
  | true, none => locationChanged l 1 1 none
  | true, some _ => locationChanged l 1 0 none
  | false, none => locationChanged l 0 0 none
  | false, some k => locationChanged l 0 2 k.label

theorem manualChange_eq (s : State) (l : Loc) (full : Bool) : s.manualChange l full =
    (s.cartChanged l full).emit (s.changeRecord l full) := by
  cases full <;> cases hc : (s.loc l).cart <;> simp only [State.manualChange, State.cartChanged, State.changeRecord, hc] <;> rfl

theorem changeRecord_fresh (s : State) (l : Loc) (full : Bool) : (s.changeRecord l full).dropped = 0 := by
  unfold State.changeRecord
  split <;> rfl

/-- What a change by hand leaves at its place, and at the others. -/
theorem cartChanged_place (s : State) (l : Loc) (full : Bool) :
    ((s.cartChanged l full).loc l).cart = (if full then some ((s.loc l).cart.getD { uid := s.loader.nextUid }) else none)
    ∧ ((s.cartChanged l full).loc l).expected = (s.loc l).expected
    ∧ ∀ m, m ≠ l → ((s.cartChanged l full).loc m).cart = (s.loc m).cart
      ∧ ((s.cartChanged l full).loc m).expected = (s.loc m).expected := by
  have handled (m : Loc) : s.handled.loc m = s.loc m := rfl
  unfold State.cartChanged
  split
  next hc =>
    refine ⟨by rw [State.loc_modLoc_self, hc]; rfl, by rw [State.loc_modLoc_self]; rfl, fun m ne => ?_⟩
    rw [loc_modLoc_ne _ _ ne]
    exact ⟨rfl, rfl⟩
  next k hc =>
    simp only [releaseReserved_loc, apply_ite Location.cart, apply_ite Location.expected, ite_self, State.loc_modLoc_self,
      Bool.false_eq_true, if_false, true_and]
    refine ⟨rfl, fun m ne => ?_⟩
    rw [loc_modLoc_ne _ _ ne]
    exact ⟨rfl, rfl⟩
  next full _ _ placed taken =>
    rw [handled]
    refine ⟨?_, rfl, fun m _ => ⟨rfl, rfl⟩⟩
    cases full with
    | false => exact Option.eq_none_iff_forall_ne_some.mpr fun k hk => taken k rfl hk
    | true =>
      obtain ⟨k, hk⟩ := Option.ne_none_iff_exists'.mp (placed rfl)
      rw [hk]
      rfl

/-- The other blocks, and the other registers of the loader, at a change by hand. -/
theorem cartChanged_rest (s : State) (l : Loc) (full : Bool) : (s.cartChanged l full).ring = s.ring
    ∧ (s.cartChanged l full).chans = s.chans
    ∧ (s.cartChanged l full).loader.filters = s.loader.filters
    ∧ (s.cartChanged l full).loader.exportWaiting = s.loader.exportWaiting
    ∧ (s.cartChanged l full).loader.counters.manualChanges = s.loader.counters.manualChanges.add 1 := by
  unfold State.cartChanged
  split <;> exact ⟨rfl, rfl, rfl, rfl, rfl⟩

/-- R132: a cartridge taken by hand leaves its home slot unreserved. -/
theorem cartChanged_homeOf {k : Cart} (hc : (s.loc l).cart = some k) (h : (s.loc m).reserved = some (.homeOf k.uid)) :
    ((s.cartChanged l false).loc m).reserved = none := by
  have kept : (((s.handled.modLoc l fun x => { x with cart := none })).loc m).reserved = some (.homeOf k.uid) := by
    by_cases ne : m = l
    · subst ne
      rw [State.loc_modLoc_self]
      exact h
    · rw [loc_modLoc_ne _ _ ne]
      exact h
  simp only [State.cartChanged, hc, releaseReserved_loc, kept, if_true]

/-- R138: an export that waits ends as the mail slot becomes EMPTY. -/
def State.exportSeen (s : State) (l : Loc) (full : Bool) : State :=
  if l = mailLoc ∧ !full then s.modLoader fun x => { x with exportWaiting := false } else s

theorem exportSeen_same {β : Type} (g : State → β) (h : ∀ t : State, g (t.modLoader fun x => { x with exportWaiting := false }) = g t)
    (s : State) (l : Loc) (full : Bool) : g (s.exportSeen l full) = g s := by
  unfold State.exportSeen
  split
  · exact h s
  · rfl

theorem exportSeen_exportWaiting (s : State) (l : Loc) (full : Bool) : (s.exportSeen l full).loader.exportWaiting =
    if l = mailLoc ∧ full = false then false else s.loader.exportWaiting := by
  unfold State.exportSeen
  cases full <;> simp only [Bool.not_true, Bool.not_false, Bool.false_eq_true, reduceCtorEq, and_false, and_true, if_false]
  split <;> rfl

/-- R132: the change that a motion expects. -/
def State.expectationMet (s : State) (l : Loc) : State := s.modLoc l fun x => { x with expected := none }

theorem presenceChange_expected {full : Bool} (h : (s.loc l).expected = some full) : s.presenceChange l full =
    (s.expectationMet l).exportSeen l full := by
  simp only [State.presenceChange, h, if_true]
  rfl

theorem presenceChange_manual {full : Bool} (h : (s.loc l).expected ≠ some full) : s.presenceChange l full =
    ((s.cartChanged l full).emit (s.changeRecord l full)).exportSeen l full := by
  rw [← manualChange_eq]
  simp only [State.presenceChange, h, if_false]
  rfl

/-- What a change of presence leaves alone, expected or by hand. -/
theorem presenceChange_rest (s : State) (l : Loc) (full : Bool) : (s.presenceChange l full).chans = s.chans
    ∧ (s.presenceChange l full).loader.filters = s.loader.filters
    ∧ (s.presenceChange l full).loader.exportWaiting = (if l = mailLoc ∧ full = false then false else s.loader.exportWaiting)
    ∧ ∀ m, m ≠ l → ((s.presenceChange l full).loc m).cart = (s.loc m).cart
      ∧ ((s.presenceChange l full).loc m).expected = (s.loc m).expected := by
  have chans (t : State) : (t.exportSeen l full).chans = t.chans := exportSeen_same (·.chans) (fun _ => rfl) t l full
  have filters (t : State) : (t.exportSeen l full).loader.filters = t.loader.filters :=
    exportSeen_same (·.loader.filters) (fun _ => rfl) t l full
  have locs (t : State) (m : Loc) : (t.exportSeen l full).loc m = t.loc m := exportSeen_same (·.loc m) (fun _ => rfl) t l full
  by_cases h : (s.loc l).expected = some full
  · rw [presenceChange_expected h, chans, filters, exportSeen_exportWaiting]
    refine ⟨rfl, rfl, rfl, fun m ne => ?_⟩
    rw [locs, State.expectationMet, loc_modLoc_ne _ _ ne]
    exact ⟨rfl, rfl⟩
  · obtain ⟨-, hchans, hfilters, waiting, -⟩ := cartChanged_rest s l full
    obtain ⟨-, -, others⟩ := cartChanged_place s l full
    rw [presenceChange_manual h, chans, filters, exportSeen_exportWaiting, State.emit_chans, State.emit_loader]
    refine ⟨hchans, hfilters, by rw [waiting], fun m ne => ?_⟩
    rw [locs, emit_loc]
    exact others m ne

/-- R132: the change that a motion expects clears the expectation, and is not told. -/
theorem presenceChange_met {full : Bool} (h : (s.loc l).expected = some full) :
    ((s.presenceChange l full).loc l).expected = none ∧ ((s.presenceChange l full).loc l).cart = (s.loc l).cart
    ∧ (s.presenceChange l full).loader.counters.manualChanges = s.loader.counters.manualChanges
    ∧ (s.presenceChange l full).ring = s.ring := by
  have locs (t : State) : (t.exportSeen l full).loc l = t.loc l := exportSeen_same (·.loc l) (fun _ => rfl) t l full
  have counts (t : State) : (t.exportSeen l full).loader.counters = t.loader.counters :=
    exportSeen_same (·.loader.counters) (fun _ => rfl) t l full
  have ring (t : State) : (t.exportSeen l full).ring = t.ring := exportSeen_same (·.ring) (fun _ => rfl) t l full
  rw [presenceChange_expected h, locs, counts, ring, State.expectationMet, State.loc_modLoc_self]
  exact ⟨rfl, rfl, rfl, rfl⟩

/-- R132: a change by hand is counted and told, and its place follows. -/
theorem presenceChange_byHand {full : Bool} (h : (s.loc l).expected ≠ some full) :
    ((s.presenceChange l full).loc l).expected = (s.loc l).expected
    ∧ ((s.presenceChange l full).loc l).cart = (if full then some ((s.loc l).cart.getD { uid := s.loader.nextUid }) else none)
    ∧ (s.presenceChange l full).loader.counters.manualChanges = s.loader.counters.manualChanges.add 1
    ∧ Tells s (s.presenceChange l full) [s.changeRecord l full] := by
  have locs (t : State) : (t.exportSeen l full).loc l = t.loc l := exportSeen_same (·.loc l) (fun _ => rfl) t l full
  have counts (t : State) : (t.exportSeen l full).loader.counters = t.loader.counters :=
    exportSeen_same (·.loader.counters) (fun _ => rfl) t l full
  have ring (t : State) : (t.exportSeen l full).ring = t.ring := exportSeen_same (·.ring) (fun _ => rfl) t l full
  obtain ⟨hring, -, -, -, counted⟩ := cartChanged_rest s l full
  obtain ⟨cart, expected, -⟩ := cartChanged_place s l full
  rw [presenceChange_manual h, locs, counts, emit_loc, State.emit_loader]
  exact ⟨expected, cart, counted, ((Tells.of_ring hring).then_emit (changeRecord_fresh s l full)).then_ring (ring _)⟩

theorem presenceChange_homeOf {k : Cart} (h : (s.loc l).expected ≠ some false) (hc : (s.loc l).cart = some k)
    (hm : (s.loc m).reserved = some (.homeOf k.uid)) : ((s.presenceChange l false).loc m).reserved = none := by
  rw [presenceChange_manual h, exportSeen_same (·.loc m) (fun _ => rfl), emit_loc]
  exact cartChanged_homeOf hc hm

/-! ## The position of a cartridge in a bay (R159) -/

theorem failChannel_loader (s : State) (d : Drive) (cause : Cause) (named : Option Image) :
    (s.failChannel d cause named).loader = s.loader := by
  by_cases h : (s.chan d).state = .failed
  · rw [State.failChannel, if_pos h]
  · rw [failChannel_eq cause named h, State.failAttached_loader, stopReader_cut_loader, State.failedWrites, abortTargeting_loader,
      State.emit_loader, State.modChan_loader, dropAssembler_loader]

theorem bayChange_loader (s : State) (d : Drive) (old new : Level) : (s.bayChange d old new).loader = s.loader := by
  unfold State.bayChange
  split
  · split
    · rfl
    · rw [State.enterUnmounted, State.enter_loader, State.modChan_loader]
  all_goals first
    | rfl
    | split
      · exact failChannel_loader s d _ _
      · rfl

/-- R132: the presence that a change of level shows. -/
def State.presenceSeen (s : State) (l : Loc) (old new : Level) : State :=
  if (old == .off) != (new == .off) then s.presenceChange l (new != .off) else s

theorem placeChange_bay (s : State) (d : Drive) (old new : Level) : s.placeChange (bayLoc d) old new =
    (s.presenceSeen (bayLoc d) old new).bayChange d old new := by
  simp only [State.placeChange, bayOf_bayLoc, State.presenceSeen]

theorem placeChange_slot (h : l.val < 25) (old new : Level) : s.placeChange l old new = s.presenceSeen l old new := by
  have none : bayOf l = none := dif_neg (by omega)
  simp only [State.placeChange, none, State.presenceSeen]

/-- A location is a place with a presence input, or a bay. -/
theorem place_or_bay (l : Loc) : l.val < 25 ∨ ∃ d, l = bayLoc d := by
  by_cases h : l.val < 25
  · exact .inl h
  · exact .inr ⟨⟨l.val - 25, by omega⟩, Fin.ext (show l.val = 25 + (l.val - 25) by omega)⟩

theorem presenceSensor_of_place (h : l.val < 25) : presenceSensor l = .presence ⟨l.val, h⟩ := dif_pos h

theorem presenceSensor_bayLoc (d : Drive) : presenceSensor (bayLoc d) = .bay d := by
  have past : ¬ (bayLoc d).val < 25 := Nat.not_lt.mpr (Nat.le_add_right 25 d.val)
  rw [presenceSensor, dif_neg past]
  exact congrArg Sensor.bay (Fin.ext (Nat.add_sub_cancel_left 25 d.val))

theorem debounced_place (s : State) (l : Loc) (old new : Level) : s.debounced (presenceSensor l) old new = s.placeChange l old new := by
  obtain h | ⟨d, rfl⟩ := place_or_bay l
  · rw [presenceSensor_of_place h]
    rfl
  · rw [presenceSensor_bayLoc]
    rfl

theorem placeChange_loader (s : State) (l : Loc) (old new : Level) : (s.placeChange l old new).loader =
    (s.presenceSeen l old new).loader := by
  obtain h | ⟨d, rfl⟩ := place_or_bay l
  · rw [placeChange_slot h]
  · rw [placeChange_bay, bayChange_loader]

theorem placeChange_buffer (s : State) (l : Loc) (old new : Level) : (s.presenceSeen l old new).ring.buffer <+:
    (s.placeChange l old new).ring.buffer := by
  obtain h | ⟨d, rfl⟩ := place_or_bay l
  · rw [placeChange_slot h]
  · rw [placeChange_bay]
    exact ((Works.refl _).bayChange d old new).buffer

theorem presenceSeen_same (h : old = .off ↔ new = .off) (l : Loc) : s.presenceSeen l old new = s := by
  have eq : (old == .off) = (new == .off) := by rw [Bool.eq_iff_iff, beq_iff_eq, beq_iff_eq]; exact h
  rw [State.presenceSeen, eq, bne_self_eq_false, if_neg Bool.false_ne_true]

theorem presenceSeen_full (h : old = .off) (k : new ≠ .off) (l : Loc) : s.presenceSeen l old new = s.presenceChange l true := by
  have eq : (new == .off) = false := beq_false_of_ne k
  simp only [State.presenceSeen, bne, eq, h, beq_self_eq_true, Bool.not_false]
  rfl

theorem presenceSeen_empty (h : old ≠ .off) (k : new = .off) (l : Loc) : s.presenceSeen l old new = s.presenceChange l false := by
  have eq : (old == .off) = false := beq_false_of_ne h
  simp only [State.presenceSeen, bne, eq, k, beq_self_eq_true, Bool.not_true]
  rfl

/-- What has been told by the change of presence heads what the whole change tells. -/
theorem placeChange_head {o : State} (quiet : Tells o s []) (h : Tells s (s.presenceSeen l old new) [r])
    (space : o.ring.spaceFor 1) : (o.news (s.placeChange l old new)).head? = some r :=
  head_of_prefix ((quiet.trans h).news_prefix space (Nat.le_refl 1) (placeChange_buffer s l old new))

/-- R132, R138: what a debounced change of presence does to the locations, and the record that it tells. -/
theorem placeChange_effect {o : State} (quiet : Tells o s []) (buffer : s.ring.buffer = o.ring.buffer) (l : Loc) (old v : Level) :
    let w := s.placeChange l old v
    let c := s.loc l
    let same := (w.loc l).cart = c.cart ∧ w.loader.counters.manualChanges = s.loader.counters.manualChanges
    let manual := (w.loc l).expected = c.expected
      ∧ w.loader.counters.manualChanges = s.loader.counters.manualChanges.add 1
    (∀ m, m ≠ l → (w.loc m).cart = (s.loc m).cart ∧ (w.loc m).expected = (s.loc m).expected)
    ∧ w.loader.exportWaiting = (if l = mailLoc ∧ old ≠ .off ∧ v = .off then false else s.loader.exportWaiting)
    ∧ ((old = .off ↔ v = .off) → w.loc l = c ∧ same)
    ∧ (old = .off → v ≠ .off →
      (c.expected = some true → (w.loc l).expected = none ∧ same ∧ (l.val < 25 → w.ring.buffer = o.ring.buffer))
      ∧ (c.expected ≠ some true → manual
        ∧ (c.cart = none → (w.loc l).cart = some { uid := s.loader.nextUid }
            ∧ (o.ring.spaceFor 1 → (o.news w).head? = some (locationChanged l 1 1 none)))
        ∧ (c.cart ≠ none → (w.loc l).cart = c.cart
            ∧ (o.ring.spaceFor 1 → (o.news w).head? = some (locationChanged l 1 0 none)))))
    ∧ (old ≠ .off → v = .off →
      (c.expected = some false → (w.loc l).expected = none ∧ same ∧ (l.val < 25 → w.ring.buffer = o.ring.buffer))
      ∧ (c.expected ≠ some false → manual ∧ (w.loc l).cart = none
        ∧ (c.cart = none → (o.ring.spaceFor 1 → (o.news w).head? = some (locationChanged l 0 0 none)))
        ∧ (∀ k, c.cart = some k → (o.ring.spaceFor 1 → (o.news w).head? = some (locationChanged l 0 2 k.label))
            ∧ ∀ m, (s.loc m).reserved = some (.homeOf k.uid) → (w.loc m).reserved = none))) := by
  intro w c same manual
  have loader : w.loader = (s.presenceSeen l old v).loader := placeChange_loader s l old v
  have loc (m : Loc) : w.loc m = (s.presenceSeen l old v).loc m := congrArg (fun x : Loader => x.locs[m]) loader
  have slot (h : l.val < 25) : w.ring.buffer = (s.presenceSeen l old v).ring.buffer :=
    congrArg (·.ring.buffer) (placeChange_slot h old v)
  simp only [same, manual, loc, loader]
  obtain still | ⟨was, now⟩ | ⟨was, now⟩ : (old = .off ↔ v = .off) ∨ (old = .off ∧ v ≠ .off) ∨ (old ≠ .off ∧ v = .off) := by
    tauto
  · rw [presenceSeen_same still]
    refine ⟨fun m _ => ⟨rfl, rfl⟩, (if_neg fun h => h.2.1 (still.mpr h.2.2)).symm, fun _ => ⟨rfl, rfl, rfl⟩,
      fun ho hv => absurd (still.mp ho) hv, fun ho hv => absurd (still.mpr hv) ho⟩
  · have head := fun r h => placeChange_head (l := l) (old := old) (new := v) (r := r) quiet h
    rw [presenceSeen_full was now] at slot head ⊢
    obtain ⟨-, -, waiting, others⟩ := presenceChange_rest s l true
    refine ⟨others, ?_, fun h => absurd (h.mp was) now, fun _ _ => ⟨fun e => ?_, fun e => ?_⟩, fun h => absurd was h⟩
    · rw [waiting, if_neg fun h => absurd h.2 (by decide), if_neg fun h => h.2.1 was]
    · obtain ⟨expected, cart, count, ring⟩ := presenceChange_met e
      exact ⟨expected, ⟨cart, count⟩, fun h => (slot h).trans ((congrArg Ring.buffer ring).trans buffer)⟩
    · obtain ⟨expected, cart, count, told⟩ := presenceChange_byHand e
      refine ⟨⟨expected, count⟩, fun hc => ?_, fun hc => ?_⟩
      · simp only [cart, State.changeRecord, show (s.loc l).cart = none from hc] at told ⊢
        exact ⟨rfl, head _ told⟩
      · obtain ⟨k, hk⟩ := Option.ne_none_iff_exists'.mp hc
        simp only [cart, State.changeRecord, show (s.loc l).cart = some k from hk] at told ⊢
        exact ⟨hk.symm, head _ told⟩
  · have head := fun r h => placeChange_head (l := l) (old := old) (new := v) (r := r) quiet h
    rw [presenceSeen_empty was now] at slot head ⊢
    obtain ⟨-, -, waiting, others⟩ := presenceChange_rest s l false
    refine ⟨others, ?_, fun h => absurd (h.mpr now) was, fun h => absurd h was, fun _ _ => ⟨fun e => ?_, fun e => ?_⟩⟩
    · rw [waiting]
      exact if_congr ⟨fun h => ⟨h.1, was, now⟩, fun h => ⟨h.1, rfl⟩⟩ rfl rfl
    · obtain ⟨expected, cart, count, ring⟩ := presenceChange_met e
      exact ⟨expected, ⟨cart, count⟩, fun h => (slot h).trans ((congrArg Ring.buffer ring).trans buffer)⟩
    · obtain ⟨expected, cart, count, told⟩ := presenceChange_byHand e
      refine ⟨⟨expected, count⟩, cart, fun hc => ?_, fun k hc => ⟨?_, fun m hm => presenceChange_homeOf e hc hm⟩⟩
      all_goals
        simp only [State.changeRecord, show (s.loc l).cart = _ from hc] at told
        exact head _ told

theorem presenceSeen_chans (s : State) (l : Loc) (old new : Level) : (s.presenceSeen l old new).chans = s.chans := by
  unfold State.presenceSeen
  split
  · exact (presenceChange_rest s l _).1
  · rfl

/-- R159: a channel has failed as its cartridge came out. -/
def FailedBy (s w : State) (d : Drive) (cause : Cause) : Prop :=
  (w.chan d).state = .failed ∧ ((s.chan d).firstFault = none → (w.chan d).firstFault.map (·.cause) = some cause)

theorem failChannel_failedBy (cause : Cause) (h : (s.chan d).state ≠ .failed) : FailedBy s (s.failChannel d cause none) d cause := by
  obtain ⟨⟨failed, -, -, -, -, -, -, -, -, -, -, -, -, -, -, -, -, -, -, f, first, fresh, -⟩, -⟩ :=
    failChannel_effect (s := s) (d := d) cause none h
  exact ⟨failed, fun none => by rw [first, Option.map_some, (fresh none).1]⟩

theorem emptied_fields (c : Channel) : ∃ m, c.emptied =
    { c with mount := none, ejectTimer := none, state := .unmounted, cleaningMark := m } :=
  let ⟨m, fields, _⟩ := entered_fields { c with mount := none, ejectTimer := none } .unmounted
  ⟨m, fields⟩

/-- R159: what a change of a cartridge's position in a bay does to the channels. -/
theorem bayChange_effect (s : State) (d : Drive) (old v : Level) :
    let w := s.bayChange d old v
    let st := (s.chan d).state
    (st = .ejectWait → v ≠ .on → (w.chan d).state = .unmounted ∧ (w.chan d).mount = none
      ∧ (w.chan d).ejectTimer = none ∧ ∀ e, e ≠ d → w.chan e = s.chan e)
    ∧ (st = .mounting → v = .off → FailedBy s w d .unexpectedEject)
    ∧ (st = .idle ∨ st = .write ∨ st = .read ∨ st = .unmounting → old = .on → v ≠ .on → FailedBy s w d .unexpectedEject)
    ∧ (st = .unmounted ∨ st = .failed ∨ (st = .ejectWait ∧ v = .on) ∨ (st = .mounting ∧ v ≠ .off)
        ∨ ((st = .idle ∨ st = .write ∨ st = .read ∨ st = .unmounting) ∧ (old ≠ .on ∨ v = .on)) → w.chans = s.chans) := by
  intro w st
  refine ⟨fun hs hv => ?_, fun hs hv => ?_, fun hs ho hv => ?_, fun h => ?_⟩
  · have eq : w = s.enterUnmounted d := by simp only [w, State.bayChange, show (s.chan d).state = _ from hs, if_neg hv]
    have entered := Rechan.then_enterUnmounted (Rechan.refl s d)
    obtain ⟨m, fields⟩ := emptied_fields (s.chan d)
    rw [eq, entered.self, fields]
    exact ⟨rfl, rfl, rfl, fun e ne => entered.other ne⟩
  · have eq : w = s.failChannel d .unexpectedEject none := by
      simp only [w, State.bayChange, show (s.chan d).state = _ from hs, if_pos hv]
    rw [eq]
    exact failChannel_failedBy _ (by rw [show (s.chan d).state = _ from hs]; decide)
  · have eq : w = s.failChannel d .unexpectedEject none := by
      obtain hs | hs | hs | hs := hs <;>
        simp only [w, State.bayChange, show (s.chan d).state = _ from hs, if_pos (And.intro ho hv)]
    rw [eq]
    exact failChannel_failedBy _ fun k => by rw [show st = _ from k] at hs; exact absurd hs (by decide)
  · have eq : w = s := by
      obtain hs | hs | ⟨hs, hv⟩ | ⟨hs, hv⟩ | ⟨hs, hv⟩ := h
      · simp only [w, State.bayChange, show (s.chan d).state = _ from hs]
      · simp only [w, State.bayChange, show (s.chan d).state = _ from hs]
      · simp only [w, State.bayChange, show (s.chan d).state = _ from hs, if_pos hv]
      · simp only [w, State.bayChange, show (s.chan d).state = _ from hs, if_neg hv]
      · have stays : ¬ (old = .on ∧ v ≠ .on) := by tauto
        obtain hs | hs | hs | hs := hs <;> simp only [w, State.bayChange, show (s.chan d).state = _ from hs, if_neg stays]
    rw [eq]

/-! ## The gripper, a magazine that is unlatched, the door, and a drive's power (R133, R136, R139) -/

/-- R133, R136: the record of an event at the panel. -/
def panelRecord (s : State) (code : Nat) : Record := { kind := .doorEvent, e0 := w32 code, e1 := w32 s.picker.state.code }

theorem doorEvent_tells (s : State) (code : Nat) : Tells s (s.doorEvent code) [panelRecord s code] := .emit s rfl

/-- R133: a magazine has been unlatched. -/
def State.opened (s : State) (m : Fin 2) : State :=
  (s.modLoader fun l => { l with magOpen := l.magOpen.set m true }).doorEvent (4 + 2 * m.val)

theorem opened_loader (s : State) (m : Fin 2) : (s.opened m).loader = { s.loader with magOpen := s.loader.magOpen.set m true } := by
  rw [State.opened, State.doorEvent_loader]
  rfl

theorem unlatch_cut {o : Order} {l : Loc} {m : Fin 2} (order : s.picker.order = some o) (flight : s.picker.inFlight = true)
    (loc : o.loc = some l) (mag : magOf l = some m) : s.unlatch m = (s.opened m).modPicker fun p => { p with cut := true } := by
  simp only [State.unlatch, order, flight, loc, Option.bind_some, mag, and_self, if_true]
  rfl

theorem unlatch_uncut {m : Fin 2} (h : ∀ o l, s.picker.order = some o → s.picker.inFlight = true → o.loc = some l → magOf l ≠ some m) :
    s.unlatch m = s.opened m := by
  cases order : s.picker.order with
  | none =>
    simp only [State.unlatch, order]
    rfl
  | some o =>
    have away : ¬ (s.picker.inFlight = true ∧ o.loc.bind magOf = some m) := fun ⟨flight, mag⟩ => by
      obtain ⟨l, loc, mag⟩ := Option.bind_eq_some_iff.mp mag
      exact h o l order flight loc mag
    simp only [State.unlatch, order, if_neg away]
    rfl

/-- R133: a debounced unlatch. -/
theorem unlatch_effect (s : State) (m : Fin 2) : Tells s (s.unlatch m) [panelRecord s (4 + 2 * m.val)]
    ∧ (s.unlatch m).chans = s.chans ∧ ∃ p, (s.unlatch m).loader = { s.loader with magOpen := s.loader.magOpen.set m true, picker := p }
      ∧ (∀ o l, s.picker.order = some o → s.picker.inFlight = true → o.loc = some l → magOf l = some m →
          p = { s.picker with cut := true })
      ∧ ((∀ o l, s.picker.order = some o → s.picker.inFlight = true → o.loc = some l → magOf l ≠ some m) → p = s.picker) := by
  have told : Tells s (s.opened m) [panelRecord s (4 + 2 * m.val)] :=
    (Tells.of_ring (t := s.modLoader fun l => { l with magOpen := l.magOpen.set m true }) rfl).then_emit rfl
  have chans : (s.opened m).chans = s.chans := State.doorEvent_chans _ _
  by_cases h : ∃ o l, s.picker.order = some o ∧ s.picker.inFlight = true ∧ o.loc = some l ∧ magOf l = some m
  · obtain ⟨o, l, order, flight, loc, mag⟩ := h
    rw [unlatch_cut order flight loc mag]
    refine ⟨told.then_ring rfl, chans, { s.picker with cut := true }, ?_, fun _ _ _ _ _ _ => rfl,
      fun away => absurd mag (away o l order flight loc)⟩
    rw [State.modPicker, State.modLoader_loader, opened_loader]
    rfl
  · rw [unlatch_uncut fun o l order flight loc mag => h ⟨o, l, order, flight, loc, mag⟩]
    exact ⟨told, chans, s.picker, opened_loader s m,
      fun o l order flight loc mag => absurd ⟨o, l, order, flight, loc, mag⟩ h, fun _ => rfl⟩

theorem homeTest_sends (state : s.picker.state = .homing) (order : s.picker.order = none) (door : s.doorOpen = false) :
    s.homeTest = s.sendOrder .home none :=
  if_pos ⟨state, by rw [order]; rfl, by rw [door]; rfl⟩

theorem homeTest_waits (h : s.picker.state ≠ .homing ∨ s.picker.order ≠ none) : s.homeTest = s :=
  if_neg fun ⟨state, order, _⟩ => h.elim (· state) (· (Option.isNone_iff_eq_none.mp order))

theorem setPicker_loader (s : State) (st : PickState) : (s.setPicker st).loader =
    { s.loader with picker := { s.picker with state := st }, lockOutput := (s.setPicker st).loader.lockOutput } := by
  rw [State.setPicker, syncLock_loader]
  rfl

theorem sendOrder_loader (s : State) (st : Stage) : (s.sendOrder st none).loader =
    { s.loader with
      counters := { s.loader.counters with orders := s.loader.counters.orders.add 1 }
      lockOutput := (s.sendOrder st none).loader.lockOutput
      picker := { s.picker with
        order := some { number := s.picker.nextNumber, stage := st, loc := none
                        deadline := s.timebase + timeoutMicros s.params.motionTimeout }
        inFlight := true, nextNumber := nextOrder s.picker.nextNumber, state := st.pickState } } := by
  have plain : s.sendOrder st none = ((s.modPicker fun p => { p with
      order := some { number := p.nextNumber, stage := st, loc := none
                      deadline := s.timebase + timeoutMicros s.params.motionTimeout }
      inFlight := true, nextNumber := nextOrder p.nextNumber }).countLoader fun c =>
        { c with orders := c.orders.add 1 }).setPicker st.pickState := by
    cases st <;> rfl
  rw [plain, setPicker_loader]
  rfl

theorem doorChange_quiet (h : s.picker.inFlight = false ∨ s.picker.order = none) : s.doorChange true = s.doorEvent 1 := by
  have picker : (s.doorEvent 1).picker = s.picker := congrArg Loader.picker (State.doorEvent_loader s 1)
  cases order : s.picker.order with
  | none => simp only [State.doorChange, if_true, picker, order]
  | some o =>
    have flight : s.picker.inFlight = false := h.resolve_right (by rw [order]; exact Option.some_ne_none o)
    simp only [State.doorChange, if_true, picker, order, flight, Bool.false_eq_true, if_false]

/-- R136, R145: the door closes, and homing goes on. -/
theorem doorChange_closed (door : s.doorOpen = false) : (s.doorChange false).chans = s.chans
    ∧ (s.doorChange false).loader.queue = s.loader.queue
    ∧ (s.doorEvent 0).ring.buffer <+: (s.doorChange false).ring.buffer
    ∧ (s.picker.state = .homing → s.picker.order = none → (s.doorChange false).picker.inFlight = true
      ∧ (s.doorChange false).picker.order = some { number := s.picker.nextNumber, stage := .home, loc := none
                                                   deadline := s.timebase + timeoutMicros s.params.motionTimeout })
    ∧ (s.picker.state ≠ .homing ∨ s.picker.order ≠ none → (s.doorChange false).picker = s.picker) := by
  have eq : s.doorChange false = (s.doorEvent 0).homeTest := rfl
  have loader := State.doorEvent_loader s 0
  have picker : (s.doorEvent 0).picker = s.picker := congrArg Loader.picker loader
  have outside : (s.doorEvent 0).outside = s.outside := State.emit_outside s _
  have shut : (s.doorEvent 0).doorOpen = false := by rw [State.doorOpen, State.filter, loader]; exact door
  have later := ((Works.refl (s.doorEvent 0)).homeTest).buffer
  rw [eq]
  by_cases h : s.picker.state = .homing ∧ s.picker.order = none
  · obtain ⟨state, order⟩ := h
    rw [homeTest_sends (by rw [picker, state]) (by rw [picker, order]) shut] at later ⊢
    have sent := sendOrder_loader (s.doorEvent 0) .home
    refine ⟨?_, by rw [sent, loader], later, fun _ _ => ?_, fun h => absurd h (by rw [state, order]; decide)⟩
    · simp only [State.sendOrder, Stage.expects, State.setPicker_chans]
      exact State.doorEvent_chans s 0
    · rw [State.picker, sent, picker, timebase_of_outside outside, params_of_outside outside]
      exact ⟨rfl, rfl⟩
  · have waits : s.picker.state ≠ .homing ∨ s.picker.order ≠ none := by tauto
    rw [homeTest_waits (by rw [picker]; exact waits)] at later ⊢
    exact ⟨State.doorEvent_chans s 0, by rw [loader], later, fun state order => absurd ⟨state, order⟩ h, fun _ => picker⟩

/-! ## Bay power (R139) -/

theorem forEach_fixed {α : Type} {f : α → State → State} (h : ∀ x, f x s = s) (xs : List α) : forEach xs f s = s :=
  forEach_keeps (P := (· = s)) (fun x t ht => by rw [ht, h]) xs s rfl

/-- Nothing hangs on a channel: no chunk is queued or held, its reader rests, no session is attached to it, and no live
stream targets it. -/
def Unattached (s : State) (d : Drive) : Prop :=
  (s.chan d).placeQueue = [] ∧ (s.chan d).held = none ∧ (s.chan d).reader.running = false
  ∧ (∀ i, (s.session i).drive ≠ some d) ∧ ∀ o, (s.stream o).targets.has d = false ∨ (s.stream o).state = .closed

theorem dropAssembler_ring_of_unattached (h : Unattached s d) : (s.dropAssembler d).ring = s.ring
    ∧ (s.dropAssembler d).streams = s.streams := by
  obtain ⟨queue, held, -⟩ := h
  simp only [State.dropAssembler, queue, held, List.append_nil, List.any_nil, List.filter_false]
  exact ⟨rfl, rfl⟩

theorem abortTargeting_ring_of_unattached (cause : Cause)
    (h : ∀ o, (s.stream o).targets.has d = false ∨ (s.stream o).state = .closed) : (s.abortTargeting d cause).ring = s.ring := by
  let step (o : Tag) (u : State) : State := if (u.stream o).targets.has d then u.abortCore o cause (some d) else u
  have fixed (o : Tag) : step o s = s := by
    change (if (s.stream o).targets.has d then s.abortCore o cause (some d) else s) = s
    obtain off | closed := h o
    · rw [off, if_neg Bool.false_ne_true]
    · rw [State.abortCore, if_pos closed, ite_self]
  have kept : forEach allTags step s = s := forEach_fixed fixed allTags
  rw [State.abortTargeting, State.abortWhere, State.packChoose_ring]
  exact congrArg State.ring kept

/-- R86: the failure of a channel that nothing hangs on tells CHANNEL_FAILED alone. -/
theorem failChannel_tells (cause : Cause) (named : Option Image) (free : Unattached s d) (h : (s.chan d).state ≠ .failed) :
    Tells s (s.failChannel d cause named) [failedRecord d cause (s.chan d).state (s.firstFaultOf d cause named)] := by
  obtain ⟨ring, streams⟩ := dropAssembler_ring_of_unattached free
  obtain ⟨-, -, rests, unattached, targets⟩ := free
  have chan := failedWrites_chan s d cause named
  have stopped : (s.failedWrites d cause named).stopReader d false = s.failedWrites d cause named := by
    have off : ((s.failedWrites d cause named).chan d).reader.running = false := by
      rw [chan]
      exact rests
    rw [State.stopReader, off]
    rfl
  have alone : (s.failedWrites d cause named).failAttached d .drive = s.failedWrites d cause named := by
    refine forEach_fixed (f := fun i t => if (t.session i).drive = some d then t.endSession i (.failed .drive) else t)
      (fun i => if_neg ?_) allSessions
    rw [State.failedWrites, session_of_restore (abortTargeting_restore _ _ _), session_of_restore (State.emit_restore _ _)]
    exact (congrArg Session.drive (session_of_restore (dropAssembler_restore s d) i)).trans_ne (unattached i)
  rw [failChannel_eq cause named h, stopped, alone]
  have told := ((Tells.of_ring ring).then_ring (u := (s.dropAssembler d).modChan d fun x =>
    x.failing (s.firstFaultOf d cause named)) rfl).then_emit
      (r := failedRecord d cause (s.chan d).state (s.firstFaultOf d cause named)) rfl
  refine told.then_ring (abortTargeting_ring_of_unattached .drive fun o => ?_)
  rw [stream_of_streams (State.emit_streams _ _), stream_of_streams (State.modChan_streams _ d _), stream_of_streams streams]
  exact targets o

/-- R139: the power of a bay is off after its fault, which is counted. -/
def State.powerOff (s : State) (d : Drive) : State :=
  s.modLoader fun l => { l with bayPower := l.bayPower.set d false
                                counters := { l.counters with powerFaults := l.counters.powerFaults.add 1 } }

theorem failChannel_failed (cause : Cause) (named : Option Image) (h : (s.chan d).state = .failed) :
    s.failChannel d cause named = s := if_pos h

theorem powerChange_fault (s : State) (d : Drive) : s.powerChange d true =
    ((s.powerOff d).failChannel d .power none).emit (powerRecord d 1 (s.chan d).state) := rfl

theorem powerChange_clear (s : State) (d : Drive) : s.powerChange d false = s.emit (powerRecord d 0 (s.chan d).state) := rfl

theorem powerChange_loader (s : State) (d : Drive) : (s.powerChange d true).loader = (s.powerOff d).loader := by
  rw [powerChange_fault, State.emit_loader, failChannel_loader]

/-! ## The button (R137) -/

/-- R137: a press has been counted. -/
def State.pressed (s : State) : State := s.countLoader fun c => { c with presses := c.presses.add 1 }

/-- R137: the record of a press. -/
def pressRecord (code : Nat) : Record := { kind := .button, subject := 24, e0 := w32 code }

/-- R137: a storage slot that an IMPORT can take. -/
def State.importable (s : State) (k : Fin 24) : Prop :=
  s.presence (slotLoc k) = .empty ∧ (s.loc (slotLoc k)).reserved = none ∧ s.inOpenMagazine (slotLoc k) = false

theorem importable_iff (s : State) (k : Fin 24) : (s.presence (slotLoc k) == .empty && (s.loc (slotLoc k)).reserved.isNone
    && !s.inOpenMagazine (slotLoc k)) = true ↔ s.importable k := by
  simp only [Bool.and_eq_true, beq_iff_eq, Option.isNone_iff_eq_none, Bool.not_eq_true', State.importable, and_assoc]

theorem importSlot_none (h : ∀ k, ¬ s.importable k) : s.importSlot = none :=
  List.find?_eq_none.mpr fun k _ hk => h k ((importable_iff s k).mp hk)

/-- R137: the first storage slot that fits is taken. -/
theorem importSlot_some {k : Fin 24} (fits : s.importable k) (first : ∀ j, j < k → ¬ s.importable j) : s.importSlot = some k := by
  exact (List.find?_ofFn_eq_some_of_injective (f := fun i : Fin 24 => i) Function.injective_id).mpr ⟨(importable_iff s k).mpr fits, fun j lt h => first j lt ((importable_iff s j).mp h)⟩

theorem press_unready (h : s.presence mailLoc ≠ .full) : s.press = s.pressed.emit (pressRecord 1) := if_pos h

theorem press_waiting (h : s.presence mailLoc = .full) (w : s.loader.exportWaiting = true) :
    s.press = s.pressed.emit (pressRecord 2) := (if_neg (not_not.mpr h)).trans (if_pos w)

theorem press_involved (h : s.presence mailLoc = .full) (w : s.loader.exportWaiting = false)
    (q : (s.loader.queue.any fun r => r.involves mailLoc) = true) : s.press = s.pressed.emit (pressRecord 3) := by
  simp only [State.press, h, ne_eq, not_true_eq_false, if_false, w, Bool.false_eq_true, q, if_true]
  rfl

theorem press_free (h : s.presence mailLoc = .full) (w : s.loader.exportWaiting = false)
    (q : (s.loader.queue.any fun r => r.involves mailLoc) = false) : s.press = match s.importSlot with
      | none => s.pressed.emit (pressRecord 4)
      | some k => if s.queueFull then (s.pressed.emit (pressRecord 5)).raiseInternal (newReq .importCart (some mailLoc) (slotLoc k))
        else (s.pressed.emit (pressRecord 0)).joinInternal (newReq .importCart (some mailLoc) (slotLoc k)) := by
  simp only [State.press, h, ne_eq, not_true_eq_false, if_false, w, Bool.false_eq_true, q]
  rfl

theorem pressed_tells (s : State) (code : Nat) : Tells s (s.pressed.emit (pressRecord code)) [pressRecord code] :=
  (Tells.of_ring (t := s.pressed) rfl).then_emit rfl

theorem pressed_loader (s : State) (code : Nat) : (s.pressed.emit (pressRecord code)).loader = s.pressed.loader := State.emit_loader _ _

theorem pressed_chans (s : State) (code : Nat) : (s.pressed.emit (pressRecord code)).chans = s.chans := State.emit_chans _ _

theorem raiseInternal_full (r : Req) (h : s.queueFull = true) : s.raiseInternal r =
    s.countLoader fun c => { c with droppedReqs := c.droppedReqs.add 1 } := if_pos h

theorem raiseInternal_joins (r : Req) (h : s.queueFull = false) : s.raiseInternal r = s.joinInternal r :=
  if_neg (by rw [h]; exact Bool.false_ne_true)

theorem queueFull_iff (s : State) : s.queueFull = true ↔ 10 ≤ s.loader.queue.length := decide_eq_true_iff

theorem queueFull_of_loader (h : t.loader = s.loader) : t.queueFull = s.queueFull := by rw [State.queueFull, h, State.queueFull]

/-! ## A magazine that is latched again (R134) -/

theorem renewSlot_empty (h : (s.loc l).cart = none) : s.renewSlot l = s := by simp only [State.renewSlot, h]

/-- R134: the record of a slot has been replaced by a fresh one. -/
def State.renewed (s : State) (l : Loc) (c : Cart) : State :=
  (s.newCart.2.modLoc l fun x => { x with cart := some { uid := s.loader.nextUid } }).releaseReserved (.homeOf c.uid)

theorem renewSlot_full {c : Cart} (h : (s.loc l).cart = some c) : s.renewSlot l =
    (s.renewed l c).emit (locationChanged l 1 3 c.label) := by
  simp only [State.renewSlot, h]
  rfl

/-- What the renewal of some slots leaves alone. -/
structure Renews (s t : State) : Prop where
  loader : t.loader = { s.loader with locs := t.loader.locs, nextUid := t.loader.nextUid }
  chans : t.chans = s.chans
  uids : s.loader.nextUid ≤ t.loader.nextUid
  reserved : ∀ m, (t.loc m).reserved = (s.loc m).reserved ∨ (t.loc m).reserved = none
    ∧ ∃ u, (s.loc m).reserved = some (.homeOf u)

theorem Renews.refl (s : State) : Renews s s := ⟨rfl, rfl, Nat.le_refl _, fun _ => .inl rfl⟩

theorem Renews.trans (h : Renews s t) (k : Renews t u) : Renews s u := by
  refine ⟨by rw [k.loader, h.loader], k.chans.trans h.chans, h.uids.trans k.uids, fun m => ?_⟩
  obtain same | ⟨none, home⟩ := h.reserved m
  · rw [← same]
    exact k.reserved m
  · refine .inr ⟨?_, home⟩
    obtain same | ⟨none', -⟩ := k.reserved m
    · exact same.trans none
    · exact none'

theorem renewed_reserved {c : Cart} (s : State) (l m : Loc) : ((s.renewed l c).loc m).reserved =
    if (s.loc m).reserved = some (.homeOf c.uid) then none else (s.loc m).reserved := by
  have kept : ((s.newCart.2.modLoc l fun x => { x with cart := some { uid := s.loader.nextUid } }).loc m).reserved =
      (s.loc m).reserved := by
    by_cases ne : m = l
    · subst ne
      rw [State.loc_modLoc_self]
      rfl
    · rw [loc_modLoc_ne _ _ ne]
      rfl
  rw [State.renewed, releaseReserved_loc, kept, apply_ite Location.reserved, kept]

theorem renewed_cart {c : Cart} (s : State) (l m : Loc) : ((s.renewed l c).loc m).cart =
    if m = l then some { uid := s.loader.nextUid } else (s.loc m).cart := by
  rw [State.renewed, releaseReserved_loc, apply_ite Location.cart, ite_self]
  split
  next eq => rw [eq, State.loc_modLoc_self]
  next ne =>
    rw [loc_modLoc_ne _ _ ne]
    rfl

/-- R134: what the renewal of one slot does. -/
theorem renewSlot_effect (s : State) (l : Loc) : Renews s (s.renewSlot l)
    ∧ ((s.loc l).cart = none → s.renewSlot l = s)
    ∧ (∀ c, (s.loc l).cart = some c → ((s.renewSlot l).loc l).cart = some { uid := s.loader.nextUid }
      ∧ ∀ h, (s.loc h).reserved = some (.homeOf c.uid) → ((s.renewSlot l).loc h).reserved = none)
    ∧ (∀ m, m ≠ l → ((s.renewSlot l).loc m).cart = (s.loc m).cart)
    ∧ Tells s (s.renewSlot l) ((s.loc l).cart.map fun c => locationChanged l 1 3 c.label).toList := by
  cases hc : (s.loc l).cart with
  | none =>
    rw [renewSlot_empty hc]
    exact ⟨.refl s, fun _ => rfl, nofun, fun _ _ => rfl, .refl s⟩
  | some c =>
    have told : Tells s (s.renewSlot l) [locationChanged l 1 3 c.label] := by
      rw [renewSlot_full hc]
      exact (Tells.of_ring (t := s.renewed l c) rfl).then_emit rfl
    have loc (m : Loc) : (s.renewSlot l).loc m = (s.renewed l c).loc m := by rw [renewSlot_full hc, emit_loc]
    have loader : (s.renewSlot l).loader = (s.renewed l c).loader := by rw [renewSlot_full hc, State.emit_loader]
    refine ⟨⟨by rw [loader]; rfl, by rw [renewSlot_full hc, State.emit_chans]; rfl, by rw [loader]; exact Nat.le_succ _, fun m => ?_⟩,
      nofun, fun k hk => ?_, fun m ne => by rw [loc, renewed_cart, if_neg ne], told⟩
    · rw [loc, renewed_reserved]
      split
      next h => exact .inr ⟨rfl, c.uid, h⟩
      next => exact .inl rfl
    · obtain rfl := Option.some.inj hk
      refine ⟨by rw [loc, renewed_cart, if_pos rfl], fun h hr => by rw [loc, renewed_reserved, if_pos hr]⟩

/-- R134: what the renewal of some slots, each once, does. -/
theorem renewAll_effect (ls : List Loc) (each : ls.Nodup) (s : State) :
    Renews s (forEach ls (fun l t => t.renewSlot l) s)
    ∧ (∀ l, l ∉ ls ∨ (s.loc l).cart = none → ((forEach ls (fun l t => t.renewSlot l) s).loc l).cart = (s.loc l).cart)
    ∧ (∀ l c, l ∈ ls → (s.loc l).cart = some c →
      (∃ u, s.loader.nextUid ≤ u ∧ ((forEach ls (fun l t => t.renewSlot l) s).loc l).cart = some { uid := u })
      ∧ ∀ h, (s.loc h).reserved = some (.homeOf c.uid) → ((forEach ls (fun l t => t.renewSlot l) s).loc h).reserved = none)
    ∧ Tells s (forEach ls (fun l t => t.renewSlot l) s)
        (ls.filterMap fun l => (s.loc l).cart.map fun c => locationChanged l 1 3 c.label) := by
  induction ls generalizing s with
  | nil => exact ⟨.refl s, fun _ _ => rfl, nofun, .refl s⟩
  | cons x ls ih =>
    obtain ⟨fresh, each⟩ := List.nodup_cons.mp each
    obtain ⟨first, nothing, renewed, others, told⟩ := renewSlot_effect s x
    obtain ⟨rest, kept, reached, tells⟩ := ih each (s.renewSlot x)
    have apart {l : Loc} (hl : l ∈ ls) : l ≠ x := fun eq => fresh (eq ▸ hl)
    have cart {l : Loc} (hl : l ∈ ls) : ((s.renewSlot x).loc l).cart = (s.loc l).cart := others l (apart hl)
    change Renews s (forEach ls _ (s.renewSlot x)) ∧ _
    refine ⟨first.trans rest, fun l h => ?_, fun l c hl hc => ?_, ?_⟩
    · by_cases eq : l = x
      · subst eq
        have none := h.resolve_left fun out => out List.mem_cons_self
        exact (kept l (.inl fresh)).trans (by rw [nothing none])
      · refine (kept l ?_).trans (others l eq)
        exact h.imp (fun out hl => out (List.mem_cons_of_mem x hl)) fun none => (others l eq).trans none
    · obtain eq | hl := List.mem_cons.mp hl
      · subst eq
        obtain ⟨new, free⟩ := renewed c hc
        refine ⟨⟨_, Nat.le_refl _, (kept l (.inl fresh)).trans new⟩, fun h hr => ?_⟩
        obtain same | ⟨none, -⟩ := rest.reserved h
        · exact same.trans (free h hr)
        · exact none
      · obtain ⟨⟨u, le, new⟩, free⟩ := reached l c hl ((cart hl).trans hc)
        refine ⟨⟨u, first.uids.trans le, new⟩, fun h hr => ?_⟩
        obtain same | ⟨none, -⟩ := first.reserved h
        · exact free h (same.trans hr)
        · obtain same | ⟨none', -⟩ := rest.reserved h
          · exact same.trans none
          · exact none'
    · have records : (x :: ls).filterMap (fun l => (s.loc l).cart.map fun c => locationChanged l 1 3 c.label) =
          ((s.loc x).cart.map fun c => locationChanged x 1 3 c.label).toList ++
            ls.filterMap fun l => ((s.renewSlot x).loc l).cart.map fun c => locationChanged l 1 3 c.label := by
        rw [List.filterMap_congr fun l hl => congrArg (Option.map _) (cart hl)]
        cases hc : (s.loc x).cart with
        | none => exact List.filterMap_cons_none (by rw [hc]; rfl)
        | some c => exact List.filterMap_cons_some (by rw [hc]; rfl)
      rw [records]
      exact told.trans tells

theorem mem_magSlots {m : Fin 2} : l ∈ magSlots m ↔ magOf l = some m := by
  simp only [magSlots, allLocs, List.mem_filter, List.mem_ofFn, exists_eq, true_and, decide_eq_true_eq]

theorem magSlots_twelve : ∀ m : Fin 2, (magSlots m).Nodup ∧ (magSlots m).length = 12 := by decide

/-- R134: a magazine is closed, and its slots have fresh records. -/
def State.reclosed (s : State) (m : Fin 2) : State :=
  forEach (magSlots m) (fun l t => t.renewSlot l) (s.modLoader fun l => { l with magOpen := l.magOpen.set m false })

/-- R134: the records that a renewal of a magazine's slots tells. -/
def State.renewalRecords (s : State) (m : Fin 2) : List Record :=
  (magSlots m).filterMap fun l => (s.loc l).cart.map fun c => locationChanged l 1 3 c.label

/-- R134: the INVENTORY of a magazine that has been latched again. -/
def inventoryOf (m : Fin 2) : Req :=
  { newReq .inventory none (if m = 0 then 11 else 23) with first := 12 * m.val, last := 12 * m.val + 11, cursor := 12 * m.val }

theorem relatch_eq (s : State) (m : Fin 2) : s.relatch m =
    if s.params.autoInventory = 1 then ((s.reclosed m).doorEvent (5 + 2 * m.val)).raiseInternal (inventoryOf m)
    else (s.reclosed m).doorEvent (5 + 2 * m.val) := rfl

theorem relatch_same {β : Type} (g : State → β) (raise : ∀ t r, g (State.raiseInternal t r) = g t) (s : State) (m : Fin 2) :
    g (s.relatch m) = g ((s.reclosed m).doorEvent (5 + 2 * m.val)) := by
  rw [relatch_eq]
  split
  · exact raise _ _
  · rfl

theorem raiseInternal_same {β : Type} (g : State → β) (count : ∀ t f, g (State.countLoader t f) = g t)
    (join : ∀ t r, g (State.joinInternal t r) = g t) (s : State) (r : Req) : g (s.raiseInternal r) = g s := by
  unfold State.raiseInternal
  split
  · exact count _ _
  · exact join _ _

theorem reclosed_loader (s : State) (m : Fin 2) : (s.reclosed m).loader =
    { s.loader with magOpen := s.loader.magOpen.set m false
                    locs := (s.reclosed m).loader.locs, nextUid := (s.reclosed m).loader.nextUid } :=
  (renewAll_effect (magSlots m) (magSlots_twelve m).1 (s.modLoader fun l => { l with magOpen := l.magOpen.set m false })).1.loader

/-- R134: a magazine latched again: its slots have fresh records, told in ascending order, and its DOOR_EVENT follows. -/
theorem relatch_effect (s : State) (m : Fin 2) : (s.relatch m).loader.magOpen = s.loader.magOpen.set m false
    ∧ (s.relatch m).picker = s.picker ∧ (s.relatch m).chans = s.chans
    ∧ (∀ l, magOf l ≠ some m ∨ (s.loc l).cart = none → ((s.relatch m).loc l).cart = (s.loc l).cart)
    ∧ (∀ l c, magOf l = some m → (s.loc l).cart = some c →
        (∃ u, s.loader.nextUid ≤ u ∧ ((s.relatch m).loc l).cart = some { uid := u })
        ∧ ∀ h, (s.loc h).reserved = some (.homeOf c.uid) → ((s.relatch m).loc h).reserved = none)
    ∧ (∀ l r, (s.loc l).reserved = some (.request r) → ((s.relatch m).loc l).reserved = some (.request r))
    ∧ Tells s (s.relatch m) (s.renewalRecords m ++ [panelRecord s (5 + 2 * m.val)]) := by
  obtain ⟨renews, kept, renewed, told⟩ := renewAll_effect (magSlots m) (magSlots_twelve m).1
    (s.modLoader fun l => { l with magOpen := l.magOpen.set m false })
  change Renews _ (s.reclosed m) at renews
  have loader : ((s.reclosed m).doorEvent (5 + 2 * m.val)).loader = (s.reclosed m).loader := State.doorEvent_loader _ _
  have loc (l : Loc) : (s.relatch m).loc l = (s.reclosed m).loc l :=
    (relatch_same (·.loc l) (raiseInternal_same (·.loc l) (fun _ _ => rfl) fun _ _ => rfl) s m).trans
      (congrArg (fun x : Loader => x.locs[l]) loader)
  have picker : (s.reclosed m).picker = s.picker := by rw [State.picker, reclosed_loader]; rfl
  simp only [loc]
  refine ⟨?_, ?_, ?_, fun l h => kept l (h.imp_left fun out hl => out (mem_magSlots.mp hl)),
    fun l c hl => renewed l c (mem_magSlots.mpr hl), fun l r hr => ?_, ?_⟩
  · rw [relatch_same (·.loader.magOpen) (raiseInternal_same (·.loader.magOpen) (fun _ _ => rfl) fun _ _ => rfl), loader, reclosed_loader]
  · rw [relatch_same (·.picker) (raiseInternal_same (·.picker) (fun _ _ => rfl) fun _ _ => rfl), State.picker, loader]
    exact picker
  · rw [relatch_same (·.chans) (raiseInternal_same (·.chans) (fun _ _ => rfl) fun _ _ => rfl), State.doorEvent_chans]
    exact renews.chans
  · obtain same | ⟨-, u, home⟩ := renews.reserved l
    · exact same.trans hr
    · exact absurd (hr.symm.trans home) (by simp)
  · have shut : Tells s (s.modLoader fun l => { l with magOpen := l.magOpen.set m false }) [] := .of_ring rfl
    have record : panelRecord (s.reclosed m) (5 + 2 * m.val) = panelRecord s (5 + 2 * m.val) := by rw [panelRecord, picker, panelRecord]
    have tells := (shut.trans told).trans (doorEvent_tells (s.reclosed m) (5 + 2 * m.val))
    rw [record] at tells
    exact tells.then_ring (relatch_same (·.ring) (raiseInternal_same (·.ring) (fun _ _ => rfl) fun _ _ => rfl) s m)

theorem renewalRecords_le (s : State) (m : Fin 2) : (s.renewalRecords m ++ [panelRecord s (5 + 2 * m.val)]).length ≤ 13 := by
  have le : (s.renewalRecords m).length ≤ (magSlots m).length := List.length_filterMap_le _ _
  rw [(magSlots_twelve m).2] at le
  rw [List.length_append]
  exact Nat.succ_le_succ le

/-- R134: the queue when a magazine is latched again, by auto_inventory and the room in the queue. -/
theorem relatch_queue (s : State) (m : Fin 2) : (s.params.autoInventory ≠ 1 → (s.relatch m).loader.queue = s.loader.queue)
    ∧ (s.params.autoInventory = 1 → s.loader.queue.length < 10 → (s.relatch m).loader.queue =
        s.loader.queue ++ [{ inventoryOf m with stamp := s.loader.nextStamp, id := BitVec.ofNat 16 s.loader.nextId, internal := true }])
    ∧ (s.params.autoInventory = 1 → 10 ≤ s.loader.queue.length → (s.relatch m).loader.queue = s.loader.queue
        ∧ (s.relatch m).loader.counters.droppedReqs = s.loader.counters.droppedReqs.add 1) := by
  have loader : ((s.reclosed m).doorEvent (5 + 2 * m.val)).loader = (s.reclosed m).loader := State.doorEvent_loader _ _
  have queue : ((s.reclosed m).doorEvent (5 + 2 * m.val)).loader.queue = s.loader.queue := by rw [loader, reclosed_loader]
  have full := queueFull_iff ((s.reclosed m).doorEvent (5 + 2 * m.val))
  rw [queue] at full
  rw [relatch_eq]
  refine ⟨fun off => by rw [if_neg off, queue], fun on room => ?_, fun on many => ?_⟩
  · rw [if_pos on, raiseInternal_joins _ (Bool.eq_false_iff.mpr fun h => by have := full.mp h; omega)]
    simp only [State.joinInternal, State.joinQueue, State.modLoader_loader, loader]
    rw [reclosed_loader]
  · rw [if_pos on, raiseInternal_full _ (full.mpr many)]
    refine ⟨queue, ?_⟩
    simp only [State.countLoader, State.modLoader_loader, loader]
    rw [reclosed_loader]

/-! ## The filters at a debounced change -/

theorem endPreempt_filters (s : State) : s.endPreempt.loader.filters = s.loader.filters := by rw [endPreempt_loader]

theorem closeReq_filters (s : State) (r : Req) (e : ReqEnd) : (s.closeReq r e).loader.filters = s.loader.filters := by
  rw [closeReq_loader_eq]
  rfl

theorem raiseInternal_filters (s : State) (r : Req) : (s.raiseInternal r).loader.filters = s.loader.filters :=
  raiseInternal_same (·.loader.filters) (fun _ _ => rfl) (fun _ _ => rfl) s r

/-- What neither the links, nor the queue, nor the preempt's end touches stays as a REMOUNT begins. -/
theorem beginRemount_same {β : Type} (g : State → β) (link : ∀ t i f, g (State.modSession t i f) = g t)
    (ended : ∀ t, g (State.endPreempt t) = g t) (raise : ∀ t r, g (State.raiseInternal t r) = g t)
    (record : ∀ t p, g (State.setPreemptRec t p) = g t) (join : ∀ t r, g (State.joinInternal t r) = g t)
    (close : ∀ t r e, g (State.closeReq t r e) = g t) (s : State) (p : Preempt) : g (s.beginRemount p) = g s := by
  unfold State.beginRemount
  extract_lets s1 still r s2
  have unlinked : g s1 = g s := unlinked_same g link s
  have queued : g s2 = g s := (join _ _).trans ((record _ _).trans unlinked)
  clear_value s1 s2 still
  split
  · exact (ended _).trans unlinked
  · split
    · exact (ended _).trans ((raise _ _).trans unlinked)
    · split
      · split
        · exact (ended _).trans ((close _ _ _).trans queued)
        · exact queued
      · exact queued

/-- What neither the end of a request's record, nor a preempt's end, nor the beginning of a REMOUNT touches stays at the end
of a request. -/
theorem endReq_same {β : Type} (g : State → β) (close : ∀ t r e, g (State.closeReq t r e) = g t)
    (ended : ∀ t, g (State.endPreempt t) = g t) (remount : ∀ t p, g (State.beginRemount t p) = g t)
    (s : State) (r : Req) (e : ReqEnd) : g (s.endReq r e) = g s := by
  unfold State.endReq
  extract_lets t
  have closed : g t = g s := close s r e
  clear_value t
  split
  · exact closed
  · split
    · exact closed
    · split
      · exact (ended t).trans closed
      · split
        · split
          · exact (remount t _).trans closed
          · exact (ended t).trans closed
        · exact closed

theorem endReq_filters (s : State) (r : Req) (e : ReqEnd) : (s.endReq r e).loader.filters = s.loader.filters :=
  endReq_same (·.loader.filters) closeReq_filters endPreempt_filters
    (beginRemount_same (·.loader.filters) (fun _ _ _ => rfl) endPreempt_filters raiseInternal_filters (fun _ _ => rfl)
      (fun _ _ => rfl) closeReq_filters) s r e

theorem setPicker_filters (s : State) (st : PickState) : (s.setPicker st).loader.filters = s.loader.filters := by
  rw [setPicker_loader]

theorem sendOrder_filters (s : State) (st : Stage) (l : Option Loc) : (s.sendOrder st l).loader.filters = s.loader.filters := by
  simp only [State.sendOrder, setPicker_filters]
  split <;> rfl

theorem faultPicker_filters (s : State) (cause : Cause) (o : Order) :
    (s.faultPicker cause o).loader.filters = s.loader.filters := by
  have cleared : (s.clearExpectation o).loader.filters = s.loader.filters := by
    unfold State.clearExpectation
    split <;> rfl
  unfold State.faultPicker
  extract_lets left req s1 s2 s3 recovery
  have stopped : s1.loader.filters = s.loader.filters := cleared
  have ended : s2.loader.filters = s.loader.filters := by
    rw [← stopped]
    simp only [s2]
    split
    · exact endReq_filters _ _ _
    · rfl
  have faulted : s3.loader.filters = s.loader.filters := (setPicker_filters _ _).trans ended
  clear_value s3
  rw [← faulted]
  change (s3.emit _).loader.filters = _
  rw [State.emit_loader]

theorem strayOrder_filters (s : State) : s.strayOrder.loader.filters = s.loader.filters := rfl

theorem doorChange_filters (s : State) (opened : Bool) : (s.doorChange opened).loader.filters = s.loader.filters := by
  have event (n : Nat) : (s.doorEvent n).loader.filters = s.loader.filters := by rw [State.doorEvent_loader]
  cases opened with
  | false =>
    change (s.doorEvent 0).homeTest.loader.filters = _
    rw [← event 0, State.homeTest]
    split
    · exact sendOrder_filters _ _ _
    · rfl
  | true =>
    rw [← event 1]
    simp only [State.doorChange, if_true]
    split
    · split
      · rw [strayOrder_filters]
        exact faultPicker_filters _ _ _
      · rfl
    · rfl

theorem press_filters (s : State) : s.press.loader.filters = s.loader.filters := by
  have told (code : Nat) : (s.pressed.emit (pressRecord code)).loader.filters = s.loader.filters := by
    rw [pressed_loader]
    rfl
  by_cases full : s.presence mailLoc = .full
  · cases waiting : s.loader.exportWaiting
    · cases involved : s.loader.queue.any fun r => r.involves mailLoc
      · rw [press_free full waiting involved]
        split
        · exact told 4
        · split
          · exact (raiseInternal_filters _ _).trans (told 5)
          · exact told 0
      · rw [press_involved full waiting involved]
        exact told 3
    · rw [press_waiting full waiting]
      exact told 2
  · rw [press_unready full]
    exact told 1

/-- R131: what the loader does at a debounced change leaves every filter as it is. -/
theorem debounced_filters (s : State) (x : Sensor) (old new : Level) :
    (s.debounced x old new).loader.filters = s.loader.filters := by
  have place (l : Loc) : (s.placeChange l old new).loader.filters = s.loader.filters := by
    rw [placeChange_loader, State.presenceSeen]
    split
    · exact (presenceChange_rest s l _).2.1
    · rfl
  cases x with
  | presence l => exact place _
  | bay d => exact place _
  | gripper => rfl
  | door => exact doorChange_filters s _
  | latch m =>
    change (if new = .off then s.unlatch m else s.relatch m).loader.filters = _
    split
    · obtain ⟨-, -, p, loader, -⟩ := unlatch_effect s m
      rw [loader]
    · rw [relatch_same (·.loader.filters) raiseInternal_filters, State.doorEvent_loader, reclosed_loader]
  | button =>
    change (if new = .on then s.press else s).loader.filters = _
    split
    · exact press_filters s
    · rfl
  | power d =>
    change (s.powerChange d (new == .on)).loader.filters = _
    cases new == .on
    · rw [powerChange_clear, State.emit_loader]
    · rw [powerChange_loader]
      rfl

/-! ## The debounced changes, at the input that has settled -/

theorem tells_settled {rs : List Record} (h : Tells (s.settledInput x v n) w rs) : Tells s w rs := (settledInput_tells s x v n).trans h

/-- R131: the filter's rules for a raw value. -/
theorem rawSensorChange_effect (run : s.running = true) (takes : x.takes v = true) :
    ∃ t, exec (.rawSensorChange x v) s = .next (s.settle t) ∧ (∀ y, y ≠ x → t.filter y = s.filter y)
      ∧ (v = (s.filter x).debounced → t.filter x = { s.filter x with raw := v, candidate := none, deadline := none })
      ∧ (v ≠ (s.filter x).debounced → (s.filter x).candidate = some v → t.filter x = { s.filter x with raw := v })
      ∧ (v ≠ (s.filter x).debounced → (s.filter x).candidate ≠ some v → t.filter x =
          { s.filter x with raw := v, candidate := some v, deadline := some (s.timebase + 1000 * s.debounce x) })
      ∧ t.mem = s.mem ∧ t.chans = s.chans ∧ t.ring = s.ring ∧ t.streams = s.streams := by
  refine ⟨_, exec_rawSensorChange run takes, fun y ne => filter_setFilter_ne s _ ne, ?_, ?_, ?_, rfl, rfl, rfl, rfl⟩
  · intro same
    rw [filter_setFilter_self, Filter.take, if_pos same]
  · intro other known
    rw [filter_setFilter_self, Filter.take, if_neg other, if_pos known]
  · intro other fresh
    rw [filter_setFilter_self, Filter.take, if_neg other, if_neg fresh]

/-- R139: a debounced change of a bay's power fault input. -/
theorem powerChange_effect (s : State) (d : Drive) : (s.powerChange d true).loader.bayPower = s.loader.bayPower.set d false
    ∧ ((s.powerChange d true).chan d).state = .failed
    ∧ (s.powerChange d true).loader.counters.powerFaults = s.loader.counters.powerFaults.add 1
    ∧ (s.powerChange d true).loader.queue = s.loader.queue ∧ (s.powerChange d true).picker = s.picker
    ∧ ((s.chan d).state = .failed → (s.powerChange d true).chans = s.chans
        ∧ Tells s (s.powerChange d true) [powerRecord d 1 (s.chan d).state])
    ∧ ((s.chan d).state ≠ .failed → (s.chan d).firstFault = none →
        ((s.powerChange d true).chan d).firstFault.map (·.cause) = some .power)
    ∧ ((s.chan d).state ≠ .failed → Unattached s d → ∃ f, Tells s (s.powerChange d true)
        [failedRecord d .power (s.chan d).state f, powerRecord d 1 (s.chan d).state]) := by
  have loader := powerChange_loader s d
  have chan : (s.powerChange d true).chan d = ((s.powerOff d).failChannel d .power none).chan d := by
    rw [powerChange_fault, chan_of_chans (State.emit_chans _ _)]
  have off : Tells s (s.powerOff d) [] := .of_ring rfl
  refine ⟨by rw [loader]; rfl, ?_, by rw [loader]; rfl, by rw [loader]; rfl, by rw [State.picker, loader]; rfl, fun failed => ?_,
    fun live none => ?_, fun live free => ?_⟩
  · rw [chan]
    by_cases failed : (s.chan d).state = .failed
    · rw [failChannel_failed (s := s.powerOff d) _ _ failed]
      exact failed
    · exact (failChannel_failedBy (s := s.powerOff d) .power failed).1
  · rw [powerChange_fault, failChannel_failed (s := s.powerOff d) _ _ failed]
    exact ⟨State.emit_chans _ _, off.then_emit rfl⟩
  · rw [chan]
    exact (failChannel_failedBy (s := s.powerOff d) .power live).2 none
  · rw [powerChange_fault]
    exact ⟨_, (off.trans (failChannel_tells (s := s.powerOff d) .power none free live)).then_emit rfl⟩

/-- R137: what a press of the button does. -/
theorem press_effect {o : State} (quiet : Tells o s []) :
    let w := s.press
    let pressed (code : Nat) : Prop := w.loader.counters.presses = s.loader.counters.presses.add 1
      ∧ w.loader.locs = s.loader.locs ∧ w.picker = s.picker ∧ w.chans = s.chans ∧ (o.ring.spaceFor 1 → o.news w = [pressRecord code])
    let nothing := w.loader.queue = s.loader.queue ∧ w.loader.counters.droppedReqs = s.loader.counters.droppedReqs
    (s.presence mailLoc ≠ .full → pressed 1 ∧ nothing)
    ∧ (s.presence mailLoc = .full → s.loader.exportWaiting = true → pressed 2 ∧ nothing)
    ∧ (s.presence mailLoc = .full → s.loader.exportWaiting = false →
      ((∃ r ∈ s.loader.queue, r.involves mailLoc = true) → pressed 3 ∧ nothing)
      ∧ ((∀ r ∈ s.loader.queue, r.involves mailLoc = false) →
        ((∀ k, ¬ s.importable k) → pressed 4 ∧ nothing)
        ∧ (∀ k, s.importable k → (∀ j, j < k → ¬ s.importable j) →
          (s.loader.queue.length < 10 → pressed 0
            ∧ w.loader.queue = s.loader.queue ++ [{ newReq .importCart (some mailLoc) (slotLoc k) with
                stamp := s.loader.nextStamp, id := BitVec.ofNat 16 s.loader.nextId, internal := true }])
          ∧ (10 ≤ s.loader.queue.length → pressed 5 ∧ w.loader.queue = s.loader.queue
            ∧ w.loader.counters.droppedReqs = s.loader.counters.droppedReqs.add 1)))) := by
  intro w pressed nothing
  have tells {code : Nat} {u : State} (ring : u.ring = (s.pressed.emit (pressRecord code)).ring) (room : o.ring.spaceFor 1) :
      o.news u = [pressRecord code] := ((quiet.trans (pressed_tells s code)).then_ring ring).news room (Nat.le_refl 1)
  have told {code : Nat} (eq : w = s.pressed.emit (pressRecord code)) : pressed code ∧ nothing := by
    simp only [pressed, nothing, eq, State.picker, pressed_loader]
    exact ⟨⟨rfl, rfl, rfl, pressed_chans s code, tells rfl⟩, rfl, rfl⟩
  refine ⟨fun h => told (press_unready h), fun h waits => told (press_waiting h waits), fun h waits => ⟨fun ⟨r, mem, hr⟩ =>
    told (press_involved h waits (List.any_eq_true.mpr ⟨r, mem, hr⟩)), fun apart => ?_⟩⟩
  have eq := press_free h waits (List.any_eq_false.mpr fun r mem => Bool.eq_false_iff.mp (apart r mem))
  refine ⟨fun unfit => told (by rw [importSlot_none unfit] at eq; exact eq), fun k fits first => ?_⟩
  rw [importSlot_some fits first] at eq
  refine ⟨fun room => ?_, fun full => ?_⟩
  · have open_ : s.queueFull = false := Bool.eq_false_iff.mpr fun h => by have := (queueFull_iff s).mp h; omega
    have joined : w = (s.pressed.emit (pressRecord 0)).joinInternal (newReq .importCart (some mailLoc) (slotLoc k)) := by
      simp only [w, eq, open_, Bool.false_eq_true, if_false]
    simp only [pressed, joined, State.picker, State.joinInternal, State.joinQueue, State.modLoader_loader, pressed_loader]
    exact ⟨⟨rfl, rfl, rfl, pressed_chans s 0, tells rfl⟩, rfl⟩
  · have closed : s.queueFull = true := (queueFull_iff s).mpr full
    have dropped : w = (s.pressed.emit (pressRecord 5)).countLoader fun c => { c with droppedReqs := c.droppedReqs.add 1 } := by
      simp only [w, eq, closed, if_true]
      exact raiseInternal_full _ ((queueFull_of_loader (t := s.pressed.emit (pressRecord 5)) (s := s.pressed)
        (pressed_loader s 5)).trans closed)
    simp only [pressed, dropped, State.picker, State.countLoader, State.modLoader_loader, pressed_loader]
    exact ⟨⟨rfl, rfl, rfl, pressed_chans s 5, tells rfl⟩, rfl, rfl⟩

/-- Settles O58: a raw value by the filter's rules, and each input's debounced change by its own rule. -/
theorem sensorsAreDebounced : Obligations.SensorsAreDebounced := by
  intro s x v run takes f wait space news text changed panel power queued
  have debounce : s.debounce x = wait := by cases x <;> rfl
  refine ⟨debounce ▸ rawSensorChange_effect run takes, fun n candidate deadline => ?_⟩
  let b := s.settledInput x v n
  let w := b.debounced x f.debounced v
  have quiet : Tells s b [] := settledInput_tells s x v n
  have buffer : b.ring.buffer = s.ring.buffer := elapseTo_buffer s n
  have told {rs : List Record} {k : Nat} (h : Tells b w rs) (le : rs.length ≤ k) (room : space k) : news w = rs :=
    (quiet.trans h).news room le
  have filters : w.loader.filters = b.loader.filters := debounced_filters b x f.debounced v
  have unread (y : Sensor) (ne : y ≠ x) : b.filter y = s.filter y := filter_setFilter_ne (s.elapseTo n) _ ne
  refine ⟨w, exec_sensorSettleExpiry run candidate deadline,
    (timebase_of_outside (State.debounced_outside b x _ v)).trans (elapseTo_timebase s n),
    (mem_of_outside (State.debounced_outside b x f.debounced v)).trans rfl, (filter_of_filters filters x).trans (filter_setFilter_self _ x _),
    fun y ne => (filter_of_filters filters y).trans (unread y ne), fun l hl => ?_, fun d hd => ?_, fun m hm off => ?_,
    fun m hm on => ?_, fun hx on rest => ?_, fun hx shut => ?_, fun hx => ?_, fun d hd => ?_, fun hx => ?_⟩
  · subst hl
    have eq : w = b.placeChange l f.debounced v := debounced_place b l f.debounced v
    rw [eq]
    exact placeChange_effect quiet buffer l f.debounced v
  · subst hd
    have eq : w = (b.presenceSeen (bayLoc d) f.debounced v).bayChange d f.debounced v := placeChange_bay b d f.debounced v
    have chans : (b.presenceSeen (bayLoc d) f.debounced v).chans = s.chans := presenceSeen_chans b (bayLoc d) f.debounced v
    have changed := bayChange_effect (b.presenceSeen (bayLoc d) f.debounced v) d f.debounced v
    rw [eq]
    simp only [FailedBy, chan_of_chans chans, chans] at changed
    exact changed
  · subst hm
    have eq : w = b.unlatch m := if_pos off
    obtain ⟨tells, chans, p, loader, cut, uncut⟩ := unlatch_effect b m
    rw [← eq] at tells chans loader
    exact ⟨by rw [loader]; rfl, told tells (Nat.le_refl 1), by rw [loader]; rfl, by rw [loader]; rfl, chans,
      fun o l order flight loc mag => by rw [State.picker, loader]; exact cut o l order flight loc mag,
      fun away => by rw [State.picker, loader]; exact uncut away⟩
  · subst hm
    have eq : w = b.relatch m := if_neg on
    obtain ⟨shut, picker, chans, kept, renewed, reserved, tells⟩ := relatch_effect b m
    obtain ⟨off, joins, dropped⟩ := relatch_queue b m
    rw [eq] at told ⊢
    refine ⟨shut, picker, chans, kept, renewed, reserved, fun room => ?_, off, joins, dropped⟩
    refine (told tells (renewalRecords_le b m) room).trans (congrArg (· ++ [panel (5 + 2 * m.val)]) ?_)
    rw [State.renewalRecords, magSlots, List.filterMap_filter]
    simp only [decide_eq_true_eq]
    rfl
  · subst hx on
    have eq : w = b.doorEvent 1 := doorChange_quiet rest
    rw [eq] at told ⊢
    exact ⟨(congrArg Loader.picker (State.doorEvent_loader b 1)).trans rfl, (congrArg Loader.queue (State.doorEvent_loader b 1)).trans rfl,
      State.doorEvent_chans b 1, told (doorEvent_tells b 1) (Nat.le_refl 1)⟩
  · subst hx
    have eq : w = b.doorChange false := congrArg b.doorChange (beq_false_of_ne shut)
    have door : b.doorOpen = false := by
      rw [State.doorOpen, show b.filter .door = _ from filter_setFilter_self _ _ _]
      exact beq_false_of_ne shut
    obtain ⟨chans, queue, later, sends, stays⟩ := doorChange_closed door
    rw [eq, State.picker, timebase_of_outside (b.doorChange_outside false)]
    exact ⟨fun room => head_of_prefix ((quiet.trans (doorEvent_tells b 0)).news_prefix room (Nat.le_refl 1) later),
      queue, chans, sends, stays⟩
  · subst hx
    refine ⟨fun released => ?_, fun on => ?_⟩
    · have eq : w = b := if_neg released
      rw [eq]
      exact ⟨rfl, buffer, rfl⟩
    · have eq : w = b.press := if_pos on
      have presence (l : Loc) : b.presence l = s.presence l := by
        have ne : presenceSensor l ≠ .button := by
          unfold presenceSensor
          split <;> exact nofun
        rw [State.presence, unread _ ne, State.presence]
      have pressed := press_effect quiet
      simp only [State.importable, presence] at pressed
      rw [eq]
      exact pressed
  · subst hd
    refine ⟨fun clear => ?_, fun asserted => ?_⟩
    · have eq : w = b.emit (power d 0) := (congrArg (b.powerChange d) (beq_false_of_ne clear)).trans (powerChange_clear b d)
      rw [eq] at told ⊢
      exact ⟨State.emit_chans _ _, by rw [State.emit_loader]; rfl, told (.emit b rfl) (Nat.le_refl 1)⟩
    · have eq : w = b.powerChange d true := congrArg (b.powerChange d) (beq_iff_eq.mpr asserted)
      obtain ⟨output, failed, count, queue, picker, already, cause, fails⟩ := powerChange_effect b d
      rw [eq] at told ⊢
      refine ⟨output, failed, count, queue, picker, fun h => ?_, cause, fun live placed held rests apart targets => fun room => ?_⟩
      · obtain ⟨chans, tells⟩ := already h
        exact ⟨chans, told tells (Nat.le_refl 1)⟩
      · have free : Unattached b d := ⟨placed, held, rests, apart, fun o => ?_⟩
        · obtain ⟨g, tells⟩ := fails live free
          rw [told tells (Nat.le_refl 2) room]
          exact ⟨rfl, rfl⟩
        · obtain ⟨ms, us, same⟩ := elapse_stream s (n - s.timebase) o
          change ((s.elapse (n - s.timebase)).stream o).targets.has d = false ∨ ((s.elapse (n - s.timebase)).stream o).state = .closed
          rw [same]
          exact targets o
  · subst hx
    exact ⟨rfl, buffer, rfl⟩

end Sys2Proof.Machine
end

section
/-! O48 fails: the statement lets the count of blocks moved wrap, where the model keeps it at its greatest value (log entry 103).
The tests at an event's end leave the count alone, so that no outcome of them meets the statement. -/

namespace Sys2Proof.Machine

variable {s t u : State} {d e : Drive} {c : Channel} {r : Req}

/-! ## The count of blocks moved at the end of an event -/

/-- Every channel's count of blocks moved stands. -/
def Unsent (s t : State) : Prop := ∀ d, (t.chan d).blocksMoved = (s.chan d).blocksMoved

theorem Unsent.of_chans (h : t.chans = s.chans) : Unsent s t := fun d => by rw [chan_of_chans h d]

theorem Unsent.refl (s : State) : Unsent s s := .of_chans rfl

theorem Unsent.trans (h : Unsent s t) (k : Unsent t u) : Unsent s u := fun d => (k d).trans (h d)

theorem Unsent.ite {p : Prop} [Decidable p] (h : Unsent s t) (k : Unsent s u) : Unsent s (if p then t else u) := by
  split
  · exact h
  · exact k

theorem Unsent.loop {α : Type} {f : α → State → State} (hf : ∀ x t, Unsent t (f x t)) (xs : List α) (s : State) :
    Unsent s (forEach xs f s) :=
  forEach_keeps (P := Unsent s) (fun x t h => h.trans (hf x t)) xs s (.refl s)

theorem Unsent.of_rechan (h : Rechan d c s t) (same : c.blocksMoved = (s.chan d).blocksMoved) : Unsent s t := fun e => by
  by_cases eq : e = d
  · rw [eq, h.self, same]
  · rw [h.other eq]

theorem Unsent.of_rereceived (h : Rereceived s t) : Unsent s t := fun d => by
  obtain ⟨rx, eq, -⟩ := h d
  rw [eq]

theorem Unsent.of_unqueued (h : Unqueued s t) : Unsent s t := fun d => by
  obtain ⟨q, eq, -⟩ := h d
  rw [eq]

theorem Unsent.of_reread (h : Reread s t) : Unsent s t := fun d => by
  obtain ⟨r, eq⟩ := h d
  rw [eq]

theorem Unsent.modChan (s : State) (d : Drive) (f : Channel → Channel) (same : ∀ c, (f c).blocksMoved = c.blocksMoved) :
    Unsent s (s.modChan d f) := .of_rechan (.modChan s d f) (same _)

theorem Unsent.enter (s : State) (d : Drive) (st : ChanState) : Unsent s (s.enter d st) := by
  obtain ⟨m, eq, -⟩ := entered_fields (s.chan d) st
  exact .of_rechan (.enter s d st) (by rw [eq])

theorem Unsent.enterEject (s : State) (d : Drive) (forced : Bool) : Unsent s (s.enterEject d forced) := by
  obtain ⟨m, eq, -⟩ := ejected_fields (s.chan d) (s.bayPos d = .on) s.ejectDeadline
  exact (Unsent.of_rechan (.modChan s d fun c => c.ejected (s.bayPos d = .on) s.ejectDeadline) (by rw [eq])).trans
    (.of_rereceived (enterEject_chans s d forced))

theorem leaveWrite_blocksMoved (c : Channel) : c.leaveWrite.blocksMoved = c.blocksMoved := rfl

theorem Unsent.drainTest (s : State) (d : Drive) : Unsent s (s.drainTest d) :=
  .ite ((Unsent.modChan s d _ leaveWrite_blocksMoved).trans (.enterEject _ d false)) (.refl s)

theorem Unsent.askClose (s : State) (d : Drive) (x : CloseReason) : Unsent s (s.askClose d x) := by
  obtain ⟨a, q, eq⟩ := askedClose_fields (s.chan d) x
  exact .of_rechan (.askClose s d x) (by rw [eq])

theorem Unsent.forceRestart (s : State) (d : Drive) : Unsent s (s.forceRestart d) := by
  obtain ⟨k, eq, -⟩ := restarted_fields (s.chan d)
  exact .of_rechan (.forceRestart s d) (by rw [eq])

theorem Unsent.enterUnmounting (s : State) (d : Drive) : Unsent s (s.enterUnmounting d) := by
  unfold State.enterUnmounting
  extract_lets s1
  have entered : Unsent s s1 := (Unsent.enter s d .unmounting).trans (.modChan _ d _ fun _ => rfl)
  exact ((entered.trans (.askClose s1 d _)).trans (.forceRestart _ d)).trans (.drainTest _ d)

theorem Unsent.forcedUnmount (s : State) (d : Drive) : Unsent s (s.forcedUnmount d) := by
  unfold State.forcedUnmount
  extract_lets c dirty s1 s2
  have dropped : Unsent s s1 := (Unsent.of_rechan (.dropAssembler s d) rfl).trans (.modChan _ d _ fun _ => rfl)
  have marked : Unsent s s2 := Unsent.ite (dropped.trans (.of_chans rfl)) dropped
  exact (marked.trans (.of_unqueued (.abortTargeting s2 d .forced))).trans (.enterEject _ d true)

theorem Unsent.unmountRule (force : Bool) (d : Drive) (s : State) : Unsent s (unmountRule force d s).state := by
  unfold Machine.unmountRule
  extract_lets c
  cases c.state <;> simp only [apply_ite Effect.state, State.ok_state, State.turnAway_state]
  case unmounted => exact .ite (.enterEject s d false) (.refl s)
  case mounting => exact .ite (.refl s) (.enterEject s d false)
  case idle => exact .enterEject s d false
  case read => exact (Unsent.of_reread (stopReader_reread s d true).1).trans (.enterEject _ d false)
  case write => exact .ite (.forcedUnmount s d) (.enterUnmounting s d)
  case unmounting => exact .ite (.forcedUnmount s d) (.refl s)
  case ejectWait => exact .refl s
  case failed => exact .refl s

theorem Unsent.takeUnmount (s : State) (force : Bool) (d : Drive) : Unsent s (s.takeUnmount force d).state := by
  have noted (t : State) : Unsent t (t.noteUnmount d) := by
    unfold State.noteUnmount
    split
    · exact .ite (.of_chans rfl) (.refl t)
    · exact .refl t
  unfold State.takeUnmount
  simp only [apply_ite Effect.state]
  exact .ite ((Unsent.unmountRule force d s).trans (noted _)) (.unmountRule force d s)

/-! ### Requests -/

theorem Unsent.endSession (s : State) (i : SessionId) (e : SessionEnd) : Unsent s (s.endSession i e) :=
  .of_rereceived (.endSession s i e)

theorem Unsent.closeReq (s : State) (r : Req) (e : ReqEnd) : Unsent s (s.closeReq r e) := by
  have ended : Unsent s (((s.reqLeft r e).kindEnd r e).moveEnd r e) := by
    refine .of_chans ?_
    have moved (t : State) : (t.moveEnd r e).chans = t.chans := by
      simp only [State.moveEnd]
      split <;> simp
    rw [moved, State.kindEnd]
    split
    · simp only [State.cleanEnd]
      split <;> simp <;> rfl
    · rw [State.emit_chans]
      rfl
    · rfl
  rw [closeReq_eq]
  refine ended.trans (.loop (fun i t => .ite ?_ (.refl t)) _ _)
  cases e with
  | done => exact .refl t
  | failed c => exact .endSession t i _
  | cancelled => exact .endSession t i _

section

variable (h : Unsent s t)
include h

theorem Unsent.modLoader (f : Loader → Loader) : Unsent s (t.modLoader f) := h.trans (.of_chans rfl)

theorem Unsent.modPicker (f : Picker → Picker) : Unsent s (t.modPicker f) := h.modLoader _

theorem Unsent.countLoader (f : LoaderCounters → LoaderCounters) : Unsent s (t.countLoader f) := h.modLoader _

theorem Unsent.modLoc (l : Loc) (f : Location → Location) : Unsent s (t.modLoc l f) := h.trans (.of_chans rfl)

theorem Unsent.modReq (stamp : Nat) (f : Req → Req) : Unsent s (t.modReq stamp f) := h.modLoader _

theorem Unsent.joinInternal (r : Req) : Unsent s (t.joinInternal r) := (h.modLoader _).modLoader _

theorem Unsent.requeue (r : Req) (st : ReqState) (blocked : Option Loc) : Unsent s (t.requeue r st blocked) :=
  ((h.modPicker _).modLoader _).modReq _ _

end

theorem raiseInternal_chans (s : State) (r : Req) : (s.raiseInternal r).chans = s.chans :=
  raiseInternal_same (·.chans) (fun _ _ => rfl) (fun _ _ => rfl) s r

theorem Unsent.beginRemount (s : State) (p : Preempt) : Unsent s (s.beginRemount p) := fun d =>
  beginRemount_same (fun t => (t.chan d).blocksMoved) (fun _ _ _ => rfl) (fun t => by rw [chan_of_chans (endPreempt_chans t)])
    (fun t r => by rw [chan_of_chans (raiseInternal_chans t r)]) (fun _ _ => rfl) (fun _ _ => rfl)
    (fun t r e => Unsent.closeReq t r e d) s p

theorem Unsent.endReq (s : State) (r : Req) (e : ReqEnd) : Unsent s (s.endReq r e) := fun d =>
  endReq_same (fun t => (t.chan d).blocksMoved) (fun t r e => Unsent.closeReq t r e d)
    (fun t => by rw [chan_of_chans (endPreempt_chans t)]) (fun t p => Unsent.beginRemount t p d) s r e

theorem Unsent.queueReturn (s : State) (l : Loc) : Unsent s (s.queueReturn l) := by
  unfold State.queueReturn
  extract_lets dst r
  refine .ite ?_ ((Unsent.refl s).joinInternal _)
  split
  · next q _ => exact ((Unsent.endReq s q .cancelled).countLoader _).joinInternal _
  · exact (Unsent.refl s).countLoader _

theorem Unsent.setPicker (s : State) (st : PickState) : Unsent s (s.setPicker st) := .of_chans (State.setPicker_chans s st)

theorem Unsent.sendLeg (s : State) (st : Stage) (l : Loc) : Unsent s (s.sendLeg st l) := by
  have parked (p : PickState) : Unsent s ((s.modPicker fun x => { x with cut := false }).setPicker p) :=
    ((Unsent.refl s).modPicker _).trans (.setPicker _ p)
  have cut : Unsent s s.cutEnd := by
    unfold State.cutEnd
    split
    · exact .refl s
    · refine .ite (.ite ?_ ?_) (.ite ?_ (.ite ?_ ?_))
      · exact (parked .holding).requeue _ _ _
      · exact ((parked .holding).trans (.endReq _ _ _)).trans (.queueReturn _ _)
      · exact (parked .parked).trans (.endReq _ _ _)
      · exact (parked .parked).requeue _ _ _
      · exact (parked .parked).trans (.endReq _ _ _)
  refine .ite cut ?_
  unfold State.sendOrder
  extract_lets s1 s2
  have expected : Unsent s s1 := by
    simp only [s1]
    split
    · exact (Unsent.refl s).modLoc _ _
    · exact .refl s
  exact ((expected.modPicker _).countLoader _).trans (.setPicker _ _)

/-! ### The selection -/

theorem Unsent.mountBlocked (s : State) (r : Req) : Unsent s (s.mountBlocked r) := by
  unfold State.mountBlocked
  extract_lets wait
  have waits (w : WaitReason) : Unsent s (wait w) := (Unsent.refl s).modReq _ _
  clear_value wait
  refine .ite (.ite (waits _) (.ite (waits _) ?_)) (waits _)
  split
  · next v _ =>
    have targets : Unsent (s.preempting r v) ((s.preempting r v).preemptTargets v) :=
      .loop (fun k t => .ite (.of_chans (State.setPreempt_chans t true k)) (.refl t)) _ _
    have failed : Unsent s (s.victimCleared r v) :=
      ((((Unsent.refl s).modLoader _).countLoader _).trans targets).trans (.of_rereceived (.failAttached _ v .preempted))
    rw [beginPreempt_eq]
    exact failed.modReq _ _
  · exact waits _

theorem Unsent.activate (s : State) (r : Req) : Unsent s (s.activate r) := by
  unfold State.activate
  extract_lets cart keep s1 s2 visiting placed
  have asked : Unsent s s2 := ((Unsent.refl s).modReq _ _).modPicker _
  split
  · have visit : Unsent s visiting := asked.modReq _ _
    split
    · exact visit.trans (.sendLeg _ _ _)
    · exact visit
  · have place : Unsent s placed := asked.modLoc _ _
    split
    · exact place.trans (.sendLeg _ _ _)
    · exact place.trans (.sendLeg _ _ _)

theorem Unsent.judge (s : State) (q : Req) : Unsent s (s.judge q) := by
  unfold State.judge
  extract_lets r u wait
  have prepared : Unsent s u := (Unsent.refl s).modReq _ _
  have waits (w : WaitReason) (v : State) : Unsent v (wait w v) := (Unsent.refl v).modReq _ _
  clear_value u wait
  split
  · split
    · exact (prepared.modLoader _).trans (.endReq _ _ _)
    · exact prepared
  · split
    · exact prepared.trans (waits _ u)
    · exact prepared.trans (.endReq _ _ _)
    · exact prepared.trans (.endReq _ _ _)
    · exact (prepared.trans (.takeUnmount u _ _)).trans (waits _ _)
    · exact (prepared.trans (.takeUnmount u _ _)).trans (waits _ _)
    · exact prepared.trans (.mountBlocked u r)
    · split
      · exact (prepared.modReq _ _).trans (.activate _ _)
      · exact prepared.trans (waits _ u)
    · exact prepared.trans (.activate u r)

theorem Unsent.selectFrom (xs : List Nat) (s : State) : Unsent s (State.selectFrom xs s) := by
  induction xs generalizing s with
  | nil => exact .refl s
  | cons x xs ih =>
    unfold State.selectFrom
    refine .ite (.refl s) ?_
    split
    · exact (Unsent.ite (.judge s _) (.refl s)).trans (ih _)
    · exact ih s

theorem Unsent.selection (s : State) : Unsent s s.selection := .ite (.selectFrom _ s) (.refl s)

/-! ### The tests at an event's end -/

theorem Unsent.changeoverTest (ref : State) (d : Drive) (s : State) : Unsent s (State.changeoverTest ref d s) := by
  refine .ite (.ite (.of_chans (raiseInternal_chans s _)) ?_) (.refl s)
  exact (Unsent.modChan s d (fun c => { c with changeoverAsked := true }) fun _ => rfl).joinInternal _ |>.countLoader _

theorem Unsent.cleanTest (ref : State) (d : Drive) (s : State) : Unsent s (State.cleanTest ref d s) :=
  .ite (.ite (.of_chans (raiseInternal_chans s _)) (((Unsent.refl s).joinInternal _).countLoader _)) (.refl s)

theorem Unsent.orphanTest (ref s : State) : Unsent s (ref.orphanTest s) := by
  refine .loop (fun x t => ?_) _ s
  split
  · exact .ite (.endReq t _ _) (.refl t)
  · exact .refl t

theorem Unsent.preemptTest (ref s : State) : Unsent s (ref.preemptTest s) := by
  unfold State.preemptTest
  split
  · exact .refl s
  · split
    · exact .ite (.beginRemount s _) (.refl s)
    · exact .ite (.of_chans (endPreempt_chans s)) (.refl s)
    · exact .refl s

theorem Unsent.settleLoop (n : Nat) (ref s : State) : Unsent s (State.settleLoop n ref s) := by
  induction n generalizing ref s with
  | zero => exact .refl s
  | succ n ih =>
    unfold State.settleLoop
    extract_lets s1 s2 s3
    have tests : Unsent s s2 := (((Unsent.preemptTest ref s).trans (.orphanTest ref _)).trans
      (.loop (.changeoverTest ref) _ _)).trans (.loop (.cleanTest ref) _ _)
    have selected : Unsent s s3 := tests.trans (.selection s2)
    exact .ite selected (selected.trans (ih s2 s3))

/-- No count of blocks moved changes at the end of an event. -/
theorem Unsent.settle (ref s : State) : Unsent s (ref.settle s) := .ite (.settleLoop 64 ref s) (.refl s)

/-! ## The counterexample -/

/-- DC0 in WRITE with cleaning off: 4,294,967,295 blocks moved, and memory is about to answer the last read of a ghost send. -/
def countFull : State :=
  { State.reset with
    path := { State.reset.path with
      startup := .running
      windows := [⟨0x100000, 0x4000, .tapeOut, 0⟩]
      port := { State.reset.path.port with issued := some (.owned (.imageRead 0)) } }
    chans := State.reset.chans.set 0
      { state := .write, mount := some { size := 0, nextSeq := 40, capacity := 500, session := 7 }
        blocksMoved := 0xFFFFFFFF, cursor := some { slot := 0, offset := 8128, ghost := true }
        read := some { len := 64, slot := 0, offset := 8128, live := true } } }

/-- R77: memory has answered the read of image bytes. -/
def State.bytesRead (s : State) (d : Drive) : State := (s.answered (.imageRead d)).modChan d fun c => { c with read := none }

theorem exec_imageReadAnswer_done {r : SendRead} (read : (s.chan d).read = some r) (owes : s.owes (.imageRead d) = true)
    (alone : (((s.bytesRead d).readDone d r).chan d).waitingReads = []) : exec (.imageReadAnswer d true) s =
      .next (s.settle ((((s.bytesRead d).readDone d r).modChan d fun c => { c with waitingReads := [] }).answer
        [.done ((s.bytesRead d).sendBytes d r)])) := by
  change execImageReadAnswer d true s = _
  simp only [execImageReadAnswer, read, if_pos owes, if_true]
  have judged : State.judgeWaiting d (((s.bytesRead d).readDone d r).chan d).waitingReads ((s.bytesRead d).readDone d r) =
      (((s.bytesRead d).readDone d r).modChan d fun c => { c with waitingReads := [] }, []) := by
    rw [alone]
    rfl
  rw [State.bytesRead] at judged
  rw [judged]
  rfl

/-- The read that memory is about to answer. -/
def lastRead : SendRead := { len := 64, slot := 0, offset := 8128, live := true }

/-- What the answer leaves before the tests at the event's end. -/
def countKept : State :=
  (((countFull.bytesRead 0).readDone 0 lastRead).modChan 0 fun c => { c with waitingReads := [] }).answer
    [.done ((countFull.bytesRead 0).sendBytes 0 lastRead)]

theorem countFull_answer : exec (.imageReadAnswer 0 true) countFull = .next (countFull.settle countKept) :=
  exec_imageReadAnswer_done rfl (by decide +kernel) (by decide +kernel)

theorem countKept_count : (countKept.chan 0).blocksMoved = 0xFFFFFFFF := by decide +kernel

/-- Refutes O48: in `countFull` the count of blocks moved is at its greatest value, and stays there as a ghost send completes; the
statement's sum wraps to 0. -/
theorem not_tapeOutReadsServeTheOldestImage : ¬ Obligations.TapeOutReadsServeTheOldestImage := by
  intro holds
  obtain ⟨-, answers⟩ := holds countFull 0x100000 64 0 rfl (by decide +kernel)
  obtain ⟨-, completes, -⟩ := answers lastRead
    { slot := 0, offset := 8128, ghost := true } rfl rfl rfl rfl rfl
  obtain ⟨v, ends, -, -, ⟨wraps, -⟩, -⟩ := completes (by decide) (.inl rfl) (.inl rfl) _ rfl
  have settled : countFull.settle v = countFull.settle countKept := by
    have same := ends.symm.trans countFull_answer
    injection same
  have kept : (v.chan 0).blocksMoved = 0xFFFFFFFF := by
    rw [← Unsent.settle countFull v 0, settled, Unsent.settle countFull countKept 0, countKept_count]
  rw [kept] at wraps
  exact absurd wraps (by decide +kernel)

end Sys2Proof.Machine
end

section
/-! The commit and the discard of a block (2.5, 6.1, 6.2, 6.4): O50. -/

namespace Sys2Proof.Machine

variable {s t u v : State} {d e : Drive} {i j : SessionId} {r : ChunkRec} {f : Frag} {id p : Nat} {x : Session}

/-! ## Answers to reassembly writes -/

theorem exec_reassemblyWriteAnswer (issued : s.path.port.issued = some (.owned (.reassembly d))) (ok : Bool) : exec (.reassemblyWriteAnswer d ok) s =
    .next ((if ok then s.answered (.reassembly d) else (s.answered (.reassembly d)).poolFault).modChan d fun c =>
      { c with reader :=
        if 0 < c.reader.staleWrites then { c.reader with staleWrites := c.reader.staleWrites - 1 }
        else { c.reader with rx := if ok then { c.reader.rx with writes := c.reader.rx.writes - 1 }
                                   else { c.reader.rx with writes := c.reader.rx.writes - 1 }.faulted } }) := by
  change execReassemblyWriteAnswer d ok s = _
  simp only [execReassemblyWriteAnswer, s.owes_of_issued _ issued, Bool.not_true, Bool.false_eq_true, if_false]

/-- R41: the answer to a reassembly write of the block in progress. -/
theorem reassemblyAnswer_effect (issued : s.path.port.issued = some (.owned (.reassembly d)))
    (fresh : (s.chan d).reader.staleWrites = 0) (ok : Bool) : ∃ v,
    exec (.reassemblyWriteAnswer d ok) s = .next v ∧ (v.chan d).reader.rx.writes = (s.chan d).reader.rx.writes - 1
    ∧ (v.chan d).reader.rx.bad = ((s.chan d).reader.rx.bad || !ok)
    ∧ (v.chan d).reader.rx.decision =
        (if ok then (s.chan d).reader.rx.decision else (s.chan d).reader.rx.decision.map fun _ => false)
    ∧ v.pool.memFaults = s.pool.memFaults.add (if ok then 0 else 1) ∧ v.mem = s.mem ∧ v.ring = s.ring
    ∧ v.streams = s.streams ∧ v.restore = s.restore := by
  refine ⟨_, exec_reassemblyWriteAnswer issued ok, ?_⟩
  have still : ¬ 0 < (s.chan d).reader.staleWrites := by rw [fresh]; exact Nat.lt_irrefl 0
  cases ok with
  | true =>
    have chan : (s.answered (.reassembly d)).chan d = s.chan d := rfl
    simp only [if_true, State.chan_modChan_self, chan, if_neg still, Bool.not_true, Bool.or_false]
    exact ⟨trivial, trivial, trivial, (counter_add_zero _).symm, rfl, rfl, rfl, rfl⟩
  | false =>
    have chan : (s.answered (.reassembly d)).poolFault.chan d = s.chan d := rfl
    simp only [Bool.false_eq_true, if_false, State.chan_modChan_self, chan, if_neg still, Bool.not_false, Bool.or_true]
    exact ⟨rfl, rfl, rfl, rfl, rfl, rfl, rfl, rfl⟩

/-! ## The commit of a record (R37, R28) -/

/-- R28, R37: a record whose first `n` bytes are committed, by the bytes of its chunk header. -/
def ChunkRec.committing (r : ChunkRec) (n : Nat) (h : ChunkFields) : ChunkRec :=
  { r.withHeader n h with
    committed := n, provisional := 0, provPages := 0, created := false, lastIn := false
    state := if r.lastIn then .complete else r.state }

theorem commitRec_absent (h : s.findRec id = none) : s.commitRec id = s := by simp only [State.commitRec, h]

theorem commitRec_eq (h : s.findRec id = some r) : s.commitRec id =
    s.modRec id fun x => x.committing (r.committed + r.provisional) (parseChunk (s.chunkBytes r.pages 0 10)) := by
  simp only [State.commitRec, h]
  rfl

theorem commitRec_findRec (h : s.findRec id = some r) : (s.commitRec id).findRec id =
    some (r.committing (r.committed + r.provisional) (parseChunk (s.chunkBytes r.pages 0 10))) := by
  have kept (x : ChunkRec) : (x.committing (r.committed + r.provisional) (parseChunk (s.chunkBytes r.pages 0 10))).id = x.id := rfl
  rw [commitRec_eq h, State.findRec_modRec s id _ kept, h, Option.map_some]

/-- What the commit of a record leaves alone. -/
theorem commitRec_same {β : Type} (g : State → β) (h : ∀ t n f, g (State.modRec t n f) = g t) (s : State) (id : Nat) :
    g (s.commitRec id) = g s := by
  cases hr : s.findRec id with
  | none => rw [commitRec_absent hr]
  | some r => rw [commitRec_eq hr, h]

theorem findRec_commitRec_ne {n : Nat} (ne : n ≠ id) (s : State) : (s.commitRec id).findRec n = s.findRec n := by
  cases hr : s.findRec id with
  | none => rw [commitRec_absent hr]
  | some r =>
    rw [commitRec_eq hr]
    have kept (x : ChunkRec) : (x.committing (r.committed + r.provisional) (parseChunk (s.chunkBytes r.pages 0 10))).id = x.id := rfl
    exact findRec_modRec_ne ne _ kept s

/-! ## The verify pass (R113) -/

theorem modReader_chan (s : State) (d : Drive) (f : Reader → Reader) : (s.modReader d f).chan d =
    { s.chan d with reader := f (s.chan d).reader } := s.chan_modChan_self d _

theorem modReader_restore (s : State) (d : Drive) (f : Reader → Reader) : (s.modReader d f).restore = s.restore := rfl

theorem modReader_streams (s : State) (d : Drive) (f : Reader → Reader) : (s.modReader d f).streams = s.streams := rfl

/-- The readers' expected sequences, and all of the channels but their readers, stand. -/
def Expects (s t : State) : Prop := ∀ d, ∃ r, t.chan d = { s.chan d with reader := r } ∧ r.expected = (s.chan d).reader.expected

theorem Expects.of_chans (h : t.chans = s.chans) : Expects s t := fun d => ⟨_, chan_of_chans h d, rfl⟩

theorem Expects.refl (s : State) : Expects s s := .of_chans rfl

theorem Expects.trans (h : Expects s t) (k : Expects t u) : Expects s u := fun d => by
  obtain ⟨r, eq, same⟩ := h d
  obtain ⟨r', eq', same'⟩ := k d
  refine ⟨r', by rw [eq', eq], ?_⟩
  rw [same', eq]
  exact same

theorem Expects.of_rereceived (h : Rereceived s t) : Expects s t := fun d => by
  obtain ⟨rx, eq, -⟩ := h d
  exact ⟨_, eq, rfl⟩

theorem Expects.modReader (s : State) (d : Drive) (f : Reader → Reader) (h : ∀ r, (f r).expected = r.expected) :
    Expects s (s.modReader d f) := fun e => by
  by_cases eq : e = d
  · rw [eq, modReader_chan]
    exact ⟨_, rfl, h _⟩
  · exact ⟨_, s.chan_modChan_ne d e _ fun k => eq k.symm, rfl⟩

theorem Expects.loop {α : Type} {f : α → State → State} (hf : ∀ x t, Expects t (f x t)) (xs : List α) (s : State) :
    Expects s (forEach xs f s) :=
  forEach_keeps (P := Expects s) (fun x t h => h.trans (hf x t)) xs s (.refl s)

theorem verifyTake_off (h : (s.chan d).reader.verify = false) (fs : List Frag) : s.verifyTake d fs = s := by
  rw [State.verifyTake, h]
  rfl

theorem beginsWith_first (number : f.number = 1) (mem : id ∈ f.records) : beginsWith [f] id = true := by
  simp only [beginsWith, number, beq_self_eq_true, Bool.true_and, List.contains_iff_mem, mem]

/-- R113: a pending record that the block begins with is complete. -/
theorem verifyTake_completes (on : (s.chan d).reader.verify = true) (pend : (s.chan d).reader.pendingVerify = some p)
    (number : f.number = 1) (mem : p ∈ f.records) : s.verifyTake d [f] =
    (s.modReader d fun x => { x with pendingVerify := none }).modReader d fun x => { x with verifyQueue := x.verifyQueue ++ [p] } := by
  have later : ([f].filter fun f => f.number == 0) = [] := by
    simp only [List.filter_cons, number, Nat.reduceBEq, Bool.false_eq_true, if_false, List.filter_nil]
  simp only [State.verifyTake, on, Bool.not_true, Bool.false_eq_true, if_false, pend, beginsWith_first number mem, if_true, later]
  rfl

/-- R113: a pending record that no block completes is given up, and bad. -/
theorem verifyTake_loses (on : (s.chan d).reader.verify = true) (pend : (s.chan d).reader.pendingVerify = some p) :
    s.verifyTake d [] = ((s.modReader d fun x => { x with pendingVerify := none }).freeRec p).modReader d Reader.chunkBad := by
  simp only [State.verifyTake, on, Bool.not_true, Bool.false_eq_true, if_false, pend]
  rfl

theorem verifyTake_new (on : (s.chan d).reader.verify = true) (pend : (s.chan d).reader.pendingVerify = none)
    (number : f.number = 0) (only : f.records = [id]) : s.verifyTake d [f] = s.verifyNew d id := by
  have first : ([f].filter fun f => f.number == 0).flatMap (·.records) = [id] := by
    simp only [List.filter_cons, number, beq_self_eq_true, if_true, List.filter_nil, List.flatMap_cons, only, List.flatMap_nil,
      List.append_nil]
  simp only [State.verifyTake, on, Bool.not_true, Bool.false_eq_true, if_false, pend, first]
  rfl

theorem verifyNew_eq (hr : s.findRec id = some r) (role : r.role = .verify d) : s.verifyNew d id = s.modReader d fun x =>
    if r.state = .complete then { x with verifyQueue := x.verifyQueue ++ [id] } else { x with pendingVerify := some id } := by
  simp only [State.verifyNew, hr, role, if_true]

/-! ## Collecting (R120, R121) -/

/-- R120: what a session makes of a chunk that joins its queue. -/
def Session.joined (x : Session) (now : Nat) (r : ChunkRec) : Session :=
  let y := { x with queue := x.queue ++ [.chunk r.id], nextSeq := r.seq + 1, pendingRec := none, stall := some now }
  if r.setend = some true ∨ x.lastSeq = some r.seq then y.collected else y

theorem joinChunk_session (s : State) (i : SessionId) (r : ChunkRec) : (s.joinChunk i r).session i =
    (s.session i).joined s.timebase r := session_modSession_self s i fun x => x.joined s.timebase r

theorem joined_fields (x : Session) (now : Nat) (r : ChunkRec) : (x.joined now r).queue = x.queue ++ [.chunk r.id]
    ∧ (x.joined now r).nextSeq = r.seq + 1 ∧ (x.joined now r).pendingRec = none ∧ (x.joined now r).damaged = x.damaged
    ∧ (x.final = false → ((x.joined now r).final = true ↔ r.setend = some true ∨ x.lastSeq = some r.seq)
      ∧ (x.joined now r).stall = (if (x.joined now r).final then none else some now)
      ∧ (x.joined now r).drive = (if (x.joined now r).final then none else x.drive)) := by
  by_cases h : r.setend = some true ∨ x.lastSeq = some r.seq
  · simp [Session.joined, Session.collected, h]
  · simp +contextual [Session.joined, h]

/-- R121: what a session under CONTINUE makes of a run of `n` lost chunks. -/
def Session.lost (x : Session) (now : Nat) (first : Word) (n len : Nat) (setend : Bool) : Session :=
  let y := { x with
    queue := x.queue ++ [.zero first n len setend], nextSeq := first + BitVec.ofNat 32 n, pendingRec := none
    damaged := x.damaged.add n, stall := some now }
  if setend ∨ x.lastSeq = some (first + BitVec.ofNat 32 n - 1) then y.collected else y

theorem loseChunks_cont (cont : (s.session i).cont = true) (first : Word) (count len : Nat) (setend : Bool) :
    s.loseChunks i first count len setend = s.modSession i fun x => x.lost s.timebase first (x.runLength first count) len setend :=
  if_pos cont

theorem loseChunks_gap (cont : (s.session i).cont = false) (first : Word) (count len : Nat) (setend : Bool) :
    s.loseChunks i first count len setend = s.endSession i (.failed .gap) := if_neg (by rw [cont]; exact Bool.false_ne_true)

theorem lost_fields (x : Session) (now : Nat) (first : Word) (n len : Nat) (setend : Bool) :
    (x.lost now first n len setend).queue = x.queue ++ [.zero first n len setend]
    ∧ (x.lost now first n len setend).nextSeq = first + BitVec.ofNat 32 n
    ∧ (x.lost now first n len setend).pendingRec = none ∧ (x.lost now first n len setend).damaged = x.damaged.add n := by
  unfold Session.lost
  dsimp only
  split <;> exact ⟨rfl, rfl, rfl, rfl⟩

theorem collecting_iff (s : State) (d : Drive) (i : SessionId) : s.collecting d i = true ↔
    (s.session i).state = .active ∧ (s.session i).drive = some d ∧ (s.session i).final = false := by
  simp only [State.collecting, Bool.and_eq_true, beq_iff_eq, Bool.not_eq_true', and_assoc]

theorem sessionTake_apart (h : (s.session i).drive ≠ some d) (fs : List Frag) : State.sessionTake d fs i s = s := by
  have off : s.collecting d i = false := Bool.eq_false_iff.mpr fun on => h ((collecting_iff s d i).mp on).2.1
  rw [State.sessionTake, off]
  rfl

theorem sessionTake_on (on : s.collecting d i = true) (fs : List Frag) : State.sessionTake d fs i s =
    forEach (s.takePending i fs).2 (State.collectFrag d i) (s.takePending i fs).1 := by
  rw [State.sessionTake, on]
  rfl

theorem takePending_none (h : (s.session i).pendingRec = none) (fs : List Frag) : s.takePending i fs = (s, fs) := by
  simp only [State.takePending, h, Option.bind_none]

theorem takePending_completes (h : (s.session i).pendingRec = some p) (hr : s.findRec p = some r) (number : f.number = 1)
    (mem : r.id ∈ f.records) : s.takePending i [f] = (s.joinChunk i r, []) := by
  simp only [State.takePending, h, Option.bind_some, hr, beginsWith_first number mem, if_true, List.tail_cons]

theorem takePending_loses (h : (s.session i).pendingRec = some p) (hr : s.findRec p = some r) : s.takePending i [] =
    (((s.modSession i fun x => { x with pendingRec := none }).freeRec r.id).loseChunks i r.seq 1 r.lostLen
      (r.setend == some true), []) := by
  simp only [State.takePending, h, Option.bind_some, hr, beginsWith, Bool.false_eq_true, if_false]

theorem ownRec_only (only : f.records = [id]) (hr : s.findRec id = some r) (role : r.role = .restore i) :
    s.ownRec i f = some r := by
  simp only [State.ownRec, only, List.filterMap_cons, hr, List.filterMap_nil, List.find?_cons, role, beq_self_eq_true]

theorem precedes_irrefl (a : Word) : precedes a a = false := by
  rw [Bool.eq_false_iff]
  intro h
  have := ((precedes_iff a a).mp h).1
  rw [BitVec.sub_self] at this
  exact absurd this (by decide)

theorem precedes_asymm {a b : Word} (h : precedes a b = true) : precedes b a = false := by
  rw [Bool.eq_false_iff]
  intro k
  obtain ⟨lo, hi⟩ := (precedes_iff a b).mp h
  obtain ⟨lo', hi'⟩ := (precedes_iff b a).mp k
  bv_omega

/-- R120: a whole chunk of the session's set, at or behind the next one it collects. -/
theorem collectFrag_whole (on : s.collecting d i = true) (set : f.setId = (s.session i).setId)
    (ahead : precedes f.seq (s.session i).nextSeq = false) (within : ∀ l, (s.session i).lastSeq = some l → precedes l f.seq = false)
    (number : f.number = 0) (last : f.last = true) (own : s.ownRec i f = some r) : State.collectFrag d i f s =
    (if precedes (s.session i).nextSeq f.seq then
        if (s.loseChunks i (s.session i).nextSeq (f.seq - (s.session i).nextSeq).toNat 4096 false).collecting d i then
          (s.loseChunks i (s.session i).nextSeq (f.seq - (s.session i).nextSeq).toNat 4096 false).joinChunk i r
        else s.loseChunks i (s.session i).nextSeq (f.seq - (s.session i).nextSeq).toNat 4096 false
      else s.joinChunk i r) := by
  have in_ : (s.session i).lastSeq.any (fun l => precedes l f.seq) = false := by
    cases h : (s.session i).lastSeq with
    | none => rfl
    | some l => exact within l h
  simp only [State.collectFrag, on, set, ahead, in_, number, last, own, Bool.not_true, Bool.false_eq_true, ne_eq, not_true_eq_false,
    or_self, if_false, if_true]
  by_cases gap : precedes (s.session i).nextSeq f.seq = true
  · simp only [gap, if_true]
    cases (s.loseChunks i (s.session i).nextSeq (f.seq - (s.session i).nextSeq).toNat 4096 false).collecting d i <;> rfl
  · simp only [gap, Bool.false_eq_true, if_false, on]
    rfl

/-! ## What a commit leaves alone -/

/-- The channels' expected sequences, the channels but their readers, the streams and staging memory stand. -/
structure CommitStep (s t : State) : Prop where
  expects : Expects s t
  streams : t.streams = s.streams
  mem : t.mem = s.mem

theorem CommitStep.refl (s : State) : CommitStep s s := ⟨.refl s, rfl, rfl⟩

theorem CommitStep.trans (h : CommitStep s t) (k : CommitStep t u) : CommitStep s u :=
  ⟨h.expects.trans k.expects, k.streams.trans h.streams, k.mem.trans h.mem⟩

theorem CommitStep.of_blocks (chans : t.chans = s.chans) (streams : t.streams = s.streams) (mem : t.mem = s.mem) : CommitStep s t :=
  ⟨.of_chans chans, streams, mem⟩

theorem CommitStep.ite {p : Prop} [Decidable p] (h : CommitStep s t) (k : CommitStep s u) : CommitStep s (if p then t else u) := by
  split
  · exact h
  · exact k

theorem CommitStep.loop {α : Type} {f : α → State → State} (hf : ∀ x t, CommitStep t (f x t)) (xs : List α) (s : State) :
    CommitStep s (forEach xs f s) :=
  forEach_keeps (P := CommitStep s) (fun x t h => h.trans (hf x t)) xs s (.refl s)

theorem CommitStep.modReader (s : State) (d : Drive) (f : Reader → Reader) (h : ∀ r, (f r).expected = r.expected) :
    CommitStep s (s.modReader d f) := ⟨.modReader s d f h, rfl, rfl⟩

theorem CommitStep.freeRec (s : State) (id : Nat) : CommitStep s (s.freeRec id) :=
  .of_blocks (State.freeRec_chans s id) (State.freeRec_streams s id) (mem_of_outside (State.freeRec_outside s id))

theorem CommitStep.endSession (s : State) (i : SessionId) (e : SessionEnd) : CommitStep s (s.endSession i e) :=
  ⟨.of_rereceived (.endSession s i e), State.endSession_streams s i e, mem_of_outside (State.endSession_outside s i e)⟩

theorem CommitStep.commitRec (s : State) (id : Nat) : CommitStep s (s.commitRec id) :=
  .of_blocks (commitRec_same (·.chans) (fun _ _ _ => rfl) s id) (commitRec_same (·.streams) (fun _ _ _ => rfl) s id)
    (mem_of_outside (State.commitRec_outside s id))

theorem CommitStep.modSession (s : State) (i : SessionId) (f : Session → Session) : CommitStep s (s.modSession i f) :=
  .of_blocks rfl rfl rfl

theorem CommitStep.joinChunk (s : State) (i : SessionId) (r : ChunkRec) : CommitStep s (s.joinChunk i r) := .of_blocks rfl rfl rfl

theorem CommitStep.loseChunks (s : State) (i : SessionId) (first : Word) (n len : Nat) (setend : Bool) :
    CommitStep s (s.loseChunks i first n len setend) := .ite (.modSession s i _) (.endSession s i _)

theorem CommitStep.verifyNew (s : State) (d : Drive) (id : Nat) : CommitStep s (s.verifyNew d id) := by
  unfold State.verifyNew
  split
  · exact .ite (.modReader s d _ fun _ => by split <;> rfl) (.refl s)
  · exact .refl s

theorem CommitStep.verifyTake (s : State) (d : Drive) (fs : List Frag) : CommitStep s (s.verifyTake d fs) := by
  unfold State.verifyTake
  extract_lets cleared s1
  have pending : CommitStep s s1 := by
    simp only [s1]
    split
    · exact .refl s
    · have without : CommitStep s cleared := .modReader s d (fun x => { x with pendingVerify := none }) fun _ => rfl
      exact .ite (without.trans (.modReader _ d _ fun _ => rfl)) ((without.trans (.freeRec _ _)).trans (.modReader _ d _ fun _ => rfl))
  exact .ite (.refl s) (pending.trans (.loop (fun id t => .verifyNew t d id) _ _))

theorem CommitStep.takePending (s : State) (i : SessionId) (fs : List Frag) : CommitStep s (s.takePending i fs).1 := by
  unfold State.takePending
  split
  · exact .refl s
  · next r _ =>
    split
    · exact .joinChunk s i r
    · exact ((CommitStep.modSession s i _).trans (.freeRec _ _)).trans (.loseChunks _ i _ _ _ _)

theorem CommitStep.collectFrag (s : State) (d : Drive) (i : SessionId) (f : Frag) : CommitStep s (State.collectFrag d i f s) := by
  unfold State.collectFrag
  extract_lets x t
  refine .ite (.refl s) (.ite ?_ (.ite (.refl s) (.loseChunks s i _ _ _ _)))
  split
  · exact .refl s
  · have lost : CommitStep s t := .ite (.loseChunks s i _ _ _ _) (.refl s)
    exact .ite lost (.ite (lost.trans (.joinChunk t i _)) (lost.trans (.modSession t i _)))

theorem CommitStep.sessionTake (s : State) (d : Drive) (fs : List Frag) (i : SessionId) :
    CommitStep s (State.sessionTake d fs i s) := by
  cases on : s.collecting d i with
  | false =>
    rw [State.sessionTake, on]
    exact .refl s
  | true =>
    rw [sessionTake_on on]
    exact (CommitStep.takePending s i fs).trans (.loop (fun f t => .collectFrag t d i f) _ _)

/-! ## The commit and the discard of a block (R37, R38, R112) -/

/-- R112: what the records, the pass and the sessions make of a committed block. -/
def State.blockTaken (s : State) (d : Drive) : State :=
  forEach allSessions (State.sessionTake d (s.chan d).reader.rx.frags)
    ((forEach (s.chan d).reader.rx.touched (fun id t => t.commitRec id) s).verifyTake d (s.chan d).reader.rx.frags)

/-- R109: the reception starts anew. -/
def Reader.anew (r : Reader) : Reader := { r with rx := {} }

theorem exec_blockCommit (decision : (s.chan d).reader.rx.decision = some true) (writes : (s.chan d).reader.rx.writes = 0) :
    exec (.blockCommit d) s = .next (s.settle ((s.blockTaken d).modReader d Reader.anew)) := by
  change execBlockCommit d s = _
  simp only [execBlockCommit, decision, writes, and_self, if_true]
  rfl

theorem exec_blockDiscard (decision : (s.chan d).reader.rx.decision = some false) (writes : (s.chan d).reader.rx.writes = 0) :
    exec (.blockDiscard d) s = .next (s.settle (s.discardBlock d)) := by
  change execBlockDiscard d s = _
  simp only [execBlockDiscard, decision, writes, and_self, if_true]

theorem blockTaken_step (s : State) (d : Drive) : CommitStep s (s.blockTaken d) :=
  ((CommitStep.loop (fun id t => .commitRec t id) _ s).trans (.verifyTake _ d _)).trans
    (.loop (fun i t => .sessionTake t d _ i) _ _)

theorem forEach_still {α : Type} {f : α → State → State} {xs : List α} (h : ∀ x ∈ xs, f x s = s) : forEach xs f s = s := by
  induction xs with
  | nil => rfl
  | cons x xs ih =>
    have first : forEach (x :: xs) f s = forEach xs f (f x s) := rfl
    rw [first, h x List.mem_cons_self, ih fun y hy => h y (List.mem_cons_of_mem x hy)]

/-- Where each step of a loop but one leaves the state as it is, the loop is that step. -/
theorem forEach_only {α : Type} [DecidableEq α] {f : α → State → State} {a : α} (before : ∀ x, x ≠ a → f x s = s)
    (after : ∀ x, x ≠ a → f x (f a s) = f a s) {xs : List α} (mem : a ∈ xs) (each : xs.Nodup) : forEach xs f s = f a s := by
  induction xs with
  | nil => exact absurd mem List.not_mem_nil
  | cons x xs ih =>
    obtain ⟨fresh, each⟩ := List.nodup_cons.mp each
    have first : forEach (x :: xs) f s = forEach xs f (f x s) := rfl
    rw [first]
    by_cases eq : x = a
    · rw [eq, forEach_still fun y hy => after y fun same => fresh (eq ▸ same ▸ hy)]
    · rw [before x eq]
      exact ih ((List.mem_cons.mp mem).resolve_left fun h => eq h.symm) each

theorem touched_one {rx : BlockRx} (frags : rx.frags = [f]) (only : f.records = [id]) : rx.touched = [id] := by
  simp only [BlockRx.touched, frags, List.flatMap_cons, only, List.flatMap_nil, List.append_nil]
  rfl

/-- R112: a block of one fragment, whose record is `id`. -/
theorem blockTaken_one (frags : (s.chan d).reader.rx.frags = [f]) (only : f.records = [id]) : s.blockTaken d =
    forEach allSessions (State.sessionTake d [f]) ((s.commitRec id).verifyTake d [f]) := by
  rw [State.blockTaken, touched_one frags only, frags]
  rfl

theorem commitRec_chan (s : State) (id : Nat) (d : Drive) : (s.commitRec id).chan d = s.chan d :=
  chan_of_chans (commitRec_same (·.chans) (fun _ _ _ => rfl) s id) d

theorem commitRec_session (s : State) (id : Nat) (i : SessionId) : (s.commitRec id).session i = s.session i :=
  session_of_restore (commitRec_same (·.restore) (fun _ _ _ => rfl) s id) i

/-- R37, R120: a block of one whole chunk, which is the next one of its session. -/
theorem commit_collects (hdec : (s.chan d).reader.rx.decision = some true) (writes : (s.chan d).reader.rx.writes = 0)
    (frags : (s.chan d).reader.rx.frags = [f]) (only : f.records = [id]) (number : f.number = 0) (lastIn : r.lastIn = f.last)
    (hr : s.findRec id = some r) (role : r.role = .restore i) (last : f.last = true) (pass : (s.chan d).reader.verify = false)
    (seq : r.seq = f.seq) (state : (s.session i).state = .active) (drive : (s.session i).drive = some d)
    (final : (s.session i).final = false) (pend : (s.session i).pendingRec = none) (set : (s.session i).setId = f.setId)
    (next : (s.session i).nextSeq = f.seq) (within : ∀ l, (s.session i).lastSeq = some l → precedes l f.seq = false)
    (others : ∀ j, j ≠ i → (s.session j).drive ≠ some d) :
    ∃ v r', exec (.blockCommit d) s = .next (s.settle v) ∧ v.findRec id = some r' ∧ r'.state = .complete
      ∧ r'.committed = r.committed + r.provisional ∧ (v.session i).queue = (s.session i).queue ++ [.chunk id]
      ∧ (v.session i).nextSeq = f.seq + 1 ∧ (v.session i).pendingRec = none
      ∧ ((v.session i).final = true ↔ r'.setend = some true ∨ (s.session i).lastSeq = some f.seq)
      ∧ (v.session i).drive = (if (v.session i).final then none else some d)
      ∧ ∀ j, j ≠ i → v.session j = s.session j := by
  let r' := r.committing (r.committed + r.provisional) (parseChunk (s.chunkBytes r.pages 0 10))
  have found : (s.commitRec id).findRec id = some r' := commitRec_findRec hr
  have session (j : SessionId) := commitRec_session s id j
  have on : (s.commitRec id).collecting d i = true := (collecting_iff _ d i).mpr (by rw [session]; exact ⟨state, drive, final⟩)
  have taken : State.sessionTake d [f] i (s.commitRec id) = (s.commitRec id).joinChunk i r' := by
    rw [sessionTake_on on, takePending_none (by rw [session]; exact pend)]
    change State.collectFrag d i f (s.commitRec id) = _
    rw [collectFrag_whole on (by rw [session, set]) (by rw [session, next]; exact precedes_irrefl _) (by rw [session]; exact within)
      number last (ownRec_only only found role), session, next, precedes_irrefl, if_neg Bool.false_ne_true]
  have elsewhere (j : SessionId) (ne : j ≠ i) : ((s.commitRec id).joinChunk i r').session j = s.session j :=
    (session_modSession_ne (s.commitRec id) _ ne).trans (session j)
  have all : s.blockTaken d = (s.commitRec id).joinChunk i r' := by
    rw [blockTaken_one frags only, verifyTake_off (by rw [commitRec_chan]; exact pass), ← taken]
    refine forEach_only (fun j ne => ?_) (fun j ne => ?_) (mem_allSessions i) (by decide)
    · exact sessionTake_apart (by rw [session]; exact others j ne) _
    · exact sessionTake_apart (by rw [taken, elsewhere j ne]; exact others j ne) _
  have joined : ((s.commitRec id).joinChunk i r').session i = (s.session i).joined (s.commitRec id).timebase r' := by
    rw [joinChunk_session, session]
  have named : r'.id = id := State.findRec_id _ found
  obtain ⟨queue, nextSeq, pending, -, rest⟩ := joined_fields (s.session i) (s.commitRec id).timebase r'
  obtain ⟨ends, -, leaves⟩ := rest final
  refine ⟨_, r', exec_blockCommit hdec writes, ?_, ?_, rfl, ?_⟩
  · rw [all]
    exact found
  · have ends : r'.state = if r.lastIn then .complete else r.state := rfl
    rw [ends, lastIn, last]
    rfl
  · have kept (j : SessionId) : ((s.blockTaken d).modReader d Reader.anew).session j = ((s.commitRec id).joinChunk i r').session j := by
      rw [session_of_restore (modReader_restore (s.blockTaken d) d Reader.anew) j, all]
    rw [kept i, joined, queue, nextSeq, pending, leaves, named, drive]
    exact ⟨rfl, by rw [show r'.seq = r.seq from rfl, seq], rfl, by rw [ends, show r'.seq = r.seq from rfl, seq], rfl,
      fun j ne => (kept j).trans (elsewhere j ne)⟩

/-- R37, R113: a block of one fragment 0 of the verify pass. -/
theorem commit_verifies (hdec : (s.chan d).reader.rx.decision = some true) (writes : (s.chan d).reader.rx.writes = 0)
    (frags : (s.chan d).reader.rx.frags = [f]) (only : f.records = [id]) (number : f.number = 0) (lastIn : r.lastIn = f.last)
    (reassembling : r.state = .reassembling) (hr : s.findRec id = some r) (role : r.role = .verify d)
    (pass : (s.chan d).reader.verify = true) (pend : (s.chan d).reader.pendingVerify = none)
    (apart : ∀ j, (s.session j).drive ≠ some d) :
    ∃ v r', exec (.blockCommit d) s = .next (s.settle v)
      ∧ v.findRec id = some r' ∧ r'.committed = r.committed + r.provisional
      ∧ r'.state = (if f.last then .complete else .reassembling)
      ∧ (v.chan d).reader.verifyQueue = (s.chan d).reader.verifyQueue ++ (if f.last then [id] else [])
      ∧ (v.chan d).reader.pendingVerify = (if f.last then none else some id) ∧ v.restore = s.restore := by
  let r' := r.committing (r.committed + r.provisional) (parseChunk (s.chunkBytes r.pages 0 10))
  have found : (s.commitRec id).findRec id = some r' := commitRec_findRec hr
  have chan := commitRec_chan s id d
  have restore : (s.commitRec id).restore = s.restore := commitRec_same (·.restore) (fun _ _ _ => rfl) s id
  have state : r'.state = if f.last then .complete else .reassembling := by
    rw [← lastIn, ← reassembling]
    rfl
  have taken : (s.commitRec id).verifyTake d [f] = (s.commitRec id).modReader d fun x =>
      if r'.state = .complete then { x with verifyQueue := x.verifyQueue ++ [id] } else { x with pendingVerify := some id } := by
    rw [verifyTake_new (by rw [chan]; exact pass) (by rw [chan]; exact pend) number only, verifyNew_eq found role]
  have all : s.blockTaken d = (s.commitRec id).verifyTake d [f] := by
    rw [blockTaken_one frags only]
    refine forEach_still fun j _ => sessionTake_apart ?_ _
    rw [taken]
    exact (congrArg Session.drive (commitRec_session s id j)).trans_ne (apart j)
  refine ⟨_, r', exec_blockCommit hdec writes, ?_, rfl, state, ?_⟩
  · rw [all, taken]
    exact found
  · rw [all, taken, modReader_chan, modReader_chan, chan, state]
    refine ⟨?_, ?_, restore⟩
    all_goals cases f.last <;> simp [Reader.anew, pend]

/-- R38: a record that the block in progress created is freed with it. -/
theorem discardRec_created (hr : s.findRec id = some r) (created : r.created = true) : (s.discardRec id).findRec id = none := by
  have eq : s.discardRec id = s.freeRec id := by simp only [State.discardRec, hr, created, if_true]
  rw [eq, freeRec_gone]

theorem returnPages_findRec (s : State) (ps : List Nat) (n : Nat) : (s.returnPages ps).findRec n = s.findRec n := by
  obtain ⟨records, -⟩ := returnPages_pool s ps
  rw [State.findRec, records, State.findRec]

/-- R38: a record that keeps its first pages alone. -/
def ChunkRec.discarded (r : ChunkRec) (keep : Nat) : ChunkRec :=
  { r with pages := r.pages.take keep, provisional := 0, provPages := 0, lastIn := false }

theorem findRec_discardRec_ne {n : Nat} (ne : n ≠ id) (s : State) : (s.discardRec id).findRec n = s.findRec n := by
  unfold State.discardRec
  split
  · rfl
  · next r _ =>
    split
    · exact findRec_freeRec_ne ne s
    · rw [returnPages_findRec]
      have kept (x : ChunkRec) : (x.discarded (r.pages.length - r.provPages)).id = x.id := rfl
      exact findRec_modRec_ne ne _ kept s

theorem discardBlock_chan (s : State) (d : Drive) : (s.discardBlock d).chan d = { s.chan d with
    reader := { (s.chan d).reader with rx := {}, staleWrites := (s.chan d).reader.staleWrites + (s.chan d).reader.rx.writes } } := by
  rw [State.discardBlock, State.chan_modChan_self, chan_of_chans (forEach_same (·.chans) _ (fun id t => t.discardRec_chans id) _ _)]

theorem discardAll_created {xs : List Nat} (mem : id ∈ xs) (hr : s.findRec id = some r) (created : r.created = true) :
    (forEach xs (fun n t => t.discardRec n) s).findRec id = none := by
  have gone (xs : List Nat) (t : State) (h : t.findRec id = none) : (forEach xs (fun n t => t.discardRec n) t).findRec id = none := by
    refine forEach_keeps (P := fun t => t.findRec id = none) (fun n t h => ?_) xs t h
    by_cases eq : n = id
    · rw [eq]
      simp only [State.discardRec, h]
    · rw [findRec_discardRec_ne fun k => eq k.symm]
      exact h
  induction xs generalizing s with
  | nil => exact absurd mem List.not_mem_nil
  | cons x xs ih =>
    have first : forEach (x :: xs) (fun n t => t.discardRec n) s = forEach xs (fun n t => t.discardRec n) (s.discardRec x) := rfl
    rw [first]
    by_cases eq : x = id
    · rw [eq]
      exact gone xs _ (discardRec_created hr created)
    · exact ih ((List.mem_cons.mp mem).resolve_left fun h => eq h.symm) ((findRec_discardRec_ne (fun k => eq k.symm) s).trans hr)

/-- R121: a run of lost chunks that reaches past the session's last sequence stops there. -/
theorem loseChunks_stops {l : Word} (cont : (s.session i).cont = true) (ends : (s.session i).lastSeq = some l) {first : Word} {n : Nat}
    (past : (l - first).toNat < n) (len : Nat) (e : Bool) :
    let y := (s.loseChunks i first n len e).session i
    let m := (l - first).toNat + 1
    y.queue = (s.session i).queue ++ [.zero first m len e] ∧ y.nextSeq = l + 1 ∧ y.damaged = (s.session i).damaged.add m
      ∧ y.final = true ∧ y.drive = none := by
  intro y m
  have run : (s.session i).runLength first n = m := by
    simp only [Session.runLength, ends]
    exact Nat.min_eq_right past
  have eq : y = (s.session i).lost s.timebase first m len e := by
    simp only [y]
    rw [loseChunks_cont cont, session_modSession_self, run]
  have reach : first + BitVec.ofNat 32 m = l + 1 := by
    simp only [m]
    bv_omega
  have final : (s.session i).lastSeq = some (first + BitVec.ofNat 32 m - 1) := by
    rw [ends, reach, BitVec.add_sub_cancel]
  obtain ⟨queue, next, -, damaged⟩ := lost_fields (s.session i) s.timebase first m len e
  rw [eq]
  refine ⟨queue, next.trans reach, damaged, ?_⟩
  simp only [Session.lost, final, or_true, if_true]
  exact ⟨rfl, rfl⟩

/-- R121: a single lost chunk. -/
theorem lost_one (cont : (s.session i).cont = true) (first : Word) (len : Nat) (e : Bool) :
    let y := (s.loseChunks i first 1 len e).session i
    y.queue = (s.session i).queue ++ [.zero first 1 len e] ∧ y.nextSeq = first + 1 ∧ y.pendingRec = none
      ∧ y.damaged = (s.session i).damaged.add 1 := by
  intro y
  have run : (s.session i).runLength first 1 = 1 := by
    unfold Session.runLength
    split
    · exact Nat.min_eq_left (Nat.le_add_left 1 _)
    · rfl
  have eq : y = (s.session i).lost s.timebase first 1 len e := by
    simp only [y]
    rw [loseChunks_cont cont, session_modSession_self, run]
  rw [eq]
  exact lost_fields (s.session i) s.timebase first 1 len e

theorem loseChunks_pool (s : State) (cont : (s.session i).cont = true) (first : Word) (n len : Nat) (e : Bool) :
    (s.loseChunks i first n len e).pool = s.pool := by
  rw [loseChunks_cont cont]
  rfl

/-- R120, R121: what a session with a pending record takes of a block that goes on with it, and of one that does not. -/
theorem pending_taken (on : s.collecting d i = true) (pend : (s.session i).pendingRec = some p) (hr : s.findRec p = some r) :
    (∀ f : Frag, f.number = 1 → r.id ∈ f.records →
      let y := (State.sessionTake d [f] i s).session i
      y.queue = (s.session i).queue ++ [.chunk r.id] ∧ y.nextSeq = r.seq + 1 ∧ y.pendingRec = none
        ∧ y.damaged = (s.session i).damaged ∧ y.stall = (if y.final then none else some s.timebase))
    ∧ ((s.session i).cont = true →
      let y := (State.sessionTake d [] i s).session i
      y.queue = (s.session i).queue ++ [.zero r.seq 1 r.lostLen (r.setend == some true)] ∧ y.nextSeq = r.seq + 1
        ∧ y.pendingRec = none ∧ y.damaged = (s.session i).damaged.add 1 ∧ (State.sessionTake d [] i s).findRec r.id = none)
    ∧ ((s.session i).cont = false → ((State.sessionTake d [] i s).session i).state = .free) := by
  have ⟨_, _, final⟩ := (collecting_iff s d i).mp on
  let t := (s.modSession i fun x => { x with pendingRec := none }).freeRec r.id
  have given : t.session i = { s.session i with pendingRec := none } := by
    rw [session_of_restore (State.freeRec_restore _ _), session_modSession_self]
  have lost : State.sessionTake d [] i s = t.loseChunks i r.seq 1 r.lostLen (r.setend == some true) := by
    rw [sessionTake_on on, takePending_loses pend hr]
    rfl
  refine ⟨fun f number mem => ?_, fun cont => ?_, fun cont => ?_⟩
  · have joins : (State.sessionTake d [f] i s).session i = (s.session i).joined s.timebase r := by
      rw [sessionTake_on on, takePending_completes pend hr number mem]
      exact joinChunk_session s i r
    obtain ⟨queue, next, none, damaged, rest⟩ := joined_fields (s.session i) s.timebase r
    rw [joins]
    exact ⟨queue, next, none, damaged, (rest final).2.1⟩
  · obtain ⟨queue, next, none, damaged⟩ := lost_one (s := t) (by rw [given]; exact cont) r.seq r.lostLen (r.setend == some true)
    rw [given] at queue damaged
    rw [lost]
    refine ⟨queue, next, none, damaged, ?_⟩
    rw [State.findRec, loseChunks_pool t (by rw [given]; exact cont)]
    exact freeRec_gone _ _
  · rw [lost, loseChunks_gap (by rw [given]; exact cont)]
    exact endSession_state t i _

/-- R121: what a session takes of a whole chunk behind missing ones. -/
theorem gap_taken (on : s.collecting d i = true) (pend : (s.session i).pendingRec = none) (ends : (s.session i).lastSeq = none)
    (set : f.setId = (s.session i).setId) (number : f.number = 0) (last : f.last = true)
    (ahead : precedes (s.session i).nextSeq f.seq = true) (only : f.records = [r.id]) (hr : s.findRec r.id = some r)
    (role : r.role = .restore i) (seq : r.seq = f.seq) :
    ((s.session i).cont = true →
      let y := (State.sessionTake d [f] i s).session i
      let n := (f.seq - (s.session i).nextSeq).toNat
      y.queue = (s.session i).queue ++ [.zero (s.session i).nextSeq n 4096 false, .chunk r.id] ∧ y.nextSeq = f.seq + 1
        ∧ y.damaged = (s.session i).damaged.add n)
    ∧ ((s.session i).cont = false → ((State.sessionTake d [f] i s).session i).state = .free) := by
  let x := s.session i
  let n := (f.seq - x.nextSeq).toNat
  let t := s.loseChunks i x.nextSeq n 4096 false
  have taken : State.sessionTake d [f] i s = if t.collecting d i then t.joinChunk i r else t := by
    rw [sessionTake_on on, takePending_none pend]
    change State.collectFrag d i f s = _
    rw [collectFrag_whole on set (precedes_asymm ahead) (fun l hl => absurd (ends.symm.trans hl) nofun) number last
      (ownRec_only only hr role), if_pos ahead]
  refine ⟨fun cont => ?_, fun cont => ?_⟩
  · have run : x.runLength x.nextSeq n = n := by simp only [Session.runLength, show x.lastSeq = none from ends]
    have lost : t.session i = x.lost s.timebase x.nextSeq n 4096 false := by
      simp only [t]
      rw [loseChunks_cont cont, session_modSession_self]
      exact congrArg (fun k => x.lost s.timebase x.nextSeq k 4096 false) run
    have goes : x.lost s.timebase x.nextSeq n 4096 false = { x with
        queue := x.queue ++ [.zero x.nextSeq n 4096 false], nextSeq := x.nextSeq + BitVec.ofNat 32 n, pendingRec := none
        damaged := x.damaged.add n, stall := some s.timebase } := by
      simp [Session.lost, show x.lastSeq = none from ends]
    have still : t.collecting d i = true := by
      rw [collecting_iff, lost, goes]
      exact (collecting_iff s d i).mp on
    obtain ⟨queue, next, -, damaged, -⟩ := joined_fields (t.session i) t.timebase r
    have joins : (State.sessionTake d [f] i s).session i = (t.session i).joined t.timebase r := by
      rw [taken, if_pos still, joinChunk_session]
    simp only [joins]
    rw [queue, next, damaged, lost, goes, seq]
    exact ⟨by simp only [List.append_assoc, List.cons_append, List.nil_append]; rfl, rfl, rfl⟩
  · have ended : t = s.endSession i (.failed .gap) := loseChunks_gap cont _ _ _ _
    have off : t.collecting d i = false := by
      rw [Bool.eq_false_iff]
      intro h
      have active := ((collecting_iff t d i).mp h).1
      rw [ended, endSession_state] at active
      exact absurd active (by decide)
    rw [taken, off, if_neg Bool.false_ne_true, ended]
    exact endSession_state s i _

/-- Settles O50: the answers, the commit with what its records, the pass and the sessions take, and the discard. -/
theorem blocksAreCommittedOrDiscarded : Obligations.BlocksAreCommittedOrDiscarded := by
  intro s d ok c rx
  refine ⟨fun issued fresh _ => reassemblyAnswer_effect issued fresh ok, fun hdec writes => ?_, fun id r hr => ?_,
    fun f id r hdec writes frags only number state lastIn hr => ⟨?_, ?_⟩, fun p r pass pend hr => ⟨?_, ?_⟩,
    ?_, fun hdec writes => ?_⟩
  · obtain ⟨expects, streams, mem⟩ := blockTaken_step s d
    obtain ⟨reader, chan, expected⟩ := expects d
    refine ⟨_, exec_blockCommit hdec writes, ?_, ?_, ?_, ?_, (modReader_streams _ d _).trans streams⟩
    · rw [modReader_chan]
      rfl
    · rw [modReader_chan, chan]
      exact expected
    · rw [modReader_chan, chan]
    · exact (mem_of_outside (State.modReader_outside _ d _)).trans mem
  · exact ⟨commitRec_findRec hr, fun e ne => findRec_commitRec_ne ne s, mem_of_outside (State.commitRec_outside s id)⟩
  · intro i role last pass seq active drive final pend set next within others
    exact commit_collects hdec writes frags only number lastIn hr role last pass seq active drive final pend set next within others
  · intro role pass pend apart
    exact commit_verifies hdec writes frags only number lastIn state hr role pass pend apart
  · intro f number mem
    rw [verifyTake_completes pass pend number mem, modReader_chan, modReader_chan]
    exact ⟨rfl, rfl⟩
  · rw [verifyTake_loses pass pend, modReader_chan, chan_of_chans (State.freeRec_chans _ _), modReader_chan]
    exact ⟨freeRec_gone _ p, rfl, rfl, rfl⟩
  · intro i x state drive final
    have on : s.collecting d i = true := (collecting_iff s d i).mpr ⟨state, drive, final⟩
    exact ⟨fun p r pend hr => pending_taken on pend hr,
      fun f r pend ends set number last ahead only hr role seq =>
        gap_taken on pend ends set number last ahead only hr role seq,
      fun first l n len e cont ends past => loseChunks_stops cont ends past len e⟩
  · refine ⟨_, exec_blockDiscard hdec writes, ?_, ?_, ?_, fun id r mem hr created => discardAll_created mem hr created,
      State.discardBlock_restore s d, mem_of_outside (State.discardBlock_outside s d), State.discardBlock_streams s d⟩
    all_goals rw [discardBlock_chan]

end Sys2Proof.Machine
end

section
/-! TAPE_IN writes to the reader (R93, R108 to R111): the clauses of O49 for a channel in READ. -/

namespace Sys2Proof.Machine

variable {s t u : State} {d : Drive} {a : Addr} {b : Byte} {ds : List Byte} {rx : BlockRx} {id left : Nat} {r : ChunkRec}

/-! ## TAPE_IN writes by channel state (R93) -/

theorem exec_tapeInWrite (shaped : (Access.write a ds).shaped = true) (drive : s.tapeInDrive a = some d) :
    exec (.tapeInWrite a ds) s = match (s.chan d).state with
      | .write | .unmounting => .next (s.settle ((s.takeReadback d ds).answer [.done []]))
      | .read => .next (s.settle (s.readWrite d ds))
      | .mounting | .idle | .ejectWait =>
        .next ((s.countChan d fun k => { k with unclaimed := k.unclaimed.add ds.length }).answer [.done []])
      | .unmounted | .failed => .next (s.answer [.fault]) := by
  change execTapeInWrite a ds s = _
  simp only [execTapeInWrite, drive, shaped, Bool.not_true, Bool.false_eq_true, if_false] <;> rfl

theorem exec_tapeInWrite_read (shaped : (Access.write a ds).shaped = true) (drive : s.tapeInDrive a = some d)
    (h : (s.chan d).state = .read) : exec (.tapeInWrite a ds) s = .next (s.settle (s.readWrite d ds)) := by
  rw [exec_tapeInWrite shaped drive, h]

theorem exec_tapeInWrite_check (shaped : (Access.write a ds).shaped = true) (drive : s.tapeInDrive a = some d)
    (h : (s.chan d).state = .write ∨ (s.chan d).state = .unmounting) :
    exec (.tapeInWrite a ds) s = .next (s.settle ((s.takeReadback d ds).answer [.done []])) := by
  rw [exec_tapeInWrite shaped drive]
  obtain h | h := h <;> rw [h]

theorem bytes_of_shaped (shaped : (Access.write a ds).shaped = true) : ∃ b bs, ds = b :: bs := by
  cases ds with
  | nil => simp [Access.shaped, Access.len] at shaped
  | cons b bs => exact ⟨b, bs, rfl⟩

/-! ## A channel written twice -/

theorem setChan_setChan (s : State) (d : Drive) (x y : Channel) : (s.setChan d x).setChan d y = s.setChan d y := by
  simp only [State.setChan, Vector.set_set]

theorem modChan_setChan (s : State) (d : Drive) (x : Channel) (f : Channel → Channel) :
    (s.setChan d x).modChan d f = s.setChan d (f x) := by
  rw [State.modChan, State.chan_setChan_self, setChan_setChan]

theorem setRx_eq (s : State) (d : Drive) (rx : BlockRx) :
    s.setRx d rx = s.setChan d { s.chan d with reader := { (s.chan d).reader with rx := rx } } := rfl

theorem setRx_chan (s : State) (d : Drive) (rx : BlockRx) :
    (s.setRx d rx).chan d = { s.chan d with reader := { (s.chan d).reader with rx := rx } } := s.chan_modChan_self d _

theorem setRx_setRx (s : State) (d : Drive) (rx ry : BlockRx) : (s.setRx d rx).setRx d ry = s.setRx d ry := by
  rw [setRx_eq s d rx, State.setRx, modChan_setChan, setRx_eq]

/-! ## A write held back (R36, R108) -/

theorem readWrite_decided (h : (s.chan d).reader.rx.decision.isSome = true) : s.readWrite d ds = s.answer [.retry] := if_pos h

theorem readWrite_heldBack (undecided : (s.chan d).reader.rx.decision = none) (count : (s.chan d).reader.rx.count = 0)
    (back : s.blockHeldBack d = true) : s.readWrite d ds = s.answer [.retry] := by
  simp only [State.readWrite, undecided, Option.isSome_none, Bool.false_eq_true, if_false, count, back, and_self, if_true]

theorem readWrite_inBlock (undecided : (s.chan d).reader.rx.decision = none) (count : 0 < (s.chan d).reader.rx.count) :
    s.readWrite d ds = match s.takeBlockBytes d ds with
      | none => (s.answer [.retry]).modPool fun p => { p with retries := p.retries.add 1 }
      | some t => t.answer [.done []] := by
  have later : ¬ ((s.chan d).reader.rx.count = 0 ∧ s.blockHeldBack d = true) := fun k => absurd k.1 (by omega)
  simp only [State.readWrite, undecided, Option.isSome_none, Bool.false_eq_true, if_false, if_neg later] <;> rfl

theorem blockHeldBack_of (h : (∃ i, (s.session i).state = .active ∧ (s.session i).drive = some d ∧ 8 ≤ (s.session i).queue.length)
      ∨ 16 ≤ (s.pool.records.filter fun r => r.role == .verify d && r.state == .complete).length) : s.blockHeldBack d = true := by
  unfold State.blockHeldBack
  rw [Bool.or_eq_true, List.any_eq_true, decide_eq_true_iff]
  refine h.imp_left ?_
  rintro ⟨i, active, drive, full⟩
  exact ⟨i, mem_allSessions i, by simp [active, drive, full]⟩

/-! ## The pool cannot grant what a byte needs (R36) -/

theorem rxByte_data (undecided : (s.chan d).reader.rx.decision = none) (walk : (s.chan d).reader.rx.walk = .data left) (k : Bool) :
    State.rxByte d (some (s, k)) b =
      match s.fragData d ((s.chan d).reader.rx.push (s.chan d).size b) left b with
      | none => none
      | some (t, c) =>
        some (if (s.chan d).reader.rx.count + 1 = blockSize (s.chan d).size then t.blockArrival d else t, k || c) := by
  simp only [State.rxByte, undecided, Option.isSome_none, Bool.false_eq_true, if_false, walk] <;> rfl

theorem createRecs_none (h : 1024 ≤ s.pool.records.length) {q : Requester} {qs : List Requester} (f : Frag) :
    State.createRecs f (q :: qs) s = none := by
  have full : s.createRec f q = none := if_pos h
  rw [State.createRecs, full]

/-- R36: the record's next byte reaches a page that it does not have. -/
def ChunkRec.lacksPage (r : ChunkRec) : Prop :=
  r.committed + r.provisional < 4106 ∧ r.pages.length ≤ (r.committed + r.provisional) / 512

def ChunkRec.bumped (r : ChunkRec) : ChunkRec := { r with provisional := r.provisional + 1 }

theorem copyByte_lacks (hr : s.findRec id = some r) (lacks : r.lacksPage) (free : s.pool.free = []) : s.copyByte b id = none := by
  obtain ⟨within, page⟩ := lacks
  simp only [State.copyByte, hr, Config.maxStored, within, page, decide_true, Bool.and_self, free]

/-- With no page free, a byte that joins one record touches no other record and takes no page. -/
theorem copyByte_other {n : Nat} (free : s.pool.free = []) (ne : n ≠ id) (h : s.copyByte b id = some t) :
    t.findRec n = s.findRec n ∧ t.pool.free = [] := by
  unfold State.copyByte at h
  split at h
  · cases h
    exact ⟨rfl, free⟩
  · next r hr =>
    extract_lets off need at h
    rw [free] at h
    have one : (s.modRec id ChunkRec.bumped).findRec n = s.findRec n := findRec_modRec_ne ne ChunkRec.bumped (fun _ => rfl) s
    split at h
    · cases h
    · cases ‹[] = _›
    · simp only [Option.some.injEq] at h
      subst h
      split
      · unfold State.pokeChunk
        split
        · exact ⟨one, free⟩
        · exact ⟨one, free⟩
      · exact ⟨one, free⟩

theorem copyAll_none (hr : s.findRec id = some r) (lacks : r.lacksPage) (free : s.pool.free = []) :
    ∀ {ids : List Nat}, id ∈ ids → State.copyAll b ids s = none := by
  intro ids
  induction ids generalizing s with
  | nil => exact fun k => absurd k List.not_mem_nil
  | cons n ns ih =>
    intro mem
    rw [State.copyAll]
    by_cases eq : id = n
    · rw [← eq, copyByte_lacks hr lacks free]
    · cases step : s.copyByte b n with
      | none => rfl
      | some t =>
        obtain ⟨same, none_⟩ := copyByte_other free eq step
        exact ih (same.trans hr) none_ ((List.mem_cons.1 mem).resolve_left eq)

theorem push_owners (size : Fin 4) (rx : BlockRx) (b : Byte) : (rx.push size b).owners = rx.owners := rfl
theorem push_targets (size : Fin 4) (rx : BlockRx) (b : Byte) : (rx.push size b).targets = rx.targets := rfl
theorem push_frags (size : Fin 4) (rx : BlockRx) (b : Byte) : (rx.push size b).frags = rx.frags := rfl

/-- A fragment's bytes want a record, or a page, that the pool cannot grant (R36). -/
def State.wants (s : State) (rx : BlockRx) : Prop :=
  (rx.owners ≠ [] ∧ rx.frags ≠ [] ∧ 1024 ≤ s.pool.records.length)
    ∨ (rx.owners = [] ∧ s.pool.free = [] ∧ ∃ id ∈ rx.targets, ∃ r, s.findRec id = some r ∧ r.lacksPage)

theorem fragData_none (h : s.wants rx) (left : Nat) (b : Byte) : s.fragData d rx left b = none := by
  unfold State.fragData
  extract_lets made
  obtain ⟨owners, frags, full⟩ | ⟨owners, free, id, mem, r, hr, lacks⟩ := h
  · obtain ⟨q, qs, owners⟩ := List.exists_cons_of_ne_nil owners
    have none_ : made = none := by
      simp only [made, owners, List.getLast?_eq_some_getLast frags]
      exact createRecs_none full _
    rw [none_]
  · have same : made = some (rx.targets, s) := by simp only [made, owners]
    rw [same]
    simp only [copyAll_none hr lacks free mem]

theorem takeBlockBytes_wants (undecided : (s.chan d).reader.rx.decision = none) (walk : (s.chan d).reader.rx.walk = .data left)
    (h : s.wants (s.chan d).reader.rx) (b : Byte) (bs : List Byte) : s.takeBlockBytes d (b :: bs) = none := by
  have first : State.rxByte d (some (s, false)) b = none := by
    rw [rxByte_data undecided walk, fragData_none (rx := (s.chan d).reader.rx.push (s.chan d).size b) h]
  rw [State.takeBlockBytes, List.foldl_cons, first, rxByte_foldl_none]

/-! ## Bytes that one record takes (R36, R39) -/

/-- Where a stored-chunk offset of a page list lies in memory. -/
def State.chunkAddr (s : State) (pages : List Nat) (off : Nat) : Nat := s.pageAddr (pages.getD (off / 512) 0) + off % 512

theorem chunkAddr_of_path (h : t.path = s.path) (pages : List Nat) (off : Nat) : t.chunkAddr pages off = s.chunkAddr pages off := by
  unfold State.chunkAddr State.pageAddr
  rw [h]

theorem chunkAddr_ne {pages : List Nat} (each : pages.Nodup) {i j : Nat} (hi : i < 512 * pages.length) (hj : j < 512 * pages.length)
    (ne : i ≠ j) : s.chunkAddr pages i ≠ s.chunkAddr pages j := by
  intro eq
  have pi : i / 512 < pages.length := by omega
  have pj : j / 512 < pages.length := by omega
  simp only [State.chunkAddr, State.pageAddr, Config.pageSize, List.getD_eq_getElem _ _ pi, List.getD_eq_getElem _ _ pj] at eq
  have page : pages[i / 512] = pages[j / 512] := by omega
  have index := (each.getElem_inj_iff).mp page
  omega

theorem pokeChunk_eq {pages : List Nat} {off : Nat} (h : off < 512 * pages.length) (s : State) (b : Byte) :
    s.pokeChunk pages off b = s.poke (s.chunkAddr pages off) [b] := by
  have page : off / 512 < pages.length := by omega
  simp only [State.pokeChunk, List.getElem?_eq_getElem page, State.chunkAddr, List.getD_eq_getElem _ _ page]

/-- One data byte of a fragment that one record takes, within its pages. -/
def State.byteTaken (s : State) (d : Drive) (id left : Nat) (r : ChunkRec) (b : Byte) : State :=
  ((s.modRec id ChunkRec.bumped).poke (s.chunkAddr r.pages (r.committed + r.provisional)) [b]).setRx d
    { (s.chan d).reader.rx with
      count := (s.chan d).reader.rx.count + 1, crc := crcByte (s.chan d).reader.rx.crc b, walk := .data (left - 1) }

theorem push_payload {size : Fin 4} (header : 16 ≤ rx.count) (payload : rx.count < blockSize size - 4) (b : Byte) :
    rx.push size b = { rx with count := rx.count + 1, crc := crcByte rx.crc b } := by
  have n0 : (rx.count == 0) = false := by simp only [beq_eq_false_iff_ne]; omega
  have n1 : (rx.count == 1) = false := by simp only [beq_eq_false_iff_ne]; omega
  have n2 : (rx.count == 2) = false := by simp only [beq_eq_false_iff_ne]; omega
  have n16 : ¬ rx.count < 16 := by omega
  simp only [BlockRx.push, n0, n1, n2, if_neg n16, if_pos payload, Bool.false_and, Bool.or_false]

theorem copyByte_within (hr : s.findRec id = some r) (within : r.committed + r.provisional < 4106)
    (page : r.committed + r.provisional < 512 * r.pages.length) (b : Byte) : s.copyByte b id =
      some ((s.modRec id ChunkRec.bumped).poke (s.chunkAddr r.pages (r.committed + r.provisional)) [b]) := by
  have no : ¬ r.pages.length ≤ (r.committed + r.provisional) / 512 := by omega
  simp only [State.copyByte, hr, Config.maxStored, within, no, decide_true, decide_false, Bool.and_false, if_true,
    pokeChunk_eq page]
  rfl

theorem rxByte_taken (undecided : (s.chan d).reader.rx.decision = none) (header : 16 ≤ (s.chan d).reader.rx.count)
    (walk : (s.chan d).reader.rx.walk = .data left) (owners : (s.chan d).reader.rx.owners = [])
    (targets : (s.chan d).reader.rx.targets = [id]) (hr : s.findRec id = some r) (more : 1 < left)
    (payload : (s.chan d).reader.rx.count + 1 < blockSize (s.chan d).size - 4) (within : r.committed + r.provisional < 4106)
    (page : r.committed + r.provisional < 512 * r.pages.length) (b : Byte) (k : Bool) :
    State.rxByte d (some (s, k)) b = some (s.byteTaken d id left r b, true) := by
  have last : ¬ left = 1 := by omega
  have inside : ¬ (s.chan d).reader.rx.count + 1 = blockSize (s.chan d).size := by omega
  rw [rxByte_data undecided walk, push_payload header (by omega), State.fragData]
  simp only [State.byteTaken, owners, targets, State.copyAll, copyByte_within hr within page, List.isEmpty_nil, if_true, if_neg last, if_neg inside, List.any_cons,
    hr, Option.any_some, Config.maxStored, within, decide_true, Bool.true_or, Bool.or_true]

/-- The bytes of a write that one record took. -/
structure BytesTaken (s t : State) (d : Drive) (id left : Nat) (r : ChunkRec) (ds : List Byte) : Prop where
  chan : t.chan d = { s.chan d with reader := { (s.chan d).reader with rx := { (s.chan d).reader.rx with
    count := (s.chan d).reader.rx.count + ds.length, crc := ds.foldl crcByte (s.chan d).reader.rx.crc
    walk := .data (left - ds.length) } } }
  record : t.findRec id = some { r with provisional := r.provisional + ds.length }
  free : t.pool.free = s.pool.free
  path : t.path = s.path
  written : ∀ k, k < ds.length → t.mem.get (s.chunkAddr r.pages (r.committed + r.provisional + k)) = ds.getD k 0
  kept : ∀ x, (∀ k, k < ds.length → x ≠ s.chunkAddr r.pages (r.committed + r.provisional + k)) → t.mem.get x = s.mem.get x

theorem BytesTaken.nil (walk : (s.chan d).reader.rx.walk = .data left) (hr : s.findRec id = some r) :
    BytesTaken s s d id left r [] where
  chan := by
    rw [List.length_nil, Nat.sub_zero, ← walk]
    rfl
  record := hr
  free := rfl
  path := rfl
  written := fun k h => absurd h (Nat.not_lt_zero k)
  kept := fun _ _ => rfl

theorem byteTaken_findRec (hr : s.findRec id = some r) (left : Nat) (b : Byte) :
    (s.byteTaken d id left r b).findRec id = some r.bumped := by
  refine (State.findRec_modRec s id ChunkRec.bumped fun _ => rfl).trans ?_
  rw [hr]
  rfl

theorem byteTaken_mem (s : State) (d : Drive) (id left : Nat) (r : ChunkRec) (b : Byte) : (s.byteTaken d id left r b).mem =
    ((s.modRec id ChunkRec.bumped).poke (s.chunkAddr r.pages (r.committed + r.provisional)) [b]).mem := rfl

theorem byteTaken_chan (s : State) (d : Drive) (id left : Nat) (r : ChunkRec) (b : Byte) : (s.byteTaken d id left r b).chan d =
    { s.chan d with reader := { (s.chan d).reader with rx := { (s.chan d).reader.rx with
      count := (s.chan d).reader.rx.count + 1, crc := crcByte (s.chan d).reader.rx.crc b, walk := .data (left - 1) } } } :=
  setRx_chan _ d _

theorem BytesTaken.cons (each : r.pages.Nodup) (room : r.committed + r.provisional + (ds.length + 1) ≤ 512 * r.pages.length)
    (h : BytesTaken (s.byteTaken d id left r b) t d id (left - 1) r.bumped ds) : BytesTaken s t d id left r (b :: ds) := by
  obtain ⟨chan, record, free, path, written, kept⟩ := h
  have addr (k : Nat) : (s.byteTaken d id left r b).chunkAddr r.bumped.pages (r.bumped.committed + r.bumped.provisional + k) =
      s.chunkAddr r.pages (r.committed + r.provisional + (k + 1)) := by
    rw [chunkAddr_of_path (s := s) rfl]
    change s.chunkAddr r.pages (r.committed + (r.provisional + 1) + k) = _
    congr 1
    omega
  simp only [addr] at written kept
  refine ⟨?_, ?_, free, path, ?_, ?_⟩
  · have count (m : Nat) : m + 1 + ds.length = m + (ds.length + 1) := by omega
    have walk : left - 1 - ds.length = left - (ds.length + 1) := by omega
    rw [chan, byteTaken_chan]
    simp only [List.length_cons, List.foldl_cons, count, walk]
  · have provisional : r.provisional + 1 + ds.length = r.provisional + (ds.length + 1) := by omega
    rw [record]
    simp only [ChunkRec.bumped, List.length_cons, provisional]
  · intro k lt
    rw [List.length_cons] at lt
    cases k with
    | succ k => exact written k (by omega)
    | zero =>
      rw [kept _ fun k hk => chunkAddr_ne each (by omega) (by omega) (by omega)]
      have byte := (s.modRec id ChunkRec.bumped).poke_get_inside (s.chunkAddr r.pages (r.committed + r.provisional)) [b] 0
        (by rw [List.length_singleton]; exact Nat.zero_lt_one)
      rw [Nat.add_zero, List.getD_cons_zero] at byte
      rw [byteTaken_mem, Nat.add_zero, List.getD_cons_zero, byte]
  · intro x apart
    have here := apart 0 (Nat.succ_pos _)
    rw [kept x fun k hk => apart (k + 1) (by rw [List.length_cons]; omega)]
    refine (s.modRec id ChunkRec.bumped).poke_get_outside _ [b] x ?_
    rw [List.length_singleton]
    change _ ≠ s.chunkAddr r.pages (r.committed + r.provisional) at here
    omega

/-- The bytes of a write lie within a fragment's data, before the trailer, and within the pages of the one record that takes
them. -/
structure Fits (s : State) (d : Drive) (id left : Nat) (r : ChunkRec) (n : Nat) : Prop where
  undecided : (s.chan d).reader.rx.decision = none
  header : 16 ≤ (s.chan d).reader.rx.count
  walk : (s.chan d).reader.rx.walk = .data left
  owners : (s.chan d).reader.rx.owners = []
  targets : (s.chan d).reader.rx.targets = [id]
  found : s.findRec id = some r
  more : n < left
  payload : (s.chan d).reader.rx.count + n < blockSize (s.chan d).size - 4
  each : r.pages.Nodup
  within : r.committed + r.provisional + n ≤ 4106
  room : r.committed + r.provisional + n ≤ 512 * r.pages.length

theorem Fits.byteTaken {n : Nat} (h : Fits s d id left r (n + 1)) (b : Byte) :
    Fits (s.byteTaken d id left r b) d id (left - 1) r.bumped n := by
  obtain ⟨undecided, header, walk, owners, targets, found, more, payload, each, within, room⟩ := h
  refine ⟨?_, ?_, ?_, ?_, ?_, byteTaken_findRec found left b, by omega, ?_, each, ?_, ?_⟩
  all_goals first | rw [byteTaken_chan] | skip
  · exact undecided
  · exact Nat.le_succ_of_le header
  · exact owners
  · exact targets
  · change _ + 1 + n < blockSize (s.chan d).size - 4
    omega
  · change r.committed + (r.provisional + 1) + n ≤ _
    omega
  · change r.committed + (r.provisional + 1) + n ≤ 512 * r.pages.length
    omega

theorem rxBytes_taken : ∀ (ds : List Byte) {s : State} {left : Nat} {r : ChunkRec} (k : Bool), Fits s d id left r ds.length →
    ∃ t, ds.foldl (State.rxByte d) (some (s, k)) = some (t, k || !ds.isEmpty) ∧ BytesTaken s t d id left r ds
  | [], s, left, r, k, h => ⟨s, by simp, .nil h.walk h.found⟩
  | b :: ds, s, left, r, k, h => by
    have fits := h.byteTaken b
    obtain ⟨undecided, header, walk, owners, targets, found, more, payload, each, within, room⟩ := h
    rw [List.length_cons] at more payload within room
    obtain ⟨t, run, taken⟩ := rxBytes_taken ds true fits
    refine ⟨t, ?_, taken.cons each room⟩
    rw [List.foldl_cons, rxByte_taken undecided header walk owners targets found (by omega) (by omega) (by omega) (by omega), run]
    simp

/-- The burst of reassembly writes is issued. -/
def State.burst (s : State) (d : Drive) : State :=
  (s.modChan d fun c => { c with reader := { c.reader with rx := { c.reader.rx with writes := c.reader.rx.writes + 1 } } }).issue
    (.reassembly d)

theorem takeBlockBytes_of_rxBytes {k : Bool} (run : ds.foldl (State.rxByte d) (some (s, false)) = some (t, k))
    (free : t.pool.free = s.pool.free) : s.takeBlockBytes d ds = some (if k then t.burst d else t) := by
  have same : t.pool.free.length = s.pool.free.length := by rw [free]
  simp only [State.takeBlockBytes, run, if_pos same]
  rfl

theorem burst_port (s : State) (d : Drive) :
    (s.burst d).path.port.issued = some (.owned (.reassembly d)) ∨ .reassembly d ∈ (s.burst d).path.port.ownWait :=
  issue_keeps (p := { s.path.port with ownWait := s.path.port.ownWait ++ [.reassembly d] })
    (.inr (List.mem_append_right _ (List.mem_singleton_self _)))

theorem burst_chan (s : State) (d : Drive) : (s.burst d).chan d =
    { s.chan d with reader := { (s.chan d).reader with rx := { (s.chan d).reader.rx with
      writes := (s.chan d).reader.rx.writes + 1 } } } :=
  (chan_of_chans (State.issue_chans _ _) d).trans (s.chan_modChan_self d _)

/-! ## Bytes behind the last fragment, and the block's last byte (R109) -/

theorem rxByte_finished (undecided : (s.chan d).reader.rx.decision = none) (walk : (s.chan d).reader.rx.walk = .finished) (k : Bool) :
    State.rxByte d (some (s, k)) b =
      some (if (s.chan d).reader.rx.count + 1 = blockSize (s.chan d).size then
          (s.setRx d ((s.chan d).reader.rx.push (s.chan d).size b)).blockArrival d
        else s.setRx d ((s.chan d).reader.rx.push (s.chan d).size b), k) := by
  simp only [State.rxByte, undecided, Option.isSome_none, Bool.false_eq_true, if_false, walk, Bool.or_false] <;> rfl

/-- What bytes behind the header leave of the block in progress. -/
structure Pushed (size : Fin 4) (rx ry : BlockRx) (ds : List Byte) : Prop where
  count : ry.count = rx.count + ds.length
  header : ry.header = rx.header
  bad : ry.bad = rx.bad
  walk : ry.walk = rx.walk
  decision : ry.decision = rx.decision
  frags : ry.frags = rx.frags
  writes : ry.writes = rx.writes
  trailer : blockSize size - 4 ≤ rx.count → ry.trailer = rx.trailer ++ ds ∧ ry.crc = rx.crc

theorem push_fields {size : Fin 4} (h : 16 ≤ rx.count) (b : Byte) : Pushed size rx (rx.push size b) [b] := by
  have n0 : (rx.count == 0) = false := by simp only [beq_eq_false_iff_ne]; omega
  have n1 : (rx.count == 1) = false := by simp only [beq_eq_false_iff_ne]; omega
  have n2 : (rx.count == 2) = false := by simp only [beq_eq_false_iff_ne]; omega
  have n16 : ¬ rx.count < 16 := by omega
  refine ⟨rfl, if_neg n16, ?_, rfl, rfl, rfl, rfl, fun past => ⟨if_neg (by omega), if_neg (by omega)⟩⟩
  simp only [BlockRx.push, n0, n1, n2, Bool.false_and, Bool.or_false]

theorem pushes_fields {size : Fin 4} : ∀ (ds : List Byte) {rx : BlockRx}, 16 ≤ rx.count →
    Pushed size rx (ds.foldl (BlockRx.push size) rx) ds
  | [], rx, _ => ⟨rfl, rfl, rfl, rfl, rfl, rfl, rfl, fun _ => ⟨(List.append_nil _).symm, rfl⟩⟩
  | b :: ds, rx, h => by
    obtain ⟨count, header, bad, walk, decision, frags, writes, trailer⟩ := push_fields (size := size) h b
    rw [List.length_singleton] at count
    have rest := pushes_fields (size := size) ds (rx := rx.push size b) (by omega)
    rw [List.foldl_cons]
    refine ⟨?_, rest.header.trans header, rest.bad.trans bad, rest.walk.trans walk, rest.decision.trans decision,
      rest.frags.trans frags, rest.writes.trans writes, fun past => ?_⟩
    · rw [rest.count, count, List.length_cons]
      omega
    · obtain ⟨first, same⟩ := trailer past
      obtain ⟨more, still⟩ := rest.trailer (by omega)
      exact ⟨by rw [more, first, List.append_assoc, List.singleton_append], still.trans same⟩

/-- The bytes behind the last fragment only join the block; the one that completes it brings its arrival. -/
theorem rxBytes_finished : ∀ (ds : List Byte) {s : State} (k : Bool), (s.chan d).reader.rx.decision = none →
    16 ≤ (s.chan d).reader.rx.count → (s.chan d).reader.rx.walk = .finished → ds ≠ [] →
    (s.chan d).reader.rx.count + ds.length ≤ blockSize (s.chan d).size →
    ds.foldl (State.rxByte d) (some (s, k)) =
      some (if (s.chan d).reader.rx.count + ds.length = blockSize (s.chan d).size then
          (s.setRx d (ds.foldl (BlockRx.push (s.chan d).size) (s.chan d).reader.rx)).blockArrival d
        else s.setRx d (ds.foldl (BlockRx.push (s.chan d).size) (s.chan d).reader.rx), k)
  | [], _, _, _, _, _, some_, _ => absurd rfl some_
  | b :: ds, s, k, undecided, header, walk, _, room => by
    rw [List.foldl_cons, rxByte_finished undecided walk]
    rw [List.length_cons] at room
    cases ds with
    | nil => rfl
    | cons c ds =>
      rw [List.length_cons] at room
      have inside : ¬ (s.chan d).reader.rx.count + 1 = blockSize (s.chan d).size := by omega
      have first := push_fields (size := (s.chan d).size) header b
      have count := first.count
      rw [List.length_singleton] at count
      have chan := setRx_chan s d ((s.chan d).reader.rx.push (s.chan d).size b)
      have rest := rxBytes_finished (c :: ds) (s := s.setRx d ((s.chan d).reader.rx.push (s.chan d).size b)) k
        (by rw [chan]; exact first.decision.trans undecided) (by rw [chan]; dsimp only; omega)
        (by rw [chan]; exact first.walk.trans walk) (List.cons_ne_nil _ _)
        (by rw [chan]; change _ ≤ blockSize (s.chan d).size; rw [List.length_cons]; dsimp only; omega)
      rw [if_neg inside, rest, chan]
      have total : (s.chan d).reader.rx.count + 1 + (c :: ds).length = (s.chan d).reader.rx.count + (b :: c :: ds).length := by
        simp only [List.length_cons]
        omega
      change some (if ((s.chan d).reader.rx.push (s.chan d).size b).count + (c :: ds).length = blockSize (s.chan d).size then _
        else _, k) = _
      rw [count, total, setRx_setRx]
      rfl

/-! ## The arrival of a block (R111) -/

theorem blockMoved_chan (s : State) (d : Drive) : ∃ n, (s.blockMoved d).chan d = { s.chan d with blocksMoved := n } := by
  unfold State.blockMoved
  extract_lets n due t
  refine ⟨_, (?_ : _ = t.chan d).trans (s.chan_modChan_self d _)⟩
  split
  · rfl
  · rfl

theorem blockMoved_same {β : Type} (g : State → β) (chan : ∀ t f, g (State.modChan t d f) = g t)
    (loader : ∀ t f, g (State.modLoader t f) = g t) (s : State) : g (s.blockMoved d) = g s := by
  unfold State.blockMoved
  extract_lets n due t
  have same : g t = g s := chan s _
  split
  · exact (loader t _).trans same
  · exact same

theorem blockArrival_same {β : Type} (g : State → β) (chan : ∀ t f, g (State.modChan t d f) = g t)
    (loader : ∀ t f, g (State.modLoader t f) = g t) (s : State) : g (s.blockArrival d) = g s := by
  unfold State.blockArrival
  exact (chan _ _).trans (blockMoved_same g chan loader s)

theorem blockArrival_reader (s : State) (d : Drive) : ((s.blockArrival d).chan d).reader =
    (s.chan d).reader.judged ((s.chan d).reader.classify s.params.recoveryWindow (s.chan d).reader.rx.good
      (headerSeq (s.chan d).reader.rx.header)) (headerSeq (s.chan d).reader.rx.header) := by
  obtain ⟨n, moved⟩ := blockMoved_chan s d
  refine (congrArg Channel.reader (State.chan_modChan_self (s.blockMoved d) d _)).trans ?_
  rw [moved]

theorem blockArrival_judged {row : BlockRow} (h : (s.chan d).reader.classify s.params.recoveryWindow (s.chan d).reader.rx.good
      (headerSeq (s.chan d).reader.rx.header) = row) :
    ((s.blockArrival d).chan d).reader = (s.chan d).reader.judged row (headerSeq (s.chan d).reader.rx.header)
    ∧ (s.blockArrival d).pool = s.pool ∧ (s.blockArrival d).mem = s.mem ∧ (s.blockArrival d).restore = s.restore :=
  ⟨by rw [blockArrival_reader, h], blockArrival_same (·.pool) (fun _ _ => rfl) (fun _ _ => rfl) s,
    blockArrival_same (·.mem) (fun _ _ => rfl) (fun _ _ => rfl) s, blockArrival_same (·.restore) (fun _ _ => rfl) (fun _ _ => rfl) s⟩

theorem good_iff (rx : BlockRx) : rx.good = true ↔ rx.bad = false ∧ ofBE rx.trailer = (~~~ rx.crc).toNat := by
  simp only [BlockRx.good, Bool.and_eq_true, Bool.not_eq_true', beq_iff_eq]

section
variable {x : Reader} {n : Nat} {e seq : Word}

theorem classify_bad (h : x.rx.good = false) : x.classify n x.rx.good seq = .bad := by rw [h]; rfl

theorem classify_first (good : x.rx.good = true) (h : x.expected = none) : x.classify n x.rx.good seq = .first := by
  simp only [Reader.classify, good, Bool.not_true, Bool.false_eq_true, if_false, h]

theorem classify_expected (good : x.rx.good = true) (h : x.expected = some seq) : x.classify n x.rx.good seq = .expected := by
  simp only [Reader.classify, good, Bool.not_true, Bool.false_eq_true, if_false, h, if_true]

theorem classify_duplicate (good : x.rx.good = true) (h : x.expected = some e) (before : precedes seq e = true) :
    x.classify n x.rx.good seq = .duplicate := by
  have ne : seq ≠ e := by
    rintro rfl
    rw [precedes_irrefl] at before
    cases before
  simp only [Reader.classify, good, Bool.not_true, Bool.false_eq_true, if_false, h, if_neg ne, before, if_true]

theorem classify_after (good : x.rx.good = true) (h : x.expected = some e) (after : precedes e seq = true) :
    x.classify n x.rx.good seq = if x.recovering ∧ x.recoveryCount < n then .skipped else .gap (seq - e).toNat := by
  have ne : seq ≠ e := by
    rintro rfl
    rw [precedes_irrefl] at after
    cases after
  simp only [Reader.classify, good, Bool.not_true, Bool.false_eq_true, if_false, h, if_neg ne, precedes_asymm after]
end

/-! ## The clauses of O49 about a channel in READ -/

theorem retried (shaped : (Access.write a ds).shaped = true) (drive : s.tapeInDrive a = some d) (read : (s.chan d).state = .read)
    (h : s.readWrite d ds = s.answer [.retry]) : ∃ v, exec (.tapeInWrite a ds) s = .next (s.settle v)
      ∧ v.path.answers = [.retry] ∧ v.chans = s.chans ∧ v.pool = s.pool ∧ v.mem = s.mem :=
  ⟨s.answer [.retry], (exec_tapeInWrite_read shaped drive read).trans (by rw [h]), rfl, rfl, rfl, rfl⟩

theorem tapeIn_wants (shaped : (Access.write a ds).shaped = true) (drive : s.tapeInDrive a = some d)
    (read : (s.chan d).state = .read) (undecided : (s.chan d).reader.rx.decision = none)
    (count : 0 < (s.chan d).reader.rx.count) (walk : (s.chan d).reader.rx.walk = .data left) (h : s.wants (s.chan d).reader.rx) :
    ∃ v, exec (.tapeInWrite a ds) s = .next (s.settle v) ∧ v.path.answers = [.retry] ∧ v.chans = s.chans
      ∧ v.pool = { s.pool with retries := s.pool.retries.add 1 } ∧ v.mem = s.mem := by
  obtain ⟨b, bs, rfl⟩ := bytes_of_shaped shaped
  refine ⟨(s.answer [.retry]).modPool fun p => { p with retries := p.retries.add 1 }, ?_, rfl, rfl, rfl, rfl⟩
  rw [exec_tapeInWrite_read shaped drive read, readWrite_inBlock undecided count, takeBlockBytes_wants undecided walk h]

theorem tapeIn_taken (shaped : (Access.write a ds).shaped = true) (drive : s.tapeInDrive a = some d)
    (read : (s.chan d).state = .read) (fits : Fits s d id left r ds.length) :
    ∃ v, exec (.tapeInWrite a ds) s = .next (s.settle v) ∧ v.path.answers = [.done []]
      ∧ (v.chan d).reader.rx = { (s.chan d).reader.rx with
          count := (s.chan d).reader.rx.count + ds.length, crc := ds.foldl crcByte (s.chan d).reader.rx.crc
          walk := .data (left - ds.length), writes := (s.chan d).reader.rx.writes + 1 }
      ∧ v.findRec id = some { r with provisional := r.provisional + ds.length } ∧ v.pool.free = s.pool.free
      ∧ (∀ k, k < ds.length → v.mem.get (s.chunkAddr r.pages (r.committed + r.provisional + k)) = ds.getD k 0)
      ∧ (∀ x, (∀ k, k < ds.length → x ≠ s.chunkAddr r.pages (r.committed + r.provisional + k)) → v.mem.get x = s.mem.get x)
      ∧ (v.path.port.issued = some (.owned (.reassembly d)) ∨ .reassembly d ∈ v.path.port.ownWait) := by
  obtain ⟨b, bs, rfl⟩ := bytes_of_shaped shaped
  obtain ⟨t, run, chan, record, free, path, written, kept⟩ := rxBytes_taken (b :: bs) false fits
  have header := fits.header
  refine ⟨(t.burst d).answer [.done []], ?_, rfl, ?_, record, free, written, kept, burst_port t d⟩
  · rw [exec_tapeInWrite_read shaped drive read, readWrite_inBlock fits.undecided (by omega),
      takeBlockBytes_of_rxBytes run free]
    rfl
  · rw [chan_of_chans (State.answer_chans _ _), burst_chan, chan]

theorem tapeIn_finished (shaped : (Access.write a ds).shaped = true) (drive : s.tapeInDrive a = some d)
    (read : (s.chan d).state = .read) (undecided : (s.chan d).reader.rx.decision = none)
    (header : 16 ≤ (s.chan d).reader.rx.count) (walk : (s.chan d).reader.rx.walk = .finished) :
    ((s.chan d).reader.rx.count + ds.length < blockSize (s.chan d).size → ∃ v, exec (.tapeInWrite a ds) s = .next (s.settle v)
      ∧ v.path.answers = [.done []] ∧ (v.chan d).reader.rx.count = (s.chan d).reader.rx.count + ds.length
      ∧ (v.chan d).reader.rx.decision = none ∧ v.pool = s.pool ∧ v.mem = s.mem)
    ∧ ((s.chan d).reader.rx.count + ds.length = blockSize (s.chan d).size → ∃ w rx', exec (.tapeInWrite a ds) s =
          .next (s.settle ((w.blockArrival d).answer [.done []]))
      ∧ w = s.setChan d { s.chan d with reader := { (s.chan d).reader with rx := rx' } } ∧ rx'.count = blockSize (s.chan d).size
      ∧ rx'.header = (s.chan d).reader.rx.header ∧ rx'.bad = (s.chan d).reader.rx.bad ∧ rx'.decision = none
      ∧ rx'.frags = (s.chan d).reader.rx.frags ∧ rx'.writes = (s.chan d).reader.rx.writes
      ∧ (ds.length ≤ 4 → rx'.trailer = (s.chan d).reader.rx.trailer ++ ds ∧ rx'.crc = (s.chan d).reader.rx.crc)) := by
  have some_ : ds ≠ [] := by
    obtain ⟨b, bs, rfl⟩ := bytes_of_shaped shaped
    exact List.cons_ne_nil b bs
  have run := rxBytes_finished (d := d) ds (s := s) false undecided header walk some_
  obtain ⟨count, head, bad, _, decision, frags, writes, trailer⟩ := pushes_fields (size := (s.chan d).size) ds header
  constructor
  · intro short
    rw [if_neg (by omega)] at run
    refine ⟨(s.setRx d (ds.foldl (BlockRx.push (s.chan d).size) (s.chan d).reader.rx)).answer [.done []], ?_, rfl, ?_⟩
    · rw [exec_tapeInWrite_read shaped drive read, readWrite_inBlock undecided (by omega),
        takeBlockBytes_of_rxBytes (run (by omega)) rfl]
      rfl
    · rw [chan_of_chans (State.answer_chans _ _), setRx_chan]
      exact ⟨count, decision.trans undecided, rfl, rfl⟩
  · intro full
    rw [if_pos full] at run
    refine ⟨_, _, ?_, setRx_eq s d (ds.foldl (BlockRx.push (s.chan d).size) (s.chan d).reader.rx), count.trans full, head, bad,
      decision.trans undecided, frags, writes, fun few => trailer (by omega)⟩
    rw [exec_tapeInWrite_read shaped drive read, readWrite_inBlock undecided (by omega),
      takeBlockBytes_of_rxBytes (run (by omega))
        (blockArrival_same (·.pool.free) (fun _ _ => rfl) (fun _ _ => rfl) (s.setRx d _))]
    rfl

end Sys2Proof.Machine
end

section
/-! Readbacks, their verification, and the go-back (5.2 to 5.5): O49. -/

namespace Sys2Proof.Machine

variable {s t u v : State} {d : Drive} {a : Addr} {b : Byte} {ds : List Byte} {c x : Channel} {head : VerifyEntry}
  {rest : List VerifyEntry} {cause : Cause} {k : ChanCounters} {r : Record} {rb : Readback}

/-! ## The records of a channel's failure are none of GO_BACK -/

/-- The records that join the buffer in a step are none of GO_BACK. -/
def NoGoBack (s t : State) : Prop := ∃ bs, t.ring.buffer = s.ring.buffer ++ bs ∧ ∀ r ∈ bs, r.kind ≠ .goBack

theorem NoGoBack.of_ring (h : t.ring = s.ring) : NoGoBack s t := ⟨[], by rw [h, List.append_nil], fun _ mem => by cases mem⟩

theorem NoGoBack.of_buffer (h : t.ring.buffer = s.ring.buffer) : NoGoBack s t :=
  ⟨[], by rw [h, List.append_nil], fun _ mem => by cases mem⟩

theorem NoGoBack.refl (s : State) : NoGoBack s s := .of_ring rfl

theorem NoGoBack.trans (h : NoGoBack s t) (k : NoGoBack t u) : NoGoBack s u := by
  obtain ⟨bs, buffer, none⟩ := h
  obtain ⟨bs', buffer', none'⟩ := k
  exact ⟨bs ++ bs', by rw [buffer', buffer, List.append_assoc], fun r mem => (List.mem_append.1 mem).elim (none r) (none' r)⟩

theorem NoGoBack.then_ring (h : NoGoBack s t) (ring : u.ring = t.ring) : NoGoBack s u := h.trans (.of_ring ring)

theorem NoGoBack.then_modChan (h : NoGoBack s t) (d : Drive) (f : Channel → Channel) : NoGoBack s (t.modChan d f) := h.then_ring rfl

theorem NoGoBack.ite {p : Prop} [Decidable p] (h : NoGoBack s t) (k : NoGoBack s u) : NoGoBack s (if p then t else u) := by
  split
  · exact h
  · exact k

theorem NoGoBack.loop {α : Type} {f : α → State → State} (hf : ∀ x t, NoGoBack t (f x t)) :
    ∀ (l : List α) (s : State), NoGoBack s (forEach l f s)
  | [], s => .refl s
  | x :: l, s => (hf x s).trans (NoGoBack.loop hf l (f x s))

theorem NoGoBack.emit (s : State) (h : r.kind ≠ .goBack) : NoGoBack s (s.emit r) := by
  cases room : s.ring.room with
  | false => rw [s.emit_of_full r room]; exact .of_buffer rfl
  | true =>
    refine ⟨_, emit_buffer_of_room r room, fun x mem => ?_⟩
    rw [List.mem_singleton.1 mem]
    exact h

theorem NoGoBack.then_emit (h : NoGoBack s t) (kind : r.kind ≠ .goBack) : NoGoBack s (t.emit r) := h.trans (.emit t kind)

theorem NoGoBack.holdTest (s : State) : NoGoBack s s.holdTest := by
  unfold State.holdTest
  dsimp only
  split
  · split
    · exact (NoGoBack.of_ring rfl).then_emit (by intro k; cases k)
    · exact .refl s
  · split
    · exact (NoGoBack.of_ring rfl).then_emit (by intro k; cases k)
    · exact .refl s

theorem NoGoBack.returnPages (s : State) (pages : List Nat) : NoGoBack s (s.returnPages pages) :=
  .ite (.refl s) ((NoGoBack.of_ring rfl).trans (.holdTest _))

theorem NoGoBack.freeRec (s : State) (id : Nat) : NoGoBack s (s.freeRec id) := by
  unfold State.freeRec
  split
  · exact .refl s
  · exact (NoGoBack.of_ring rfl).trans (.returnPages _ _)

theorem NoGoBack.giveUp (s : State) (id : Nat) : NoGoBack s (s.giveUp id) := by
  unfold State.giveUp
  split
  · exact .refl s
  · dsimp only
    exact .ite ((NoGoBack.of_ring rfl).trans (.freeRec _ _)) (.of_ring rfl)

theorem NoGoBack.giveUpAll (s : State) (ids : List Nat) : NoGoBack s (s.giveUpAll ids) := .loop (fun id t => .giveUp t id) ids s

theorem NoGoBack.suspendTest (s : State) (k : Tag) : NoGoBack s (s.suspendTest k) := by
  unfold State.suspendTest
  exact .ite ((NoGoBack.of_ring rfl).then_emit (by intro k; cases k)) (.refl s)

theorem NoGoBack.dropAssembler (s : State) (d : Drive) : NoGoBack s (s.dropAssembler d) := by
  rw [dropAssembler_eq]
  have given := (NoGoBack.of_ring (State.setChan_ring s d _)).trans (.giveUpAll (s.setChan d (s.chan d).dropped) (s.chan d).givenUp)
  exact given.trans (.loop (fun k t => .suspendTest t k) _ _)

theorem NoGoBack.dropQueued (s : State) (k : Tag) (d : Drive) : NoGoBack s (s.dropQueued k d) :=
  (NoGoBack.of_ring rfl).trans (.giveUpAll _ _)

theorem NoGoBack.abortCore (s : State) (k : Tag) (cause : Cause) (chan : Option Drive) :
    NoGoBack s (s.abortCore k cause chan) := by
  unfold State.abortCore
  extract_lets x s1 s2 s3 s4 s5 s6
  have emptied : NoGoBack s s4 :=
    ((NoGoBack.of_ring (t := s2) rfl).trans (.loop (fun d t => .dropQueued t k d) allDrives s2)).then_ring rfl
  have ended : NoGoBack s s5 := .ite (emptied.then_emit (by intro k; cases k)) emptied
  exact .ite (.refl s) ((ended.then_emit (by intro k; cases k)).then_ring rfl)

theorem NoGoBack.abortTargeting (s : State) (d : Drive) (cause : Cause) : NoGoBack s (s.abortTargeting d cause) :=
  (NoGoBack.loop (fun k t => .ite (.abortCore t k cause _) (.refl t)) allTags s).then_ring (State.packChoose_ring _)

theorem NoGoBack.freeWhere (s : State) (sel : ChunkRec → Bool) : NoGoBack s (s.freeWhere sel) :=
  (NoGoBack.of_ring (State.purge_ring s _)).trans (.loop (fun id t => .freeRec t id) _ _)

theorem NoGoBack.discardRec (s : State) (id : Nat) : NoGoBack s (s.discardRec id) := by
  unfold State.discardRec
  split
  · exact .refl s
  · exact .ite (.freeRec s id) ((NoGoBack.of_ring rfl).trans (.returnPages _ _))

theorem NoGoBack.discardBlock (s : State) (d : Drive) : NoGoBack s (s.discardBlock d) :=
  (NoGoBack.loop (fun id t => .discardRec t id) (s.chan d).reader.rx.touched s).then_ring rfl

theorem NoGoBack.endPass (s : State) (d : Drive) (normal : Bool) : NoGoBack s (s.endPass d normal) := by
  have told : NoGoBack s (s.emit (summaryRecord d (s.chan d).reader normal)) := .emit s (by intro k; cases k)
  exact .ite (told.then_ring rfl) told

theorem NoGoBack.stopReader (s : State) (d : Drive) : NoGoBack s (s.stopReader d false) := by
  cases run : (s.chan d).reader.running with
  | false =>
    rw [stopReader_idle false run]
    exact .refl s
  | true =>
    have emptied : NoGoBack s (s.readerEmptied d) := by
      unfold State.readerEmptied
      extract_lets s1 unchecked s2
      have discarded : NoGoBack s s2 := .ite ((NoGoBack.discardBlock s d).then_modChan d _) (.discardBlock s d)
      exact ((discarded.trans (.freeWhere s2 _)).then_ring (State.discardDecode_ring _ _)).then_modChan d _
    have halted : NoGoBack s (s.readerHalted d false) := .ite (emptied.trans (.endPass _ d false)) emptied
    rw [stopReader_eq false run, if_neg Bool.false_ne_true]
    exact halted.then_modChan d _

theorem NoGoBack.endSession (s : State) (i : SessionId) (e : SessionEnd) : NoGoBack s (s.endSession i e) := by
  by_cases h : (s.session i).state = .free
  · rw [endSession_free e h]
    exact .refl s
  · rw [endSession_eq e h]
    have told : NoGoBack s (s.emit (restoreEndRecord i (s.session i) e)) := .emit s (by intro k; cases k)
    have left : NoGoBack s (s.endTold i e) :=
      ((told.trans (.freeWhere _ _)).then_ring (State.discardDecode_ring _ _)).then_ring (State.dropOwner_ring _ _)
    exact (left.then_ring (State.setSession_ring _ i _)).then_ring (State.modRestore_ring _ _)

theorem NoGoBack.failAttached (s : State) (d : Drive) (c : Cause) : NoGoBack s (s.failAttached d c) :=
  .loop (fun i t => .ite (.endSession t i _) (.refl t)) _ s

theorem NoGoBack.failChannel (s : State) (d : Drive) (cause : Cause) (named : Option Image) :
    NoGoBack s (s.failChannel d cause named) := by
  by_cases h : (s.chan d).state = .failed
  · rw [failChannel_failed cause named h]
    exact .refl s
  · rw [failChannel_eq cause named h]
    have writes : NoGoBack s (s.failedWrites d cause named) :=
      (((NoGoBack.dropAssembler s d).then_modChan d _).then_emit (by intro k; cases k)).trans (.abortTargeting _ d .drive)
    exact (writes.trans (.stopReader _ d)).trans (.failAttached _ d .drive)

theorem NoGoBack.news (h : NoGoBack s t) : ∀ r ∈ s.news t, r.kind ≠ .goBack := by
  obtain ⟨bs, buffer, none⟩ := h
  intro r mem
  rw [State.news, buffer, List.drop_left] at mem
  obtain ⟨q, told, rfl⟩ := List.mem_map.1 mem
  exact none q told

/-! ## The head fails (R100 to R103) -/

/-- R103: the stale window of a go-back. -/
def Channel.goBackWindow (c : Channel) (head : VerifyEntry) : Option (Word × Word) :=
  staleRange head.seq (c.highestSent (match c.verifyList.getLast? with | some e => e.seq | none => head.seq))

/-- R101 to R103: a channel's record after a go-back, but for the forced restart. -/
def Channel.wentBack (c : Channel) (head : VerifyEntry) : Channel :=
  { c with images := c.images.map Image.returned, verifyList := [], readbackTimer := false, stale := c.goBackWindow head
           cursor := c.cursor.map fun k => { k with ghost := true }
           counters := { c.counters with goBacks := c.counters.goBacks.add 1 } }

/-- R101: a block in progress goes on as a ghost. -/
def Channel.marked (c : Channel) : Bool := match c.cursor with | some k => !k.ghost | none => false

/-- R103: GO_BACK. -/
def Channel.goBackRecord (c : Channel) (d : Drive) (head : VerifyEntry) (cause : Cause) : Record :=
  { kind := .goBack, byte1 := cause.byte, subject := BitVec.ofNat 16 d.val, e0 := head.seq, e1 := w32 head.sends
    e2 := w32 c.verifyList.length, e3 := w32 (c.marked.toNat + 2 * (c.goBackWindow head).isSome.toNat)
    e4 := ((c.goBackWindow head).map (·.1)).getD 0, e5 := ((c.goBackWindow head).map (·.2)).getD 0 }

theorem goBack_eq (s : State) (d : Drive) (head : VerifyEntry) (cause : Cause) : s.goBack d head cause =
    ((s.setChan d ((s.chan d).wentBack head)).forceRestart d).emit ((s.chan d).goBackRecord d head cause) := rfl

theorem goBack_rechan (s : State) (d : Drive) (head : VerifyEntry) (cause : Cause) :
    Rechan d ((s.chan d).wentBack head).restarted s (s.goBack d head cause) := by
  rw [goBack_eq]
  exact (Rechan.setChan s d _).then_forceRestart.emit _

theorem forceRestart_ring (s : State) (d : Drive) : (s.forceRestart d).ring = s.ring := by
  unfold State.forceRestart
  dsimp only
  split
  · rfl
  · rfl

theorem goBack_tells (s : State) (d : Drive) (head : VerifyEntry) (cause : Cause) :
    Tells s (s.goBack d head cause) [(s.chan d).goBackRecord d head cause] := by
  rw [goBack_eq]
  exact ((Tells.of_ring (State.setChan_ring s d _)).then_ring (forceRestart_ring _ d)).then_emit rfl

theorem restarted_eq (c : Channel) : c.restarted = { c with running := true, counters := { c.counters with
    forcedRestarts := c.counters.forcedRestarts.add (if c.running then 0 else 1) } } := by
  unfold Channel.restarted
  cases run : c.running with
  | false => rfl
  | true =>
    rw [if_pos rfl, if_pos rfl, counter_add_zero, ← run]

/-- The writing of the head ends for good: the channel goes back, or fails (R100). -/
theorem failHead_eq (list : (s.chan d).verifyList = head :: rest) (cause : Cause) : s.failHead d cause =
    if s.params.rewriteLimit[d] < head.sends then
      (s.countChan d fun k => { k with writeErrors := k.writeErrors.add 1 }).failChannel d .writeError
        ((s.chan d).images.find? (·.slot == head.slot))
    else s.goBack d head cause := by
  rw [State.failHead, list]

/-- R100 to R103: what the failure of the head makes of a channel whose counters were `k`. -/
structure HeadFailed (s : State) (d : Drive) (k : ChanCounters) (v : State) (head : VerifyEntry) (cause : Cause) : Prop where
  mem : v.mem = s.mem
  tallies : (v.chan d).counters.mismatches = k.mismatches ∧ (v.chan d).counters.damaged = k.damaged
    ∧ (v.chan d).counters.timeouts = k.timeouts
  back : head.sends ≤ s.params.rewriteLimit[d] →
    v.chan d = { (s.chan d).wentBack head with running := true, counters := { k with
      goBacks := k.goBacks.add 1, forcedRestarts := k.forcedRestarts.add (if (s.chan d).running then 0 else 1) } }
    ∧ Tells s v [(s.chan d).goBackRecord d head cause]
  failed : s.params.rewriteLimit[d] < head.sends → (v.chan d).state = .failed
    ∧ (v.chan d).counters.writeErrors = k.writeErrors.add 1 ∧ (v.chan d).verifyList = (s.chan d).verifyList
    ∧ (v.chan d).stale = (s.chan d).stale ∧ (v.chan d).images = (s.chan d).images ∧ NoGoBack s v

/-- The counters of a channel are as told, and nothing else has changed. -/
def State.tallied (s : State) (d : Drive) (k : ChanCounters) : State := s.setChan d { s.chan d with counters := k }

theorem tallied_chan (s : State) (d : Drive) (k : ChanCounters) : (s.tallied d k).chan d = { s.chan d with counters := k } :=
  s.chan_setChan_self d _

theorem tallied_countChan (s : State) (d : Drive) (k : ChanCounters) (f : ChanCounters → ChanCounters) :
    (s.tallied d k).countChan d f = s.tallied d (f k) := by
  rw [State.countChan, State.tallied, modChan_setChan, State.tallied]

theorem countChan_eq (s : State) (d : Drive) (f : ChanCounters → ChanCounters) :
    s.countChan d f = s.tallied d (f (s.chan d).counters) := rfl

theorem failing_counters (c : Channel) (f : FirstFault) : ∃ n, (c.dropped.failing f).counters = { c.counters with cutShort := n } := by
  change ∃ n, (if 0 < c.readback.count then { c.counters with cutShort := c.counters.cutShort.add 1 } else c.counters) = _
  split
  · exact ⟨_, rfl⟩
  · exact ⟨c.counters.cutShort, rfl⟩

theorem failChannel_chan (cause : Cause) (named : Option Image) (h : (s.chan d).state ≠ .failed) : ∃ f r,
    (s.failChannel d cause named).chan d = { (s.chan d).dropped.failing f with reader := r } := by
  rw [failChannel_eq cause named h]
  obtain ⟨r, eq, -⟩ := stopReader_chan (s.failedWrites d cause named) d false
  obtain ⟨rx, chan, -⟩ := Rereceived.failAttached ((s.failedWrites d cause named).stopReader d false) d .drive d
  rw [eq, failedWrites_chan] at chan
  exact ⟨_, _, chan⟩

theorem failHead_effect (k : ChanCounters) (cause : Cause) (list : (s.chan d).verifyList = head :: rest)
    (live : (s.chan d).state ≠ .failed) : HeadFailed s d k ((s.tallied d k).failHead d cause) head cause := by
  have chan := tallied_chan s d k
  have listed : ((s.tallied d k).chan d).verifyList = head :: rest := by rw [chan]; exact list
  have mem : ((s.tallied d k).failHead d cause).mem = s.mem := mem_of_outside (State.failHead_outside _ d cause)
  by_cases past : s.params.rewriteLimit[d] < head.sends
  · have eq := (failHead_eq listed cause).trans (if_pos past)
    rw [tallied_countChan] at eq
    have chan' := tallied_chan s d { k with writeErrors := k.writeErrors.add 1 }
    obtain ⟨f, r, failed⟩ := failChannel_chan (s := s.tallied d { k with writeErrors := k.writeErrors.add 1 }) .writeError
      (((s.tallied d k).chan d).images.find? (·.slot == head.slot)) (by rw [chan']; exact live)
    have quiet := NoGoBack.failChannel (s.tallied d { k with writeErrors := k.writeErrors.add 1 }) d .writeError
      (((s.tallied d k).chan d).images.find? (·.slot == head.slot))
    rw [← eq, chan'] at failed
    rw [← eq] at quiet
    generalize (s.tallied d k).failHead d cause = v at *
    obtain ⟨n, counters⟩ := failing_counters { s.chan d with counters := { k with writeErrors := k.writeErrors.add 1 } } f
    have counters' : (v.chan d).counters = { k with writeErrors := k.writeErrors.add 1, cutShort := n } := by
      rw [failed]
      exact counters
    refine ⟨mem, ?_, fun le => absurd past (Nat.not_lt.2 le), fun _ => ?_⟩
    · rw [counters']
      exact ⟨rfl, rfl, rfl⟩
    · rw [counters', failed]
      exact ⟨rfl, rfl, rfl, rfl, rfl, (NoGoBack.of_ring rfl).trans quiet⟩
  · have eq := (failHead_eq listed cause).trans (if_neg past)
    have back := (goBack_rechan (s.tallied d k) d head cause).self
    have told := goBack_tells (s.tallied d k) d head cause
    rw [← eq, chan] at back told
    generalize (s.tallied d k).failHead d cause = v at *
    rw [restarted_eq] at back
    refine ⟨mem, ?_, fun _ => ⟨back, (Tells.of_ring rfl).trans told⟩, fun lt => absurd lt past⟩
    rw [back]
    exact ⟨rfl, rfl, rfl⟩

/-! ## An assembler that waited for the freed image (R72) -/

/-- R71 to R74: what the assembler's next step makes of its channel: at most an image opens, and a placement or a close
begins. -/
def Channel.StepsTo (c x : Channel) (now : Nat) : Prop := ∃ im n m a q pq,
  x = { c with images := im, nextSlot := n, mount := m, activity := a, closeAsked := q, placeQueue := pq }
  ∧ (im = c.images ∨ im = c.images ++ [c.opened now])

theorem Channel.StepsTo.refl (c : Channel) (now : Nat) : c.StepsTo c now :=
  ⟨c.images, c.nextSlot, c.mount, c.activity, c.closeAsked, c.placeQueue, rfl, .inl rfl⟩

theorem assemble_steps (s : State) (d : Drive) : (s.chan d).StepsTo ((s.assemble d).chan d) s.timebase := by
  unfold State.assemble
  extract_lets c
  split
  · next id isHeld _ _ =>
    split
    · exact .refl _ _
    · next r _ =>
      extract_lets held
      split
      · next i _ =>
        split
        · rw [(Rechan.askClose s d .setEndLimit).self]
          obtain ⟨a, q, eq⟩ := askedClose_fields (s.chan d) .setEndLimit
          exact ⟨_, _, _, a, q, _, eq, .inl rfl⟩
        · rw [(startPlacement_effect s d r held i).1.self]
          exact ⟨_, _, _, _, _, _, rfl, .inl rfl⟩
      · split
        · have opened : (s.openImage d).chan d = (s.chan d).withOpened s.timebase s.params.imageCapacity[d] := (openImage_rechan s d).self
          split
          · next i _ =>
            rw [(startPlacement_effect _ d r held i).1.self, opened]
            exact ⟨_, _, _, _, _, _, rfl, .inr rfl⟩
          · rw [opened]
            exact ⟨_, _, _, _, _, _, rfl, .inr rfl⟩
        · exact .refl _ _
  · exact .refl _ _

/-- R72: only the next slot's image opens. -/
theorem imageFreed_steps (s : State) (d : Drive) (slot : Nat) : (s.chan d).StepsTo ((s.imageFreed d slot).chan d) s.timebase
    ∧ ((s.chan d).nextSlot ≠ slot → s.imageFreed d slot = s) := by
  unfold State.imageFreed
  by_cases h : (s.chan d).nextSlot = slot ∧ (s.chan d).assembling.isNone = true
  · rw [if_pos h]
    exact ⟨assemble_steps s d, fun ne => absurd h.1 ne⟩
  · rw [if_neg h]
    exact ⟨.refl _ _, fun _ => rfl⟩

/-! ## A readback verifies the head (R97) -/

/-- R97: a channel's record after a readback has verified the head. -/
def Channel.headVerified (c : Channel) (head : VerifyEntry) (rest : List VerifyEntry) : Channel :=
  { (c.freeImage head.slot) with
    verifyList := rest, stale := none, readbackTimer := !rest.isEmpty
    counters := { c.counters with verified := c.counters.verified.add 1
                                  setsVerified := c.counters.setsVerified.add head.marks.length } }

/-- R97: the head is verified, and its SET_VERIFIED records are written. -/
def State.headTold (s : State) (d : Drive) (head : VerifyEntry) (rest : List VerifyEntry) : State :=
  (s.modChan d fun c => c.headVerified head rest).emitMarks d 0 head.seq head.sends head.marks

theorem verifyHead_eq (list : (s.chan d).verifyList = head :: rest) : s.verifyHead d =
    ((((s.headTold d head rest).imageFreed d head.slot).overdueTest d).drainTest d) := by
  rw [State.verifyHead, list]
  rfl

theorem emitMarks_tells (s : State) (d : Drive) (code : Byte) (seq : Word) (sends : Nat) (marks : List Word) :
    Tells s (s.emitMarks d code seq sends marks) (marks.map (setVerified d code seq sends (s.chan d).writeSession)) := by
  unfold State.emitMarks
  generalize (s.chan d).writeSession = session
  dsimp only
  induction marks generalizing s with
  | nil => exact .refl s
  | cons m ms ih => exact (Tells.emit s rfl).trans (ih (s.emit (setVerified d code seq sends session m)))

theorem emitMarks_chans (s : State) (d : Drive) (code : Byte) (seq : Word) (sends : Nat) (marks : List Word) :
    (s.emitMarks d code seq sends marks).chans = s.chans :=
  forEach_same (·.chans) _ (fun _ t => t.emit_chans _) marks s

theorem headTold_chan (s : State) (d : Drive) (head : VerifyEntry) (rest : List VerifyEntry) :
    (s.headTold d head rest).chan d = (s.chan d).headVerified head rest :=
  (chan_of_chans (emitMarks_chans _ d 0 head.seq head.sends head.marks) d).trans (s.chan_modChan_self d _)

theorem overdueTest_still (early : ∀ e, (s.chan d).verifyList.head? = some e →
    s.timebase < e.time + timeoutMicros s.params.readbackTimeout) : s.overdueTest d = s := by
  unfold State.overdueTest
  split
  · next t deadline =>
    refine if_neg fun le => ?_
    unfold State.readbackDeadline at deadline
    dsimp only at deadline
    split at deadline
    · next head rest timer list =>
      have lt := early head (by rw [list]; rfl)
      cases deadline
      omega
    · cases deadline
  · rfl

/-- What R97 leaves of a channel's record, whatever the assembler goes on to do. -/
structure HeadGone (c x : Channel) (head : VerifyEntry) (rest : List VerifyEntry) (now : Nat) : Prop where
  list : x.verifyList = rest
  stale : x.stale = none
  freed : ∀ i ∈ x.images, i.slot = head.slot → i.state = .assembling ∧ i.openTime = now ∧ i.frags = 0
  other : c.nextSlot ≠ head.slot → ∀ i ∈ x.images, i.slot ≠ head.slot
  verified : x.counters.verified = c.counters.verified.add 1
  sets : x.counters.setsVerified = c.counters.setsVerified.add head.marks.length

theorem headGone_of_steps {now : Nat} (h : (c.headVerified head rest).StepsTo x now)
    (other : c.nextSlot ≠ head.slot → x = c.headVerified head rest) : HeadGone c x head rest now := by
  have freed : ∀ i ∈ (c.headVerified head rest).images, i.slot ≠ head.slot := fun i mem => of_decide_eq_true (List.mem_filter.1 mem).2
  refine ⟨?_, ?_, ?freed, ?other, ?_, ?_⟩
  case freed =>
    obtain ⟨im, n, m, a, q, pq, rfl, images⟩ := h
    intro i mem slot
    change i ∈ im at mem
    obtain rfl | rfl := images
    · exact absurd slot (freed i mem)
    · obtain mem | mem := List.mem_append.1 mem
      · exact absurd slot (freed i mem)
      · rw [List.mem_singleton.1 mem]
        exact ⟨rfl, rfl, rfl⟩
  case other =>
    intro ne i mem
    rw [other ne] at mem
    exact freed i mem
  all_goals
    obtain ⟨im, n, m, a, q, pq, rfl, -⟩ := h
    rfl

theorem drainTest_cases (s : State) (d : Drive) : s.drainTest d = s
    ∨ ((s.chan d).state = .unmounting ∧ (s.chan d).images = [] ∧ s.drainTest d = (s.modChan d Channel.leaveWrite).enterEject d false) := by
  unfold State.drainTest
  dsimp only
  split
  · next h =>
    obtain ⟨unmounting, drained⟩ := h
    simp only [Channel.drained, Bool.and_eq_true] at drained
    exact .inr ⟨unmounting, List.isEmpty_iff.1 drained.1.1, rfl⟩
  · exact .inl rfl

theorem leaveWrite_counters (c : Channel) : ∃ n, c.leaveWrite.counters = { c.counters with cutShort := n } := by
  change ∃ n, (if 0 < c.readback.count then { c.counters with cutShort := c.counters.cutShort.add 1 } else c.counters) = _
  split
  · exact ⟨_, rfl⟩
  · exact ⟨c.counters.cutShort, rfl⟩

theorem headGone_drained {now : Nat} (h : HeadGone c (s.chan d) head rest now) : HeadGone c ((s.drainTest d).chan d) head rest now := by
  obtain same | ⟨-, empty, drained⟩ := drainTest_cases s d
  · rw [same]
    exact h
  · obtain ⟨rx, m, eq, -, -⟩ := enterEject_chan (s.modChan d Channel.leaveWrite) d false
    obtain ⟨n, counters⟩ := leaveWrite_counters (s.chan d)
    rw [State.chan_modChan_self] at eq
    rw [drained, eq]
    have none : (s.chan d).leaveWrite.images = [] := empty
    refine ⟨h.list, rfl, fun i mem => ?_, fun _ i mem => ?_, ?_, ?_⟩
    · rw [show _ = [] from none] at mem
      cases mem
    · rw [show _ = [] from none] at mem
      cases mem
    · dsimp only
      rw [counters]
      exact h.verified
    · dsimp only
      rw [counters]
      exact h.sets

/-- R97: what a readback that verifies the head leaves. -/
theorem verifyHead_effect (list : (s.chan d).verifyList = head :: rest)
    (early : ∀ e, rest.head? = some e → s.timebase < e.time + timeoutMicros s.params.readbackTimeout) :
    HeadGone (s.chan d) ((s.verifyHead d).chan d) head rest s.timebase
    ∧ ((s.chan d).state = .write → ((s.verifyHead d).chan d).readbackTimer = !rest.isEmpty)
    ∧ (s.ring.spaceFor head.marks.length → (s.news (s.verifyHead d)).take head.marks.length =
        head.marks.map (setVerified d 0 head.seq head.sends (s.chan d).writeSession))
    ∧ (s.verifyHead d).mem = s.mem := by
  have mem : (s.verifyHead d).mem = s.mem := mem_of_outside (State.verifyHead_outside s d)
  have outside : (s.headTold d head rest).outside = s.outside := State.emitMarks_outside _ _ _ _ _ _
  have told := headTold_chan s d head rest
  have tells : Tells s (s.headTold d head rest) (head.marks.map (setVerified d 0 head.seq head.sends (s.chan d).writeSession)) := by
    have marks := emitMarks_tells (s.modChan d fun c => c.headVerified head rest) d 0 head.seq head.sends head.marks
    rw [State.chan_modChan_self] at marks
    exact (Tells.of_ring (State.modChan_ring s d _)).trans marks
  have later : (s.headTold d head rest).ring.buffer <+: (s.verifyHead d).ring.buffer := by
    rw [verifyHead_eq list]
    exact ((((Works.refl _).imageFreed d head.slot).overdueTest d).drainTest d).buffer
  obtain ⟨steps, other⟩ := imageFreed_steps (s.headTold d head rest) d head.slot
  rw [told] at steps other
  rw [timebase_of_outside outside] at steps
  have gone : HeadGone (s.chan d) (((s.headTold d head rest).imageFreed d head.slot).chan d) head rest s.timebase :=
    headGone_of_steps steps fun ne => by rw [other ne, told]
  have outside' : ((s.headTold d head rest).imageFreed d head.slot).outside = s.outside :=
    (State.imageFreed_outside _ _ _).trans outside
  have still : ((s.headTold d head rest).imageFreed d head.slot).overdueTest d = (s.headTold d head rest).imageFreed d head.slot :=
    overdueTest_still fun e first => by
      rw [gone.list] at first
      rw [timebase_of_outside outside', params_of_outside outside']
      exact early e first
  rw [verifyHead_eq list, still] at later mem ⊢
  refine ⟨headGone_drained gone, fun write => ?_, fun space => ?_, mem⟩
  · obtain ⟨im, n, m, a, q, pq, eq, -⟩ := steps
    obtain same | ⟨unmounting, -⟩ := drainTest_cases ((s.headTold d head rest).imageFreed d head.slot) d
    · rw [same, eq]
      rfl
    · rw [eq] at unmounting
      exact absurd (write.symm.trans unmounting) (nomatch ·)
  · have prefix_ := tells.news_prefix space (Nat.le_of_eq (List.length_map _)) later
    have front := List.prefix_iff_eq_take.1 prefix_
    rw [List.length_map] at front
    exact front.symm

/-! ## The bytes of a readback (R94) -/

/-- R94: a channel checks what it wrote. -/
def Channel.checks (c : Channel) : Prop := c.state = .write ∨ c.state = .unmounting

theorem readbackByte_checks (h : (s.chan d).checks) (b : Byte) : State.readbackByte d s b =
    if (s.chan d).readback.count + 1 = blockSize (s.chan d).size then
      (s.setChan d { s.chan d with readback := {} }).readbackArrival d ((s.chan d).readback.push (blockSize (s.chan d).size) b)
    else s.setChan d { s.chan d with readback := (s.chan d).readback.push (blockSize (s.chan d).size) b } := by
  unfold State.readbackByte
  obtain h | h := h <;> simp only [h] <;> rfl

theorem readbackByte_idle (h : ¬ (s.chan d).checks) (b : Byte) : State.readbackByte d s b = s := by
  unfold State.readbackByte
  dsimp only
  split
  · next write => exact absurd (.inl write) h
  · next unmounting => exact absurd (.inr unmounting) h
  · rfl

theorem takeReadback_idle (h : ¬ (s.chan d).checks) : ∀ ds : List Byte, s.takeReadback d ds = s
  | [] => rfl
  | b :: ds => by
    rw [State.takeReadback, List.foldl_cons, readbackByte_idle h]
    exact takeReadback_idle h ds

theorem setChan_self (s : State) (d : Drive) : s.setChan d (s.chan d) = s := by
  simp only [State.setChan, State.chan, Fin.getElem_fin, Vector.set_getElem_self]

/-- Bytes that do not complete a readback only join it. -/
theorem takeReadback_short : ∀ (ds : List Byte) {s : State}, (s.chan d).checks →
    (s.chan d).readback.count + ds.length < blockSize (s.chan d).size → s.takeReadback d ds =
      s.setChan d { s.chan d with readback := ds.foldl (Readback.push (blockSize (s.chan d).size)) (s.chan d).readback }
  | [], s, _, _ => (setChan_self s d).symm
  | b :: ds, s, checks, short => by
    rw [List.length_cons] at short
    have chan := s.chan_setChan_self d { s.chan d with
      readback := (s.chan d).readback.push (blockSize (s.chan d).size) b }
    have rest := takeReadback_short ds (s := s.setChan d { s.chan d with
        readback := (s.chan d).readback.push (blockSize (s.chan d).size) b }) (by rw [chan]; exact checks)
      (by rw [chan]; change (s.chan d).readback.count + 1 + ds.length < blockSize (s.chan d).size; omega)
    rw [State.takeReadback, List.foldl_cons, readbackByte_checks checks, if_neg (by omega)]
    refine rest.trans ?_
    rw [setChan_setChan, chan]
    rfl

/-- The byte that completes a readback brings its arrival. -/
theorem takeReadback_full : ∀ (ds : List Byte) {s : State}, (s.chan d).checks → ds ≠ [] →
    (s.chan d).readback.count + ds.length = blockSize (s.chan d).size → s.takeReadback d ds =
      (s.setChan d { s.chan d with readback := {} }).readbackArrival d
        (ds.foldl (Readback.push (blockSize (s.chan d).size)) (s.chan d).readback)
  | [], _, _, some_, _ => absurd rfl some_
  | b :: ds, s, checks, _, full => by
    rw [List.length_cons] at full
    rw [State.takeReadback, List.foldl_cons, readbackByte_checks checks]
    cases ds with
    | nil => exact (if_pos full).trans rfl
    | cons b' ds =>
      rw [List.length_cons] at full
      have chan := s.chan_setChan_self d { s.chan d with
        readback := (s.chan d).readback.push (blockSize (s.chan d).size) b }
      have rest := takeReadback_full (b' :: ds) (s := s.setChan d { s.chan d with
          readback := (s.chan d).readback.push (blockSize (s.chan d).size) b }) (by rw [chan]; exact checks) (List.cons_ne_nil _ _)
        (by
          rw [chan, List.length_cons]
          change (s.chan d).readback.count + 1 + (ds.length + 1) = blockSize (s.chan d).size
          omega)
      rw [if_neg (by omega)]
      refine rest.trans ?_
      rw [setChan_setChan, chan]
      rfl

theorem takeReadback_append (s : State) (d : Drive) (xs ys : List Byte) :
    s.takeReadback d (xs ++ ys) = (s.takeReadback d xs).takeReadback d ys := List.foldl_append

/-! ## The rows of R96 -/

/-- R96: a readback that is not sound counts as damaged. -/
def ChanCounters.damagedBy (k : ChanCounters) (sound : Bool) : ChanCounters :=
  if sound then k else { k with damaged := k.damaged.add 1 }

theorem damagedBy_same (k : ChanCounters) (sound : Bool) : (k.damagedBy sound).goBacks = k.goBacks
    ∧ (k.damagedBy sound).forcedRestarts = k.forcedRestarts ∧ (k.damagedBy sound).writeErrors = k.writeErrors
    ∧ (k.damagedBy sound).mismatches = k.mismatches ∧ (k.damagedBy sound).staleWindow = k.staleWindow
    ∧ (k.damagedBy sound).staleEmpty = k.staleEmpty := by
  cases sound <;> exact ⟨rfl, rfl, rfl, rfl, rfl, rfl⟩

/-- R96: a readback that the head's own block would give. -/
def Readback.proves (r : Readback) (c : Channel) (head : VerifyEntry) : Prop :=
  r.sound c.size c.writeSession = true ∧ headerSeq r.header = head.seq ∧ ~~~ r.crc = head.crc

theorem damage_tallied (s : State) (d : Drive) (sound : Bool) :
    (if sound then s else s.countChan d fun k => { k with damaged := k.damaged.add 1 }) =
      s.tallied d ((s.chan d).counters.damagedBy sound) := by
  cases sound with
  | true => exact (setChan_self s d).symm
  | false => rfl

/-- A readback arrives at an empty list. -/
theorem readbackArrival_empty (list : (s.chan d).verifyList = []) (rb : Readback) : s.readbackArrival d rb =
    s.tallied d { (s.chan d).counters.damagedBy (rb.sound (s.chan d).size (s.chan d).writeSession) with
      staleEmpty := (s.chan d).counters.staleEmpty.add 1 } := by
  unfold State.readbackArrival
  extract_lets c sound seq s1
  have counted : s1 = s.tallied d ((s.chan d).counters.damagedBy (rb.sound (s.chan d).size (s.chan d).writeSession)) :=
    damage_tallied s d _
  obtain ⟨-, -, -, -, -, same⟩ := damagedBy_same (s.chan d).counters (rb.sound (s.chan d).size (s.chan d).writeSession)
  rw [show c.verifyList = [] from list, counted, ← same]
  exact tallied_countChan s d _ _

theorem readbackArrival_listed (list : (s.chan d).verifyList = head :: rest) (rb : Readback) : s.readbackArrival d rb =
    (if rb.sound (s.chan d).size (s.chan d).writeSession = true ∧ headerSeq rb.header = head.seq ∧ ~~~ rb.crc = head.crc then
        (s.tallied d ((s.chan d).counters.damagedBy (rb.sound (s.chan d).size (s.chan d).writeSession))).verifyHead d
      else if rb.sound (s.chan d).size (s.chan d).writeSession = true ∧ precedes (headerSeq rb.header) head.seq = true then
        (s.tallied d ((s.chan d).counters.damagedBy (rb.sound (s.chan d).size (s.chan d).writeSession))).countChan d fun k =>
          { k with staleDuplicate := k.staleDuplicate.add 1 }
      else if ((s.chan d).stale.any fun w => !rb.sound (s.chan d).size (s.chan d).writeSession || inWindow w (headerSeq rb.header)) = true then
        (s.tallied d ((s.chan d).counters.damagedBy (rb.sound (s.chan d).size (s.chan d).writeSession))).countChan d fun k =>
          { k with staleWindow := k.staleWindow.add 1 }
      else ((s.tallied d ((s.chan d).counters.damagedBy (rb.sound (s.chan d).size (s.chan d).writeSession))).countChan d fun k =>
          { k with mismatches := k.mismatches.add 1 }).failHead d .mismatch) := by
  unfold State.readbackArrival
  extract_lets c sound seq s1
  have counted : s1 = s.tallied d ((s.chan d).counters.damagedBy (rb.sound (s.chan d).size (s.chan d).writeSession)) :=
    damage_tallied s d _
  rw [show c.verifyList = head :: rest from list, counted]

/-- R96: an arrival within the stale window, or one that is not sound while a window stands. -/
def Readback.stale (r : Readback) (c : Channel) : Prop :=
  ∃ w, c.stale = some w ∧ (r.sound c.size c.writeSession = false ∨ inWindow w (headerSeq r.header) = true)

theorem stale_iff (rb : Readback) (c : Channel) :
    (c.stale.any fun w => !rb.sound c.size c.writeSession || inWindow w (headerSeq rb.header)) = true ↔ rb.stale c := by
  simp only [Option.any_eq_true, Readback.stale, Bool.or_eq_true, Bool.not_eq_true']

theorem tallied_self (s : State) (d : Drive) : s.tallied d (s.chan d).counters = s := setChan_self s d

theorem arrival_verifies (list : (s.chan d).verifyList = head :: rest) (own : rb.proves (s.chan d) head) :
    s.readbackArrival d rb = s.verifyHead d := by
  refine (readbackArrival_listed list rb).trans ((if_pos own).trans ?_)
  rw [own.1]
  exact congrArg (State.verifyHead · d) (tallied_self s d)

theorem arrival_duplicate (list : (s.chan d).verifyList = head :: rest) (own : ¬ rb.proves (s.chan d) head)
    (sound : rb.sound (s.chan d).size (s.chan d).writeSession = true) (past : precedes (headerSeq rb.header) head.seq = true) :
    s.readbackArrival d rb = s.countChan d fun k => { k with staleDuplicate := k.staleDuplicate.add 1 } := by
  refine (readbackArrival_listed list rb).trans ((if_neg own).trans ((if_pos ⟨sound, past⟩).trans ?_))
  rw [sound]
  exact congrArg (State.countChan · d _) (tallied_self s d)

theorem arrival_inWindow (list : (s.chan d).verifyList = head :: rest) (own : ¬ rb.proves (s.chan d) head)
    (past : ¬ (rb.sound (s.chan d).size (s.chan d).writeSession = true ∧ precedes (headerSeq rb.header) head.seq = true))
    (window : rb.stale (s.chan d)) : s.readbackArrival d rb =
    s.tallied d { (s.chan d).counters.damagedBy (rb.sound (s.chan d).size (s.chan d).writeSession) with
      staleWindow := (s.chan d).counters.staleWindow.add 1 } := by
  refine (readbackArrival_listed list rb).trans ((if_neg own).trans ((if_neg past).trans
    ((if_pos ((stale_iff rb _).mpr window)).trans ?_)))
  obtain ⟨-, -, -, -, same, -⟩ := damagedBy_same (s.chan d).counters (rb.sound (s.chan d).size (s.chan d).writeSession)
  rw [← same]
  exact tallied_countChan s d _ _

theorem arrival_fails (list : (s.chan d).verifyList = head :: rest) (own : ¬ rb.proves (s.chan d) head)
    (past : ¬ (rb.sound (s.chan d).size (s.chan d).writeSession = true ∧ precedes (headerSeq rb.header) head.seq = true))
    (window : ¬ rb.stale (s.chan d)) : s.readbackArrival d rb =
    (s.tallied d { (s.chan d).counters.damagedBy (rb.sound (s.chan d).size (s.chan d).writeSession) with
      mismatches := ((s.chan d).counters.damagedBy (rb.sound (s.chan d).size (s.chan d).writeSession)).mismatches.add 1 }).failHead
        d .mismatch := by
  refine (readbackArrival_listed list rb).trans ((if_neg own).trans ((if_neg past).trans
    ((if_neg fun k => window ((stale_iff rb _).mp k)).trans ?_)))
  rw [tallied_countChan]

/-! ## No readback is in progress behind an arrival -/

theorem restarted_readback (c : Channel) : c.restarted.readback = c.readback := by rw [restarted_eq]

theorem failHead_readback (none : (s.chan d).readback = {}) (live : (s.chan d).state ≠ .failed) (cause : Cause) :
    ((s.failHead d cause).chan d).readback = {} := by
  cases list : (s.chan d).verifyList with
  | nil =>
    rw [State.failHead, list]
    exact none
  | cons head rest =>
    rw [failHead_eq list]
    split
    · obtain ⟨f, r, eq⟩ := failChannel_chan (s := s.countChan d fun k => { k with writeErrors := k.writeErrors.add 1 })
        .writeError ((s.chan d).images.find? (·.slot == head.slot))
        (by rw [State.countChan, State.chan_modChan_self]; exact live)
      rw [eq]
      rfl
    · rw [(goBack_rechan s d head cause).self, restarted_readback]
      exact none

theorem drainTest_readback (none : (s.chan d).readback = {}) : ((s.drainTest d).chan d).readback = {} := by
  obtain same | ⟨-, -, drained⟩ := drainTest_cases s d
  · rw [same]
    exact none
  · obtain ⟨rx, m, eq, -, -⟩ := enterEject_chan (s.modChan d Channel.leaveWrite) d false
    rw [drained, eq, State.chan_modChan_self]
    rfl

theorem overdueTest_readback (none : (s.chan d).readback = {}) (live : (s.chan d).state ≠ .failed) :
    ((s.overdueTest d).chan d).readback = {} := by
  unfold State.overdueTest
  split
  · split
    · have chan := s.chan_modChan_self d fun c => { c with counters := { c.counters with timeouts := c.counters.timeouts.add 1 } }
      exact failHead_readback (s := s.countChan d fun k => { k with timeouts := k.timeouts.add 1 })
        ((congrArg Channel.readback chan).trans none) (fun h => live ((congrArg Channel.state chan).symm.trans h)) .timeout
    · exact none
  · exact none

theorem verifyHead_readback (none : (s.chan d).readback = {}) (live : (s.chan d).state ≠ .failed) :
    ((s.verifyHead d).chan d).readback = {} := by
  cases list : (s.chan d).verifyList with
  | nil =>
    rw [State.verifyHead, list]
    exact none
  | cons head rest =>
    obtain ⟨steps, -⟩ := imageFreed_steps (s.headTold d head rest) d head.slot
    rw [headTold_chan] at steps
    obtain ⟨im, n, m, a, q, pq, eq, -⟩ := steps
    rw [verifyHead_eq list]
    refine drainTest_readback (overdueTest_readback ?_ ?_)
    · rw [eq]
      exact none
    · rw [eq]
      exact live

theorem readbackArrival_readback (none : (s.chan d).readback = {}) (live : (s.chan d).state ≠ .failed) (rb : Readback) :
    ((s.readbackArrival d rb).chan d).readback = {} := by
  have tallied (k : ChanCounters) : ((s.tallied d k).chan d).readback = {} := by
    rw [tallied_chan]
    exact none
  have alive (k : ChanCounters) : ((s.tallied d k).chan d).state ≠ .failed := by
    rw [tallied_chan]
    exact live
  cases list : (s.chan d).verifyList with
  | nil =>
    rw [readbackArrival_empty list]
    exact tallied _
  | cons head rest =>
    rw [readbackArrival_listed list]
    simp only [tallied_countChan]
    split
    · exact verifyHead_readback (tallied _) (alive _)
    · split
      · exact tallied _
      · split
        · exact tallied _
        · exact failHead_readback (tallied _) (alive _) .mismatch

/-! ## The clauses of O49 about readbacks -/

theorem exec_readbackTimeout {n : Nat} (h : s.readbackDeadline d = some n) :
    exec (.readbackTimeout d) s = .next (s.settle ((s.elapseTo n).readbackExpiry d)) := by
  change execReadbackTimeout d s = _
  rw [execReadbackTimeout, h]

theorem readbackTimeout_fails {n : Nat} (list : (s.chan d).verifyList = head :: rest) (live : (s.chan d).state ≠ .failed) :
    ((s.elapseTo n).readbackExpiry d).timebase = max s.timebase n
    ∧ HeadFailed s d { (s.chan d).counters with timeouts := (s.chan d).counters.timeouts.add 1 }
      ((s.elapseTo n).readbackExpiry d) head .timeout := by
  refine ⟨(timebase_of_outside (State.readbackExpiry_outside _ d)).trans (elapseTo_timebase s n), ?_⟩
  have chan : (s.elapseTo n).chan d = s.chan d := rfl
  obtain ⟨mem, tallies, back, failed⟩ := failHead_effect (s := s.elapseTo n) (d := d)
    { (s.chan d).counters with timeouts := (s.chan d).counters.timeouts.add 1 } .timeout list live
  refine ⟨mem, tallies, fun le => ?_, fun lt => ?_⟩
  · obtain ⟨eq, told⟩ := back le
    have elapsed : Tells s (s.elapseTo n) [] := .of_buffer ((Works.refl s).elapseTo n).control (elapseTo_buffer s n)
    exact ⟨eq, elapsed.trans told⟩
  · obtain ⟨state, errors, verifyList, stale, images, none⟩ := failed lt
    exact ⟨state, errors, verifyList, stale, images, (NoGoBack.of_buffer (elapseTo_buffer s n)).trans none⟩

theorem tapeIn_ignored (shaped : (Access.write a ds).shaped = true) (drive : s.tapeInDrive a = some d)
    (h : (s.chan d).state = .mounting ∨ (s.chan d).state = .idle ∨ (s.chan d).state = .ejectWait) :
    exec (.tapeInWrite a ds) s =
      .next ((s.countChan d fun k => { k with unclaimed := k.unclaimed.add ds.length }).answer [.done []]) := by
  rw [exec_tapeInWrite shaped drive]
  obtain h | h | h := h <;> rw [h]

theorem tapeIn_refused (shaped : (Access.write a ds).shaped = true) (drive : s.tapeInDrive a = some d)
    (h : (s.chan d).state = .unmounted ∨ (s.chan d).state = .failed) : exec (.tapeInWrite a ds) s = .next (s.answer [.fault]) := by
  rw [exec_tapeInWrite shaped drive]
  obtain h | h := h <;> rw [h]

theorem pushes_count (ds : List Byte) (size : Nat) (r : Readback) : (ds.foldl (Readback.push size) r).count = r.count + ds.length := by
  induction ds generalizing r with
  | nil => rfl
  | cons b ds ih =>
    rw [List.foldl_cons, ih, List.length_cons]
    change r.count + 1 + ds.length = _
    omega

theorem inWindow_iff (w : Word × Word) (x : Word) :
    inWindow w x = true ↔ x = w.1 ∨ (precedes w.1 x = true ∧ precedes w.2 x = false) := by
  simp only [inWindow, Bool.or_eq_true, beq_iff_eq, Bool.and_eq_true, Bool.not_eq_true']

theorem stale_of_window (r : Readback) (c : Channel) : r.stale c ↔ ∃ w, c.stale = some w ∧ (r.sound c.size c.writeSession = false
    ∨ (headerSeq r.header = w.1 ∨ (precedes w.1 (headerSeq r.header) = true ∧ precedes w.2 (headerSeq r.header) = false))) := by
  simp only [Readback.stale, inWindow_iff]

/-- Settles O49: the reader's and the checker's rows, each by the state that the write's bytes make of the channel. -/
theorem readbacksVerifyTheHead : Obligations.ReadbacksVerifyTheHead := by
  intro s a ds d shaped drive c rx space news period tally fails
  have live (h : period) : c.state ≠ .failed := fun failed => by
    obtain write | unmounting := h
    · exact absurd (write.symm.trans failed) (nomatch ·)
    · exact absurd (unmounting.symm.trans failed) (nomatch ·)
  have failing (v : State) (head : VerifyEntry) (cause : Cause) (k : ChanCounters) (goBacks : k.goBacks = c.counters.goBacks)
      (forced : k.forcedRestarts = c.counters.forcedRestarts) (errors : k.writeErrors = c.counters.writeErrors)
      (h : HeadFailed s d k v head cause) : fails v head cause := by
    obtain ⟨mem, tallies, back, failed⟩ := h
    unfold fails
    intro highest window marked
    have highest_eq : highest = c.highestSent (match c.verifyList.getLast? with | some e => e.seq | none => head.seq) := by
      unfold highest Channel.highestSent
      cases c.cursor.bind fun k => c.images.find? (·.slot == k.slot) with
      | some i => rfl
      | none => cases c.verifyList.getLast? <;> rfl
    have window_eq : window = c.goBackWindow head := by
      unfold window Channel.goBackWindow
      rw [highest_eq]
      rfl
    refine ⟨mem, fun le => ?_, fun lt => ?_⟩
    · obtain ⟨chan, told⟩ := back le
      rw [chan, window_eq, goBacks, forced]
      refine ⟨rfl, rfl, rfl, rfl, rfl, rfl, rfl, rfl, rfl, rfl, rfl, rfl, fun room => ?_⟩
      rw [show news v = [_] from told.news room (Nat.le_refl 1)]
      unfold Channel.goBackRecord
      rw [show marked = c.marked from rfl]
      cases c.goBackWindow head <;> rfl
    · obtain ⟨state, writeErrors, list, stale, images, none⟩ := failed lt
      exact ⟨state, by rw [writeErrors, errors], list, stale, images, none.news⟩
  refine ⟨fun h => ?_, fun h => ?_, fun read decided => ?_, fun read undecided count back => ?_, ?_, ?_, ?_, ?_, ?_, ?_, ?_, ?_⟩
  · rw [tapeIn_refused shaped drive h, counter_add_zero, answer_fault]
  · refine ⟨_, tapeIn_ignored shaped drive h, rfl, ?_, ?_, rfl, rfl⟩
    all_goals rw [chan_of_chans (State.answer_chans _ _), State.countChan, State.chan_modChan_self]
  · exact retried shaped drive read (readWrite_decided decided)
  · exact retried shaped drive read (readWrite_heldBack undecided count (blockHeldBack_of back))
  · exact fun left read undecided count walk wants => tapeIn_wants shaped drive read undecided count walk wants
  · intro left id r read undecided header walk owners targets found more payload each within room at_
    exact tapeIn_taken shaped drive read ⟨undecided, header, walk, owners, targets, found, more, payload, each, within, room⟩
  · exact fun read undecided header walk => tapeIn_finished shaped drive read undecided header walk
  · intro r seq good k judged accepted rejected
    have isGood (h : good) : r.rx.good = true := (good_iff rx).mpr h
    refine ⟨fun bad => ?_, fun h first => ?_, fun e h expected ne before => ?_, fun e h expected after recovering few => ?_,
      fun e h expected after done => ?_⟩
    · have bad' : r.rx.good = false := Bool.eq_false_iff.2 fun h => bad ((good_iff rx).mp h)
      exact blockArrival_judged (classify_bad bad')
    · obtain none | same := first
      · exact blockArrival_judged (classify_first (isGood h) none)
      · exact blockArrival_judged (classify_expected (isGood h) same)
    · exact blockArrival_judged (classify_duplicate (isGood h) expected before)
    · exact blockArrival_judged ((classify_after (isGood h) expected after).trans (if_pos ⟨recovering, few⟩))
    · have over_ : ¬ (r.recovering = true ∧ r.recoveryCount < s.params.recoveryWindow) := fun ⟨on, few⟩ => done.elim
        (fun off => by rw [off] at on; cases on) fun le => absurd few (Nat.not_lt.2 le)
      obtain ⟨reader, same⟩ := blockArrival_judged ((classify_after (isGood h) expected after).trans (if_neg over_))
      refine ⟨reader.trans ?_, same⟩
      simp only [Reader.judged, show (s.chan d).reader.expected = some e from expected]
      rfl
  · intro checks short
    have taken := takeReadback_short ds checks short
    refine ⟨(s.takeReadback d ds).answer [.done []], exec_tapeInWrite_check shaped drive checks, rfl, ?_⟩
    rw [taken, chan_of_chans (State.answer_chans _ _), State.chan_setChan_self]
    exact ⟨rfl, pushes_count ds _ _, rfl, rfl, rfl⟩
  · intro xs ys checks eq some_ full r u
    have arrives : s.takeReadback d xs = u := takeReadback_full xs checks some_ full
    refine ⟨?_, fun checks' short => ?_, fun write unmounting => takeReadback_idle (fun h => h.elim write unmounting) ys⟩
    · rw [exec_tapeInWrite_check shaped drive checks, eq, takeReadback_append, arrives]
    · have emptied := s.chan_setChan_self d { c with readback := {} }
      have none : (u.chan d).readback = {} := readbackArrival_readback (by rw [emptied]) (by rw [emptied]; exact live checks) r
      rw [takeReadback_short ys checks' (by rw [none]; exact (Nat.zero_add _).trans_lt short), State.chan_setChan_self, none]
      exact ⟨rfl, rfl⟩
  · intro r sound seq v damage
    refine ⟨fun none => readbackArrival_empty none r, ?_⟩
    intro head rest list inside own past window
    refine ⟨fun proved checks early => ?_, fun no before => ?_, fun no late stale => ?_, fun no late fresh checks => ?_⟩
    · obtain ⟨gone, timer, told, mem⟩ := verifyHead_effect list early
      rw [show v = s.verifyHead d from arrival_verifies list proved]
      exact ⟨gone.list, gone.stale, timer, gone.freed, gone.other, gone.verified, gone.sets, told, mem⟩
    · exact arrival_duplicate list no before.1 before.2
    · exact arrival_inWindow list no late ((stale_of_window r c).mpr stale)
    · have failed := failHead_effect { c.counters.damagedBy sound with
          mismatches := (c.counters.damagedBy sound).mismatches.add 1 } .mismatch list (live checks)
      obtain ⟨goBacks, forced, errors, mismatches, -⟩ := damagedBy_same c.counters sound
      rw [← arrival_fails list no late fun h => fresh ((stale_of_window r c).mp h)] at failed
      obtain ⟨count, damaged, -⟩ := failed.tallies
      refine ⟨failing v head .mismatch { c.counters.damagedBy sound with
        mismatches := (c.counters.damagedBy sound).mismatches.add 1 } goBacks forced errors failed, ?_, damaged⟩
      rw [count, mismatches]
  · intro head rest t checks list deadline
    obtain ⟨timebase, failed⟩ := readbackTimeout_fails (n := t) list (live checks)
    obtain ⟨-, -, timeouts⟩ := failed.tallies
    exact ⟨_, exec_readbackTimeout deadline, timebase, failing _ head .timeout
      { c.counters with timeouts := c.counters.timeouts.add 1 } rfl rfl rfl failed, timeouts⟩

end Sys2Proof.Machine
end

section
/-! The picker's orders, the ends of its requests, and what each leaves (7.7, 8.3). -/

namespace Sys2Proof.Machine

variable {s t u v : State} {L M : Loader} {st : Stage} {o : Order} {r q : Req} {l m : Loc} {e : ReqEnd} {n k : Nat}
  {rs qs : List Record} {x : Record} {d : Drive}

/-! ## The loader but for the lock output -/

/-- The loader is as told but for the lock output, which follows the picker. -/
def Loaded (t : State) (L : Loader) : Prop := ∃ b, t.loader = { L with lockOutput := b }

theorem Loaded.self (t : State) : Loaded t t.loader := ⟨t.loader.lockOutput, rfl⟩

theorem Loaded.of_loader (h : Loaded t L) (same : u.loader = t.loader) : Loaded u L := by
  obtain ⟨b, eq⟩ := h
  exact ⟨b, same.trans eq⟩

theorem Loaded.picker (h : Loaded t L) : t.picker = L.picker := by
  obtain ⟨b, eq⟩ := h
  rw [State.picker, eq]

theorem Loaded.loc (h : Loaded t L) (l : Loc) : t.loc l = L.locs[l] := by
  obtain ⟨b, eq⟩ := h
  rw [State.loc, eq]

theorem Loaded.filters (h : Loaded t L) : t.loader.filters = L.filters := by
  obtain ⟨b, eq⟩ := h
  rw [eq]

theorem Loaded.queue (h : Loaded t L) : t.loader.queue = L.queue := by
  obtain ⟨b, eq⟩ := h
  rw [eq]

theorem Loaded.counters (h : Loaded t L) : t.loader.counters = L.counters := by
  obtain ⟨b, eq⟩ := h
  rw [eq]

theorem Loaded.preempt (h : Loaded t L) : t.loader.preempt = L.preempt := by
  obtain ⟨b, eq⟩ := h
  rw [eq]

theorem Loaded.scratch (h : Loaded t L) : t.loader.scratch = L.scratch := by
  obtain ⟨b, eq⟩ := h
  rw [eq]

theorem Loaded.modLoader (h : Loaded t L) (f : Loader → Loader)
    (free : ∀ M b, f { M with lockOutput := b } = { f M with lockOutput := b }) : Loaded (t.modLoader f) (f L) := by
  obtain ⟨b, eq⟩ := h
  refine ⟨b, ?_⟩
  rw [State.modLoader_loader, eq, free]

theorem Loaded.modPicker (h : Loaded t L) (f : Picker → Picker) : Loaded (t.modPicker f) { L with picker := f L.picker } :=
  h.modLoader _ fun _ _ => rfl

theorem Loaded.modLoc (h : Loaded t L) (l : Loc) (f : Location → Location) :
    Loaded (t.modLoc l f) { L with locs := L.locs.set l (f L.locs[l]) } := by
  obtain ⟨b, eq⟩ := h
  refine ⟨b, ?_⟩
  rw [State.modLoc, State.setLoc, State.loc]
  dsimp only
  rw [eq]

theorem Loaded.setPicker (h : Loaded t L) (p : PickState) :
    Loaded (t.setPicker p) { L with picker := { L.picker with state := p } } := by
  obtain ⟨b, eq⟩ := h
  refine ⟨(t.setPicker p).loader.lockOutput, ?_⟩
  rw [setPicker_loader, State.picker, eq]

/-- R142: a location awaits what an order is to do to it. -/
def Loader.expecting (L : Loader) (st : Stage) (l : Option Loc) : Loader :=
  match st.expects, l with
  | some b, some x => { L with locs := L.locs.set x { L.locs[x] with expected := some b } }
  | _, _ => L

/-- R141, R142: the loader as an order is sent. -/
def Loader.ordered (L : Loader) (st : Stage) (l : Option Loc) (deadline : Nat) : Loader :=
  { L.expecting st l with
    picker := { L.picker with order := some { number := L.picker.nextNumber, stage := st, loc := l, deadline := deadline }
                              inFlight := true, nextNumber := nextOrder L.picker.nextNumber, state := st.pickState }
    counters := { L.counters with orders := L.counters.orders.add 1 } }

theorem expecting_picker (L : Loader) (st : Stage) (l : Option Loc) : (L.expecting st l).picker = L.picker
    ∧ (L.expecting st l).counters = L.counters := by
  unfold Loader.expecting
  split <;> exact ⟨rfl, rfl⟩

theorem Loaded.sendOrder (h : Loaded t L) (st : Stage) (l : Option Loc) :
    Loaded (t.sendOrder st l) (L.ordered st l (t.timebase + timeoutMicros t.params.motionTimeout)) := by
  have expecting : Loaded (match st.expects, l with
      | some b, some x => t.modLoc x fun y => { y with expected := some b }
      | _, _ => t) (L.expecting st l) := by
    unfold Loader.expecting
    cases st.expects <;> cases l
    case some.some b x => exact h.modLoc x fun y => { y with expected := some b }
    all_goals exact h
  obtain ⟨picker, counters⟩ := expecting_picker L st l
  unfold State.sendOrder
  extract_lets s1 s2
  have ordered := (((show Loaded s1 _ from expecting).modPicker fun p => { p with
    order := some { number := p.nextNumber, stage := st, loc := l, deadline := t.timebase + timeoutMicros t.params.motionTimeout }
    inFlight := true, nextNumber := nextOrder p.nextNumber }).modLoader (fun l => { l with counters :=
      { l.counters with orders := l.counters.orders.add 1 } }) fun _ _ => rfl).setPicker st.pickState
  dsimp only at ordered
  rw [picker, counters] at ordered
  exact ordered

/-- R153: the loader as a request ends. -/
def Loader.reqLeft (L : Loader) (r : Req) (e : ReqEnd) : Loader :=
  { L with
    queue := L.queue.filter (·.stamp ≠ r.stamp)
    picker := if L.picker.active = some r.stamp then { L.picker with active := none, cut := false } else L.picker
    counters := match e with
      | .done => { L.counters with endedDone := L.counters.endedDone.add 1 }
      | .failed _ => { L.counters with endedFailed := L.counters.endedFailed.add 1 }
      | .cancelled => { L.counters with endedCancelled := L.counters.endedCancelled.add 1 }
    locs := L.locs.map fun x => if x.reserved = some (.request r.stamp) then { x with reserved := none } else x }

theorem closeReq_reqLeft (s : State) (r : Req) (e : ReqEnd) : (s.closeReq r e).loader = s.loader.reqLeft r e :=
  (closeReq_loader_eq s r e).trans rfl

theorem Loaded.closeReq (h : Loaded t L) (r : Req) (e : ReqEnd) : Loaded (t.closeReq r e) (L.reqLeft r e) := by
  obtain ⟨b, eq⟩ := h
  refine ⟨b, ?_⟩
  rw [closeReq_reqLeft, eq]
  rfl

theorem Loaded.releaseReserved (h : Loaded t L) (x : Reservation) : Loaded (t.releaseReserved x)
    { L with locs := L.locs.map fun y => if y.reserved = some x then { y with reserved := none } else y } :=
  h.modLoader _ fun _ _ => rfl

theorem Loaded.modReq (h : Loaded t L) (stamp : Nat) (f : Req → Req) : Loaded (t.modReq stamp f)
    { L with queue := L.queue.map fun r => if r.stamp = stamp then f r else r } :=
  h.modLoader _ fun _ _ => rfl

theorem Loaded.activeReq (h : Loaded t L) (active : L.picker.active = s.picker.active) (queue : L.queue = s.loader.queue) :
    t.activeReq = s.activeReq := by
  have find : t.findReq = s.findReq := funext (findReq_of_queue (h.queue.trans queue))
  rw [State.activeReq, h.picker, active, State.activeReq, find]

/-! ## Records beside those of the panel -/

/-- The step from `s` to `t` tells the records `rs` beside DOOR_EVENT, at most `n` with these. -/
def Says (s t : State) (rs : List Record) (n : Nat) : Prop :=
  ∃ qs, Tells s t qs ∧ (qs.filter fun r => r.kind ≠ .doorEvent) = rs ∧ qs.length ≤ n

theorem Says.of_ring (h : t.ring = s.ring) : Says s t [] 0 := ⟨[], .of_ring h, rfl, Nat.le_refl 0⟩

theorem Says.refl (s : State) : Says s s [] 0 := .of_ring rfl

theorem Says.then_ring (h : Says s t rs n) (ring : u.ring = t.ring) : Says s u rs n := by
  obtain ⟨ps, tells, rest⟩ := h
  exact ⟨ps, tells.then_ring ring, rest⟩

theorem Says.mono (h : Says s t rs n) (le : n ≤ k) : Says s t rs k := by
  obtain ⟨ps, tells, filtered, few⟩ := h
  exact ⟨ps, tells, filtered, few.trans le⟩

theorem Says.trans (h : Says s t rs n) (j : Says t u qs k) : Says s u (rs ++ qs) (n + k) := by
  obtain ⟨ps, tells, filtered, few⟩ := h
  obtain ⟨ps', tells', filtered', few'⟩ := j
  exact ⟨ps ++ ps', tells.trans tells', by rw [List.filter_append, filtered, filtered'],
    by rw [List.length_append]; exact Nat.add_le_add few few'⟩

theorem Says.of_tells (h : Tells s t rs) (kinds : ∀ r ∈ rs, r.kind ≠ .doorEvent) : Says s t rs rs.length :=
  ⟨rs, h, List.filter_eq_self.2 fun r mem => decide_eq_true (kinds r mem), Nat.le_refl _⟩

theorem Says.emit (h : Says s t rs n) (fresh : x.dropped = 0) (kind : x.kind ≠ .doorEvent) : Says s (t.emit x) (rs ++ [x]) (n + 1) :=
  h.trans (.of_tells (.emit t fresh) fun r mem => by rw [List.mem_singleton.1 mem]; exact kind)

theorem Says.doorEvent (h : Says s t rs n) (code : Nat) : Says s (t.doorEvent code) rs (n + 1) := by
  have panel : Says t (t.doorEvent code) [] 1 := ⟨[panelRecord t code], doorEvent_tells t code, rfl, Nat.le_refl 1⟩
  have both := h.trans panel
  rwa [List.append_nil] at both

theorem Says.setPicker (h : Says s t rs n) (p : PickState) : Says s (t.setPicker p) rs (n + 1) := by
  have set : Says s (t.modPicker fun q => { q with state := p }) rs n := h.then_ring rfl
  unfold State.setPicker State.syncLock
  split
  · exact set.mono (Nat.le_succ n)
  · exact Says.doorEvent (set.then_ring (u := (t.modPicker fun q => { q with state := p }).modLoader fun l =>
      { l with lockOutput := (t.modPicker fun q => { q with state := p }).lockWanted }) rfl) _

theorem Says.sendOrder (h : Says s t rs n) (st : Stage) (l : Option Loc) : Says s (t.sendOrder st l) rs (n + 1) := by
  unfold State.sendOrder
  extract_lets s1 s2
  have expecting : Says s s1 rs n := by
    refine h.then_ring ?_
    unfold s1
    split <;> rfl
  have ordered : Says s s2 rs n := expecting.then_ring rfl
  exact (ordered.then_ring (u := s2.countLoader fun c => { c with orders := c.orders.add 1 }) rfl).setPicker _

theorem Says.told (h : Says s t rs n) (space : s.ring.spaceFor k) (le : n ≤ k) :
    ((s.news t).filter fun r => r.kind ≠ .doorEvent) = rs := by
  obtain ⟨ps, tells, filtered, few⟩ := h
  rw [tells.news space (few.trans le), filtered]

/-! ## The records of a request that ends (R153, R154, R163) -/

/-- R163: CLEAN_END. -/
def State.cleanEndRecord (s : State) (r : Req) (e : ReqEnd) : Record :=
  { kind := .cleanEnd, byte1 := e.outcome.code
    subject := BitVec.ofNat 16 (match r.drive with | some d => d.val | none => 0)
    e0 := e.outcome.cause
    e1 := match r.firstSource with | some n => w32 n | none => s.freeWord
    e2 := match (r.cart.bind s.findCart).map (·.uses) with | some n => w32 n | none => s.draw.freeWord }

/-- R153: MOVE_END. -/
def State.moveEndRecord (s : State) (r : Req) (e : ReqEnd) : Record :=
  { kind := .moveEnd, byte1 := e.outcome.code, tag := if r.internal then 0 else r.id
    subject := if r.destOpen then s.freeWord.setWidth 16
      else BitVec.ofNat 16 (match r.kind with | .inventory => r.last | _ => (r.judged.getD r.dst).val)
    e0 := e.outcome.cause, e1 := w32 r.kind.code
    e2 := match r.firstSource with | some n => w32 n | none => s.freeWord
    e3 := if r.destOpen then s.freeWord else w32 r.lastDest, e4 := r.id.setWidth 32, e5 := w32 r.legsDone }

theorem cleanEnd_tells (s : State) (r : Req) (e : ReqEnd) : Tells s (s.cleanEnd r e) [s.cleanEndRecord r e] := by
  have told : Tells s (s.emit (s.cleanEndRecord r e)) [s.cleanEndRecord r e] := .emit s rfl
  unfold State.cleanEnd
  extract_lets slot uses s1
  split
  · exact told.then_ring rfl
  · exact told

theorem moveEnd_tells (s : State) (r : Req) (e : ReqEnd) : Tells s (s.moveEnd r e) [s.moveEndRecord r e] := by
  have told : Tells s (s.emit (s.moveEndRecord r e)) [s.moveEndRecord r e] := .emit s rfl
  unfold State.moveEnd
  extract_lets isOpen subject s1
  split
  · exact told.then_ring rfl
  · exact told

/-- R153, R154, R163: the records of a request's kind. -/
def State.kindRecords (s : State) (r : Req) (e : ReqEnd) : List Record :=
  match r.kind with
  | .clean => [s.cleanEndRecord r e]
  | .inventory => [inventoryEnd r e]
  | _ => []

theorem kindEnd_tells (s : State) (r : Req) (e : ReqEnd) : Tells s (s.kindEnd r e) (s.kindRecords r e) := by
  unfold State.kindEnd State.kindRecords
  cases r.kind
  case clean => exact cleanEnd_tells s r e
  case inventory => exact .emit s rfl
  all_goals exact .refl s

theorem kindRecords_few (s : State) (r : Req) (e : ReqEnd) : (s.kindRecords r e).length ≤ 1
    ∧ ∀ x ∈ s.kindRecords r e, x.kind ≠ .doorEvent := by
  unfold State.kindRecords
  cases r.kind
  case clean => exact ⟨Nat.le_refl 1, fun x mem => by rw [List.mem_singleton.1 mem]; exact (nomatch ·)⟩
  case inventory => exact ⟨Nat.le_refl 1, fun x mem => by rw [List.mem_singleton.1 mem]; exact (nomatch ·)⟩
  all_goals exact ⟨Nat.zero_le 1, fun x mem => absurd mem List.not_mem_nil⟩

/-- R153: the request has left, and its records are written. -/
def State.reqTold (s : State) (r : Req) (e : ReqEnd) : State := ((s.reqLeft r e).kindEnd r e).moveEnd r e

theorem reqTold_says (s : State) (r : Req) (e : ReqEnd) :
    Says s (s.reqTold r e) ((s.reqLeft r e).kindRecords r e ++ [((s.reqLeft r e).kindEnd r e).moveEndRecord r e]) 2 := by
  obtain ⟨few, kinds⟩ := kindRecords_few (s.reqLeft r e) r e
  have told := ((Tells.of_ring (t := s.reqLeft r e) rfl).trans (kindEnd_tells _ r e)).trans (moveEnd_tells _ r e)
  refine (Says.of_tells told ?_).mono ?_
  · intro x mem
    obtain mem | mem := List.mem_append.1 mem
    · exact kinds x mem
    · rw [List.mem_singleton.1 mem]
      exact (nomatch ·)
  · rw [List.length_append]
    exact Nat.add_le_add_right few 1

theorem closeReq_of_told (s : State) (r : Req) (e : ReqEnd) : s.closeReq r e = (s.reqTold r e).endWaiting r.stamp e := rfl

theorem closeReq_done (s : State) (r : Req) : s.closeReq r .done = s.reqTold r .done := by
  rw [closeReq_of_told, State.endWaiting_done]

theorem endWaiting_idle (h : ∀ i, (s.session i).mountReq ≠ some n) (e : ReqEnd) : s.endWaiting n e = s :=
  forEach_still fun i _ => if_neg (h i)

theorem reqTold_restore (s : State) (r : Req) (e : ReqEnd) : (s.reqTold r e).restore = s.restore := by
  have kind (t : State) : (t.kindEnd r e).restore = t.restore := by
    unfold State.kindEnd
    split
    · unfold State.cleanEnd
      extract_lets slot uses s1
      split <;> exact State.emit_restore _ _
    · exact State.emit_restore _ _
    · rfl
  have move (t : State) : (t.moveEnd r e).restore = t.restore := by
    unfold State.moveEnd
    extract_lets isOpen subject s1
    split <;> exact State.emit_restore _ _
  exact (move _).trans ((kind _).trans rfl)

theorem reqTold_chans (s : State) (r : Req) (e : ReqEnd) : (s.reqTold r e).chans = s.chans := by
  have kind (t : State) : (t.kindEnd r e).chans = t.chans := by
    unfold State.kindEnd
    split
    · unfold State.cleanEnd
      extract_lets slot uses s1
      split <;> exact State.emit_chans _ _
    · exact State.emit_chans _ _
    · rfl
  have move (t : State) : (t.moveEnd r e).chans = t.chans := by
    unfold State.moveEnd
    extract_lets isOpen subject s1
    split <;> exact State.emit_chans _ _
  exact (move _).trans ((kind _).trans rfl)

/-- Where no session waits on the request, or it is DONE, its end writes its own records alone. -/
theorem closeReq_quiet (h : e = .done ∨ ∀ i, (s.session i).mountReq ≠ some r.stamp) : s.closeReq r e = s.reqTold r e := by
  obtain rfl | idle := h
  · exact closeReq_done s r
  · rw [closeReq_of_told]
    refine endWaiting_idle (fun i => ?_) e
    rw [session_of_restore (reqTold_restore s r e)]
    exact idle i

/-! ## What the end of a request leaves, with a preempt too -/

/-- What an end of a request's record, an end of a preempt and a REMOUNT's joining keep, the beginning of a REMOUNT keeps. -/
theorem beginRemount_keeps {P : State → Prop} (link : ∀ t i f, P t → P (State.modSession t i f))
    (ended : ∀ t, P t → P (State.endPreempt t)) (raise : ∀ t r, P t → P (State.raiseInternal t r))
    (record : ∀ t p, P t → P (State.setPreemptRec t p)) (join : ∀ t r, P t → P (State.joinInternal t r))
    (close : ∀ t r e, P t → P (State.closeReq t r e)) (p : Preempt) (h : P s) : P (s.beginRemount p) := by
  unfold State.beginRemount
  extract_lets s1 still r s2
  have unlinked : P s1 := forEach_keeps (fun i t k => link t i _ k) _ s h
  have queued : P s2 := join _ _ (record _ _ unlinked)
  clear_value s1 s2 still
  split
  · exact ended _ unlinked
  · split
    · exact ended _ (raise _ _ unlinked)
    · split
      · split
        · exact ended _ (close _ _ _ queued)
        · exact queued
      · exact queued

/-- What holds when a request has left the queue, and stays so through ends of requests and of preempts, holds at its end. -/
theorem endReq_keeps {P : State → Prop} (ended : ∀ t, P t → P (State.endPreempt t))
    (remount : ∀ t p, P t → P (State.beginRemount t p)) (h : P (s.closeReq r e)) : P (s.endReq r e) := by
  unfold State.endReq
  extract_lets t
  have closed : P t := h
  clear_value t
  split
  · exact closed
  · split
    · exact closed
    · split
      · exact ended _ closed
      · split
        · split
          · exact remount _ _ closed
          · exact ended _ closed
        · exact closed

theorem endPreempt_picker (t : State) : t.endPreempt.picker = t.picker := by rw [State.picker, endPreempt_loader]; rfl

theorem raiseInternal_picker (t : State) (r : Req) : (t.raiseInternal r).picker = t.picker :=
  raiseInternal_same (·.picker) (fun _ _ => rfl) (fun _ _ => rfl) t r

theorem closeReq_picker (s : State) (r : Req) (e : ReqEnd) : (s.closeReq r e).picker =
    if s.picker.active = some r.stamp then { s.picker with active := none, cut := false } else s.picker :=
  (s.closeReq_loader r e).2.2.1

theorem closeReq_picker_idle (h : s.picker.active = none) (r : Req) (e : ReqEnd) : (s.closeReq r e).picker = s.picker := by
  rw [closeReq_picker, h, if_neg (nomatch ·)]

theorem idle_picker_kept {p : Picker} (idle : p.active = none) (t : State) (r : Req) (e : ReqEnd) (h : t.picker = p) :
    (t.closeReq r e).picker = p := by rw [closeReq_picker_idle (by rw [h]; exact idle), h]

theorem endReq_picker_of_close {p : Picker} (idle : p.active = none) (h : (s.closeReq r e).picker = p) : (s.endReq r e).picker = p := by
  refine endReq_keeps (P := fun t => t.picker = p) (fun t k => by rw [endPreempt_picker, k]) (fun t q k => ?_) h
  exact beginRemount_keeps (P := fun t => t.picker = p) (fun _ _ _ k => k) (fun t k => by rw [endPreempt_picker, k])
    (fun t r k => by rw [raiseInternal_picker, k]) (fun _ _ k => k) (fun _ _ k => k) (idle_picker_kept idle) q k

/-- R153: the picker at the end of the request that it serves. -/
theorem endReq_picker (h : s.picker.active = some r.stamp) (e : ReqEnd) :
    (s.endReq r e).picker = { s.picker with active := none, cut := false } :=
  endReq_picker_of_close rfl (by rw [closeReq_picker, if_pos h])

theorem endReq_picker_idle (h : s.picker.active = none) (r : Req) (e : ReqEnd) : (s.endReq r e).picker = s.picker :=
  endReq_picker_of_close h (closeReq_picker_idle h r e)

/-- What a request's end keeps of the loader: the cartridge records, what the locations await, and the picker's counts. -/
def State.held (s : State) : (Loc → Option Cart × Option Bool) × Counter × Counter × Counter × Counter × Counter :=
  (fun m => ((s.loc m).cart, (s.loc m).expected), s.loader.counters.jams, s.loader.counters.timeouts,
    s.loader.counters.protocolErrors, s.loader.counters.orders, s.loader.counters.strayReplies)

theorem held_of_loader (locs : ∀ m, (t.loc m).cart = (s.loc m).cart ∧ (t.loc m).expected = (s.loc m).expected)
    (jams : t.loader.counters.jams = s.loader.counters.jams) (timeouts : t.loader.counters.timeouts = s.loader.counters.timeouts)
    (errors : t.loader.counters.protocolErrors = s.loader.counters.protocolErrors)
    (orders : t.loader.counters.orders = s.loader.counters.orders)
    (stray : t.loader.counters.strayReplies = s.loader.counters.strayReplies) : t.held = s.held := by
  unfold State.held
  rw [jams, timeouts, errors, orders, stray]
  congr 1
  funext m
  rw [(locs m).1, (locs m).2]

theorem releaseReserved_view (s : State) (x : Reservation) (m : Loc) : ((s.releaseReserved x).loc m).cart = (s.loc m).cart
    ∧ ((s.releaseReserved x).loc m).expected = (s.loc m).expected := by
  rw [releaseReserved_loc]
  split <;> exact ⟨rfl, rfl⟩

theorem closeReq_held (s : State) (r : Req) (e : ReqEnd) : (s.closeReq r e).held = s.held := by
  have loader := closeReq_loader_eq s r e
  have loc (m : Loc) : (s.closeReq r e).loc m = (s.reqLeft r e).loc m := by rw [State.loc, loader, State.loc]
  refine held_of_loader (fun m => ?_) ?_ ?_ ?_ ?_ ?_
  · rw [loc]
    exact releaseReserved_view _ _ m
  all_goals
    rw [loader]
    cases e <;> rfl

theorem endPreempt_held (t : State) : t.endPreempt.held = t.held := by
  have loader := endPreempt_loader t
  refine held_of_loader (fun m => ?_) ?_ ?_ ?_ ?_ ?_
  · rw [State.loc, loader]
    exact ⟨rfl, rfl⟩
  all_goals rw [loader]

theorem raiseInternal_held (t : State) (r : Req) : (t.raiseInternal r).held = t.held := by
  unfold State.raiseInternal
  split
  · rfl
  · rfl

theorem endReq_held (s : State) (r : Req) (e : ReqEnd) : (s.endReq r e).held = s.held :=
  endReq_same (·.held) closeReq_held endPreempt_held
    (beginRemount_same (·.held) (fun _ _ _ => rfl) endPreempt_held raiseInternal_held (fun _ _ => rfl) (fun _ _ => rfl) closeReq_held)
    s r e

theorem held_cart (h : t.held = s.held) (m : Loc) : (t.loc m).cart = (s.loc m).cart :=
  congrArg (fun x => (x.1 m).1) h

theorem held_expected (h : t.held = s.held) (m : Loc) : (t.loc m).expected = (s.loc m).expected :=
  congrArg (fun x => (x.1 m).2) h

theorem held_jams (h : t.held = s.held) : t.loader.counters.jams = s.loader.counters.jams := congrArg (·.2.1) h
theorem held_timeouts (h : t.held = s.held) : t.loader.counters.timeouts = s.loader.counters.timeouts := congrArg (·.2.2.1) h
theorem held_errors (h : t.held = s.held) : t.loader.counters.protocolErrors = s.loader.counters.protocolErrors :=
  congrArg (·.2.2.2.1) h

/-! ## The request that the picker serves -/

theorem activeReq_some (h : s.activeReq = some r) : s.picker.active = some r.stamp ∧ s.findReq r.stamp = some r := by
  unfold State.activeReq at h
  obtain ⟨n, active, found⟩ := Option.bind_eq_some_iff.1 h
  have stamp : r.stamp = n := by
    have eq := List.find?_some found
    exact beq_iff_eq.1 eq
  rw [stamp]
  exact ⟨active, found⟩

theorem activeReq_of (active : t.picker.active = s.picker.active) (queue : t.loader.queue = s.loader.queue) :
    t.activeReq = s.activeReq := by
  have find : t.findReq = s.findReq := funext (findReq_of_queue queue)
  rw [State.activeReq, active, State.activeReq, find]

/-! ## A request ends, and its MOVE_END is written -/

theorem Says.mem (h : Says s t rs n) (space : s.ring.spaceFor k) (le : n ≤ k) (mem : x ∈ rs) (later : t.ring.buffer <+: v.ring.buffer) :
    x ∈ s.news v := by
  obtain ⟨ps, tells, filtered, few⟩ := h
  rw [← filtered] at mem
  exact (tells.news_prefix space (few.trans le) later).subset (List.mem_filter.1 mem).1

/-- R153: the MOVE_END of a request stands among the records of an event with room for them. -/
def MoveEndTold (s v : State) (r : Req) (o : CmdOutcome) (legs : Nat) : Prop :=
  s.ring.spaceFor 8 → ∃ m ∈ s.news v, m.kind = .moveEnd ∧ m.byte1 = o.code ∧ m.tag = (if r.internal then 0 else r.id)
    ∧ m.e0 = o.cause ∧ m.e1 = w32 r.kind.code ∧ m.e4 = r.id.setWidth 32 ∧ m.e5 = w32 legs

/-- The picker serves no request, and the request's MOVE_END is written. -/
def ReqReported (s v : State) (r : Req) (o : CmdOutcome) (legs : Nat) : Prop :=
  v.picker.active = none ∧ MoveEndTold s v r o legs

/-- R153: the request has left the queue with its outcome. -/
def ReqEnded (s v : State) (r : Req) (o : CmdOutcome) (legs : Nat) : Prop :=
  (s.loader.preempt = none ∨ o = .done → v.loader.queue = s.loader.queue.filter (·.stamp ≠ r.stamp)) ∧ ReqReported s v r o legs

/-- Two requests of one name, kind and origin. -/
def Req.sameName (q r : Req) : Prop := q.stamp = r.stamp ∧ q.id = r.id ∧ q.internal = r.internal ∧ q.kind = r.kind

theorem moveEndTold_of (tells : Says s t rs n) (few : n ≤ 6) (same : q.sameName r)
    (later : (t.reqTold q e).ring.buffer <+: v.ring.buffer) : MoveEndTold s v r e.outcome q.legsDone := by
  intro space
  obtain ⟨-, id, internal, kind⟩ := same
  have both := tells.trans (reqTold_says t q e)
  refine ⟨_, both.mem space (by omega) (List.mem_append_right _ (List.mem_append_right _ (List.mem_singleton_self _))) later,
    rfl, rfl, ?_, rfl, ?_, ?_, rfl⟩
  · rw [← id, ← internal]
    rfl
  · rw [← kind]
    rfl
  · rw [← id]
    rfl

theorem closeReq_later (t : State) (q : Req) (e : ReqEnd) : (t.reqTold q e).ring.buffer <+: (t.closeReq q e).ring.buffer :=
  ((Works.refl (t.reqTold q e)).endWaiting q.stamp e).buffer

theorem endReq_later (t : State) (q : Req) (e : ReqEnd) : (t.reqTold q e).ring.buffer <+: (t.endReq q e).ring.buffer :=
  endReq_keeps (P := fun w => (t.reqTold q e).ring.buffer <+: w.ring.buffer)
    (fun w h => h.trans (Works.refl w).endPreempt.buffer) (fun w p h => h.trans ((Works.refl w).beginRemount p).buffer)
    (closeReq_later t q e)

theorem outcome_done (h : e.outcome = .done) : e = .done := by
  cases e with
  | done => rfl
  | failed c => cases h
  | cancelled => cases h

theorem endReq_queue (h : t.loader.preempt = none ∨ e = .done) (q : Req) :
    (t.endReq q e).loader.queue = t.loader.queue.filter (·.stamp ≠ q.stamp) := by
  obtain alone | rfl := h
  · rw [State.endReq_of_no_preempt t q e alone, (t.closeReq_loader q e).1]
  · rw [State.endReq_done t q, (t.closeReq_loader q .done).1]

theorem endReq_ended (tells : Says s t rs n) (few : n ≤ 6) (same : q.sameName r)
    (queue : t.loader.queue.filter (·.stamp ≠ r.stamp) = s.loader.queue.filter (·.stamp ≠ r.stamp))
    (preempt : s.loader.preempt = none → t.loader.preempt = none)
    (active : t.picker.active = some q.stamp ∨ t.picker.active = none) : ReqEnded s (t.endReq q e) r e.outcome q.legsDone := by
  refine ⟨fun h => ?_, ?_, moveEndTold_of tells few same (endReq_later t q e)⟩
  · rw [endReq_queue (h.imp preempt outcome_done), same.1, queue]
  · obtain served | idle := active
    · rw [endReq_picker served]
    · rw [endReq_picker_idle idle, idle]

/-! ## The picker's faults (R143) -/

/-- R143: what is so once the picker has faulted on an order. -/
def PickerFaulted (s v : State) (c : Cause) (o : Order) : Prop :=
  v.picker.state = .faulted ∧ v.picker.fault = some c ∧ v.picker.pos = none ∧ v.picker.inFlight = false
  ∧ v.picker.cut = false ∧ v.picker.cart = s.picker.cart ∧ v.picker.recovery = none
  ∧ (∀ l, o.loc = some l → o.stage = .grip ∨ o.stage = .release → (v.loc l).expected = none)
  ∧ (s.picker.active = none → v.loader.queue = s.loader.queue ∧ v.chans = s.chans)
  ∧ (∀ r, s.activeReq = some r → ReqEnded s v r (.failed c) r.legsDone)
  ∧ (s.ring.spaceFor 8 → s.loader.preempt = none → (∀ r i, s.activeReq = some r → (s.session i).mountReq ≠ some r.stamp) →
      (s.news v).getLast? = some (faultedRecord s.picker.state o c (match s.activeReq with | some r => r.id.toNat | none => 0)
        s.picker.cart.isSome s.picker.recovery))

/-- A state in which the order has left its flight, and nothing else of what a fault looks at has changed. -/
structure OutOfFlight (s t : State) : Prop where
  picker : ∃ x y, t.picker = { s.picker with order := x, inFlight := y }
  queue : t.loader.queue = s.loader.queue
  preempt : t.loader.preempt = s.loader.preempt
  chans : t.chans = s.chans
  restore : t.restore = s.restore
  told : Says s t [] 1

/-- R143: the order's expectation is cleared, and the picker stands nowhere. -/
def State.stopped (s : State) (cause : Cause) (o : Order) : State := (s.clearExpectation o).modPicker fun p =>
  { p with inFlight := false, pos := none, cut := false, fault := some cause }

/-- R143: the request that the picker served has ended. -/
def State.reqFaulted (s : State) (cause : Cause) : State :=
  match s.activeReq with
  | some r => s.endReq r (.failed cause)
  | none => s

/-- R143: the fault is counted, and the picker's state follows. -/
def State.faultCounted (s : State) (cause : Cause) : State := (s.countLoader fun c => c.countFault cause).setPicker .faulted

theorem faultPicker_eq (s : State) (cause : Cause) (o : Order) : s.faultPicker cause o =
    ((((s.stopped cause o).reqFaulted cause).faultCounted cause).emit (faultedRecord s.picker.state o cause
      (match s.activeReq with | some r => r.id.toNat | none => 0)
      (((s.stopped cause o).reqFaulted cause).faultCounted cause).picker.cart.isSome
      (((s.stopped cause o).reqFaulted cause).faultCounted cause).picker.recovery)).modPicker fun p =>
        { p with recovery := none } := rfl

theorem clearExpectation_same {β : Type} (g : State → β) (loc : ∀ t l f, g (State.modLoc t l f) = g t) (s : State) (o : Order) :
    g (s.clearExpectation o) = g s := by
  unfold State.clearExpectation
  split
  · exact loc _ _ _
  · rfl

theorem clearExpectation_awaits (loc : o.loc = some l) (stage : o.stage = .grip ∨ o.stage = .release) :
    ((s.clearExpectation o).loc l).expected = none := by
  have clears : s.clearExpectation o = s.modLoc l fun x => { x with expected := none } := by
    obtain stage | stage := stage <;> simp only [State.clearExpectation, stage, loc, Stage.expects]
  rw [clears, State.loc_modLoc_self]

theorem stopped_picker (s : State) (cause : Cause) (o : Order) : (s.stopped cause o).picker =
    { s.picker with inFlight := false, pos := none, cut := false, fault := some cause } := by
  have same := clearExpectation_same (·.picker) (fun _ _ _ => rfl) s o
  rw [← same]
  rfl

theorem stopped_same {β : Type} (g : State → β) (loc : ∀ t l f, g (State.modLoc t l f) = g t)
    (picker : ∀ t f, g (State.modPicker t f) = g t) (s : State) (cause : Cause) (o : Order) : g (s.stopped cause o) = g s :=
  (picker _ _).trans (clearExpectation_same g loc s o)

theorem stopped_activeReq (s : State) (cause : Cause) (o : Order) : (s.stopped cause o).activeReq = s.activeReq :=
  activeReq_of (by rw [stopped_picker]) (stopped_same (·.loader.queue) (fun _ _ _ => rfl) (fun _ _ => rfl) s cause o)

theorem setPicker_picker (s : State) (p : PickState) : (s.setPicker p).picker = { s.picker with state := p } := by
  rw [State.picker, setPicker_loader]

theorem setPicker_queue (s : State) (p : PickState) : (s.setPicker p).loader.queue = s.loader.queue := by rw [setPicker_loader]

theorem setPicker_loc (s : State) (p : PickState) (m : Loc) : (s.setPicker p).loc m = s.loc m := by
  rw [State.loc, setPicker_loader, State.loc]

theorem setPicker_preempt (s : State) (p : PickState) : (s.setPicker p).loader.preempt = s.loader.preempt := by rw [setPicker_loader]

theorem setPicker_counters (s : State) (p : PickState) : (s.setPicker p).loader.counters = s.loader.counters := by rw [setPicker_loader]

theorem setPicker_held (s : State) (p : PickState) : (s.setPicker p).held = s.held :=
  held_of_loader (fun m => by rw [setPicker_loc]; exact ⟨rfl, rfl⟩) (by rw [setPicker_counters]) (by rw [setPicker_counters])
    (by rw [setPicker_counters]) (by rw [setPicker_counters]) (by rw [setPicker_counters])

theorem reqFaulted_held (s : State) (cause : Cause) : (s.reqFaulted cause).held = s.held := by
  unfold State.reqFaulted
  split
  · exact endReq_held _ _ _
  · rfl

theorem reqFaulted_picker (cut : s.picker.cut = false) (cause : Cause) : ∃ a,
    (s.reqFaulted cause).picker = { s.picker with active := a } ∧ (s.activeReq ≠ none → a = none) := by
  unfold State.reqFaulted
  split
  · next r found =>
    refine ⟨none, ?_, fun _ => rfl⟩
    rw [endReq_picker (activeReq_some found).1, ← cut]
  · next none => exact ⟨s.picker.active, rfl, fun h => absurd none h⟩

theorem faultCounted_counts (s : State) (cause : Cause) : (s.faultCounted cause).loader.counters = s.loader.counters.countFault cause := by
  rw [State.faultCounted, setPicker_counters]
  rfl

theorem faultPicker_loader (s : State) (cause : Cause) (o : Order) : (s.faultPicker cause o).loader =
    { (((s.stopped cause o).reqFaulted cause).faultCounted cause).loader with
      picker := { (((s.stopped cause o).reqFaulted cause).faultCounted cause).picker with recovery := none } } := by
  rw [faultPicker_eq, State.modPicker, State.modLoader_loader, State.emit_loader]
  rfl

/-- R143: the picker that has faulted. -/
theorem faultPicker_picker (s : State) (cause : Cause) (o : Order) : ∃ a, (s.faultPicker cause o).picker =
      { s.picker with inFlight := false, pos := none, cut := false, fault := some cause, active := a, state := .faulted
                      recovery := none }
    ∧ (s.activeReq ≠ none → a = none) := by
  obtain ⟨a, picker, idle⟩ := reqFaulted_picker (s := s.stopped cause o) (by rw [stopped_picker]) cause
  rw [stopped_activeReq] at idle
  refine ⟨a, ?_, idle⟩
  have counted : (((s.stopped cause o).reqFaulted cause).faultCounted cause).picker =
      { ((s.stopped cause o).reqFaulted cause).picker with state := .faulted } := setPicker_picker _ _
  rw [State.picker, faultPicker_loader, counted, picker, stopped_picker]

theorem faultPicker_counts (s : State) (cause : Cause) (o : Order) :
    (s.faultPicker cause o).loader.counters.jams = (s.loader.counters.countFault cause).jams
    ∧ (s.faultPicker cause o).loader.counters.timeouts = (s.loader.counters.countFault cause).timeouts
    ∧ (s.faultPicker cause o).loader.counters.protocolErrors = (s.loader.counters.countFault cause).protocolErrors := by
  have counters : (s.faultPicker cause o).loader.counters =
      ((s.stopped cause o).reqFaulted cause).loader.counters.countFault cause := by
    rw [faultPicker_loader]
    exact faultCounted_counts _ cause
  have held := reqFaulted_held (s.stopped cause o) cause
  have before := stopped_same (·.loader.counters) (fun _ _ _ => rfl) (fun _ _ => rfl) s cause o
  have jams := held_jams held
  have timeouts := held_timeouts held
  have errors := held_errors held
  rw [before] at jams timeouts errors
  rw [counters]
  cases cause <;> simp only [LoaderCounters.countFault, jams, timeouts, errors, and_self]

end Sys2Proof.Machine
end

section
/-! The picker's faults, RECOVER_PICKER and RESET_LOADER (7.7, 7.8). -/

namespace Sys2Proof.Machine

variable {s t u v w : State} {L M : Loader} {st : Stage} {o : Order} {r q : Req} {l m : Loc} {e : ReqEnd} {n k : Nat}
  {rs qs : List Record} {x : Record} {d : Drive} {cause : Cause} {out : CmdOutcome}

/-! ## What follows the end of a request -/

theorem news_mono (later : t.ring.buffer <+: v.ring.buffer) : s.news t <+: s.news v :=
  (later.drop s.ring.buffer.length).map _

theorem MoveEndTold.later (h : MoveEndTold s t r out n) (later : t.ring.buffer <+: v.ring.buffer) : MoveEndTold s v r out n :=
  fun space => by
    obtain ⟨m, mem, fields⟩ := h space
    exact ⟨m, (news_mono later).subset mem, fields⟩

theorem ReqReported.later (h : ReqReported s t r out n) (active : v.picker.active = t.picker.active)
    (later : t.ring.buffer <+: v.ring.buffer) : ReqReported s v r out n := ⟨active.trans h.1, h.2.later later⟩

theorem ReqEnded.later (h : ReqEnded s t r out n) (queue : v.loader.queue = t.loader.queue)
    (active : v.picker.active = t.picker.active) (later : t.ring.buffer <+: v.ring.buffer) : ReqEnded s v r out n :=
  ⟨fun k => queue.trans (h.1 k), h.2.later active later⟩

theorem Says.last (h : Says s t rs n) (fresh : x.dropped = 0) (space : s.ring.spaceFor k) (le : n + 1 ≤ k) :
    (s.news (t.emit x)).getLast? = some x := by
  obtain ⟨ps, tells, -, few⟩ := h
  have all := (tells.then_emit fresh).news space (by rw [List.length_append, List.length_singleton]; omega)
  rw [all, List.getLast?_append_of_ne_nil _ (List.cons_ne_nil _ _)]
  rfl

theorem Says.stopped (h : Says s t rs n) (cause : Cause) (o : Order) : Says s (t.stopped cause o) rs n :=
  h.then_ring (stopped_same (·.ring) (fun _ _ _ => rfl) (fun _ _ => rfl) t cause o)

theorem OutOfFlight.activeReq (h : OutOfFlight s t) : t.activeReq = s.activeReq := by
  obtain ⟨a, b, picker⟩ := h.picker
  exact activeReq_of (by rw [picker]) h.queue

theorem OutOfFlight.session (h : OutOfFlight s t) (i : SessionId) : t.session i = s.session i := session_of_restore h.restore i

theorem faultedRecord_fresh (p : PickState) (o : Order) (cause : Cause) (n : Nat) (b : Bool) (c : Option Half) :
    (faultedRecord p o cause n b c).dropped = 0 := by
  unfold faultedRecord
  split <;> rfl

/-- R143: a fault of the picker. -/
theorem faultPicker_faulted (h : OutOfFlight s t) (cause : Cause) (o : Order) : PickerFaulted s (t.faultPicker cause o) cause o
    ∧ (t.faultPicker cause o).picker.order = t.picker.order := by
  have active := h.activeReq
  have stoppedActive := (stopped_activeReq t cause o).trans active
  obtain ⟨x, y, was⟩ := h.picker
  obtain ⟨a, picker, idle⟩ := faultPicker_picker t cause o
  obtain ⟨queue, preempt, chans⟩ := And.intro h.queue (And.intro h.preempt h.chans)
  have stoppedQueue : (t.stopped cause o).loader.queue = s.loader.queue :=
    (stopped_same (·.loader.queue) (fun _ _ _ => rfl) (fun _ _ => rfl) t cause o).trans queue
  have stoppedPreempt : (t.stopped cause o).loader.preempt = s.loader.preempt :=
    (stopped_same (·.loader.preempt) (fun _ _ _ => rfl) (fun _ _ => rfl) t cause o).trans preempt
  have stoppedChans : (t.stopped cause o).chans = s.chans :=
    (stopped_same (·.chans) (fun _ _ _ => rfl) (fun _ _ => rfl) t cause o).trans chans
  have stoppedRestore : (t.stopped cause o).restore = s.restore :=
    (stopped_same (·.restore) (fun _ _ _ => rfl) (fun _ _ => rfl) t cause o).trans h.restore
  have told := h.told.stopped cause o
  have lastQueue : (t.faultPicker cause o).loader.queue = ((t.stopped cause o).reqFaulted cause).loader.queue := by
    rw [faultPicker_loader]
    exact setPicker_queue _ _
  have lastLoc (m : Loc) : (t.faultPicker cause o).loc m = ((t.stopped cause o).reqFaulted cause).loc m := by
    rw [State.loc, faultPicker_loader]
    exact setPicker_loc _ _ m
  have lastChans : (t.faultPicker cause o).chans = ((t.stopped cause o).reqFaulted cause).chans := by
    rw [faultPicker_eq, State.modPicker_chans, State.emit_chans]
    exact State.setPicker_chans _ _
  have later : ((t.stopped cause o).reqFaulted cause).ring.buffer <+: (t.faultPicker cause o).ring.buffer := by
    rw [faultPicker_eq]
    exact (((((Works.refl ((t.stopped cause o).reqFaulted cause)).countLoader fun c => c.countFault cause).setPicker .faulted).emit
      _).modPicker _).buffer
  have record : (t.faultPicker cause o).ring = ((((t.stopped cause o).reqFaulted cause).faultCounted cause).emit
      (faultedRecord s.picker.state o cause (match s.activeReq with | some r => r.id.toNat | none => 0) s.picker.cart.isSome
        s.picker.recovery)).ring := by
    obtain ⟨b, served, -⟩ := reqFaulted_picker (s := t.stopped cause o) (by rw [stopped_picker]) cause
    have counted : (((t.stopped cause o).reqFaulted cause).faultCounted cause).picker =
        { ((t.stopped cause o).reqFaulted cause).picker with state := .faulted } := setPicker_picker _ _
    rw [faultPicker_eq, counted, served, stopped_picker, active, was]
    rfl
  rw [PickerFaulted, picker, was]
  refine ⟨⟨rfl, rfl, rfl, rfl, rfl, rfl, rfl, fun l loc stage => ?_, fun none_ => ?_, fun r found => ?_, fun space alone apart => ?_⟩, rfl⟩
  · rw [lastLoc, held_expected (reqFaulted_held _ cause)]
    exact clearExpectation_awaits loc stage
  · have noReq : (t.stopped cause o).reqFaulted cause = t.stopped cause o := by
      unfold State.reqFaulted
      rw [stoppedActive, State.activeReq, none_]
      rfl
    rw [lastQueue, lastChans, noReq]
    exact ⟨stoppedQueue, stoppedChans⟩
  · have serves : (t.stopped cause o).reqFaulted cause = (t.stopped cause o).endReq r (.failed cause) := by
      unfold State.reqFaulted
      rw [stoppedActive, found]
    have served : (t.stopped cause o).picker.active = some r.stamp := by
      rw [stopped_picker, was]
      exact (activeReq_some found).1
    have ended := endReq_ended (e := .failed cause) told (by omega) (q := r) ⟨rfl, rfl, rfl, rfl⟩ (by rw [stoppedQueue])
      (fun none_ => stoppedPreempt.trans none_) (.inl served)
    rw [← serves] at ended
    refine ended.later lastQueue ?_ later
    rw [picker, serves, endReq_picker served]
    exact idle (by rw [active, found]; exact (nomatch ·))
  · have quiet : ∃ ps n, Says s ((t.stopped cause o).reqFaulted cause) ps n ∧ n ≤ 3 := by
      cases found : s.activeReq with
      | none =>
        have noReq : (t.stopped cause o).reqFaulted cause = t.stopped cause o := by
          unfold State.reqFaulted
          rw [stoppedActive, found]
        rw [noReq]
        exact ⟨_, _, told, by omega⟩
      | some r =>
        have serves : (t.stopped cause o).reqFaulted cause = (t.stopped cause o).endReq r (.failed cause) := by
          unfold State.reqFaulted
          rw [stoppedActive, found]
        rw [serves, State.endReq_of_no_preempt _ _ _ (stoppedPreempt.trans alone), closeReq_quiet (.inr fun i => ?_)]
        · exact ⟨_, _, told.trans (reqTold_says _ r _), Nat.le_refl 3⟩
        · rw [session_of_restore stoppedRestore]
          exact apart r i found
    obtain ⟨ps, n, told', few⟩ := quiet
    have counted : Says s (((t.stopped cause o).reqFaulted cause).faultCounted cause) ps (n + 1) :=
      (told'.then_ring (u := ((t.stopped cause o).reqFaulted cause).countLoader fun c => c.countFault cause) rfl).setPicker .faulted
    rw [State.news, record]
    exact counted.last (faultedRecord_fresh _ _ _ _ _ _) space (by omega)

/-! ## Homing starts (R145, R146) -/

theorem nextOrder_eq (n : Nat) : nextOrder n = if n = 255 then 1 else n + 1 := rfl

/-- R145: the picker homes, and the HOME order is sent where nothing is in its way. -/
theorem homeTest_homing (h : s.picker.state = .homing) : ∃ x f n c,
    Loaded s.homeTest { s.loader with picker := { s.picker with order := x, inFlight := f, nextNumber := n }, counters := c } := by
  unfold State.homeTest
  split
  · have sent := (Loaded.self s).sendOrder .home none
    rw [Loader.ordered] at sent
    have home : Stage.home.pickState = s.picker.state := h.symm
    rw [home] at sent
    exact ⟨_, _, _, _, sent⟩
  · exact ⟨s.picker.order, s.picker.inFlight, s.picker.nextNumber, s.loader.counters, Loaded.self s⟩

theorem startHoming_loaded (s : State) (goal : HomeTo) : ∃ x f n c, Loaded (s.startHoming goal)
    { s.loader with
      picker := { s.picker with homeTo := goal, state := .homing, order := x, inFlight := f, nextNumber := n }, counters := c } := by
  have set := ((Loaded.self s).modPicker fun p => { p with homeTo := goal }).setPicker .homing
  obtain ⟨x, f, n, c, b, sent⟩ := homeTest_homing (s := (s.modPicker fun p => { p with homeTo := goal }).setPicker .homing)
    (by rw [setPicker_picker])
  refine ⟨x, f, n, c, b, ?_⟩
  rw [State.startHoming, sent, set.picker]
  obtain ⟨b', eq⟩ := set
  rw [eq]
  rfl

theorem sendOrder_chans (s : State) (st : Stage) (l : Option Loc) : (s.sendOrder st l).chans = s.chans := by
  unfold State.sendOrder
  extract_lets s1 s2
  refine (State.setPicker_chans _ _).trans ?_
  change s1.chans = _
  unfold s1
  split <;> rfl

theorem homeTest_chans (s : State) : s.homeTest.chans = s.chans := by
  unfold State.homeTest
  split
  · exact sendOrder_chans _ _ _
  · rfl

theorem startHoming_chans (s : State) (goal : HomeTo) : (s.startHoming goal).chans = s.chans :=
  (homeTest_chans _).trans ((State.setPicker_chans _ _).trans rfl)

/-! ## RECOVER_PICKER (R145) -/

theorem exec_recoverPicker (tag : Half) (s : State) :
    exec (.recoverPicker tag) s = .next (s.command (.recoverPicker tag) 0x49 tag (settled (recoverRule tag))) := rfl

theorem exec_resetLoader (tag : Half) (s : State) :
    exec (.resetLoader tag) s = .next (s.command (.resetLoader tag) 0x4A tag (settled resetLoaderRule)) := rfl

theorem recover_ends (s : State) (tag : Half) :
    (s.picker.state ≠ .faulted → TurnedAway (.recoverPicker tag) 0x49 tag .refusedState s)
    ∧ (s.picker.state = .faulted → ∃ v, EndsSettled (.recoverPicker tag) 0x49 tag .accepted s v
        ∧ v.picker.state = .homing ∧ v.picker.recovery = some tag ∧ v.picker.cart = s.picker.cart
        ∧ v.loader.queue = s.loader.queue ∧ v.mem = s.mem ∧ v.chans = s.chans) := by
  refine ⟨fun live => turnedAway_of_settled (exec_recoverPicker tag s) (if_neg live) rfl, fun faulted => ?_⟩
  refine ⟨_, endsSettled_of_settled (exec_recoverPicker tag s) (if_pos faulted) rfl, ?_⟩
  obtain ⟨x, f, n, c, loaded⟩ := startHoming_loaded (s.atOwner.modPicker fun p => { p with recovery := some tag }) .legSource
  rw [loaded.picker, loaded.queue, startHoming_chans]
  exact ⟨rfl, rfl, rfl, rfl, mem_of_outside (State.startHoming_outside _ _), rfl⟩

/-! ## RESET_LOADER (R146) -/

/-- What RESET_LOADER looks at, of a loader. -/
def Loader.settings (l : Loader) : List Req × Option Preempt × Picker × Bool × List (Fin 24) :=
  (l.queue, l.preempt, l.picker, l.doorLockFlag, l.scratch)

theorem presenceChange_settings (s : State) (l : Loc) (full : Bool) :
    (s.presenceChange l full).loader.settings = s.loader.settings := by
  have byHand : (s.manualChange l full).loader.settings = s.loader.settings := by
    rw [manualChange_eq, State.emit_loader]
    unfold State.cartChanged
    split <;> rfl
  have changed : (if (s.loc l).expected = some full then s.modLoc l fun x => { x with expected := none }
      else s.manualChange l full).loader.settings = s.loader.settings := by
    split
    · rfl
    · exact byHand
  unfold State.presenceChange
  extract_lets s1
  have first : s1.loader.settings = s.loader.settings := changed
  split
  · exact first
  · exact first

theorem rejudge_settings (s : State) (l : Loc) : (s.rejudge l).loader.settings = s.loader.settings := by
  unfold State.rejudge
  extract_lets x f t
  split
  · rfl
  · rw [placeChange_loader, State.presenceSeen]
    split
    · exact (presenceChange_settings t l _).trans rfl
    · rfl

theorem rejudge_raw (s : State) (l : Loc) (x : Sensor) : ((s.rejudge l).filter x).raw = (s.filter x).raw := by
  have set : ((s.setFilter (presenceSensor l) { s.filter (presenceSensor l) with
      debounced := (s.filter (presenceSensor l)).raw, candidate := none, deadline := none }).filter x).raw = (s.filter x).raw := by
    by_cases same : x = presenceSensor l
    · rw [same, filter_setFilter_self]
    · rw [filter_setFilter_ne _ _ same]
  unfold State.rejudge
  extract_lets y f t
  split
  · exact set
  · rw [filter_of_filters (?_ : _ = t.loader.filters)]
    · exact set
    · rw [placeChange_loader, State.presenceSeen]
      split
      · exact (presenceChange_rest t l _).2.1
      · rfl

/-- What an end of a request takes from the queue, without a preempt, and what it leaves. -/
theorem endStamp_effect (alone : s.loader.preempt = none) (n : Nat) :
    (∀ r ∈ (s.endStamp n .cancelled).loader.queue, r ∈ s.loader.queue ∧ r.stamp ≠ n)
    ∧ (s.endStamp n .cancelled).loader.preempt = none
    ∧ (s.endStamp n .cancelled).loader.doorLockFlag = s.loader.doorLockFlag
    ∧ (s.endStamp n .cancelled).loader.scratch = s.loader.scratch
    ∧ (s.endStamp n .cancelled).loader.filters = s.loader.filters := by
  unfold State.endStamp
  cases found : s.findReq n with
  | none =>
    refine ⟨fun r mem => ⟨mem, fun eq => ?_⟩, alone, rfl, rfl, rfl⟩
    exact absurd (beq_iff_eq.2 eq) (List.find?_eq_none.1 found r mem)
  | some q =>
    have stamp : q.stamp = n := by
      have eq := List.find?_some found
      exact beq_iff_eq.1 eq
    dsimp only
    rw [State.endReq_of_no_preempt _ _ _ alone, closeReq_reqLeft]
    refine ⟨fun r mem => ?_, alone, rfl, rfl, rfl⟩
    obtain ⟨mem, apart⟩ := List.mem_filter.1 mem
    exact ⟨mem, stamp ▸ of_decide_eq_true apart⟩

theorem endStamps_effect : ∀ (ns : List Nat) {s : State}, s.loader.preempt = none →
    (∀ r ∈ (forEach ns (fun n t => t.endStamp n .cancelled) s).loader.queue, r ∈ s.loader.queue ∧ r.stamp ∉ ns)
    ∧ (forEach ns (fun n t => t.endStamp n .cancelled) s).loader.preempt = none
    ∧ (forEach ns (fun n t => t.endStamp n .cancelled) s).loader.doorLockFlag = s.loader.doorLockFlag
    ∧ (forEach ns (fun n t => t.endStamp n .cancelled) s).loader.scratch = s.loader.scratch
    ∧ (forEach ns (fun n t => t.endStamp n .cancelled) s).loader.filters = s.loader.filters
  | [], s, alone => ⟨fun r mem => ⟨mem, List.not_mem_nil⟩, alone, rfl, rfl, rfl⟩
  | n :: ns, s, alone => by
    obtain ⟨queue, preempt, flag, scratch, filters⟩ := endStamp_effect alone n
    obtain ⟨queue', preempt', flag', scratch', filters'⟩ := endStamps_effect ns preempt
    refine ⟨fun r mem => ?_, preempt', flag'.trans flag, scratch'.trans scratch, filters'.trans filters⟩
    obtain ⟨mem', apart⟩ := queue' r mem
    obtain ⟨mem'', ne⟩ := queue r mem'
    exact ⟨mem'', fun mem => (List.mem_cons.1 mem).elim ne apart⟩

theorem cancelAll_effect (alone : s.loader.preempt = none) : s.cancelAll.loader.queue = [] ∧ s.cancelAll.loader.preempt = none
    ∧ s.cancelAll.loader.doorLockFlag = s.loader.doorLockFlag ∧ s.cancelAll.loader.scratch = s.loader.scratch
    ∧ s.cancelAll.loader.filters = s.loader.filters := by
  unfold State.cancelAll
  extract_lets active
  obtain ⟨queue, rest⟩ := endStamps_effect (active ++ s.loader.queue.map (·.stamp)) alone
  refine ⟨List.eq_nil_iff_forall_not_mem.2 fun r mem => ?_, rest⟩
  obtain ⟨mem, apart⟩ := queue r mem
  exact apart (List.mem_append_right _ (List.mem_map.2 ⟨r, mem, rfl⟩))

/-- R146: the queue is empty, and no recovery is in progress any more. -/
def State.resetCancelled (s : State) : State :=
  (if s.loader.preempt.isSome then s.endPreempt else s).cancelAll.endRecovery .cancelled 0

/-- R146: no order is in flight, and no location awaits one. -/
def State.resetStopped (s : State) : State :=
  (s.resetCancelled.modPicker fun p => { p with active := none, inFlight := false, cut := false }).modLoader fun l =>
    { l with locs := l.locs.map fun x => { x with expected := none } }

theorem resetLoaderRule_eq (s : State) : resetLoaderRule s =
    ((forEach allLocs (fun l t => t.rejudge l) s.resetStopped).startHoming .mail).ok := rfl

theorem endRecovery_loader (s : State) (c : CmdOutcome) (w : Word) : (s.endRecovery c w).loader =
    { s.loader with picker := { s.picker with recovery := none } } := by
  unfold State.endRecovery
  split
  · next h =>
    rw [← h]
    rfl
  · rw [State.modPicker, State.modLoader_loader, State.emit_loader]
    rfl

theorem resetCancelled_effect (s : State) : s.resetCancelled.loader.queue = [] ∧ s.resetCancelled.loader.preempt = none
    ∧ s.resetCancelled.loader.doorLockFlag = s.loader.doorLockFlag ∧ s.resetCancelled.loader.scratch = s.loader.scratch
    ∧ s.resetCancelled.loader.filters = s.loader.filters ∧ s.resetCancelled.picker.recovery = none := by
  obtain ⟨alone, flag, scratch, filters⟩ : (if s.loader.preempt.isSome then s.endPreempt else s).loader.preempt = none
      ∧ (if s.loader.preempt.isSome then s.endPreempt else s).loader.doorLockFlag = s.loader.doorLockFlag
      ∧ (if s.loader.preempt.isSome then s.endPreempt else s).loader.scratch = s.loader.scratch
      ∧ (if s.loader.preempt.isSome then s.endPreempt else s).loader.filters = s.loader.filters := by
    split
    · rw [endPreempt_loader]
      exact ⟨rfl, rfl, rfl, rfl⟩
    · next h => exact ⟨Option.not_isSome_iff_eq_none.1 h, rfl, rfl, rfl⟩
  obtain ⟨queue, preempt, flag', scratch', filters'⟩ := cancelAll_effect alone
  rw [State.picker, State.resetCancelled, endRecovery_loader]
  exact ⟨queue, preempt, flag'.trans flag, scratch'.trans scratch, filters'.trans filters, rfl⟩

theorem reset_ends (s : State) (tag : Half) : ∃ v, EndsSettled (.resetLoader tag) 0x4A tag .done s v ∧ v.loader.queue = []
    ∧ v.loader.preempt = none ∧ v.picker.state = .homing ∧ v.picker.recovery = none ∧ v.picker.active = none
    ∧ v.loader.doorLockFlag = s.loader.doorLockFlag ∧ v.loader.scratch = s.loader.scratch
    ∧ (∀ x : Sensor, (v.filter x).raw = (s.filter x).raw) ∧ v.mem = s.mem := by
  obtain ⟨queue, preempt, flag, scratch, filters, recovery⟩ := resetCancelled_effect s.atOwner
  have judged : (forEach allLocs (fun l t => t.rejudge l) s.atOwner.resetStopped).loader.settings =
      s.atOwner.resetStopped.loader.settings :=
    forEach_same (·.loader.settings) _ (fun l t => rejudge_settings t l) _ _
  have raw (x : Sensor) : ((forEach allLocs (fun l t => t.rejudge l) s.atOwner.resetStopped).filter x).raw = (s.filter x).raw := by
    rw [forEach_same (fun t : State => (t.filter x).raw) _ (fun l t => rejudge_raw t l x) allLocs s.atOwner.resetStopped,
      filter_of_filters (show s.atOwner.resetStopped.loader.filters = s.loader.filters from filters)]
  obtain ⟨p, f, n, c, loaded⟩ := startHoming_loaded (forEach allLocs (fun l t => t.rejudge l) s.atOwner.resetStopped) .mail
  have outside : (forEach allLocs (fun l t => t.rejudge l) s.atOwner.resetStopped).outside = s.atOwner.resetStopped.outside :=
    forEach_same (·.outside) _ (fun l t => State.rejudge_outside t l) _ _
  have cancelled : s.atOwner.resetCancelled.outside = s.atOwner.outside := by
    unfold State.resetCancelled
    split <;> simp
  refine ⟨_, endsSettled_of_settled (exec_resetLoader tag s) (resetLoaderRule_eq s.atOwner) rfl, ?_⟩
  have mem := mem_of_outside ((State.startHoming_outside (forEach allLocs (fun l t => t.rejudge l) s.atOwner.resetStopped)
    .mail).trans (outside.trans cancelled))
  clear outside
  generalize forEach allLocs (fun l t => t.rejudge l) s.atOwner.resetStopped = w at *
  simp only [Loader.settings, Prod.mk.injEq] at judged
  obtain ⟨queue', preempt', picker', flag', scratch'⟩ := judged
  have filters' : (w.startHoming .mail).loader.filters = w.loader.filters := loaded.filters
  have served : w.picker.active = none := congrArg Picker.active picker'
  have tag' : w.picker.recovery = none := (congrArg Picker.recovery picker').trans recovery
  refine ⟨?_, ?_, ?_, ?_, ?_, ?_, ?_, fun x => ?_, mem⟩
  · rw [loaded.queue]
    exact queue'.trans queue
  · rw [loaded.preempt]
    exact preempt'.trans preempt
  · rw [loaded.picker]
  · rw [loaded.picker]
    exact tag'
  · rw [loaded.picker]
    exact served
  · obtain ⟨b, eq⟩ := loaded
    rw [eq]
    exact flag'.trans flag
  · rw [loaded.scratch]
    exact scratch'.trans scratch
  · rw [filter_of_filters filters']
    exact raw x

end Sys2Proof.Machine
end

section
/-! Orders that are sent, replies that act on none, timeouts, and an opening of the door (R136, R141, R143). -/

namespace Sys2Proof.Machine

variable {s t u v w : State} {L M : Loader} {st : Stage} {o : Order} {r q : Req} {l m : Loc} {e : ReqEnd} {n k : Nat}
  {rs qs : List Record} {x : Record} {d : Drive} {cause : Cause} {reply : Reply}

/-! ## An order is sent (R141, R142) -/

/-- R141: an order has been sent. -/
def OrderSent (s v : State) (st : Stage) (l : Option Loc) : Prop :=
  v.picker.order = some { number := s.picker.nextNumber, stage := st, loc := l
                          deadline := v.timebase + timeoutMicros s.params.motionTimeout }
  ∧ v.picker.inFlight = true ∧ v.loader.counters.orders = s.loader.counters.orders.add 1
  ∧ v.picker.nextNumber = (if s.picker.nextNumber = 255 then 1 else s.picker.nextNumber + 1)

theorem sendOrder_picker (t : State) (st : Stage) (l : Option Loc) : (t.sendOrder st l).picker =
    { t.picker with
      order := some { number := t.picker.nextNumber, stage := st, loc := l
                      deadline := t.timebase + timeoutMicros t.params.motionTimeout }
      inFlight := true, nextNumber := nextOrder t.picker.nextNumber, state := st.pickState } :=
  ((Loaded.self t).sendOrder st l).picker

theorem expecting_queue (L : Loader) (st : Stage) (l : Option Loc) : (L.expecting st l).queue = L.queue := by
  unfold Loader.expecting
  split <;> rfl

theorem sendOrder_queue (t : State) (st : Stage) (l : Option Loc) : (t.sendOrder st l).loader.queue = t.loader.queue :=
  ((Loaded.self t).sendOrder st l).queue.trans (expecting_queue _ st l)

theorem sendOrder_counters (t : State) (st : Stage) (l : Option Loc) : (t.sendOrder st l).loader.counters =
    { t.loader.counters with orders := t.loader.counters.orders.add 1 } := ((Loaded.self t).sendOrder st l).counters

theorem sendOrder_loc (t : State) (st : Stage) (l : Option Loc) (m : Loc) : (t.sendOrder st l).loc m =
    (t.loader.expecting st l).locs[m] := ((Loaded.self t).sendOrder st l).loc m

theorem expecting_cart (L : Loader) (st : Stage) (l : Option Loc) (m : Loc) : (L.expecting st l).locs[m].cart = L.locs[m].cart := by
  unfold Loader.expecting
  split
  · next b y _ =>
    by_cases same : m = y
    · rw [same]
      exact (congrArg Location.cart (Vector.getElem_set_self y.isLt)).trans rfl
    · exact congrArg Location.cart (Vector.getElem_set_ne y.isLt m.isLt fun h => same (Fin.ext h).symm)
  · rfl

theorem sendOrder_cart (t : State) (st : Stage) (l : Option Loc) (m : Loc) : ((t.sendOrder st l).loc m).cart = (t.loc m).cart := by
  rw [sendOrder_loc]
  exact expecting_cart _ st l m

theorem sendOrder_awaits {b : Bool} (expects : st.expects = some b) (t : State) (l : Loc) :
    ((t.sendOrder st (some l)).loc l).expected = some b := by
  have set : t.loader.expecting st (some l) =
      { t.loader with locs := t.loader.locs.set l { t.loader.locs[l] with expected := some b } } := by
    simp only [Loader.expecting, expects]
  rw [sendOrder_loc, set]
  exact congrArg Location.expected (Vector.getElem_set_self l.isLt)

theorem sendOrder_locs (expects : st.expects = none) (t : State) (l : Option Loc) :
    (t.sendOrder st l).loader.locs = t.loader.locs := by
  have same : t.loader.expecting st l = t.loader := by
    simp only [Loader.expecting, expects]
  obtain ⟨b, eq⟩ := (Loaded.self t).sendOrder st l
  rw [eq]
  change (t.loader.expecting st l).locs = _
  rw [same]

theorem orderSent_of (number : t.picker.nextNumber = s.picker.nextNumber)
    (orders : t.loader.counters.orders = s.loader.counters.orders) (params : t.params = s.params) (st : Stage) (l : Option Loc) :
    OrderSent s (t.sendOrder st l) st l := by
  have timebase : (t.sendOrder st l).timebase = t.timebase := timebase_of_outside (State.sendOrder_outside t st l)
  rw [OrderSent, sendOrder_picker, sendOrder_counters, timebase, number, orders, params]
  exact ⟨rfl, rfl, rfl, rfl⟩

/-! ## Replies (R141, R146) -/

/-- R141: the order that was outstanding is so no more. -/
def State.replied (s : State) : State := s.modPicker fun p => { p with order := none, inFlight := false }

theorem exec_motionReply_stray (run : s.running = true) (h : ∀ o, s.picker.order = some o → o.number ≠ n) (reply : Reply) :
    exec (.motionReply n reply) s = .next (s.countLoader fun c => { c with strayReplies := c.strayReplies.add 1 }) := by
  change execMotionReply n reply s = _
  simp only [execMotionReply, run, Bool.not_true, Bool.false_eq_true, if_false]
  cases order : s.picker.order with
  | none => rfl
  | some o => exact if_neg (h o order)

theorem exec_motionReply (run : s.running = true) (order : s.picker.order = some o) (reply : Reply) :
    exec (.motionReply o.number reply) s = .next (s.settle (if s.picker.inFlight then s.replied.act o reply
      else if o.stray then (s.replied.countLoader fun c => { c with strayReplies := c.strayReplies.add 1 }).homeTest
      else s.replied.homeTest)) := by
  change execMotionReply o.number reply s = _
  simp only [execMotionReply, run, Bool.not_true, Bool.false_eq_true, if_false, order, if_true]
  rfl

theorem exec_motionReply_acts (run : s.running = true) (order : s.picker.order = some o) (flight : s.picker.inFlight = true)
    (reply : Reply) : exec (.motionReply o.number reply) s = .next (s.settle (s.replied.act o reply)) := by
  rw [exec_motionReply run order, if_pos flight]

/-- R141, R146: an abandoned order's reply has been counted where the order is stray. -/
def State.strayCounted (s : State) (o : Order) : State :=
  s.replied.countLoader fun c => { c with strayReplies := if o.stray then c.strayReplies.add 1 else c.strayReplies }

theorem exec_motionReply_waits (run : s.running = true) (order : s.picker.order = some o) (flight : s.picker.inFlight = false)
    (reply : Reply) : exec (.motionReply o.number reply) s = .next (s.settle (s.strayCounted o).homeTest) := by
  have counted : (if o.stray then (s.replied.countLoader fun c => { c with strayReplies := c.strayReplies.add 1 }).homeTest
      else s.replied.homeTest) = (s.strayCounted o).homeTest := by
    unfold State.strayCounted
    cases o.stray <;> rfl
  rw [exec_motionReply run order, flight, if_neg Bool.false_ne_true, counted]

theorem exec_motionTimeout (order : s.picker.order = some o) : exec .motionTimeout s = .next (s.settle
    (if s.picker.inFlight then (s.elapseTo o.deadline).replied.faultPicker .timeout o else (s.elapseTo o.deadline).replied.homeTest)) := by
  change execMotionTimeout s = _
  rw [execMotionTimeout, order]
  rfl

theorem homeTest_mem (s : State) : s.homeTest.mem = s.mem := mem_of_outside (State.homeTest_outside s)
theorem homeTest_timebase (s : State) : s.homeTest.timebase = s.timebase := timebase_of_outside (State.homeTest_outside s)

/-- R146: the HOME order that had to wait for an abandoned one is sent. -/
theorem homeTest_effect (homing : s.picker.state = .homing) (order : s.picker.order = none) (door : s.doorOpen = false) :
    s.homeTest.picker.state = .homing ∧ s.homeTest.picker.cart = s.picker.cart ∧ s.homeTest.picker.fault = s.picker.fault
    ∧ s.homeTest.loader.queue = s.loader.queue ∧ s.homeTest.loader.locs = s.loader.locs
    ∧ s.homeTest.loader.counters = { s.loader.counters with orders := s.loader.counters.orders.add 1 } := by
  rw [homeTest_sends homing order door, sendOrder_picker, sendOrder_queue, sendOrder_counters]
  exact ⟨rfl, rfl, rfl, rfl, sendOrder_locs rfl s _, rfl⟩

/-! ## The clauses of O57 about replies that act on no order, and faults -/

theorem abandoned_reply (run : s.running = true) (order : s.picker.order = some o) (flight : s.picker.inFlight = false)
    (still : s.picker.state ≠ .homing ∨ s.doorOpen = true) (reply : Reply) :
    exec (.motionReply o.number reply) s = .next (s.settle
      { s with loader := { s.loader with
        picker := { s.picker with order := none, inFlight := false }
        counters := { s.loader.counters with
          strayReplies := if o.stray then s.loader.counters.strayReplies.add 1 else s.loader.counters.strayReplies } } }) := by
  have waits : (s.strayCounted o).homeTest = s.strayCounted o := if_neg fun ⟨homing, _, door⟩ => by
    obtain apart | opened := still
    · exact apart homing
    · have same : (s.strayCounted o).doorOpen = s.doorOpen := rfl
      rw [same, opened] at door
      cases door
  rw [exec_motionReply_waits run order flight, waits]
  rfl

theorem abandoned_homes (run : s.running = true) (order : s.picker.order = some o) (flight : s.picker.inFlight = false)
    (homing : s.picker.state = .homing) (door : s.doorOpen = false) (reply : Reply) : ∃ v,
    exec (.motionReply o.number reply) s = .next (s.settle v) ∧ OrderSent s v .home none ∧ v.picker.state = .homing
    ∧ v.loader.counters.strayReplies = (if o.stray then s.loader.counters.strayReplies.add 1 else s.loader.counters.strayReplies)
    ∧ v.picker.cart = s.picker.cart ∧ v.loader.queue = s.loader.queue
    ∧ v.loader.locs = s.loader.locs ∧ v.timebase = s.timebase ∧ v.mem = s.mem ∧ v.chans = s.chans := by
  have was := homeTest_effect (s := s.strayCounted o) homing rfl door
  have timebase := homeTest_timebase (s.strayCounted o)
  have mem := homeTest_mem (s.strayCounted o)
  have chans := homeTest_chans (s.strayCounted o)
  obtain ⟨state, cart, -, queue, locs, counters⟩ := was
  refine ⟨(s.strayCounted o).homeTest, exec_motionReply_waits run order flight reply, ?_, state, ?_, cart, queue, locs, timebase, mem,
    chans⟩
  · rw [homeTest_sends (s := s.strayCounted o) homing rfl door]
    exact orderSent_of (t := s.strayCounted o) rfl rfl rfl .home none
  · rw [counters]
    rfl

theorem abandoned_timeout (order : s.picker.order = some o) (flight : s.picker.inFlight = false) :
    ∃ v, exec .motionTimeout s = .next (s.settle v) ∧ v.timebase = max s.timebase o.deadline
      ∧ v.picker.state = s.picker.state ∧ v.picker.fault = s.picker.fault ∧ v.picker.cart = s.picker.cart
      ∧ v.loader.counters.strayReplies = s.loader.counters.strayReplies
      ∧ v.loader.counters.timeouts = s.loader.counters.timeouts
      ∧ v.loader.queue = s.loader.queue ∧ v.mem = s.mem ∧ v.chans = s.chans
      ∧ (if s.picker.state = .homing ∧ s.doorOpen = false then OrderSent s v .home none
          else v.picker.order = none ∧ v.picker.inFlight = false) := by
  refine ⟨(s.elapseTo o.deadline).replied.homeTest, ?_, (homeTest_timebase _).trans (elapseTo_timebase s _), ?_⟩
  · rw [exec_motionTimeout order, flight, if_neg Bool.false_ne_true]
  · have mem := homeTest_mem (s.elapseTo o.deadline).replied
    have chans := homeTest_chans (s.elapseTo o.deadline).replied
    by_cases sends : s.picker.state = .homing ∧ s.doorOpen = false
    · obtain ⟨homing, door⟩ := sends
      obtain ⟨state, cart, fault, queue, -, counters⟩ := homeTest_effect (s := (s.elapseTo o.deadline).replied) homing rfl door
      rw [if_pos ⟨homing, door⟩]
      refine ⟨state.trans homing.symm, fault, cart, ?_, ?_, queue, mem, chans, ?_⟩
      · rw [counters]; rfl
      · rw [counters]; rfl
      · rw [homeTest_sends (s := (s.elapseTo o.deadline).replied) homing rfl door]
        exact orderSent_of rfl rfl rfl .home none
    · have waits : (s.elapseTo o.deadline).replied.homeTest = (s.elapseTo o.deadline).replied := if_neg fun ⟨homing, _, door⟩ =>
        sends ⟨homing, by
          have shut : (!s.doorOpen) = true := door
          rwa [Bool.not_eq_true'] at shut⟩
      rw [if_neg sends, waits]
      exact ⟨rfl, rfl, rfl, rfl, rfl, rfl, rfl, rfl, rfl, rfl⟩

theorem replied_outOfFlight (s : State) : OutOfFlight s s.replied where
  picker := ⟨none, false, rfl⟩
  queue := rfl
  preempt := rfl
  chans := rfl
  restore := rfl
  told := (Says.of_ring rfl).mono (Nat.zero_le 1)

theorem faulted_reply (s : State) (cause : Cause) (o : Order) : PickerFaulted s (s.replied.faultPicker cause o) cause o
    ∧ (s.replied.faultPicker cause o).picker.order = none := faultPicker_faulted (replied_outOfFlight s) cause o

theorem motion_timeout (order : s.picker.order = some o) (flight : s.picker.inFlight = true) :
    ∃ v, exec .motionTimeout s = .next (s.settle v) ∧ PickerFaulted s v .timeout o ∧ v.picker.order = none
      ∧ v.loader.counters.timeouts = s.loader.counters.timeouts.add 1 ∧ v.timebase = max s.timebase o.deadline ∧ v.mem = s.mem := by
  have elapsed : OutOfFlight s (s.elapseTo o.deadline).replied :=
    { picker := ⟨none, false, rfl⟩, queue := rfl, preempt := rfl, chans := rfl, restore := rfl
      told := ⟨[], .of_buffer ((Works.refl s).elapseTo o.deadline).control (elapseTo_buffer s o.deadline), rfl, Nat.zero_le 1⟩ }
  obtain ⟨faulted, stands⟩ := faultPicker_faulted elapsed .timeout o
  obtain ⟨-, timeouts, -⟩ := faultPicker_counts (s.elapseTo o.deadline).replied .timeout o
  have outside : ((s.elapseTo o.deadline).replied.faultPicker .timeout o).outside = (s.elapseTo o.deadline).replied.outside :=
    State.faultPicker_outside _ _ _
  refine ⟨_, ?_, faulted, stands, timeouts, (timebase_of_outside outside).trans (elapseTo_timebase s _), (mem_of_outside outside).trans rfl⟩
  rw [exec_motionTimeout order, flight, if_pos rfl]

/-- R136: the opening of the door is settled, and its DOOR_EVENT is written. -/
def State.doorOpened (s : State) (f : Nat) : State := (s.settledInput .door .on f).doorEvent 1

theorem doorOpened_loader (s : State) (f : Nat) : (s.doorOpened f).loader = (s.settledInput .door .on f).loader :=
  State.doorEvent_loader _ _

theorem doorOpened_picker (s : State) (f : Nat) : (s.doorOpened f).picker = s.picker := by
  rw [State.picker, doorOpened_loader]
  rfl

theorem doorOpened_tells (s : State) (f : Nat) : Tells s (s.doorOpened f) [panelRecord s 1] :=
  (settledInput_tells s .door .on f).trans (doorEvent_tells _ 1)

theorem doorOpened_outOfFlight (s : State) (f : Nat) : OutOfFlight s (s.doorOpened f) where
  picker := ⟨s.picker.order, s.picker.inFlight, doorOpened_picker s f⟩
  queue := by rw [doorOpened_loader]; rfl
  preempt := by rw [doorOpened_loader]; rfl
  chans := (State.doorEvent_chans _ _).trans rfl
  restore := (State.doorEvent_restore _ _).trans rfl
  told := ⟨_, doorOpened_tells s f, rfl, Nat.le_refl 1⟩

/-- R136, R143: the opening of the door under an order. -/
def State.doorStops (s : State) (f : Nat) (o : Order) : State := ((s.doorOpened f).faultPicker .doorOpen o).strayOrder

theorem doorChange_stops (order : s.picker.order = some o) (flight : s.picker.inFlight = true) (f : Nat) :
    (s.settledInput .door .on f).doorChange true = s.doorStops f o := by
  have order' : ((s.settledInput .door .on f).doorEvent 1).picker.order = some o := by
    rw [← order]
    exact congrArg Picker.order (doorOpened_picker s f)
  have flight' : ((s.settledInput .door .on f).doorEvent 1).picker.inFlight = true := by
    rw [← flight]
    exact congrArg Picker.inFlight (doorOpened_picker s f)
  simp only [State.doorChange, order', flight', if_true]
  rfl

theorem doorStops_mem (s : State) (f : Nat) (o : Order) : (s.doorStops f o).mem = s.mem := by
  have stops : (s.doorStops f o).outside = (s.doorOpened f).outside :=
    (State.strayOrder_outside (s := _)).trans (State.faultPicker_outside _ _ _)
  have opens : (s.doorOpened f).outside = (s.settledInput .door .on f).outside := State.doorEvent_outside _ _
  exact (mem_of_outside (stops.trans opens)).trans rfl

theorem doorStops_open (s : State) (f : Nat) (o : Order) : (s.doorStops f o).doorOpen = true := by
  have filters : (s.doorStops f o).loader.filters = (s.settledInput .door .on f).loader.filters := by
    have kept := faultPicker_filters (s.doorOpened f) .doorOpen o
    rw [doorOpened_loader] at kept
    exact kept
  rw [State.doorOpen, filter_of_filters filters .door, State.settledInput, filter_setFilter_self]
  rfl

theorem PickerFaulted.strayOrder (h : PickerFaulted s t cause o) : PickerFaulted s t.strayOrder cause o := h

theorem door_fault {f : Nat} (order : s.picker.order = some o) (flight : s.picker.inFlight = true) (run : s.running = true)
    (candidate : (s.filter .door).candidate = some .on) (deadline : (s.filter .door).deadline = some f) : ∃ v,
      exec (.sensorSettleExpiry .door) s = .next (s.settle v) ∧ PickerFaulted s v .doorOpen o ∧ v.doorOpen = true
      ∧ v.picker.order = some { o with stray := true } ∧ v.mem = s.mem
      ∧ (s.ring.spaceFor 1 → (s.news v).head? = some { kind := .doorEvent, e0 := 1, e1 := w32 s.picker.state.code }) := by
  obtain ⟨faulted, stands⟩ := faultPicker_faulted (doorOpened_outOfFlight s f) .doorOpen o
  have later : (s.doorOpened f).ring.buffer <+: (s.doorStops f o).ring.buffer := ((Works.refl _).faultPicker .doorOpen o).buffer
  refine ⟨s.doorStops f o, ?_, faulted.strayOrder, doorStops_open s f o, ?_, doorStops_mem s f o, fun space => ?_⟩
  · rw [exec_sensorSettleExpiry run candidate deadline, ← doorChange_stops order flight]
    rfl
  · change (((s.doorOpened f).faultPicker .doorOpen o).picker.order.map fun o => { o with stray := true }) = _
    rw [stands, doorOpened_picker, order]
    rfl
  · exact head_of_prefix ((doorOpened_tells s f).news_prefix space (Nat.le_refl 1) later)

end Sys2Proof.Machine
end

section
/-! The end of a leg that is cut or fails: the request's end, and the RETURN of the record that the picker holds (7.3, 7.7). -/

namespace Sys2Proof.Machine

variable {s t u v w : State} {st : Stage} {o : Order} {r q : Req} {l m a : Loc} {e : ReqEnd} {n k : Nat}
  {rs : List Record} {cause : Cause} {out : CmdOutcome} {c : Cart}

/-! ## The request that the picker still serves -/

/-- The event has come from `s` to `t`, and has done no more to the queue than to change the request `r` that the picker serves
to `q`. -/
structure Serves (s t : State) (r q : Req) : Prop where
  found : s.activeReq = some r
  active : t.activeReq = some q
  same : q.sameName r
  queue : t.loader.queue.filter (·.stamp ≠ r.stamp) = s.loader.queue.filter (·.stamp ≠ r.stamp)
  next : t.loader.nextStamp = s.loader.nextStamp ∧ t.loader.nextId = s.loader.nextId
  preempt : t.loader.preempt = s.loader.preempt
  told : ∃ rs n, Says s t rs n ∧ n ≤ 4

theorem Req.sameName.refl (r : Req) : r.sameName r := ⟨rfl, rfl, rfl, rfl⟩

/-- A step that leaves the picker's request, the queue and the preempt alone. -/
theorem Serves.of_same (h : Serves s t r q) (active : u.picker.active = t.picker.active) (queue : u.loader.queue = t.loader.queue)
    (next : u.loader.nextStamp = t.loader.nextStamp ∧ u.loader.nextId = t.loader.nextId)
    (preempt : u.loader.preempt = t.loader.preempt) (told : ∃ rs n, Says s u rs n ∧ n ≤ 4) : Serves s u r q where
  found := h.found
  active := (activeReq_of active queue).trans h.active
  same := h.same
  queue := by rw [queue, h.queue]
  next := ⟨next.1.trans h.next.1, next.2.trans h.next.2⟩
  preempt := preempt.trans h.preempt
  told := told

theorem Serves.replied (found : s.activeReq = some r) : Serves s s.replied r r where
  found := found
  active := found
  same := .refl r
  queue := rfl
  next := ⟨rfl, rfl⟩
  preempt := rfl
  told := ⟨[], 0, .of_ring rfl, Nat.zero_le 4⟩

theorem Serves.served (h : Serves s t r q) : t.picker.active = some q.stamp := (activeReq_some h.active).1

/-- R153: the request ends. -/
theorem Serves.setPicker_ended (h : Serves s t r q) (told : Says s t rs n) (few : n ≤ 4) (p : PickState) (e : ReqEnd) :
    ReqEnded s ((t.setPicker p).endReq q e) r e.outcome q.legsDone :=
  endReq_ended (told.setPicker p) (by omega) h.same (by rw [setPicker_queue, h.queue])
    (fun none_ => by rw [setPicker_preempt, h.preempt, none_]) (.inl (by rw [setPicker_picker]; exact h.served))

/-- R153: the picker at the end of its request. -/
theorem Serves.setPicker_picker (h : Serves s t r q) (p : PickState) (e : ReqEnd) :
    ((t.setPicker p).endReq q e).picker = { t.picker with state := p, active := none, cut := false } := by
  rw [endReq_picker (by rw [Machine.setPicker_picker]; exact h.served), Machine.setPicker_picker]

theorem setPicker_endReq_held (t : State) (p : PickState) (q : Req) (e : ReqEnd) : ((t.setPicker p).endReq q e).held = t.held :=
  (endReq_held _ q e).trans (setPicker_held t p)

/-! ## A request goes back into the queue (R133, R143) -/

theorem requeue_picker (t : State) (q : Req) (x : ReqState) (b : Option Loc) :
    (t.requeue q x b).picker = { t.picker with active := none, cut := false } := rfl

theorem requeue_held (t : State) (q : Req) (x : ReqState) (b : Option Loc) : (t.requeue q x b).held = t.held :=
  held_of_loader (fun m => releaseReserved_view (t.modPicker fun p => { p with active := none, cut := false }) _ m)
    rfl rfl rfl rfl rfl

theorem requeue_findReq (h : t.findReq q.stamp = some q) (x : ReqState) (b : Option Loc) :
    (t.requeue q x b).findReq q.stamp = some { q with state := x, blocked := b } := by
  refine (findReq_modReq_self _ _ (f := fun y => { y with state := x, blocked := b }) fun _ => rfl).trans ?_
  have same : ((t.modPicker fun p => { p with active := none, cut := false }).releaseReserved (.request q.stamp)).findReq q.stamp =
      t.findReq q.stamp := findReq_of_queue rfl _
  rw [same, h]
  rfl

theorem Says.requeue (h : Says s t rs n) (q : Req) (x : ReqState) (b : Option Loc) : Says s (t.requeue q x b) rs n := h.then_ring rfl

theorem Says.uncut (h : Says s t rs n) : Says s (t.modPicker fun p => { p with cut := false }) rs n := h.then_ring rfl

theorem Serves.found_later (h : Serves s t r q) (p : PickState) : (t.setPicker p).findReq q.stamp = some q := by
  rw [findReq_of_queue (setPicker_queue t p)]
  exact (activeReq_some h.active).2

/-! ## The RETURN of the record that the picker holds (R149, R155) -/

/-- R155: the RETURN of a record to a location, as it joins the queue. -/
def State.returned (s : State) (c : Option Cart) (l : Loc) : Req :=
  { newReq .returnCart none l with
    cart := c.map (·.uid), stamp := s.loader.nextStamp, id := BitVec.ofNat 16 s.loader.nextId, internal := true }

/-- What the state and its state at the end of a cancelled request have, and what joining and counting keep, the queueing of a
RETURN keeps. -/
theorem queueReturn_keeps {P : State → Prop} (ended : ∀ q, P (s.endReq q .cancelled)) (self : P s)
    (count : ∀ t f, P t → P (State.countLoader t f)) (join : ∀ t q, P t → P (State.joinInternal t q)) (l : Loc) :
    P (s.queueReturn l) := by
  unfold State.queueReturn
  extract_lets dst r
  split
  · split
    · exact join _ _ (count _ _ (ended _))
    · exact count _ _ self
  · exact join _ _ self

theorem queueReturn_picker (idle : s.picker.active = none) (l : Loc) : (s.queueReturn l).picker = s.picker :=
  queueReturn_keeps (P := fun t => t.picker = s.picker) (fun q => endReq_picker_idle idle q _) rfl (fun _ _ h => h) (fun _ _ h => h) l

theorem queueReturn_cart (s : State) (l m : Loc) : ((s.queueReturn l).loc m).cart = (s.loc m).cart :=
  queueReturn_keeps (P := fun t => (t.loc m).cart = (s.loc m).cart) (fun q => held_cart (endReq_held s q _) m) rfl
    (fun _ _ h => h) (fun _ _ h => h) l

theorem queueReturn_expected (s : State) (l m : Loc) : ((s.queueReturn l).loc m).expected = (s.loc m).expected :=
  queueReturn_keeps (P := fun t => (t.loc m).expected = (s.loc m).expected) (fun q => held_expected (endReq_held s q _) m) rfl
    (fun _ _ h => h) (fun _ _ h => h) l

/-- R155: a RETURN to a place outside the bays joins a queue with room for it. -/
theorem queueReturn_joins (room : s.loader.queue.length < 10) (place : a.val < 25) :
    s.queueReturn a = s.joinInternal { newReq .returnCart none a with cart := s.picker.cart.map (·.uid) } := by
  have outside : bayOf a = none := dif_neg (by omega)
  have open_ : ¬ s.queueFull = true := by rw [queueFull_iff]; omega
  rw [State.queueReturn, outside]
  exact if_neg open_

theorem queueReturn_queue (room : s.loader.queue.length < 10) (place : a.val < 25) :
    (s.queueReturn a).loader.queue = s.loader.queue ++ [s.returned s.picker.cart a] := by
  rw [queueReturn_joins room place]
  rfl

theorem filter_shorter (h : s.findReq r.stamp = some r) :
    (s.loader.queue.filter (·.stamp ≠ r.stamp)).length < s.loader.queue.length := by
  have mem : r ∈ s.loader.queue := List.mem_of_find?_eq_some h
  refine List.length_filter_lt_length_iff_exists.2 ⟨r, mem, ?_⟩
  simp

/-! ## A leg fails with the picker's record on the gripper (R133, R143) -/

theorem Serves.returns_picker (h : Serves s t r q) (p : PickState) (cause : Cause) :
    (((t.setPicker p).endReq q (.failed cause)).queueReturnToSource).picker =
      { t.picker with state := p, active := none, cut := false } := by
  rw [State.queueReturnToSource, queueReturn_picker (by rw [h.setPicker_picker]), h.setPicker_picker]

theorem returns_cart (t : State) (p : PickState) (q : Req) (cause : Cause) (m : Loc) :
    ((((t.setPicker p).endReq q (.failed cause)).queueReturnToSource).loc m).cart = (t.loc m).cart := by
  rw [State.queueReturnToSource, queueReturn_cart, held_cart (setPicker_endReq_held t p q _)]

theorem returns_expected (t : State) (p : PickState) (q : Req) (cause : Cause) (m : Loc) :
    ((((t.setPicker p).endReq q (.failed cause)).queueReturnToSource).loc m).expected = (t.loc m).expected := by
  rw [State.queueReturnToSource, queueReturn_expected, held_expected (setPicker_endReq_held t p q _)]

theorem Serves.returns_reported (h : Serves s t r q) (p : PickState) (cause : Cause) :
    ReqReported s (((t.setPicker p).endReq q (.failed cause)).queueReturnToSource) r (.failed cause) q.legsDone := by
  obtain ⟨rs, n, told, few⟩ := h.told
  refine (h.setPicker_ended told few p (.failed cause)).2.later ?_ ((Works.refl _).queueReturnToSource).buffer
  rw [h.returns_picker, h.setPicker_picker]

/-- R155: without a preempt the RETURN is the newest request of a queue that is not overfull. -/
theorem Serves.returns_queue (h : Serves s t r q) (p : PickState) (cause : Cause) (alone : s.loader.preempt = none)
    (few : s.loader.queue.length ≤ 10) (place : (t.picker.legSource.getD mailLoc).val < 25) :
    (((t.setPicker p).endReq q (.failed cause)).queueReturnToSource).loader.queue =
      s.loader.queue.filter (·.stamp ≠ r.stamp) ++ [s.returned t.picker.cart (t.picker.legSource.getD mailLoc)] := by
  have closed : (t.setPicker p).endReq q (.failed cause) = (t.setPicker p).closeReq q (.failed cause) :=
    State.endReq_of_no_preempt _ _ _ (by rw [setPicker_preempt, h.preempt, alone])
  have picker := h.setPicker_picker p (.failed cause)
  obtain ⟨left, -, -, stamp, id⟩ := State.closeReq_loader (s := t.setPicker p) q (.failed cause)
  obtain ⟨stamp', id'⟩ := h.next
  have queue : ((t.setPicker p).endReq q (.failed cause)).loader.queue = s.loader.queue.filter (·.stamp ≠ r.stamp) := by
    rw [closed, left, setPicker_queue, h.same.1, h.queue]
  have stands : ((t.setPicker p).endReq q (.failed cause)).loader.nextStamp = s.loader.nextStamp := by
    rw [closed, stamp, setPicker_loader, stamp']
  have ids : ((t.setPicker p).endReq q (.failed cause)).loader.nextId = s.loader.nextId := by
    rw [closed, id, setPicker_loader, id']
  have shorter := filter_shorter (activeReq_some h.found).2
  rw [State.queueReturnToSource, picker]
  rw [queueReturn_queue (by rw [queue]; omega) place, queue, State.returned, stands, ids, picker, State.returned]

/-! ## Cut legs (R133) -/

theorem setPicker_uncut (t : State) (p : PickState) : ((t.modPicker fun x => { x with cut := false }).setPicker p).picker =
    { t.picker with cut := false, state := p } := Machine.setPicker_picker _ p

theorem Serves.uncut (h : Serves s t r q) : Serves s (t.modPicker fun x => { x with cut := false }) r q :=
  h.of_same rfl rfl ⟨rfl, rfl⟩ rfl (by obtain ⟨rs, n, told, few⟩ := h.told; exact ⟨rs, n, told.then_ring rfl, few⟩)

theorem cutEnd_returns (active : t.activeReq = some q) (holds : t.picker.cart.isSome = true) (kind : q.kind ≠ .returnCart) :
    t.cutEnd = ((((t.modPicker fun p => { p with cut := false }).setPicker .holding).endReq q (.failed .magazineOpen))).queueReturnToSource := by
  simp only [State.cutEnd, active, holds, kind, if_true, if_false]

theorem cutEnd_waits (active : t.activeReq = some q) (holds : t.picker.cart.isSome = true) (kind : q.kind = .returnCart) :
    t.cutEnd = ((t.modPicker fun p => { p with cut := false }).setPicker .holding).requeue q (.waiting .magazine) none := by
  simp only [State.cutEnd, active, holds, kind, if_true]

theorem cutEnd_fails (active : t.activeReq = some q) (empty : t.picker.cart = none) (unmarked : q.marked = false)
    (kind : q.kind ≠ .inventory) :
    t.cutEnd = ((t.modPicker fun p => { p with cut := false }).setPicker .parked).endReq q (.failed .magazineOpen) := by
  simp only [State.cutEnd, active, empty, unmarked, kind, Option.isSome_none, Bool.false_eq_true, if_false]

theorem cutEnd_requeues (active : t.activeReq = some q) (empty : t.picker.cart = none) (unmarked : q.marked = false)
    (kind : q.kind = .inventory) :
    t.cutEnd = ((t.modPicker fun p => { p with cut := false }).setPicker .parked).requeue q .queued none := by
  simp only [State.cutEnd, active, empty, unmarked, kind, Option.isSome_none, Bool.false_eq_true, if_false, if_true]

/-- R133: a cut leg whose record the picker holds. -/
theorem Serves.cut_holds (h : Serves s t r q) (holds : t.picker.cart.isSome = true) :
    t.cutEnd.picker = { t.picker with cut := false, state := .holding, active := none }
    ∧ (∀ m, (t.cutEnd.loc m).cart = (t.loc m).cart)
    ∧ (q.kind ≠ .returnCart → ReqReported s t.cutEnd r (.failed .magazineOpen) q.legsDone
        ∧ (s.loader.preempt = none → s.loader.queue.length ≤ 10 → (t.picker.legSource.getD mailLoc).val < 25 →
            t.cutEnd.loader.queue = s.loader.queue.filter (·.stamp ≠ r.stamp) ++
              [s.returned t.picker.cart (t.picker.legSource.getD mailLoc)]))
    ∧ (q.kind = .returnCart → t.cutEnd.findReq q.stamp = some { q with state := .waiting .magazine, blocked := none }) := by
  by_cases kind : q.kind = .returnCart
  · rw [cutEnd_waits h.active holds kind, requeue_picker, setPicker_uncut]
    refine ⟨rfl, fun m => ?_, fun apart => absurd kind apart, fun _ => requeue_findReq (h.uncut.found_later .holding) _ _⟩
    rw [held_cart (requeue_held _ _ _ _), held_cart (setPicker_held _ _)]
    rfl
  · rw [cutEnd_returns h.active holds kind, h.uncut.returns_picker]
    exact ⟨rfl, fun m => returns_cart _ _ _ _ m, fun _ => ⟨h.uncut.returns_reported _ _, h.uncut.returns_queue _ _⟩,
      fun same => absurd same kind⟩

/-- R133: a cut leg that has not gripped its record yet. -/
theorem Serves.cut_fails (h : Serves s t r q) (empty : t.picker.cart = none) (unmarked : q.marked = false)
    (kind : q.kind ≠ .inventory) : t.cutEnd.picker = { t.picker with cut := false, state := .parked, active := none }
      ∧ ReqEnded s t.cutEnd r (.failed .magazineOpen) q.legsDone := by
  obtain ⟨rs, n, told, few⟩ := h.uncut.told
  rw [cutEnd_fails h.active empty unmarked kind, h.uncut.setPicker_picker]
  exact ⟨rfl, h.uncut.setPicker_ended told few .parked (.failed .magazineOpen)⟩

/-- R133: a cut visit waits for its next one. -/
theorem Serves.cut_requeues (h : Serves s t r q) (empty : t.picker.cart = none) (unmarked : q.marked = false)
    (kind : q.kind = .inventory) (told : Says s t rs n) :
    t.cutEnd.picker = { t.picker with cut := false, state := .parked, active := none }
    ∧ (∀ m, (t.cutEnd.loc m).cart = (t.loc m).cart)
    ∧ t.cutEnd.findReq q.stamp = some { q with state := .queued, blocked := none } ∧ Says s t.cutEnd rs (n + 1) := by
  rw [cutEnd_requeues h.active empty unmarked kind, requeue_picker, setPicker_uncut]
  refine ⟨rfl, fun m => ?_, requeue_findReq (h.uncut.found_later .parked) _ _, ?_⟩
  · rw [held_cart (requeue_held _ _ _ _), held_cart (setPicker_held _ _)]
    rfl
  · exact (told.uncut.setPicker .parked).requeue q .queued none

/-! ## The next step of a leg -/

theorem nextStep_sends (whole : t.picker.cut = false) (shut : t.inOpenMagazine l = false) (st : Stage) :
    t.nextStep st l = t.sendOrder st (some l) := by
  rw [State.nextStep, State.sendLeg, whole, shut]
  rfl

theorem nextStep_cuts (h : t.picker.cut = true ∨ t.inOpenMagazine l = true) (st : Stage) : t.nextStep st l = t.cutEnd := by
  rw [State.nextStep, State.sendLeg]
  obtain cut | opened := h
  · rw [cut, if_pos rfl]
  · rw [opened, if_pos rfl, ite_self]

end Sys2Proof.Machine
end

section
/-! The steps of a leg, and the labels read in it (R142, R144). -/

namespace Sys2Proof.Machine

variable {s t u v w : State} {L : Loader} {st : Stage} {o : Order} {r q : Req} {l m a : Loc} {x : Option Loc} {n k : Nat}
  {rs : List Record} {c y : Cart} {text : List Byte} {reply : Reply}

theorem inOpenMagazine_of (h : t.loader.magOpen = s.loader.magOpen) (l : Loc) : t.inOpenMagazine l = s.inOpenMagazine l := by
  rw [State.inOpenMagazine, h]
  rfl

theorem act_mem (t : State) (o : Order) (reply : Reply) : (t.act o reply).mem = t.mem := mem_of_outside (State.act_outside t o reply)
theorem act_timebase (t : State) (o : Order) (reply : Reply) : (t.act o reply).timebase = t.timebase :=
  timebase_of_outside (State.act_outside t o reply)

/-! ## Arrivals -/

theorem Serves.arrives (found : s.activeReq = some r) (l : Loc) : Serves s (s.replied.arrive l) r r :=
  (Serves.replied found).of_same rfl rfl ⟨rfl, rfl⟩ rfl ⟨[], 0, .of_ring rfl, Nat.zero_le 4⟩

theorem arrives_says (s : State) (l : Loc) : Says s (s.replied.arrive l) [] 0 := .of_ring rfl

/-- R142: an order at the location that the picker has reached. -/
theorem arrived_sends (s : State) (st : Stage) (l : Loc) :
    OrderSent s ((s.replied.arrive l).sendOrder st (some l)) st (some l)
    ∧ ((s.replied.arrive l).sendOrder st (some l)).picker.state = st.pickState
    ∧ ((s.replied.arrive l).sendOrder st (some l)).picker.pos = some (.loc l)
    ∧ ((s.replied.arrive l).sendOrder st (some l)).picker.cart = s.picker.cart
    ∧ ((s.replied.arrive l).sendOrder st (some l)).loader.queue = s.loader.queue
    ∧ ((s.replied.arrive l).sendOrder st (some l)).chans = s.chans := by
  refine ⟨orderSent_of (t := s.replied.arrive l) rfl rfl rfl st (some l), ?_, ?_, ?_, ?_, sendOrder_chans _ _ _⟩
  · rw [sendOrder_picker]
  · rw [sendOrder_picker]
    rfl
  · rw [sendOrder_picker]
    rfl
  · rw [sendOrder_queue]
    rfl

theorem act_toSource (stage : o.stage = .toSource) (loc : o.loc = some l) (t : State) : t.act o .done =
    if t.picker.cut then (t.arrive l).cutEnd
    else match (t.arrive l).activeReq with
      | some r => if r.marked then ((t.arrive l).setPicker .parked).endReq r .cancelled else (t.arrive l).sendLeg .grip l
      | none => t.arrive l := by
  unfold State.act
  rw [stage, loc]
  rfl

theorem act_toDest (stage : o.stage = .toDest) (loc : o.loc = some l) (t : State) :
    t.act o .done = (t.arrive l).nextStep .release l := by
  unfold State.act
  rw [stage, loc]

theorem act_visit (stage : o.stage = .visit) (loc : o.loc = some l) (t : State) :
    t.act o .done = (t.arrive l).nextStep .visitRead l := by
  unfold State.act
  rw [stage, loc]

theorem toSource_step (stage : o.stage = .toSource) (loc : o.loc = some l) (found : s.activeReq = some r)
    (unmarked : r.marked = false) : s.replied.act o .done = (s.replied.arrive l).nextStep .grip l := by
  rw [act_toSource stage loc, (Serves.arrives found l).active]
  dsimp only
  rw [unmarked]
  rfl

theorem toSource_cancelled (stage : o.stage = .toSource) (loc : o.loc = some l) (found : s.activeReq = some r)
    (whole : s.picker.cut = false) (marked : r.marked = true) :
    s.replied.act o .done = ((s.replied.arrive l).setPicker .parked).endReq r .cancelled := by
  have uncut : s.replied.picker.cut = false := whole
  rw [act_toSource stage loc, (Serves.arrives found l).active, uncut]
  dsimp only
  rw [marked]
  rfl

/-! ## The grip (R142) -/

/-- R142: a record that is gripped takes the slot it leaves as its home. -/
def gripCart (l : Loc) (c : Cart) : Cart := { c with home := if h : l.val < 24 then some ⟨l.val, h⟩ else c.home }

/-- R118, R142: the request carries the record gripped, but for the first leg of a MOUNT that a preempt has rewritten. -/
def gripReq (r : Req) (k : Cart) : Req := if r.kind = .mount ∧ r.second.isSome then r else { r with cart := some k.uid }

/-- R142: the record has moved from the location to the picker. -/
def State.gripped (s : State) (l : Loc) (k : Cart) : State := (s.modLoc l fun x => { x with cart := none }).modPicker fun p =>
  { p with cart := some k, legSource := some l }

theorem gripCart_slot {k : Fin 24} (h : slotOf l = some k) (c : Cart) : gripCart l c = { c with home := some k } := by
  obtain ⟨inside, eq⟩ := Option.dite_none_right_eq_some.1 h
  rw [gripCart, dif_pos inside, eq]

theorem gripCart_other (h : slotOf l = none) (c : Cart) : gripCart l c = c := by
  have outside : ¬ l.val < 24 := fun inside => by
    rw [slotOf, dif_pos inside] at h
    cases h
  rw [gripCart, dif_neg outside]

theorem gripReq_sameName (r : Req) (k : Cart) : (gripReq r k).sameName r ∧ (gripReq r k).legsDone = r.legsDone
    ∧ (gripReq r k).dst = r.dst ∧ (gripReq r k).kind = r.kind := by
  unfold gripReq
  split <;> exact ⟨⟨rfl, rfl, rfl, rfl⟩, rfl, rfl, rfl⟩

theorem gripDone_some (cart : (s.loc l).cart = some c) (active : s.picker.active = some n) :
    s.gripDone l = (s.gripped l (gripCart l c)).modReq n (gripReq · (gripCart l c)) := by
  have holds : (s.loc l).cart.isSome = true := by rw [cart]; rfl
  unfold State.gripDone
  rw [if_pos holds]
  dsimp only
  rw [cart, Option.getD_some]
  have served (k : Cart) : ((s.modLoc l fun x => { x with cart := none }).modPicker fun p =>
      { p with cart := some k, legSource := some l }).picker.active = some n := active
  rw [served]
  cases slot : slotOf l with
  | none => rw [gripCart_other slot]; rfl
  | some k => rw [gripCart_slot slot]; rfl

theorem gripDone_none (cart : (s.loc l).cart = none) (active : s.picker.active = some n) :
    s.gripDone l = (s.newCart.2.gripped l (gripCart l (freshCart s.loader.nextUid))).modReq n
      (gripReq · (gripCart l (freshCart s.loader.nextUid))) := by
  have empty : ¬ (s.loc l).cart.isSome = true := by rw [cart]; exact Bool.false_ne_true
  have fresh : (s.newCart.2.loc l).cart = none := cart
  unfold State.gripDone
  rw [if_neg empty]
  dsimp only
  rw [fresh, Option.getD_none]
  have served (k : Cart) : ((s.newCart.2.modLoc l fun x => { x with cart := none }).modPicker fun p =>
      { p with cart := some k, legSource := some l }).picker.active = some n := active
  rw [served]
  cases slot : slotOf l with
  | none => rw [gripCart_other slot]; rfl
  | some k => rw [gripCart_slot slot]; rfl

theorem filter_map_other (f : Req → Req) {n : Nat} (names : ∀ q, q.stamp = n → (f q).stamp = n) (queue : List Req) :
    (queue.map fun q => if q.stamp = n then f q else q).filter (·.stamp ≠ n) = queue.filter (·.stamp ≠ n) := by
  induction queue with
  | nil => rfl
  | cons q rest ih =>
    by_cases same : q.stamp = n
    · rw [List.map_cons, if_pos same, List.filter_cons_of_neg (by simp [names q same]), List.filter_cons_of_neg (by simp [same]), ih]
    · rw [List.map_cons, if_neg same, List.filter_cons_of_pos (by simp [same]), List.filter_cons_of_pos (by simp [same]), ih]

/-- What the grip leaves of a state that has only changed the next name of a record. -/
theorem Serves.gripped (h : Serves s t r r) (l : Loc) (k : Cart) :
    Serves s ((t.gripped l k).modReq r.stamp (gripReq · k)) r (gripReq r k) where
  found := h.found
  active := by
    have active : ((t.gripped l k).modReq r.stamp (gripReq · k)).picker.active = some r.stamp := h.served
    have same : (t.gripped l k).findReq r.stamp = t.findReq r.stamp := findReq_of_queue rfl _
    rw [State.activeReq, active, Option.bind_some, findReq_modReq_self _ _ fun q => (gripReq_sameName q k).1.1, same,
      (activeReq_some h.active).2, Option.map_some]
  same := (gripReq_sameName r k).1
  queue := (filter_map_other _ (fun q name => (gripReq_sameName q k).1.1.trans name) _).trans h.queue
  next := h.next
  preempt := h.preempt
  told := by
    obtain ⟨rs, n, told, few⟩ := h.told
    exact ⟨rs, n, told.then_ring rfl, few⟩

theorem act_grip (stage : o.stage = .grip) (loc : o.loc = some l) (t : State) : t.act o .done =
    match (t.gripDone l).picker.cart with
    | some c => if c.label.isNone then (t.gripDone l).nextStep .readLabel l else (t.gripDone l).nextStep .toDest (t.gripDone l).legDest
    | none => t.gripDone l := by
  unfold State.act
  rw [stage, loc] <;> rfl

theorem legDest_of (h : t.activeReq = some q) : t.legDest = q.dst := by rw [State.legDest, h]

/-- R142: the state once a record has been gripped. -/
structure Gripped (s t : State) (l : Loc) (r : Req) (k : Cart) : Prop where
  serves : Serves s t r (gripReq r k)
  cart : (t.loc l).cart = none
  picker : t.picker = { s.picker with order := none, inFlight := false, cart := some k, legSource := some l }
  orders : t.loader.counters.orders = s.loader.counters.orders
  params : t.params = s.params
  magOpen : t.loader.magOpen = s.loader.magOpen

theorem Serves.gripped_gripped (h : Serves s t r r)
    (picker : t.picker = { s.picker with order := none, inFlight := false })
    (orders : t.loader.counters.orders = s.loader.counters.orders) (params : t.params = s.params)
    (magOpen : t.loader.magOpen = s.loader.magOpen) (l : Loc) (k : Cart) :
    Gripped s ((t.gripped l k).modReq r.stamp (gripReq · k)) l r k where
  serves := h.gripped l k
  cart := congrArg Location.cart (State.loc_modLoc_self t l fun x => { x with cart := none })
  picker := by
    change ({ t.picker with cart := some k, legSource := some l } : Picker) = _
    rw [picker]
  orders := orders
  params := params
  magOpen := magOpen

theorem grip_gripped (found : s.activeReq = some r) (cart : (s.loc l).cart = some c) :
    Gripped s (s.replied.gripDone l) l r (gripCart l c) := by
  have active : s.replied.picker.active = some r.stamp := (activeReq_some found).1
  rw [gripDone_some (s := s.replied) cart active]
  exact (Serves.replied found).gripped_gripped rfl rfl rfl rfl l _

theorem grip_fresh (found : s.activeReq = some r) (cart : (s.loc l).cart = none) :
    Gripped s (s.replied.gripDone l) l r (gripCart l (freshCart s.loader.nextUid)) := by
  have active : s.replied.picker.active = some r.stamp := (activeReq_some found).1
  have fresh : Serves s s.replied.newCart.2 r r :=
    (Serves.replied found).of_same rfl rfl ⟨rfl, rfl⟩ rfl ⟨[], 0, .of_ring rfl, Nat.zero_le 4⟩
  rw [gripDone_none (s := s.replied) cart active]
  exact fresh.gripped_gripped rfl rfl rfl rfl l _

/-- R142: the order that follows the grip. -/
theorem Gripped.acts (h : Gripped s (s.replied.gripDone l) l r y) (stage : o.stage = .grip) (loc : o.loc = some l) :
    s.replied.act o .done = if y.label.isNone then (s.replied.gripDone l).nextStep .readLabel l
      else (s.replied.gripDone l).nextStep .toDest r.dst := by
  have dest : (s.replied.gripDone l).legDest = r.dst := (legDest_of h.serves.active).trans (gripReq_sameName r y).2.2.1
  have held : (s.replied.gripDone l).picker.cart = some y := by rw [h.picker]
  rw [act_grip stage loc, dest, held]

/-- R142: whatever follows the grip, the record is on the picker, and its location is empty. -/
theorem Gripped.next_keeps (h : Gripped s t l r y) (st : Stage) (a : Loc) :
    ((t.nextStep st a).loc l).cart = none ∧ (t.nextStep st a).picker.legSource = some l
    ∧ (t.nextStep st a).picker.cart = some y := by
  by_cases cuts : t.picker.cut = true ∨ t.inOpenMagazine a = true
  · obtain ⟨picker, carts, -⟩ := h.serves.cut_holds (by rw [h.picker]; rfl)
    rw [nextStep_cuts cuts, picker, carts, h.picker]
    exact ⟨h.cart, rfl, rfl⟩
  · obtain ⟨whole, shut⟩ := not_or.1 cuts
    rw [nextStep_sends (Bool.not_eq_true _ ▸ whole) (Bool.not_eq_true _ ▸ shut), sendOrder_cart, sendOrder_picker, h.picker]
    exact ⟨h.cart, rfl, rfl⟩

theorem Gripped.sends (h : Gripped s t l r y) (whole : s.picker.cut = false) (shut : s.inOpenMagazine a = false) (st : Stage) :
    OrderSent s (t.nextStep st a) st (some a) ∧ (t.nextStep st a).picker.state = st.pickState
    ∧ (t.nextStep st a).findReq r.stamp = some (gripReq r y) := by
  have uncut : t.picker.cut = false := by rw [h.picker]; exact whole
  rw [nextStep_sends uncut ((inOpenMagazine_of h.magOpen a).trans shut)]
  refine ⟨orderSent_of (by rw [h.picker]) h.orders h.params st (some a), by rw [sendOrder_picker], ?_⟩
  rw [findReq_of_queue (sendOrder_queue t st (some a)), ← h.serves.same.1]
  exact (activeReq_some h.serves.active).2

/-- R133: the leg is cut after the grip. -/
theorem Gripped.cuts (h : Gripped s t l r y) (cut : s.picker.cut = true ∨ s.inOpenMagazine a = true) (st : Stage)
    (kind : r.kind ≠ .returnCart) :
    (t.nextStep st a).picker =
      { s.picker with order := none, inFlight := false, cart := some y, legSource := some l, cut := false, state := .holding
                      active := none }
    ∧ ReqReported s (t.nextStep st a) r (.failed .magazineOpen) r.legsDone
    ∧ (s.loader.preempt = none → s.loader.queue.length ≤ 10 → l.val < 25 → (t.nextStep st a).loader.queue =
        s.loader.queue.filter (·.stamp ≠ r.stamp) ++ [s.returned (some y) l]) := by
  have cuts : t.picker.cut = true ∨ t.inOpenMagazine a = true := by
    rw [h.picker, inOpenMagazine_of h.magOpen]
    exact cut
  obtain ⟨-, legs, -, sameKind⟩ := gripReq_sameName r y
  obtain ⟨picker, -, returns, -⟩ := h.serves.cut_holds (by rw [h.picker]; rfl)
  obtain ⟨reported, queue⟩ := returns (by rw [sameKind]; exact kind)
  rw [legs] at reported
  rw [h.picker] at queue
  rw [nextStep_cuts cuts]
  refine ⟨?_, reported, queue⟩
  rw [picker, h.picker]

end Sys2Proof.Machine
end

section
/-! Labels: what a reply to READ_LABEL makes of the record at a place, and the end of a visit (R144, R154). -/

namespace Sys2Proof.Machine

variable {s t u v w : State} {L : Loader} {st : Stage} {o : Order} {r q : Req} {l m a : Loc} {x p h : Option Loc} {n k : Nat}
  {rs : List Record} {c y : Cart} {text : List Byte} {reply : Reply}

/-! ## Cartridge records by place -/

/-- The loader but for what a label changes: the cartridge records, the label counters and the marks of missing cleaners. -/
def Loader.bare (L : Loader) : Loader :=
  { L with
    locs := Vector.replicate 27 {}, picker := { L.picker with cart := none }, noCleaner := Vector.replicate 2 false
    counters := { L.counters with badLabels := 0, duplicateLabels := 0 } }

theorem cartAt_modCartAt (s : State) (p : Option Loc) (f : Cart → Cart) : (s.modCartAt p f).cartAt p = (s.cartAt p).map f := by
  cases p with
  | none => rfl
  | some l => exact congrArg Location.cart (State.loc_modLoc_self s l fun x => { x with cart := x.cart.map f })

theorem cartAt_modCartAt_ne (f : Cart → Cart) (ne : p ≠ h) : (s.modCartAt h f).cartAt p = s.cartAt p := by
  cases h with
  | none =>
    cases p with
    | none => exact absurd rfl ne
    | some l => rfl
  | some m =>
    cases p with
    | none => rfl
    | some l => exact congrArg Location.cart (loc_modLoc_ne s _ fun same => ne (congrArg some same))

theorem modCartAt_bare (s : State) (p : Option Loc) (f : Cart → Cart) : (s.modCartAt p f).loader.bare = s.loader.bare := by
  cases p <;> rfl

theorem modCartAt_ring (s : State) (p : Option Loc) (f : Cart → Cart) : (s.modCartAt p f).ring = s.ring := by cases p <;> rfl
theorem modCartAt_chans (s : State) (p : Option Loc) (f : Cart → Cart) : (s.modCartAt p f).chans = s.chans := by cases p <;> rfl
theorem modCartAt_restore (s : State) (p : Option Loc) (f : Cart → Cart) : (s.modCartAt p f).restore = s.restore := by
  cases p <;> rfl

theorem cartAt_of_loader (same : t.loader = s.loader) (p : Option Loc) : t.cartAt p = s.cartAt p := by
  cases p with
  | none => exact congrArg (·.picker.cart) same
  | some l => exact congrArg (fun L : Loader => L.locs[l].cart) same

theorem cleanerTest_cartAt (s : State) (a b : Media) (p : Option Loc) : (s.cleanerTest a b).cartAt p = s.cartAt p := by
  unfold State.cleanerTest
  split <;> cases p <;> rfl

/-- What setting the marks of missing cleaners keeps, the test of a new cleaner keeps. -/
theorem cleanerTest_same {β : Type} (g : State → β) (marks : ∀ t v, g (State.modLoader t fun l => { l with noCleaner := v }) = g t)
    (s : State) (a b : Media) : g (s.cleanerTest a b) = g s := by
  unfold State.cleanerTest
  split
  · exact marks _ _
  · rfl

/-! ## The label taken into a record (R144) -/

/-- R144: another record has lost its label to the one at a place. -/
def State.labelLost (s : State) (h p : Option Loc) (text : List Byte) : State :=
  ((s.modCartAt h fun c => { c with label := none, suspect := false }).emit
    { kind := .duplicateLabel, subject := BitVec.ofNat 16 (placeCode h), e0 := w32 (placeCode p)
      e1 := (labelWords (some text)).1, e2 := (labelWords (some text)).2 }).countLoader fun c =>
        { c with duplicateLabels := c.duplicateLabels.add 1 }

/-- R144: a record with a new label, which another record may have had. -/
def State.labelled (s : State) (x : Cart) (text : List Byte) (y : Option Cart) : Cart :=
  { x with
    label := some text
    uses := match y with
      | some c => c.uses
      | none => if text.getLast? = some 0x43 then s.params.cleanUsesNew else x.uses
    suspect := x.suspect || (match y with | some c => c.suspect | none => false) }

theorem takeLabel_absent (at_ : s.cartAt p = none) (text : List Byte) : s.takeLabel p text = s := by
  rw [State.takeLabel, at_]

theorem takeLabel_known (at_ : s.cartAt p = some c) (known : c.label = some text) : s.takeLabel p text = s := by
  rw [State.takeLabel, at_]
  exact if_pos known

theorem takeLabel_alone (at_ : s.cartAt p = some c) (new : c.label ≠ some text) (alone : s.labelHolder text c.uid = none) :
    s.takeLabel p text = (s.modCartAt p fun _ => s.labelled c text none).cleanerTest c.media (s.labelled c text none).media := by
  rw [State.takeLabel, at_]
  refine (if_neg new).trans ?_
  rw [alone]
  rfl

theorem takeLabel_moved (at_ : s.cartAt p = some c) (new : c.label ≠ some text) (holder : s.labelHolder text c.uid = some h) :
    s.takeLabel p text = ((s.labelLost h p text).modCartAt p fun _ => s.labelled c text (s.cartAt h)).cleanerTest c.media
      (s.labelled c text (s.cartAt h)).media := by
  rw [State.takeLabel, at_]
  refine (if_neg new).trans ?_
  rw [holder]
  rfl

theorem labelLost_cartAt (s : State) (h p : Option Loc) (text : List Byte) (q : Option Loc) : (s.labelLost h p text).cartAt q =
    (s.modCartAt h fun c => { c with label := none, suspect := false }).cartAt q := by
  refine Eq.trans ?_ (cartAt_of_loader (State.emit_loader (s.modCartAt h fun c => { c with label := none, suspect := false })
    { kind := .duplicateLabel, subject := BitVec.ofNat 16 (placeCode h), e0 := w32 (placeCode p)
      e1 := (labelWords (some text)).1, e2 := (labelWords (some text)).2 }) q)
  cases q <;> rfl

/-- What labels and their records keep, the taking of a label keeps. -/
theorem takeLabel_same {β : Type} (g : State → β) (cart : ∀ t p f, g (State.modCartAt t p f) = g t)
    (lost : ∀ t h p text, g (State.labelLost t h p text) = g t)
    (marks : ∀ t v, g (State.modLoader t fun l => { l with noCleaner := v }) = g t) (s : State) (p : Option Loc) (text : List Byte) :
    g (s.takeLabel p text) = g s := by
  cases at_ : s.cartAt p with
  | none => rw [takeLabel_absent at_]
  | some c =>
    by_cases known : c.label = some text
    · rw [takeLabel_known at_ known]
    · cases holder : s.labelHolder text c.uid with
      | none =>
        rw [takeLabel_alone at_ known holder, cleanerTest_same g marks]
        exact cart _ _ _
      | some h =>
        rw [takeLabel_moved at_ known holder, cleanerTest_same g marks, cart]
        exact lost _ _ _ _

/-- R144: the record at the place has the label, and is the one it was. -/
theorem takeLabel_cart (at_ : s.cartAt p = some c) (text : List Byte) : ∃ y, (s.takeLabel p text).cartAt p = some y
    ∧ y.uid = c.uid ∧ y.label = some text := by
  by_cases known : c.label = some text
  · exact ⟨c, by rw [takeLabel_known at_ known, at_], rfl, known⟩
  · cases holder : s.labelHolder text c.uid with
    | none =>
      refine ⟨s.labelled c text none, ?_, rfl, rfl⟩
      rw [takeLabel_alone at_ known holder, cleanerTest_cartAt, cartAt_modCartAt, at_]
      rfl
    | some h =>
      refine ⟨s.labelled c text (s.cartAt h), ?_, rfl, rfl⟩
      have there : ∃ z, (s.labelLost h p text).cartAt p = some z := by
        rw [labelLost_cartAt]
        by_cases same : p = h
        · rw [← same, cartAt_modCartAt, at_]
          exact ⟨_, rfl⟩
        · exact ⟨c, by rw [cartAt_modCartAt_ne _ same, at_]⟩
      obtain ⟨z, there⟩ := there
      rw [takeLabel_moved at_ known holder, cleanerTest_cartAt, cartAt_modCartAt, there]
      rfl

theorem labelLost_bare (s : State) (h p : Option Loc) (text : List Byte) : (s.labelLost h p text).loader.bare = s.loader.bare := by
  refine Eq.trans ?_ (modCartAt_bare s h fun c => { c with label := none, suspect := false })
  rw [State.labelLost, State.countLoader, State.modLoader_loader, State.emit_loader]
  rfl

theorem takeLabel_bare (s : State) (p : Option Loc) (text : List Byte) : (s.takeLabel p text).loader.bare = s.loader.bare :=
  takeLabel_same (·.loader.bare) modCartAt_bare labelLost_bare (fun _ _ => rfl) s p text

theorem takeLabel_chans (s : State) (p : Option Loc) (text : List Byte) : (s.takeLabel p text).chans = s.chans :=
  takeLabel_same (·.chans) modCartAt_chans
    (fun t h _ _ => (State.emit_chans (t.modCartAt h fun c => { c with label := none, suspect := false }) _).trans
      (modCartAt_chans t h _)) (fun _ _ => rfl) s p text

theorem takeLabel_restore (s : State) (p : Option Loc) (text : List Byte) : (s.takeLabel p text).restore = s.restore :=
  takeLabel_same (·.restore) modCartAt_restore
    (fun t h _ _ => (State.emit_restore (t.modCartAt h fun c => { c with label := none, suspect := false }) _).trans
      (modCartAt_restore t h _)) (fun _ _ => rfl) s p text

/-- R144: DUPLICATE_LABEL. -/
def duplicateRecord (h p : Option Loc) (text : List Byte) : Record :=
  { kind := .duplicateLabel, subject := BitVec.ofNat 16 (placeCode h), e0 := w32 (placeCode p)
    e1 := (labelWords (some text)).1, e2 := (labelWords (some text)).2 }

theorem labelLost_says (s : State) (h p : Option Loc) (text : List Byte) :
    Says s (s.labelLost h p text) [duplicateRecord h p text] 1 := by
  have told : Says s (s.modCartAt h fun c => { c with label := none, suspect := false }) [] 0 := .of_ring (modCartAt_ring s h _)
  exact (told.emit (x := duplicateRecord h p text) rfl (nomatch ·)).then_ring rfl

theorem Says.modCartAt (j : Says s t rs n) (p : Option Loc) (f : Cart → Cart) : Says s (t.modCartAt p f) rs n :=
  j.then_ring (modCartAt_ring t p f)

theorem Says.cleanerTest (j : Says s t rs n) (a b : Media) : Says s (t.cleanerTest a b) rs n :=
  j.then_ring (cleanerTest_same (·.ring) (fun _ _ => rfl) t a b)

theorem takeLabel_says (s : State) (p : Option Loc) (text : List Byte) : ∃ rs, Says s (s.takeLabel p text) rs 1 := by
  have still : Says s s [] 1 := (Says.refl s).mono (Nat.zero_le 1)
  cases at_ : s.cartAt p with
  | none =>
    rw [takeLabel_absent at_]
    exact ⟨[], still⟩
  | some c =>
    by_cases known : c.label = some text
    · rw [takeLabel_known at_ known]
      exact ⟨[], still⟩
    · cases holder : s.labelHolder text c.uid with
      | none =>
        rw [takeLabel_alone at_ known holder]
        exact ⟨_, (still.modCartAt _ _).cleanerTest _ _⟩
      | some h =>
        rw [takeLabel_moved at_ known holder]
        exact ⟨_, ((labelLost_says s h p text).modCartAt _ _).cleanerTest _ _⟩

/-! ## The holder of a label -/

theorem labelHolder_none (h : ∀ x k, s.cartAt x = some k → k.uid ≠ n → k.label ≠ some text) : s.labelHolder text n = none := by
  refine List.find?_eq_none.2 fun x _ holds => ?_
  split at holds
  · next k at_ =>
    obtain ⟨apart, same⟩ := (Bool.and_eq_true _ _).mp holds
    exact h x k at_ (bne_iff_ne.1 apart) (beq_iff_eq.1 same)
  · cases holds

theorem labelHolder_some (at_ : (s.loc m).cart = some y) (apart : y.uid ≠ n) (same : y.label = some text)
    (only : ∀ x k, s.cartAt x = some k → k.uid ≠ n → k.label = some text → x = some m) : s.labelHolder text n = some (some m) := by
  have mem : some m ∈ allLocs.map some ++ [none] :=
    List.mem_append_left _ (List.mem_map_of_mem (List.mem_ofFn.2 ⟨m, rfl⟩))
  cases found : s.labelHolder text n with
  | none =>
    refine absurd ?_ (List.find?_eq_none.1 found (some m) mem)
    have holds : s.cartAt (some m) = some y := at_
    rw [holds]
    exact (Bool.and_eq_true _ _).mpr ⟨bne_iff_ne.2 apart, beq_iff_eq.2 same⟩
  | some x =>
    have holds := List.find?_some found
    split at holds
    · next k there =>
      obtain ⟨apart', same'⟩ := (Bool.and_eq_true _ _).mp holds
      rw [only x k there (bne_iff_ne.1 apart') (beq_iff_eq.1 same')]
    · cases holds

/-! ## A reply to READ_LABEL (R144) -/

/-- R144: a LABEL reply whose text is no label has been counted. -/
def State.badCounted (s : State) (reply : Reply) : State :=
  if badLabel reply then s.countLoader fun c => { c with badLabels := c.badLabels.add 1 } else s

/-- R144: what the reply makes of the record. -/
def State.relabelled (s : State) (p : Option Loc) (reply : Reply) : State :=
  match labelOf reply with
  | some t => (s.badCounted reply).takeLabel p t
  | none => (s.badCounted reply).modCartAt p fun c => { c with label := none }

/-- R144: LABEL_READ. -/
def State.labelRecord (s : State) (p : Option Loc) (reply : Reply) : Record :=
  { kind := .labelRead
    byte1 := BitVec.ofNat 8 (if (s.cartAt p).isNone then 2 else if (labelOf reply).isSome then 0 else 1)
    subject := BitVec.ofNat 16 (placeCode p), e0 := (labelWords (labelOf reply)).1, e1 := (labelWords (labelOf reply)).2
    e2 := match (s.relabelled p reply).cartAt p with | some c => w32 c.media.code | none => (s.relabelled p reply).freeWord }

theorem labelReply_eq (s : State) (p : Option Loc) (reply : Reply) : s.labelReply p reply =
    if ((s.relabelled p reply).cartAt p).isNone then ((s.relabelled p reply).emit (s.labelRecord p reply)).draw
    else (s.relabelled p reply).emit (s.labelRecord p reply) := rfl

/-- What LABEL_READ and a free value keep, is after a reply to READ_LABEL as the reply left it. -/
theorem labelReply_same {β : Type} (g : State → β) (record : ∀ t x, g (State.emit t x) = g t) (free : ∀ t, g (State.draw t) = g t)
    (s : State) (p : Option Loc) (reply : Reply) : g (s.labelReply p reply) = g (s.relabelled p reply) := by
  rw [labelReply_eq]
  split
  · rw [free, record]
  · rw [record]

theorem relabelled_same {β : Type} (g : State → β) (count : g (s.badCounted reply) = g s)
    (cart : ∀ t p f, g (State.modCartAt t p f) = g t) (take : ∀ t p text, g (State.takeLabel t p text) = g t) (p : Option Loc) :
    g (s.relabelled p reply) = g s := by
  unfold State.relabelled
  split
  · rw [take, count]
  · rw [cart, count]

theorem badCounted_same {β : Type} (g : State → β) (count : ∀ t f, g (State.countLoader t f) = g t) (s : State) (reply : Reply) :
    g (s.badCounted reply) = g s := by
  unfold State.badCounted
  split
  · exact count _ _
  · rfl

theorem badCounted_bare (s : State) (reply : Reply) : (s.badCounted reply).loader.bare = s.loader.bare := by
  unfold State.badCounted
  split <;> rfl

theorem labelReply_loader (s : State) (p : Option Loc) (reply : Reply) : (s.labelReply p reply).loader = (s.relabelled p reply).loader :=
  labelReply_same (·.loader) State.emit_loader (fun _ => rfl) s p reply

theorem labelReply_bare (s : State) (p : Option Loc) (reply : Reply) : (s.labelReply p reply).loader.bare = s.loader.bare := by
  rw [labelReply_loader]
  exact relabelled_same (·.loader.bare) (badCounted_bare s reply) modCartAt_bare takeLabel_bare p

theorem labelReply_chans (s : State) (p : Option Loc) (reply : Reply) : (s.labelReply p reply).chans = s.chans :=
  (labelReply_same (·.chans) State.emit_chans (fun _ => rfl) s p reply).trans
    (relabelled_same (·.chans) (badCounted_same (·.chans) (fun _ _ => rfl) s reply) modCartAt_chans takeLabel_chans p)

theorem labelReply_restore (s : State) (p : Option Loc) (reply : Reply) : (s.labelReply p reply).restore = s.restore :=
  (labelReply_same (·.restore) State.emit_restore (fun _ => rfl) s p reply).trans
    (relabelled_same (·.restore) (badCounted_same (·.restore) (fun _ _ => rfl) s reply) modCartAt_restore takeLabel_restore p)

theorem badCounted_says (s : State) (reply : Reply) : Says s (s.badCounted reply) [] 0 :=
  .of_ring (badCounted_same (·.ring) (fun _ _ => rfl) s reply)

theorem relabelled_says (s : State) (p : Option Loc) (reply : Reply) : ∃ rs, Says s (s.relabelled p reply) rs 1 := by
  unfold State.relabelled
  split
  · next text _ =>
    obtain ⟨rs, told⟩ := takeLabel_says (s.badCounted reply) p text
    exact ⟨_, ((badCounted_says s reply).trans told).mono (Nat.le_refl 1)⟩
  · exact ⟨_, ((badCounted_says s reply).modCartAt _ _).mono (Nat.zero_le 1)⟩

theorem labelReply_says (told : Says s (t.relabelled p reply) rs n) : Says s (t.labelReply p reply) (rs ++ [t.labelRecord p reply]) (n + 1) := by
  have read := told.emit (x := t.labelRecord p reply) rfl (nomatch ·)
  rw [labelReply_eq]
  split
  · exact read.then_ring rfl
  · exact read

theorem labelReply_cartAt (s : State) (p : Option Loc) (reply : Reply) (x : Option Loc) :
    (s.labelReply p reply).cartAt x = (s.relabelled p reply).cartAt x := cartAt_of_loader (labelReply_loader s p reply) x

theorem badCounted_cartAt (s : State) (reply : Reply) (p : Option Loc) : (s.badCounted reply).cartAt p = s.cartAt p := by
  unfold State.badCounted
  split
  · cases p <;> rfl
  · rfl

theorem relabelled_unread (none_ : labelOf reply = none) (p : Option Loc) :
    s.relabelled p reply = (s.badCounted reply).modCartAt p fun c => { c with label := none } := by
  rw [State.relabelled, none_]

theorem relabelled_read (read : labelOf reply = some text) (p : Option Loc) : s.relabelled p reply = s.takeLabel p text := by
  have good : badLabel reply = false := by
    cases reply with
    | label t => rw [badLabel, read]; rfl
    | done => rfl
    | noLabel => rfl
    | _ => cases read
  rw [State.relabelled, read, State.badCounted, good]
  rfl

end Sys2Proof.Machine
end

section
/-! Labels read in a leg, and the visits of an INVENTORY (R142, R144, R154). -/

namespace Sys2Proof.Machine

variable {s t u v w : State} {L : Loader} {st : Stage} {o : Order} {r q : Req} {l m a : Loc} {x p h : Option Loc} {n k : Nat}
  {rs : List Record} {c y : Cart} {text : List Byte} {reply : Reply}

/-! ## The record on the picker -/

/-- What a label leaves of the picker. -/
theorem labelReply_picker (s : State) (p : Option Loc) (reply : Reply) : (s.labelReply p reply).picker =
    { s.picker with cart := (s.labelReply p reply).picker.cart } := by
  have bare := congrArg (·.picker) (labelReply_bare s p reply)
  have same : { (s.labelReply p reply).picker with cart := none } = { s.picker with cart := none } := bare
  exact congrArg (fun q : Picker => { q with cart := (s.labelReply p reply).picker.cart }) same

theorem labelReply_serves (found : s.activeReq = some r) (p : Option Loc) (reply : Reply) :
    Serves s (s.replied.labelReply p reply) r r := by
  have bare := labelReply_bare s.replied p reply
  obtain ⟨rs, told⟩ := relabelled_says s.replied p reply
  have said := labelReply_says ((Says.of_ring (s := s) (t := s.replied) rfl).trans told)
  refine (Serves.replied found).of_same ?_ (congrArg (·.queue) bare) ⟨congrArg (·.nextStamp) bare, congrArg (·.nextId) bare⟩
    (congrArg (·.preempt) bare) ⟨_, _, said, by omega⟩
  rw [labelReply_picker]

theorem labelReply_orders (s : State) (p : Option Loc) (reply : Reply) :
    (s.labelReply p reply).loader.counters.orders = s.loader.counters.orders := congrArg (·.counters.orders) (labelReply_bare s p reply)

theorem labelReply_magOpen (s : State) (p : Option Loc) (reply : Reply) :
    (s.labelReply p reply).loader.magOpen = s.loader.magOpen := congrArg (·.magOpen) (labelReply_bare s p reply)

theorem labelReply_params (s : State) (p : Option Loc) (reply : Reply) : (s.labelReply p reply).params = s.params :=
  params_of_outside (State.labelReply_outside s p reply)

/-- R144: the next step after a label, which the step's records follow. -/
theorem label_sends (whole : s.picker.cut = false) (shut : s.inOpenMagazine r.dst = false)
    (told : Says s (s.replied.labelReply none reply) rs n) :
    let v := (s.replied.labelReply none reply).nextStep .toDest r.dst
    (OrderSent s v .toDest (some r.dst) ∧ v.picker.state = .travel)
    ∧ v.picker.cart = (s.replied.labelReply none reply).picker.cart
    ∧ (∀ m, (v.loc m).cart = ((s.replied.labelReply none reply).loc m).cart)
    ∧ Says s v rs (n + 1)
    ∧ v.loader.counters.badLabels = (s.replied.labelReply none reply).loader.counters.badLabels
    ∧ v.loader.counters.duplicateLabels = (s.replied.labelReply none reply).loader.counters.duplicateLabels := by
  have picker := labelReply_picker s.replied none reply
  have uncut : (s.replied.labelReply none reply).picker.cut = false := by
    rw [picker]
    exact whole
  have number : (s.replied.labelReply none reply).picker.nextNumber = s.picker.nextNumber := by
    rw [picker]
    rfl
  have shut' := (inOpenMagazine_of (labelReply_magOpen s.replied none reply) r.dst).trans
    ((inOpenMagazine_of (t := s.replied) (s := s) rfl r.dst).trans shut)
  dsimp only
  rw [nextStep_sends uncut shut']
  refine ⟨⟨orderSent_of number ((labelReply_orders s.replied none reply).trans rfl) ((labelReply_params s.replied none reply).trans rfl)
    .toDest (some r.dst), by rw [sendOrder_picker]; rfl⟩, by rw [sendOrder_picker], fun m => sendOrder_cart _ _ _ m,
    told.sendOrder _ _, by rw [sendOrder_counters], by rw [sendOrder_counters]⟩

/-- R133: the leg is cut after a label. -/
theorem label_cuts (found : s.activeReq = some r) (cut : s.picker.cut = true ∨ s.inOpenMagazine r.dst = true)
    (at_ : (s.replied.labelReply none reply).picker.cart = some y) :
    let v := (s.replied.labelReply none reply).nextStep .toDest r.dst
    v.picker = { s.picker with order := none, inFlight := false, cart := some y, cut := false, state := .holding, active := none }
    ∧ (r.kind ≠ .returnCart → ReqReported s v r (.failed .magazineOpen) r.legsDone
        ∧ (s.loader.preempt = none → s.loader.queue.length ≤ 10 → (s.picker.legSource.getD mailLoc).val < 25 →
            v.loader.queue = s.loader.queue.filter (·.stamp ≠ r.stamp) ++
              [s.returned v.picker.cart (s.picker.legSource.getD mailLoc)]))
    ∧ (r.kind = .returnCart → v.findReq r.stamp = some { r with state := .waiting .magazine, blocked := none }) := by
  have picker := labelReply_picker s.replied none reply
  rw [at_] at picker
  have cuts : (s.replied.labelReply none reply).picker.cut = true ∨ (s.replied.labelReply none reply).inOpenMagazine r.dst = true := by
    rw [picker, inOpenMagazine_of (labelReply_magOpen s.replied none reply)]
    exact cut
  obtain ⟨ends, -, returns, waits⟩ := (labelReply_serves found none reply).cut_holds (by rw [at_]; rfl)
  rw [picker] at ends returns
  dsimp only
  rw [nextStep_cuts cuts, ends]
  exact ⟨rfl, returns, waits⟩

theorem act_readLabel (stage : o.stage = .readLabel) (found : s.activeReq = some r) (h : reply = .noLabel ∨ ∃ t, reply = .label t) :
    s.replied.act o reply = (s.replied.labelReply none reply).nextStep .toDest r.dst := by
  have dest : (s.replied.labelReply none reply).legDest = r.dst := legDest_of (labelReply_serves found none reply).active
  obtain rfl | ⟨t, rfl⟩ := h
  · rw [← dest]
    unfold State.act
    rw [stage]
  · rw [← dest]
    unfold State.act
    rw [stage]

/-! ## What the label makes of the picker's record, and its records -/

/-- R144: LABEL_READ of the picker's record with its new label. -/
def labelledRecord (text : List Byte) (c : Cart) : Record :=
  { kind := .labelRead, subject := 27, e0 := w32 (ofLE ((text.drop 0).take 4)), e1 := w32 (ofLE ((text.drop 4).take 4))
    e2 := w32 c.media.code }

/-- R144: LABEL_READ of the picker's record without a label. -/
def unlabelledRecord : Record := { kind := .labelRead, byte1 := 1, subject := 27 }

theorem labelRecord_unread (at_ : s.picker.cart = some c) (unread : labelOf reply = none) : s.labelRecord none reply = unlabelledRecord := by
  have here : s.cartAt none = some c := at_
  have there : (s.relabelled none reply).cartAt none = some { c with label := none } := by
    rw [relabelled_unread unread, cartAt_modCartAt, badCounted_cartAt, here]
    rfl
  rw [State.labelRecord, unread, here, there]
  rfl

theorem labelRecord_read (at_ : s.picker.cart = some c) (read : labelOf reply = some text)
    (there : (s.takeLabel none text).cartAt none = some y) : s.labelRecord none reply = labelledRecord text y := by
  have here : s.cartAt none = some c := at_
  rw [State.labelRecord, relabelled_read read, read, here, there]
  rfl

theorem label_unread (at_ : s.picker.cart = some c) (unread : labelOf reply = none) :
    (s.replied.labelReply none reply).picker.cart = some { c with label := none }
    ∧ Says s (s.replied.labelReply none reply) [unlabelledRecord] 1
    ∧ (s.replied.labelReply none reply).loader.counters.badLabels =
        if badLabel reply then s.loader.counters.badLabels.add 1 else s.loader.counters.badLabels := by
  have here : s.replied.cartAt none = some c := at_
  have told : Says s (s.replied.relabelled none reply) [] 0 := by
    rw [relabelled_unread unread]
    exact ((Says.of_ring (s := s) (t := s.replied) rfl).trans (badCounted_says s.replied reply)).modCartAt none _
  refine ⟨?_, ?_, ?_⟩
  · change (s.replied.labelReply none reply).cartAt none = _
    rw [labelReply_cartAt, relabelled_unread unread, cartAt_modCartAt, badCounted_cartAt, here]
    rfl
  · have record : s.replied.labelRecord none reply = unlabelledRecord := labelRecord_unread (s := s.replied) at_ unread
    rw [← record]
    exact labelReply_says told
  · rw [labelReply_loader, relabelled_unread unread, State.badCounted]
    cases badLabel reply <;> rfl

theorem label_read (at_ : s.picker.cart = some c) (read : labelOf reply = some text) (told : Says s (s.replied.takeLabel none text) rs n)
    (there : (s.replied.takeLabel none text).cartAt none = some y) :
    (s.replied.labelReply none reply).picker.cart = some y
    ∧ Says s (s.replied.labelReply none reply) (rs ++ [labelledRecord text y]) (n + 1) := by
  have same := relabelled_read (s := s.replied) read none
  refine ⟨?_, ?_⟩
  · change (s.replied.labelReply none reply).cartAt none = _
    rw [labelReply_cartAt, same, there]
  · have record : s.replied.labelRecord none reply = labelledRecord text y := labelRecord_read (s := s.replied) at_ read there
    rw [← record]
    exact labelReply_says (told.then_ring (by rw [same]))

theorem replied_says (s : State) : Says s s.replied [] 0 := .of_ring rfl

theorem label_known (at_ : s.picker.cart = some c) (read : labelOf reply = some text) (known : c.label = some text) :
    (s.replied.labelReply none reply).picker.cart = some c
    ∧ Says s (s.replied.labelReply none reply) [labelledRecord text c] 1 := by
  have here : s.replied.cartAt none = some c := at_
  have same : s.replied.takeLabel none text = s.replied := takeLabel_known here known
  exact label_read at_ read (same ▸ replied_says s) (same ▸ here)

theorem label_new (at_ : s.picker.cart = some c) (read : labelOf reply = some text) (new : c.label ≠ some text)
    (alone : ∀ m k, (s.loc m).cart = some k → k.uid ≠ c.uid → k.label ≠ some text) :
    (s.replied.labelReply none reply).picker.cart = some (s.labelled c text none)
    ∧ Says s (s.replied.labelReply none reply) [labelledRecord text (s.labelled c text none)] 1 := by
  have here : s.replied.cartAt none = some c := at_
  have none_ : s.replied.labelHolder text c.uid = none := labelHolder_none fun x k at_ apart => by
    cases x with
    | none =>
      rw [here] at at_
      cases at_
      exact absurd rfl apart
    | some m => exact alone m k at_ apart
  have eq := takeLabel_alone here new none_
  refine label_read at_ read (rs := []) (n := 0) ?_ ?_
  · rw [eq]
    exact ((replied_says s).modCartAt none _).cleanerTest _ _
  · rw [eq, cleanerTest_cartAt, cartAt_modCartAt, here]
    rfl

theorem label_moves (at_ : s.picker.cart = some c) (read : labelOf reply = some text) (new : c.label ≠ some text)
    (there : (s.loc m).cart = some y) (apart : y.uid ≠ c.uid) (has : y.label = some text)
    (only : ∀ n k, (s.loc n).cart = some k → k.label = some text → n = m) :
    (s.replied.labelReply none reply).picker.cart = some (s.labelled c text (some y))
    ∧ Says s (s.replied.labelReply none reply) [duplicateRecord (some m) none text, labelledRecord text (s.labelled c text (some y))] 2
    ∧ ((s.replied.labelReply none reply).loc m).cart = some { y with label := none, suspect := false }
    ∧ (s.replied.labelReply none reply).loader.counters.duplicateLabels = s.loader.counters.duplicateLabels.add 1 := by
  have here : s.replied.cartAt none = some c := at_
  have holds : s.replied.cartAt (some m) = some y := there
  have holder : s.replied.labelHolder text c.uid = some (some m) := labelHolder_some there apart has fun x k at_ apart same => by
    cases x with
    | none =>
      rw [here] at at_
      cases at_
      exact absurd rfl apart
    | some n => exact congrArg some (only n k at_ same)
  have eq := takeLabel_moved here new holder
  rw [holds] at eq
  have loader := labelReply_loader s.replied none reply
  rw [relabelled_read read, eq] at loader
  have cartAt (x : Option Loc) : (s.replied.labelReply none reply).cartAt x = _ := cartAt_of_loader loader x
  have ⟨cart, told⟩ : (s.replied.labelReply none reply).picker.cart = some (s.labelled c text (some y))
      ∧ Says s (s.replied.labelReply none reply) ([duplicateRecord (some m) none text] ++ [labelledRecord text (s.labelled c text (some y))]) 2 := by
    refine label_read at_ read (n := 1) ?_ ?_
    · rw [eq]
      exact (((replied_says s).trans (labelLost_says s.replied (some m) none text)).modCartAt none _).cleanerTest _ _
    · rw [eq, cleanerTest_cartAt, cartAt_modCartAt, labelLost_cartAt, cartAt_modCartAt_ne (p := none) (h := some m) _ (nomatch ·), here]
      rfl
  refine ⟨cart, told, ?_, ?_⟩
  · change (s.replied.labelReply none reply).cartAt (some m) = _
    rw [cartAt, cleanerTest_cartAt, cartAt_modCartAt_ne (p := some m) (h := none) _ (nomatch ·), labelLost_cartAt, cartAt_modCartAt, holds]
    rfl
  · rw [loader, cleanerTest_same (·.loader.counters) (fun _ _ => rfl)]
    change (s.replied.labelLost (some m) none text).loader.counters.duplicateLabels = _
    rw [State.labelLost, State.countLoader, State.modLoader_loader, State.emit_loader]
    rfl

theorem label_taken (at_ : s.picker.cart = some c) (read : labelOf reply = some text) : ∃ y,
    (s.replied.labelReply none reply).picker.cart = some y ∧ y.uid = c.uid ∧ y.label = some text := by
  obtain ⟨y, there, uid, label⟩ := takeLabel_cart (s := s.replied) (p := none) at_ text
  refine ⟨y, ?_, uid, label⟩
  change (s.replied.labelReply none reply).cartAt none = _
  rw [labelReply_cartAt, relabelled_read read, there]

end Sys2Proof.Machine
end

section
/-! The visits of an INVENTORY (R154). -/

namespace Sys2Proof.Machine

variable {s t u v w : State} {L : Loader} {st : Stage} {o : Order} {r q : Req} {l m a : Loc} {x p h : Option Loc} {n k : Nat}
  {rs : List Record} {c y : Cart} {text : List Byte} {reply : Reply} {b : Bool}

/-- R154: the request after one more visit. -/
def visitedReq (r : Req) (labelled : Bool) : Req :=
  { r with
    labels := r.labels + labelled.toNat, unlabelled := r.unlabelled + (!labelled).toNat, cursor := r.cursor + 1, state := .queued }

/-- R154: the picker serves the INVENTORY no longer, which has counted the visit. -/
def State.visited (s : State) (r : Req) (labelled : Bool) : State :=
  (s.modPicker fun p => { p with active := none, cut := false }).modReq r.stamp fun _ => visitedReq r labelled

theorem findReq_modReq_name (f : Req → Req) (names : ∀ q, q.stamp = n → (f q).stamp = n) :
    (s.modReq n f).findReq n = (s.findReq n).map f := by
  simp only [State.findReq, State.modReq, State.modLoader]
  induction s.loader.queue with
  | nil => rfl
  | cons q rest ih =>
    by_cases same : q.stamp = n
    · simp [same, names]
    · simpa [same] using ih

theorem visitEnd_continues (active : t.activeReq = some r) (unmarked : r.marked = false) (more : r.cursor + 1 ≤ r.last) :
    t.visitEnd b = t.visited r b := by
  have goes : ¬ r.last < r.cursor + 1 := by omega
  rw [State.visitEnd, active]
  exact (if_neg (by rw [unmarked]; exact Bool.false_ne_true)).trans (if_neg goes)

theorem visitEnd_ends (active : t.activeReq = some r) (unmarked : r.marked = false) (last : r.last < r.cursor + 1) :
    t.visitEnd b = (t.visited r b).endReq (visitedReq r b) .done := by
  rw [State.visitEnd, active]
  exact (if_neg (by rw [unmarked]; exact Bool.false_ne_true)).trans (if_pos last)

theorem visited_findReq (found : t.findReq r.stamp = some r) (b : Bool) : (t.visited r b).findReq r.stamp = some (visitedReq r b) := by
  refine (findReq_modReq_name (n := r.stamp) (fun _ => visitedReq r b) fun _ _ => rfl).trans ?_
  have same : (t.modPicker fun p => { p with active := none, cut := false }).findReq r.stamp = t.findReq r.stamp := findReq_of_queue rfl _
  rw [same, found]
  rfl

theorem visited_queue (t : State) (r : Req) (b : Bool) : (t.visited r b).loader.queue.filter (·.stamp ≠ r.stamp) =
    t.loader.queue.filter (·.stamp ≠ r.stamp) := filter_map_other (n := r.stamp) (fun _ => visitedReq r b) (fun _ _ => rfl) _

/-- R154: the end of a visit. -/
theorem Serves.visit_ends (h : Serves s t r r) (told : Says s t rs n) (few : n ≤ 4) (unmarked : r.marked = false) (b : Bool) :
    let v := (t.setPicker .parked).visitEnd b
    v.picker = { t.picker with state := .parked, active := none, cut := false }
    ∧ (r.cursor + 1 ≤ r.last → v.findReq r.stamp = some (visitedReq r b))
    ∧ (r.last < r.cursor + 1 → ReqEnded s v r .done r.legsDone)
    ∧ ∀ m, (v.loc m).cart = (t.loc m).cart := by
  have serves : (t.setPicker .parked).activeReq = some r :=
    (activeReq_of (by rw [Machine.setPicker_picker]) (setPicker_queue t .parked)).trans h.active
  have picker : ((t.setPicker .parked).visited r b).picker = { t.picker with state := .parked, active := none, cut := false } := by
    change ({ (t.setPicker .parked).picker with active := none, cut := false } : Picker) = _
    rw [Machine.setPicker_picker]
  have cart (m : Loc) : (((t.setPicker .parked).visited r b).loc m).cart = (t.loc m).cart :=
    (held_cart (setPicker_held t .parked) m)
  dsimp only
  by_cases last : r.last < r.cursor + 1
  · rw [visitEnd_ends serves unmarked last, endReq_picker_idle (by rw [picker]), picker]
    refine ⟨rfl, fun more => by omega, fun _ => ?_, fun m => (held_cart (endReq_held _ _ _) m).trans (cart m)⟩
    refine endReq_ended (e := .done) ((told.setPicker .parked).then_ring rfl) (by omega) ⟨rfl, rfl, rfl, rfl⟩ ?_ (fun alone => ?_)
      (.inr (by rw [picker]))
    · rw [visited_queue, setPicker_queue, h.queue]
    · exact (setPicker_preempt t .parked).trans (h.preempt.trans alone)
  · rw [visitEnd_continues serves unmarked (by omega), picker]
    exact ⟨rfl, fun _ => visited_findReq (activeReq_some serves).2 b, fun now => absurd now last, cart⟩

theorem act_visitRead (stage : o.stage = .visitRead) (loc : o.loc = some l) (t : State)
    (h : reply = .noLabel ∨ ∃ x, reply = .label x) : t.act o reply =
      if t.picker.cut then t.cutEnd else ((t.labelReply (some l) reply).setPicker .parked).visitEnd (labelOf reply).isSome := by
  obtain rfl | ⟨x, rfl⟩ := h
  · unfold State.act
    rw [stage, loc] <;> rfl
  · unfold State.act
    rw [stage, loc]

/-- R144: what a reply of a visit makes of the record at the place. -/
theorem label_visited (h : reply = .noLabel ∨ ∃ t, reply = .label t ∧ labelOf (.label t) = some t) :
    (∀ c, (s.loc l).cart = some c → ∃ k, ((s.replied.labelReply (some l) reply).loc l).cart = some k ∧ k.uid = c.uid
      ∧ (∀ t, reply = .label t → k.label = some t) ∧ (reply = .noLabel → k = { c with label := none }))
    ∧ ((s.loc l).cart = none → ∀ m, ((s.replied.labelReply (some l) reply).loc m).cart = (s.loc m).cart) := by
  have cartAt (m : Loc) : ((s.replied.labelReply (some l) reply).loc m).cart = (s.replied.relabelled (some l) reply).cartAt (some m) :=
    labelReply_cartAt _ _ _ (some m)
  obtain rfl | ⟨t, rfl, read⟩ := h
  · refine ⟨fun c at_ => ⟨{ c with label := none }, ?_, rfl, fun t same => (nomatch same), fun _ => rfl⟩, fun empty m => ?_⟩
    · have here : s.replied.cartAt (some l) = some c := at_
      rw [cartAt, relabelled_unread rfl, cartAt_modCartAt, badCounted_cartAt, here]
      rfl
    · rw [cartAt, relabelled_unread rfl]
      by_cases same : m = l
      · have here : s.replied.cartAt (some l) = none := empty
        rw [same, cartAt_modCartAt, badCounted_cartAt, here, empty]
        rfl
      · rw [cartAt_modCartAt_ne _ (fun eq => same (Option.some.inj eq)), badCounted_cartAt]
        rfl
  · refine ⟨fun c at_ => ?_, fun empty m => ?_⟩
    · obtain ⟨y, there, uid, label⟩ := takeLabel_cart (s := s.replied) (p := some l) at_ t
      refine ⟨y, ?_, uid, fun x same => ?_, fun same => (nomatch same)⟩
      · rw [cartAt, relabelled_read read, there]
      · rw [label, Reply.label.inj same]
    · have still : s.replied.takeLabel (some l) t = s.replied := takeLabel_absent (s := s.replied) (p := some l) empty t
      rw [cartAt, relabelled_read read, still]
      rfl

theorem labelOf_label (h : 1 ≤ text.length ∧ text.length ≤ 8 ∧ text.all labelChar = true) : labelOf (.label text) = some text := if_pos h

theorem labelOf_bad (h : ¬ (1 ≤ text.length ∧ text.length ≤ 8 ∧ text.all labelChar = true)) : labelOf (.label text) = none := if_neg h

theorem badLabel_bad (h : ¬ (1 ≤ text.length ∧ text.length ≤ 8 ∧ text.all labelChar = true)) : badLabel (.label text) = true := by
  rw [badLabel, labelOf_bad h]
  rfl

/-- R154: the end of a visit in a leg that is not cut. -/
theorem visitRead_ends (found : s.activeReq = some r) (stage : o.stage = .visitRead) (loc : o.loc = some l) (whole : s.picker.cut = false)
    (unmarked : r.marked = false) {labelled : Bool}
    (yes : labelled = true → ∃ t, reply = .label t ∧ 1 ≤ t.length ∧ t.length ≤ 8 ∧ t.all labelChar = true)
    (no : labelled = false → reply = .noLabel) :
    let v := s.replied.act o reply
    (v.picker.order = none ∧ v.picker.inFlight = false) ∧ v.picker.state = .parked ∧ v.picker.active = none
    ∧ (r.cursor + 1 ≤ r.last → v.findReq r.stamp = some (visitedReq r labelled))
    ∧ (r.last < r.cursor + 1 → ReqEnded s v r .done r.legsDone)
    ∧ (∀ c, (s.loc l).cart = some c → ∃ k, (v.loc l).cart = some k ∧ k.uid = c.uid
        ∧ (∀ t, reply = .label t → k.label = some t) ∧ (reply = .noLabel → k = { c with label := none }))
    ∧ ((s.loc l).cart = none → ∀ m, (v.loc m).cart = (s.loc m).cart) := by
  have reads : (reply = .noLabel ∨ ∃ t, reply = .label t ∧ labelOf (.label t) = some t) ∧ (labelOf reply).isSome = labelled := by
    cases labelled with
    | false =>
      obtain rfl := no rfl
      exact ⟨.inl rfl, rfl⟩
    | true =>
      obtain ⟨t, rfl, long, short, chars⟩ := yes rfl
      have read := labelOf_label ⟨long, short, chars⟩
      exact ⟨.inr ⟨t, rfl, read⟩, by rw [read]; rfl⟩
  obtain ⟨reads, isSome⟩ := reads
  have acts := act_visitRead stage loc s.replied (reads.imp_right fun ⟨t, eq, _⟩ => ⟨t, eq⟩)
  have uncut : s.replied.picker.cut = false := whole
  rw [uncut, if_neg Bool.false_ne_true, isSome] at acts
  have serves := labelReply_serves found (some l) reply
  obtain ⟨rs, n, told, few⟩ := serves.told
  obtain ⟨picker, continues, ends, carts⟩ := serves.visit_ends told few unmarked labelled
  obtain ⟨full, empty⟩ := label_visited (s := s) (l := l) reads
  dsimp only
  rw [acts, picker, labelReply_picker]
  refine ⟨⟨rfl, rfl⟩, rfl, rfl, continues, ends, fun c at_ => ?_, fun none_ m => ?_⟩
  · rw [carts]
    exact full c at_
  · rw [carts]
    exact empty none_ m

end Sys2Proof.Machine
end

section
/-! The end of a leg: what the picker hands to its request (R142, R153). -/

namespace Sys2Proof.Machine

variable {s t u v w : State} {L : Loader} {st : Stage} {o : Order} {r q : Req} {l m a b : Loc} {e : ReqEnd} {n k : Nat}
  {rs : List Record} {c y : Cart} {d : Drive} {sec : Option (Loc × Loc)}

/-! ## What a request's end leaves of a location -/

/-- What holds of a location, and stays so when the reservation of a request is released, holds after a request's end. -/
theorem endReq_loc {Q : Location → Prop} (free : ∀ x n, Q x → x.reserved = some (.request n) → Q { x with reserved := none })
    (h : Q (t.loc m)) (q : Req) (e : ReqEnd) : Q ((t.endReq q e).loc m) := by
  have close (t : State) (q : Req) (e : ReqEnd) (h : Q (t.loc m)) : Q ((t.closeReq q e).loc m) := by
    have loc : (t.closeReq q e).loc m = (t.releaseReserved (.request q.stamp)).loc m := by
      rw [State.loc, closeReq_loader_eq, State.loc]
      rfl
    rw [loc, releaseReserved_loc]
    split
    · next reserved => exact free _ _ h reserved
    · exact h
  have ended (t : State) (h : Q (t.loc m)) : Q (t.endPreempt.loc m) := by
    rw [State.loc, endPreempt_loader]
    exact h
  refine endReq_keeps (P := fun t => Q (t.loc m)) ended (fun t p h => ?_) (close t q e h)
  refine beginRemount_keeps (P := fun t => Q (t.loc m)) (fun _ _ _ h => h) ended (fun t r h => ?_) (fun _ _ h => h) (fun _ _ h => h)
    close p h
  unfold State.raiseInternal
  split
  · exact h
  · exact h

theorem releaseReserved_freed (t : State) (x : Reservation) (m : Loc) : ((t.releaseReserved x).loc m).reserved ≠ some x := by
  rw [releaseReserved_loc]
  split
  · exact (nomatch ·)
  · next other => exact other

/-! ## The end of a leg, in its parts -/

/-- R150, R153: the picker serves the request no longer, and its reservation is released. -/
def State.legLeft (s : State) (r : Req) : State :=
  (s.modPicker fun p => { p with active := none, cut := false }).releaseReserved (.request r.stamp)

/-- R153: the request after one more leg. -/
def legReq (r : Req) : Req :=
  { r with legsDone := r.legsDone + 1, firstSrc := if r.legsDone = 0 then r.src else r.firstSrc, state := .queued }

/-- R153: how a request ends after its last leg. -/
def Req.lastEnd (r : Req) : ReqEnd := match r.recorded with | some c => .failed c | none => .done

/-- R153: the request has been told of its leg's end. -/
def State.legCounted (s : State) (r : Req) : State := ((s.legLeft r).legKind r).modReq r.stamp legReq

theorem legEnd_eq (active : u.activeReq = some r) : u.legEnd =
    match (u.legCounted r).findReq r.stamp with
    | none => u.legCounted r
    | some x =>
      match x.second with
      | some (a, b) => (u.legCounted r).modReq r.stamp fun y => { y with src := some a, dst := b, second := none }
      | none => (u.legCounted r).endReq x (match x.recorded with | some c => .failed c | none => .done) := by
  rw [State.legEnd, active]
  rfl

theorem legEnd_keeps {P : State → Prop} (active : u.activeReq = some r) (left : P ((u.legLeft r).legKind r))
    (req : ∀ t n f, P t → P (State.modReq t n f)) (ends : ∀ t q e, P t → P (State.endReq t q e)) : P u.legEnd := by
  have counted : P (u.legCounted r) := req _ _ _ left
  rw [legEnd_eq active]
  split
  · exact counted
  · split
    · exact req _ _ _ counted
    · exact ends _ _ _ counted

/-- What the records, sessions and lists that the kinds of requests touch leave alone, the kind of a request keeps. -/
theorem legKind_same {β : Type} (g : State → β) (export_ : ∀ t, g (State.modLoader t fun l => { l with exportWaiting := true }) = g t)
    (record : ∀ t p, g (State.setPreemptRec t p) = g t) (link : ∀ t i f, g (State.modSession t i f) = g t)
    (scratch : ∀ t (f : Loader → List (Fin 24)), g (State.modLoader t fun l => { l with scratch := f l }) = g t)
    (req : ∀ t n f, g (State.modReq t n f) = g t) (emit : ∀ t x, g (State.emit t x) = g t) (s : State) (r : Req) :
    g (s.legKind r) = g s := by
  have mount : g (s.mountLegEnd r) = g s := by
    unfold State.mountLegEnd
    extract_lets mine
    clear_value mine
    split
    · split
      · exact record _ _
      · rfl
    · split
      · exact (attachWaiting_same g link _ _ _ _).trans (record _ _)
      · exact attachWaiting_same g link _ _ _ _
      · rfl
  have choose (d : Drive) : g (s.chooseScratch r d) = g s := by
    unfold State.chooseScratch
    split
    · exact (req _ _ _).trans (scratch _ _)
    · exact emit _ _
  unfold State.legKind
  split
  · exact export_ _
  · exact mount
  · split
    · exact choose _
    · rfl
  · split
    · exact req _ _ _
    · rfl
  · split
    · split
      · exact record _ _
      · rfl
    · rfl
  · rfl

theorem legKind_picker (s : State) (r : Req) : (s.legKind r).picker = s.picker :=
  legKind_same (·.picker) (fun _ => rfl) (fun _ _ => rfl) (fun _ _ _ => rfl) (fun _ _ => rfl) (fun _ _ _ => rfl)
    (fun t x => by rw [State.picker, State.emit_loader]; rfl) s r

theorem legKind_locs (s : State) (r : Req) : (s.legKind r).loader.locs = s.loader.locs :=
  legKind_same (·.loader.locs) (fun _ => rfl) (fun _ _ => rfl) (fun _ _ _ => rfl) (fun _ _ => rfl) (fun _ _ _ => rfl)
    (fun t x => by rw [State.emit_loader]) s r

theorem legKind_filters (s : State) (r : Req) : (s.legKind r).loader.filters = s.loader.filters :=
  legKind_same (·.loader.filters) (fun _ => rfl) (fun _ _ => rfl) (fun _ _ _ => rfl) (fun _ _ => rfl) (fun _ _ _ => rfl)
    (fun t x => by rw [State.emit_loader]) s r

theorem legKind_magOpen (s : State) (r : Req) : (s.legKind r).loader.magOpen = s.loader.magOpen :=
  legKind_same (·.loader.magOpen) (fun _ => rfl) (fun _ _ => rfl) (fun _ _ _ => rfl) (fun _ _ => rfl) (fun _ _ _ => rfl)
    (fun t x => by rw [State.emit_loader]) s r

theorem legKind_chans (s : State) (r : Req) : (s.legKind r).chans = s.chans :=
  legKind_same (·.chans) (fun _ => rfl) (fun _ _ => rfl) (fun _ _ _ => rfl) (fun _ _ => rfl) (fun _ _ _ => rfl) State.emit_chans s r

theorem legKind_loc (s : State) (r : Req) (m : Loc) : (s.legKind r).loc m = s.loc m := by rw [State.loc, legKind_locs, State.loc]

/-! ## What stays at the end of a leg -/

/-- R153: the picker at the end of a leg. -/
theorem legEnd_picker (active : u.activeReq = some r) : u.legEnd.picker = { u.picker with active := none, cut := false } := by
  refine legEnd_keeps (P := fun t => t.picker = { u.picker with active := none, cut := false }) active ?_ (fun _ _ _ h => h)
    (fun t q e h => ?_)
  · rw [legKind_picker]
    rfl
  · rw [endReq_picker_idle (by rw [h]), h]

theorem legEnd_loc {Q : Location → Prop} (free : ∀ x n, Q x → x.reserved = some (.request n) → Q { x with reserved := none })
    (active : u.activeReq = some r) (h : Q ((u.legLeft r).loc m)) : Q (u.legEnd.loc m) :=
  legEnd_keeps (P := fun t => Q (t.loc m)) active (by rw [legKind_loc]; exact h) (fun _ _ _ h => h)
    (fun _ q e h => endReq_loc free h q e)

/-- R150: no location stays reserved for the leg's request. -/
theorem legEnd_released (active : u.activeReq = some r) (m : Loc) : (u.legEnd.loc m).reserved ≠ some (.request r.stamp) :=
  legEnd_loc (Q := fun x => x.reserved ≠ some (.request r.stamp)) (fun _ _ _ _ => (nomatch ·)) active
    (releaseReserved_freed (u.modPicker fun p => { p with active := none, cut := false }) _ m)

theorem legLeft_loc {Q : Location → Prop} (free : ∀ x n, Q x → x.reserved = some (.request n) → Q { x with reserved := none })
    (h : Q (u.loc m)) (r : Req) : Q ((u.legLeft r).loc m) := by
  have loc : (u.legLeft r).loc m = if (u.loc m).reserved = some (.request r.stamp) then { u.loc m with reserved := none } else u.loc m :=
    releaseReserved_loc (u.modPicker fun p => { p with active := none, cut := false }) _ m
  rw [loc]
  split
  · next reserved => exact free _ _ h reserved
  · exact h

theorem legEnd_cart (active : u.activeReq = some r) (m : Loc) : (u.legEnd.loc m).cart = (u.loc m).cart :=
  legEnd_loc (Q := fun x => x.cart = (u.loc m).cart) (fun _ _ h _ => h) active
    (legLeft_loc (Q := fun x => x.cart = (u.loc m).cart) (fun _ _ h _ => h) rfl r)

theorem legEnd_unreserved (active : u.activeReq = some r) (h : (u.loc m).reserved = none) : (u.legEnd.loc m).reserved = none :=
  legEnd_loc (Q := fun x => x.reserved = none) (fun _ _ _ _ => rfl) active
    (legLeft_loc (Q := fun x => x.reserved = none) (fun _ _ _ _ => rfl) h r)

theorem legEnd_home (active : u.activeReq = some r) (h : (u.loc m).reserved = some (.homeOf n)) :
    (u.legEnd.loc m).reserved = some (.homeOf n) := by
  have free (x : Location) (k : Nat) (home : x.reserved = some (.homeOf n)) (request : x.reserved = some (.request k)) :
      ({ x with reserved := none } : Location).reserved = some (.homeOf n) := by
    rw [home] at request
    cases request
  exact legEnd_loc (Q := fun x => x.reserved = some (.homeOf n)) free active
    (legLeft_loc (Q := fun x => x.reserved = some (.homeOf n)) free h r)

/-! ## The request after the leg -/

theorem legLeft_findReq (found : u.findReq r.stamp = some r) : (u.legLeft r).findReq r.stamp = some r :=
  (findReq_of_queue rfl _).trans found

theorem legCounted_found (found : ((u.legLeft r).legKind r).findReq r.stamp = some q) :
    (u.legCounted r).findReq r.stamp = some (legReq q) := by
  refine (findReq_modReq_self _ _ (f := legReq) fun _ => rfl).trans ?_
  rw [found]
  rfl

theorem legEnd_second (active : u.activeReq = some r) (found : ((u.legLeft r).legKind r).findReq r.stamp = some q)
    (second : q.second = some (a, b)) : u.legEnd =
      (u.legCounted r).modReq r.stamp fun y => { y with src := some a, dst := b, second := none } := by
  have second' : (legReq q).second = some (a, b) := second
  rw [legEnd_eq active, legCounted_found found]
  dsimp only
  rw [second']

theorem legEnd_last (active : u.activeReq = some r) (found : ((u.legLeft r).legKind r).findReq r.stamp = some q)
    (last : q.second = none) : u.legEnd = (u.legCounted r).endReq (legReq q) q.lastEnd := by
  have last' : (legReq q).second = none := last
  rw [legEnd_eq active, legCounted_found found]
  dsimp only
  rw [last']
  rfl

/-- R153: another leg follows. -/
theorem legEnd_continues (active : u.activeReq = some r) (found : ((u.legLeft r).legKind r).findReq r.stamp = some q)
    (second : q.second = some (a, b)) :
    u.legEnd.findReq r.stamp = some { legReq q with src := some a, dst := b, second := none }
    ∧ u.legEnd.loader.queue.map (·.stamp) = ((u.legLeft r).legKind r).loader.queue.map (·.stamp) := by
  rw [legEnd_second active found second]
  refine ⟨?_, ?_⟩
  · refine (findReq_modReq_self _ _ (f := fun y => { y with src := some a, dst := b, second := none }) fun _ => rfl).trans ?_
    rw [legCounted_found found]
    rfl
  · have names (f : Req → Req) (same : ∀ x, (f x).stamp = x.stamp) (n : Nat) (queue : List Req) :
        (queue.map fun x => if x.stamp = n then f x else x).map (·.stamp) = queue.map (·.stamp) := by
      rw [List.map_map]
      refine List.map_congr_left fun x _ => ?_
      change (if x.stamp = n then f x else x).stamp = x.stamp
      split
      · exact same x
      · rfl
    exact (names (fun y => { y with src := some a, dst := b, second := none }) (fun _ => rfl) _ _).trans
      (names legReq (fun _ => rfl) _ _)

theorem legCounted_filter (u : State) (r : Req) : (u.legCounted r).loader.queue.filter (·.stamp ≠ r.stamp) =
    ((u.legLeft r).legKind r).loader.queue.filter (·.stamp ≠ r.stamp) := filter_map_other (n := r.stamp) legReq (fun _ name => name) _

theorem legCounted_picker (u : State) (r : Req) : (u.legCounted r).picker = { u.picker with active := none, cut := false } :=
  (legKind_picker (u.legLeft r) r).trans rfl

/-- R153: the request ends with its last leg. -/
theorem legEnd_ended (active : u.activeReq = some r) (found : ((u.legLeft r).legKind r).findReq r.stamp = some q)
    (same : q.sameName r) (legs : q.legsDone = r.legsDone) (last : q.second = none) (recorded : q.recorded = r.recorded)
    (told : Says s ((u.legLeft r).legKind r) rs n) (few : n ≤ 6)
    (queue : ((u.legLeft r).legKind r).loader.queue.filter (·.stamp ≠ r.stamp) = s.loader.queue.filter (·.stamp ≠ r.stamp))
    (preempt : s.loader.preempt = none → ((u.legLeft r).legKind r).loader.preempt = none) :
    ReqEnded s u.legEnd r r.lastEnd.outcome (r.legsDone + 1) := by
  have same' : (legReq q).sameName r := same
  have legs' : (legReq q).legsDone = r.legsDone + 1 := congrArg (· + 1) legs
  have ends : q.lastEnd = r.lastEnd := by rw [Req.lastEnd, recorded, Req.lastEnd]
  rw [legEnd_last active found last, ← legs', ← ends]
  exact endReq_ended (told.then_ring rfl) few same' ((legCounted_filter u r).trans queue) preempt (.inr (by rw [legCounted_picker]))

theorem endReq_done_chans (t : State) (q : Req) : (t.endReq q .done).chans = t.chans := by
  rw [State.endReq_done, closeReq_done, reqTold_chans]

theorem endReq_done_restore (t : State) (q : Req) : (t.endReq q .done).restore = t.restore := by
  rw [State.endReq_done, closeReq_done, reqTold_restore]

theorem lastEnd_done (h : r.recorded = none) : r.lastEnd = .done := by rw [Req.lastEnd, h]

/-- R153: a leg's end without a recorded failure leaves the channels alone. -/
theorem legEnd_chans (active : u.activeReq = some r) (found : ((u.legLeft r).legKind r).findReq r.stamp = some q)
    (clean : q.recorded = none) : u.legEnd.chans = u.chans := by
  have kind : (u.legCounted r).chans = u.chans := (legKind_chans (u.legLeft r) r).trans rfl
  cases second : q.second with
  | some ab =>
    rw [legEnd_second (a := ab.1) (b := ab.2) active found second]
    exact kind
  | none =>
    rw [legEnd_last active found second, lastEnd_done clean, endReq_done_chans]
    exact kind

end Sys2Proof.Machine
end

section
/-! A cartridge released outside the bays (R142, R153, R161, R163). -/

namespace Sys2Proof.Machine

variable {s t u v w : State} {L : Loader} {st : Stage} {o : Order} {r q : Req} {l m a b : Loc} {e : ReqEnd} {n k : Nat}
  {rs : List Record} {c y : Cart} {d : Drive} {sec : Option (Loc × Loc)}

/-! ## The picker has set its record down -/

/-- R142: the picker is PARKED without a record, and nothing of the loader but its locations and the lock output has changed
besides; the request that ran its leg is still the one it serves. -/
structure Lowered (s u : State) (r : Req) : Prop where
  found : s.activeReq = some r
  picker : u.picker = { s.picker with order := none, inFlight := false, cart := none, legSource := none, state := .parked }
  rest : u.loader = { s.loader with locs := u.loader.locs, picker := u.loader.picker, lockOutput := u.loader.lockOutput }

theorem Lowered.queue (h : Lowered s u r) : u.loader.queue = s.loader.queue := by rw [h.rest]

theorem Lowered.active (h : Lowered s u r) : u.activeReq = some r :=
  (activeReq_of (by rw [h.picker]) h.queue).trans h.found

theorem Lowered.findReq (h : Lowered s u r) : (u.legLeft r).findReq r.stamp = some r := legLeft_findReq (activeReq_some h.active).2

theorem act_release (stage : o.stage = .release) (loc : o.loc = some l) (t : State) :
    t.act o .done = ((t.releaseDone l).setPicker .parked).legEnd := by
  unfold State.act
  rw [stage, loc]

/-- R142, R153: the picker after the leg. -/
theorem Lowered.ends (h : Lowered s u r) : u.legEnd.picker =
    { s.picker with order := none, inFlight := false, cart := none, legSource := none, state := .parked, active := none
                    cut := false } := by
  rw [legEnd_picker h.active, h.picker]

/-- R153, R164: the first leg of a MOUNT or a REMOUNT leaves the queue alone. -/
theorem legKind_queue_first (kind : r.kind = .mount ∨ r.kind = .remount) (second : r.second = some (a, b)) (t : State) :
    (t.legKind r).loader.queue = t.loader.queue := by
  unfold State.legKind
  obtain kind | kind := kind
  · rw [kind]
    dsimp only
    unfold State.mountLegEnd
    extract_lets mine
    clear_value mine
    rw [if_pos (by rw [second]; rfl)]
    split <;> rfl
  · rw [kind]
    dsimp only
    split
    · split <;> rfl
    · rfl

/-- R153: the second leg of a MOUNT or a REMOUNT follows. -/
theorem Lowered.mount_continues (h : Lowered s u r) (kind : r.kind = .mount ∨ r.kind = .remount) (second : r.second = some (a, b)) :
    u.legEnd.findReq r.stamp = some { legReq r with src := some a, dst := b, second := none }
    ∧ u.legEnd.loader.queue.map (·.stamp) = s.loader.queue.map (·.stamp) := by
  have queue := legKind_queue_first kind second (u.legLeft r)
  obtain ⟨found, stamps⟩ := legEnd_continues h.active ((findReq_of_queue queue _).trans h.findReq) second
  refine ⟨found, stamps.trans ?_⟩
  rw [queue, ← h.queue]
  rfl

/-! ## Outside the bays -/

/-- R142: the picker has set its record down at a place outside the bays, where it is not awaited any more. -/
def State.placed (s : State) (l : Loc) (c : Cart) : State := ((s.replied.setDown l).releaseReserved (.homeOf c.uid)).setPicker .parked

theorem releaseDone_place (place : l.val < 25) (cart : s.picker.cart = some c) :
    (s.replied.releaseDone l).setPicker .parked = s.placed l c := by
  have outside : bayOf l = none := dif_neg (by omega)
  have held : s.replied.picker.cart = some c := cart
  rw [State.releaseDone, outside, held]
  rfl

theorem setDown_loader (t : State) (l : Loc) : (t.setDown l).loader = { t.loader with
    locs := t.loader.locs.set l { t.loc l with cart := t.picker.cart }
    picker := { t.picker with cart := none, legSource := none } } := rfl

theorem replied_loader (s : State) : s.replied.loader = { s.loader with picker := { s.picker with order := none, inFlight := false } } :=
  rfl

theorem placed_loader (s : State) (l : Loc) (c : Cart) : ∃ locs, Loaded (s.placed l c) { s.loader with
    locs := locs
    picker := { s.picker with order := none, inFlight := false, cart := none, legSource := none, state := .parked } } := by
  have placed := ((Loaded.self (s.replied.setDown l)).releaseReserved (.homeOf c.uid)).setPicker .parked
  rw [setDown_loader, replied_loader] at placed
  exact ⟨_, placed⟩

theorem lowered_of_loaded {locs : Vector Location 27} (found : s.activeReq = some r) (h : Loaded u { s.loader with
    locs := locs
    picker := { s.picker with order := none, inFlight := false, cart := none, legSource := none, state := .parked } }) :
    Lowered s u r where
  found := found
  picker := h.picker
  rest := by
    obtain ⟨b, eq⟩ := h
    rw [eq]

theorem placed_lowered (found : s.activeReq = some r) (l : Loc) (c : Cart) : Lowered s (s.placed l c) r := by
  obtain ⟨locs, loaded⟩ := placed_loader s l c
  exact lowered_of_loaded found loaded

theorem placed_loc (s : State) (l : Loc) (c : Cart) (m : Loc) : (s.placed l c).loc m =
    ((s.replied.setDown l).releaseReserved (.homeOf c.uid)).loc m := setPicker_loc _ _ m

theorem placed_cart (cart : s.picker.cart = some c) : ((s.placed l c).loc l).cart = some c := by
  rw [placed_loc, (releaseReserved_view _ _ l).1, (setDown_cart s.replied l).1]
  exact cart

theorem placed_cart_ne (ne : m ≠ l) : ((s.placed l c).loc m).cart = (s.loc m).cart := by
  rw [placed_loc, (releaseReserved_view _ _ m).1]
  exact congrArg Location.cart (loc_modLoc_ne s.replied (fun x => { x with cart := s.replied.picker.cart }) ne)

theorem placed_home (reserved : (s.loc m).reserved = some (.homeOf c.uid)) : ((s.placed l c).loc m).reserved = none := by
  have before : ((s.replied.setDown l).loc m).reserved = some (.homeOf c.uid) := by
    by_cases same : m = l
    · rw [same] at reserved ⊢
      exact (congrArg Location.reserved (State.loc_modLoc_self s.replied l fun x => { x with cart := s.replied.picker.cart })).trans reserved
    · exact (congrArg Location.reserved
        (loc_modLoc_ne s.replied (fun x => { x with cart := s.replied.picker.cart }) same)).trans reserved
  rw [placed_loc, releaseReserved_loc, if_pos before]

theorem placed_says (s : State) (l : Loc) (c : Cart) : Says s (s.placed l c) [] 1 :=
  (Says.of_ring (s := s) (t := (s.replied.setDown l).releaseReserved (.homeOf c.uid)) rfl).setPicker .parked

theorem placed_chans (s : State) (l : Loc) (c : Cart) : (s.placed l c).chans = s.chans := (State.setPicker_chans _ _).trans rfl
theorem placed_restore (s : State) (l : Loc) (c : Cart) : (s.placed l c).restore = s.restore := (State.setPicker_restore _ _).trans rfl

theorem Says.legLeft (h : Says s u rs n) (r : Req) : Says s (u.legLeft r) rs n := h.then_ring rfl

/-! ## Requests of one leg -/

theorem legKind_plain (kind : r.kind = .move ∨ r.kind = .importCart ∨ r.kind = .returnCart) (t : State) : t.legKind r = t := by
  unfold State.legKind
  obtain kind | kind | kind := kind <;> rw [kind]

theorem legKind_export (kind : r.kind = .exportCart) (t : State) :
    t.legKind r = t.modLoader fun l => { l with exportWaiting := true } := by
  unfold State.legKind
  rw [kind]

/-- R153: a request of a single leg ends with it. -/
theorem Lowered.single_ends (h : Lowered s u r) (told : Says s u rs n) (few : n ≤ 4)
    (kind : r.kind = .move ∨ r.kind = .exportCart ∨ r.kind = .importCart ∨ r.kind = .returnCart) (last : r.second = none)
    (clean : r.recorded = none) : ReqEnded s u.legEnd r .done (r.legsDone + 1)
      ∧ u.legEnd.loader.exportWaiting = (r.kind == .exportCart || s.loader.exportWaiting) ∧ u.legEnd.chans = u.chans
      ∧ u.legEnd.restore = u.restore := by
  have kinds : ((u.legLeft r).legKind r).loader.exportWaiting = (r.kind == .exportCart || s.loader.exportWaiting)
      ∧ ((u.legLeft r).legKind r).loader.queue = s.loader.queue
      ∧ ((u.legLeft r).legKind r).loader.preempt = s.loader.preempt
      ∧ ((u.legLeft r).legKind r).ring = u.ring ∧ ((u.legLeft r).legKind r).restore = u.restore := by
    by_cases export_ : r.kind = .exportCart
    · rw [legKind_export export_, export_]
      exact ⟨rfl, h.queue, congrArg (·.preempt) h.rest, rfl, rfl⟩
    · have plain : r.kind = .move ∨ r.kind = .importCart ∨ r.kind = .returnCart := by
        obtain kind | kind | kind := kind
        · exact .inl kind
        · exact absurd kind export_
        · exact .inr kind
      rw [legKind_plain plain, beq_eq_false_iff_ne.2 export_]
      exact ⟨congrArg (·.exportWaiting) h.rest, h.queue, congrArg (·.preempt) h.rest, rfl, rfl⟩
  obtain ⟨export_, queue, preempt, ring, restore⟩ := kinds
  have found : ((u.legLeft r).legKind r).findReq r.stamp = some r :=
    (findReq_of_queue (queue.trans h.queue.symm) _).trans (activeReq_some h.active).2
  have ended := legEnd_ended (s := s) h.active found (.refl r) rfl last rfl (told.then_ring ring) (by omega) (by rw [queue])
    (fun alone => preempt.trans alone)
  rw [lastEnd_done clean] at ended
  refine ⟨ended, ?_, legEnd_chans h.active found clean, ?_⟩
  · rw [legEnd_last h.active found last, lastEnd_done clean, State.endReq_done, closeReq_reqLeft]
    exact export_
  · rw [legEnd_last h.active found last, lastEnd_done clean, endReq_done_restore]
    exact restore

/-! ## The first leg of a CHANGEOVER (R161) -/

/-- R161: a slot that a CHANGEOVER can load from. -/
def State.usableSlot (s : State) (k : Fin 24) : Prop := s.presence (slotLoc k) = .full ∧ (s.loc (slotLoc k)).reserved = none
  ∧ s.inOpenMagazine (slotLoc k) = false ∧ ∃ x, (s.loc (slotLoc k)).cart = some x ∧ x.media = .data ∧ x.suspect = false

theorem usableSlot_of (filters : t.loader.filters = s.loader.filters) (magOpen : t.loader.magOpen = s.loader.magOpen)
    (loc : ∀ m, t.loc m = s.loc m) (k : Fin 24) : t.usableSlot k ↔ s.usableSlot k := by
  have presence : t.presence (slotLoc k) = s.presence (slotLoc k) := by
    rw [State.presence, filter_of_filters filters, State.presence]
  rw [State.usableSlot, presence, inOpenMagazine_of magOpen, loc, State.usableSlot]

theorem scratchSlot_test (s : State) (k : Fin 24) : (s.presence (slotLoc k) == .full && (s.loc (slotLoc k)).reserved.isNone
    && !s.inOpenMagazine (slotLoc k) && (match (s.loc (slotLoc k)).cart with | some c => c.media == .data && !c.suspect | none => false))
    = true ↔ s.usableSlot k := by
  rw [State.usableSlot]
  cases (s.loc (slotLoc k)).cart with
  | none => simp
  | some c => simp [and_assoc]

theorem scratchSlot_some {before later : List (Fin 24)} {k : Fin 24} (list : s.loader.scratch = before ++ k :: later)
    (skips : ∀ j ∈ before, ¬ s.usableSlot j) (usable : s.usableSlot k) : s.scratchSlot = some k := by
  rw [State.scratchSlot, list]
  refine List.find?_eq_some_iff_append.2 ⟨(scratchSlot_test s k).2 usable, before, later, rfl, fun j mem => ?_⟩
  rw [Bool.not_eq_true']
  refine Bool.eq_false_iff.2 fun test => skips j mem ((scratchSlot_test s j).1 test)

theorem scratchSlot_none (skips : ∀ k ∈ s.loader.scratch, ¬ s.usableSlot k) : s.scratchSlot = none :=
  List.find?_eq_none.2 fun k mem test => skips k mem ((scratchSlot_test s k).1 test)

theorem legKind_changeover (kind : r.kind = .changeover) (first : r.legsDone = 0) (drive : r.drive = some d) (t : State) :
    t.legKind r = t.chooseScratch r d := by
  unfold State.legKind
  rw [kind]
  dsimp only
  rw [first, drive] <;> rfl

theorem legCounted_loc (u : State) (r : Req) (m : Loc) : (u.legCounted r).loc m = (u.legLeft r).loc m := legKind_loc _ _ m

/-- R161: whichever way a CHANGEOVER's first leg goes on, the slots stay as the choice found them. -/
theorem legEnd_places (active : u.activeReq = some r) (found : ((u.legLeft r).legKind r).findReq r.stamp = some q)
    (stamp : q.stamp = r.stamp) (clean : q.recorded = none) : u.legEnd.loader.filters = (u.legLeft r).loader.filters
      ∧ u.legEnd.loader.magOpen = (u.legLeft r).loader.magOpen ∧ ∀ m, u.legEnd.loc m = (u.legLeft r).loc m := by
  have filters : (u.legCounted r).loader.filters = (u.legLeft r).loader.filters := legKind_filters _ _
  have magOpen : (u.legCounted r).loader.magOpen = (u.legLeft r).loader.magOpen := legKind_magOpen _ _
  cases second : q.second with
  | some ab =>
    rw [legEnd_second (a := ab.1) (b := ab.2) active found second]
    exact ⟨filters, magOpen, legCounted_loc u r⟩
  | none =>
    rw [legEnd_last active found second, lastEnd_done clean, State.endReq_done]
    refine ⟨?_, ?_, fun m => ?_⟩
    · rw [closeReq_reqLeft]
      exact filters
    · rw [closeReq_reqLeft]
      exact magOpen
    · have name : (legReq q).stamp = r.stamp := stamp
      have loc : ((u.legCounted r).closeReq (legReq q) .done).loc m =
          ((u.legCounted r).releaseReserved (.request (legReq q).stamp)).loc m := by
        rw [State.loc, closeReq_loader_eq, State.loc]
        rfl
      have freed : ((u.legLeft r).loc m).reserved ≠ some (.request r.stamp) :=
        releaseReserved_freed (u.modPicker fun p => { p with active := none, cut := false }) _ m
      rw [loc, name, releaseReserved_loc, legCounted_loc, if_neg freed]

theorem chooseScratch_findReq (found : t.findReq r.stamp = some r) (d : Drive) : (t.chooseScratch r d).findReq r.stamp =
    some { r with second := match t.scratchSlot with | some k => some (slotLoc k, bayLoc d) | none => r.second } := by
  unfold State.chooseScratch
  cases slot : t.scratchSlot with
  | none =>
    exact (findReq_of_queue (congrArg (·.queue) (State.emit_loader t _)) _).trans found
  | some k =>
    dsimp only
    refine (findReq_modReq_self _ _ (f := fun x => { x with second := some (slotLoc k, bayLoc d) }) fun _ => rfl).trans ?_
    have same : (t.modLoader fun l => { l with scratch := l.scratch.filter (· ≠ k) }).findReq r.stamp = t.findReq r.stamp :=
      findReq_of_queue rfl _
    rw [same, found]
    rfl

/-- R161: SCRATCH_EMPTY. -/
def State.scratchRecord (s : State) (d : Drive) : Record :=
  { kind := .scratchEmpty, subject := BitVec.ofNat 16 d.val, e0 := w32 s.loader.scratch.length }

/-- R161: the end of the first leg of a CHANGEOVER. -/
theorem Lowered.changeover (h : Lowered s u r) (told : Says s u [] 1) (kind : r.kind = .changeover) (first : r.legsDone = 0)
    (drive : r.drive = some d) (only : r.second = none) (clean : r.recorded = none) :
    (∀ before k later, s.loader.scratch = before ++ k :: later → (∀ j ∈ before, ¬ u.legEnd.usableSlot j) → u.legEnd.usableSlot k →
      u.legEnd.findReq r.stamp = some { legReq r with src := some (slotLoc k), dst := bayLoc d, second := none }
      ∧ u.legEnd.loader.scratch = s.loader.scratch.filter (· ≠ k))
    ∧ ((∀ k ∈ s.loader.scratch, ¬ u.legEnd.usableSlot k) → ReqEnded s u.legEnd r .done 1
      ∧ u.legEnd.loader.scratch = s.loader.scratch
      ∧ (s.ring.spaceFor 4 → ∃ m, m.kind = .moveEnd ∧ ((s.news u.legEnd).filter fun x => x.kind ≠ .doorEvent) =
          [s.scratchRecord d, m])) := by
  have kinds := legKind_changeover kind first drive (u.legLeft r)
  have found := chooseScratch_findReq h.findReq d
  rw [← kinds] at found
  obtain ⟨filters, magOpen, loc⟩ := legEnd_places h.active found rfl clean
  have usable (k : Fin 24) : u.legEnd.usableSlot k ↔ (u.legLeft r).usableSlot k := usableSlot_of filters magOpen loc k
  have scratch : (u.legLeft r).loader.scratch = s.loader.scratch := congrArg (·.scratch) h.rest
  refine ⟨fun before k later list skips able => ?_, fun skips => ?_⟩
  · have slot : (u.legLeft r).scratchSlot = some k := scratchSlot_some (scratch.trans list)
      (fun j mem able => skips j mem ((usable j).2 able)) ((usable k).1 able)
    rw [slot] at found
    refine ⟨(legEnd_continues h.active found rfl).1, ?_⟩
    rw [legEnd_second h.active found rfl]
    change ((u.legLeft r).legKind r).loader.scratch = _
    rw [kinds, State.chooseScratch, slot, ← scratch]
    rfl
  · have slot : (u.legLeft r).scratchSlot = none := scratchSlot_none fun k mem able => by
      rw [scratch] at mem
      exact skips k mem ((usable k).2 able)
    rw [slot] at found
    have chosen : (u.legLeft r).legKind r = (u.legLeft r).emit (s.scratchRecord d) := by
      rw [kinds, State.chooseScratch, slot, State.scratchRecord, ← scratch]
    have said : Says s ((u.legLeft r).legKind r) [s.scratchRecord d] 2 := by
      rw [chosen]
      exact (told.legLeft r).emit rfl (nomatch ·)
    have ended := legEnd_ended (s := s) h.active found (.refl r) rfl only rfl said (by omega)
      (by rw [chosen, State.emit_loader, ← h.queue]; rfl)
      (fun alone => by rw [chosen, State.emit_loader, ← alone]; exact congrArg (·.preempt) h.rest)
    rw [lastEnd_done clean, first] at ended
    have last := legEnd_last h.active found only
    have counted : (u.legCounted r).loader.scratch = s.loader.scratch := by
      change ((u.legLeft r).legKind r).loader.scratch = _
      rw [chosen, State.emit_loader, scratch]
    have lastEnd : ({ r with second := r.second } : Req).lastEnd = .done := lastEnd_done clean
    have counted_said : Says s (u.legCounted r) [s.scratchRecord d] 2 := said.then_ring rfl
    have all := counted_said.trans (reqTold_says (u.legCounted r) (legReq r) .done)
    have ends : u.legEnd = (u.legCounted r).reqTold (legReq r) .done := by
      rw [last, lastEnd, State.endReq_done, closeReq_done]
    refine ⟨ended, ?_, fun space => ?_⟩
    · rw [last, lastEnd, State.endReq_done, closeReq_reqLeft]
      exact counted
    · rw [ends, all.told space (Nat.le_refl 4)]
      refine ⟨(((u.legCounted r).reqLeft (legReq r) .done).kindEnd (legReq r) .done).moveEndRecord (legReq r) .done, rfl, ?_⟩
      have plain : ((u.legCounted r).reqLeft (legReq r) .done).kindRecords (legReq r) .done = [] := by
        have kind' : (legReq r).kind = .changeover := kind
        unfold State.kindRecords
        rw [kind']
      rw [plain]
      rfl

end Sys2Proof.Machine
end

section
/-! The last leg of a CLEAN, and a cartridge released into a bay (R142, R150, R153, R160, R163). -/

namespace Sys2Proof.Machine

variable {s t u v w : State} {L : Loader} {st : Stage} {o : Order} {r q : Req} {l m a b : Loc} {e : ReqEnd} {n k : Nat}
  {rs : List Record} {c y : Cart} {d f : Drive} {sec : Option (Loc × Loc)}

/-! ## The last leg of a CLEAN (R163) -/

theorem legKind_clean_last (kind : r.kind = .clean) (later : 1 ≤ r.legsDone) (t : State) : t.legKind r = t := by
  unfold State.legKind
  rw [kind]
  dsimp only
  split
  · next first _ =>
    rw [first] at later
    exact absurd later (Nat.not_succ_le_zero 0)
  · rfl

theorem findCart_at (free : t.picker.cart = none) (at_ : (t.loc l).cart = some c)
    (only : ∀ m k, (t.loc m).cart = some k → m ≠ l → k.uid ≠ c.uid) : t.findCart c.uid = some c := by
  have found : t.cartLoc c.uid = some l := by
    cases found : t.cartLoc c.uid with
    | none =>
      refine absurd ?_ (List.find?_eq_none.1 found l (List.mem_ofFn.2 ⟨l, rfl⟩))
      rw [at_]
      exact beq_self_eq_true c.uid
    | some m =>
      have holds := List.find?_some found
      split at holds
      · next k there =>
        by_cases same : m = l
        · rw [same]
        · exact absurd (beq_iff_eq.1 holds) (only m k there same)
      · cases holds
  rw [State.findCart, free]
  dsimp only
  rw [found]
  exact at_

/-- R163: CLEAN_END of a CLEAN whose cleaner is back at the place it came from. -/
def cleanedRecord (o : CmdOutcome) (d : Drive) (a : Loc) (c : Cart) : Record :=
  { kind := .cleanEnd, byte1 := o.code, subject := BitVec.ofNat 16 d.val, e0 := o.cause, e1 := w32 a.val, e2 := w32 c.uses }

theorem cleanEndRecord_known {p : Req} (kind : p.kind = .clean) (legs : p.legsDone ≠ 0) (drive : p.drive = some d)
    (first : p.firstSrc = some a) (carries : p.cart = some c.uid) (known : t.findCart c.uid = some c) (e : ReqEnd) :
    t.cleanEndRecord p e = cleanedRecord e.outcome d a c := by
  have source : p.firstSource = some a.val := by
    rw [Req.firstSource, kind]
    dsimp only
    rw [if_neg legs, first]
    rfl
  rw [State.cleanEndRecord, source, drive, carries, Option.bind_some, known]
  rfl

/-- R163: the end of a CLEAN with its last leg. -/
theorem Lowered.clean_ends (h : Lowered s u r) (told : Says s u [] 1) (restore : u.restore = s.restore) (kind : r.kind = .clean)
    (later : 1 ≤ r.legsDone) (drive : r.drive = some d) (last : r.second = none) (first : r.firstSrc = some a)
    (carries : r.cart = some c.uid) (apart : ∀ i, (s.session i).mountReq ≠ some r.stamp) (at_ : (u.loc l).cart = some c)
    (only : ∀ m k, (u.loc m).cart = some k → m ≠ l → k.uid ≠ c.uid) :
    ReqEnded s u.legEnd r r.lastEnd.outcome (r.legsDone + 1)
    ∧ (s.ring.spaceFor 4 → r.recorded = none ∨ s.loader.preempt = none → ∃ m, m.kind = .moveEnd
        ∧ ((s.news u.legEnd).filter fun x => x.kind ≠ .doorEvent) = [cleanedRecord r.lastEnd.outcome d a c, m]) := by
  have kinds := legKind_clean_last kind later (u.legLeft r)
  have found : ((u.legLeft r).legKind r).findReq r.stamp = some r := by rw [kinds]; exact h.findReq
  have preempt : ((u.legLeft r).legKind r).loader.preempt = s.loader.preempt := by rw [kinds]; exact congrArg (·.preempt) h.rest
  have said : Says s ((u.legLeft r).legKind r) [] 1 := by rw [kinds]; exact told.legLeft r
  refine ⟨legEnd_ended h.active found (.refl r) rfl last rfl said (by omega) (by rw [kinds, ← h.queue]; rfl)
    (fun alone => preempt.trans alone), fun space quiet => ?_⟩
  have idle (i : SessionId) : ((u.legCounted r).session i).mountReq ≠ some (legReq r).stamp := by
    have same : (u.legCounted r).session i = s.session i := by
      have eq : (u.legCounted r).restore = s.restore := by
        rw [State.legCounted, kinds]
        exact restore
      exact session_of_restore eq i
    rw [same]
    exact apart i
  have closes : u.legEnd = (u.legCounted r).reqTold (legReq r) r.lastEnd := by
    rw [legEnd_last h.active found last, ← closeReq_quiet (.inr idle)]
    obtain clean | alone := quiet
    · rw [lastEnd_done clean, State.endReq_done]
    · exact State.endReq_of_no_preempt _ _ _ (preempt.trans alone)
  have left : State.findCart ((u.legCounted r).reqLeft (legReq r) r.lastEnd) c.uid = some c := by
    have cart (m : Loc) : (((u.legCounted r).reqLeft (legReq r) r.lastEnd).loc m).cart = (u.loc m).cart := by
      have freed (m : Loc) := (releaseReserved_view (u.modPicker fun p => { p with active := none, cut := false }) (.request r.stamp) m).1
      have counted : ((u.legCounted r).loc m).cart = (u.loc m).cart := by
        rw [legCounted_loc]
        exact freed m
      refine Eq.trans ?_ counted
      have held := held_cart (closeReq_held (u.legCounted r) (legReq r) r.lastEnd) m
      rw [State.loc, closeReq_loader_eq] at held
      exact held
    refine findCart_at (l := l) ?_ (by rw [cart]; exact at_) (fun m k there => by rw [cart] at there; exact only m k there)
    have idle : (u.legCounted r).picker.active = none := by rw [legCounted_picker]
    have picker : ((u.legCounted r).reqLeft (legReq r) r.lastEnd).picker = (u.legCounted r).picker :=
      if_neg fun serves => by
        have some_ : (u.legCounted r).picker.active = some (legReq r).stamp := serves
        rw [idle] at some_
        cases some_
    rw [picker, legCounted_picker, h.picker]
  have record := cleanEndRecord_known (p := legReq r) (e := r.lastEnd) kind (Nat.succ_ne_zero _) drive
    ((if_neg (Nat.ne_of_gt later)).trans first) carries left
  have all := (Says.then_ring (u := u.legCounted r) said rfl).trans (reqTold_says (u.legCounted r) (legReq r) r.lastEnd)
  refine ⟨(((u.legCounted r).reqLeft (legReq r) r.lastEnd).kindEnd (legReq r) r.lastEnd).moveEndRecord (legReq r) r.lastEnd, rfl, ?_⟩
  have kind' : (legReq r).kind = .clean := kind
  rw [closes, all.told space (by omega), State.kindRecords, kind', record]
  rfl

/-! ## A load of a bay (R160) -/

/-- R69, R114, R160: the loader's locations alone change as a load ends the use of its bay's drive. -/
theorem leaveForLoad_loader (t : State) (d : Drive) : ∃ locs, (t.leaveForLoad d).loader = { t.loader with locs := locs } := by
  have pass (t : State) : ∃ locs, (t.endPass d true).loader = { t.loader with locs := locs } := by
    unfold State.endPass
    extract_lets r w
    have told : w.loader = t.loader := State.emit_loader _ _
    split
    · refine ⟨(w.modBayCart d fun c => { c with suspect := false }).loader.locs, ?_⟩
      rw [State.modBayCart, State.modLoc, State.setLoc]
      dsimp only
      rw [told]
    · exact ⟨t.loader.locs, told⟩
  have emptied (t : State) : (t.readerEmptied d).loader = t.loader :=
    readerEmptied_same (·.loader) (fun t => t.discardBlock_loader d) (fun _ _ => rfl) (fun t sel => t.freeWhere_loader sel)
      (fun t q => t.discardDecode_loader q) t
  have halted (t : State) : ∃ locs, (t.readerHalted d true).loader = { t.loader with locs := locs } := by
    unfold State.readerHalted
    split
    · obtain ⟨locs, eq⟩ := pass (t.readerEmptied d)
      exact ⟨locs, by rw [eq, emptied]⟩
    · exact ⟨t.loader.locs, by rw [emptied]⟩
  unfold State.leaveForLoad
  split
  · exact ⟨t.loader.locs, rfl⟩
  · exact ⟨t.loader.locs, rfl⟩
  · cases run : (t.chan d).reader.running with
    | false =>
      rw [stopReader_idle true run]
      exact ⟨t.loader.locs, rfl⟩
    | true =>
      rw [stopReader_eq true run, if_pos rfl, State.awaitAttached_loader, State.modChan_loader]
      exact halted t
  · exact ⟨t.loader.locs, rfl⟩

/-- R142: a cleaning cartridge loses a use as it is loaded. -/
def loadedCart (c : Cart) : Cart := if c.media = .cleaning then { c with uses := c.uses - 1 } else c

/-- R150, R160: the record stands in the bay, and its home waits for it. -/
def State.bayFilled (s : State) (d : Drive) (c : Cart) : State :=
  match c.home with
  | some h => (s.modBayCart d fun _ => loadedCart c).modLoc (slotLoc h) fun x => { x with reserved := some (.homeOf c.uid) }
  | none => s.modBayCart d fun _ => loadedCart c

theorem modLoc_self (t : State) (l : Loc) {f : Location → Location} (h : f (t.loc l) = t.loc l) : t.modLoc l f = t := by
  have same : t.loader.locs.set l (t.loc l) = t.loader.locs := Vector.set_getElem_self l.isLt
  rw [State.modLoc, h, State.setLoc, same]

theorem bayLoad_eq (at_ : t.bayCart d = some c) : t.bayLoad d = (t.bayFilled d c).startMounting d (c.media == .cleaning) := by
  have used : (if c.media == .cleaning then t.modBayCart d fun x => { x with uses := x.uses - 1 } else t) =
      t.modBayCart d fun _ => loadedCart c := by
    unfold loadedCart
    by_cases cleaning : c.media = .cleaning
    · rw [if_pos cleaning, if_pos (beq_iff_eq.2 cleaning), State.modBayCart, State.modBayCart, State.modLoc, State.modLoc]
      have here : (t.loc (bayLoc d)).cart = some c := at_
      rw [here]
      rfl
    · rw [if_neg cleaning, if_neg fun h => cleaning (beq_iff_eq.1 h)]
      refine (modLoc_self t (bayLoc d) ?_).symm
      have here : (t.loc (bayLoc d)).cart = some c := at_
      rw [here]
      exact congrArg (fun x => ({ t.loc (bayLoc d) with cart := x } : Location)) here.symm
  rw [State.bayLoad, at_]
  dsimp only
  rw [used]
  unfold State.bayFilled
  cases c.home <;> rfl

theorem bayFilled_loader (t : State) (d : Drive) (c : Cart) : ∃ locs, (t.bayFilled d c).loader = { t.loader with locs := locs } := by
  unfold State.bayFilled
  split
  · exact ⟨_, rfl⟩
  · exact ⟨_, rfl⟩

/-- What setting a location keeps, the filling of a bay keeps. -/
theorem bayFilled_same {β : Type} (g : State → β) (loc : ∀ t l f, g (State.modLoc t l f) = g t) (t : State) (d : Drive) (c : Cart) :
    g (t.bayFilled d c) = g t := by
  have bay : g (t.modBayCart d fun _ => loadedCart c) = g t := loc _ _ _
  unfold State.bayFilled
  split
  · exact (loc _ _ _).trans bay
  · exact bay

theorem slotLoc_ne_bay (h : Fin 24) (d : Drive) : bayLoc d ≠ slotLoc h := fun eq => by
  have val : 25 + d.val = h.val := congrArg Fin.val eq
  omega

theorem bayFilled_cart (at_ : t.bayCart d = some c) : ((t.bayFilled d c).loc (bayLoc d)).cart = some (loadedCart c) := by
  have here : (t.loc (bayLoc d)).cart = some c := at_
  have bay : ((t.modBayCart d fun _ => loadedCart c).loc (bayLoc d)).cart = some (loadedCart c) := by
    rw [State.modBayCart, State.loc_modLoc_self, here]
    rfl
  unfold State.bayFilled
  split
  · next h _ => rw [loc_modLoc_ne _ _ (slotLoc_ne_bay h d), bay]
  · exact bay

theorem bayFilled_home {h : Fin 24} (home : c.home = some h) (t : State) (d : Drive) :
    ((t.bayFilled d c).loc (slotLoc h)).reserved = some (.homeOf c.uid) := by
  unfold State.bayFilled
  rw [home, State.loc_modLoc_self]

theorem startMounting_loader (t : State) (d : Drive) (cleaning : Bool) : (t.startMounting d cleaning).loader = t.loader := by
  rw [State.startMounting, State.modChan_loader, State.enter_loader]

theorem startMounting_restore (t : State) (d : Drive) (cleaning : Bool) : (t.startMounting d cleaning).restore = t.restore := by
  rw [State.startMounting, State.modChan_restore, State.enter]
  split
  · rfl
  · exact State.emit_restore _ _

/-- R160: the state of the channel is told before anything else, where it is a new one. -/
theorem startMounting_tells (t : State) (d : Drive) (cleaning : Bool) : Tells t (t.startMounting d cleaning)
    (if (t.chan d).state = .mounting then [] else
      [{ kind := .channelState, subject := BitVec.ofNat 16 d.val, e0 := w32 ChanState.mounting.code, e1 := w32 (t.chan d).state.code }]) := by
  have entered : Tells t (t.enter d .mounting) (if (t.chan d).state = .mounting then [] else
      [{ kind := .channelState, subject := BitVec.ofNat 16 d.val, e0 := w32 ChanState.mounting.code, e1 := w32 (t.chan d).state.code }]) := by
    unfold State.enter
    dsimp only
    split
    · exact .refl t
    · exact (Tells.of_ring (t := t.setChan d { t.chan d with state := .mounting, cleaningMark := false }) rfl).then_emit rfl
  exact entered.then_ring rfl

end Sys2Proof.Machine
end

section
/-! A cartridge released into a bay (R142, R150, R153, R160). -/

namespace Sys2Proof.Machine

variable {s t u v w : State} {L : Loader} {st : Stage} {o : Order} {r q : Req} {l m a b : Loc} {e : ReqEnd} {n k : Nat}
  {rs : List Record} {c y : Cart} {d f : Drive} {sec : Option (Loc × Loc)}

/-! ## The load, in its parts -/

/-- R142, R160: the record stands in the bay, and its channel has not taken it yet. -/
def State.bayReady (s : State) (d : Drive) (c : Cart) : State := ((s.replied.leaveForLoad d).setDown (bayLoc d)).bayFilled d c

/-- R160: the bay's channel has taken the record, and the picker is PARKED. -/
def State.bayLoaded (s : State) (d : Drive) (c : Cart) : State :=
  ((s.bayReady d c).startMounting d (c.media == .cleaning)).setPicker .parked

theorem leaveForLoad_picker (t : State) (d : Drive) : (t.leaveForLoad d).picker = t.picker := by
  obtain ⟨locs, eq⟩ := leaveForLoad_loader t d
  rw [State.picker, eq]
  rfl

theorem loweredBay_cart (cart : s.picker.cart = some c) : ((s.replied.leaveForLoad d).setDown (bayLoc d)).bayCart d = some c := by
  have set := (setDown_cart (s.replied.leaveForLoad d) (bayLoc d)).1
  rw [leaveForLoad_picker] at set
  exact set.trans cart

theorem releaseDone_bay (cart : s.picker.cart = some c) :
    (s.replied.releaseDone (bayLoc d)).setPicker .parked = s.bayLoaded d c := by
  have held : s.replied.picker.cart = some c := cart
  have done : s.replied.releaseDone (bayLoc d) = ((s.replied.leaveForLoad d).setDown (bayLoc d)).bayLoad d := by
    rw [State.releaseDone, bayOf_bayLoc, held]
  rw [done, bayLoad_eq (loweredBay_cart cart)]
  rfl

theorem bayReady_loader (s : State) (d : Drive) (c : Cart) : ∃ locs, (s.bayReady d c).loader = { s.loader with
    locs := locs, picker := { s.picker with order := none, inFlight := false, cart := none, legSource := none } } := by
  obtain ⟨locs, left⟩ := leaveForLoad_loader s.replied d
  obtain ⟨locs', filled⟩ := bayFilled_loader ((s.replied.leaveForLoad d).setDown (bayLoc d)) d c
  refine ⟨locs', ?_⟩
  rw [State.bayReady, filled, setDown_loader, leaveForLoad_picker, left, replied_loader]
  rfl

theorem bayLoaded_lowered (found : s.activeReq = some r) (d : Drive) (c : Cart) : Lowered s (s.bayLoaded d c) r := by
  obtain ⟨locs, ready⟩ := bayReady_loader s d c
  have loaded := (Loaded.self ((s.bayReady d c).startMounting d (c.media == .cleaning))).setPicker .parked
  rw [startMounting_loader, ready] at loaded
  exact lowered_of_loaded found loaded

theorem bayReady_chans (s : State) (d : Drive) (c : Cart) : (s.bayReady d c).chans = (s.replied.leaveForLoad d).chans :=
  (bayFilled_same (·.chans) (fun _ _ _ => rfl) _ d c).trans rfl

theorem bayReady_restore (s : State) (d : Drive) (c : Cart) : (s.bayReady d c).restore = (s.replied.leaveForLoad d).restore :=
  (bayFilled_same (·.restore) (fun _ _ _ => rfl) _ d c).trans rfl

theorem bayReady_ring (s : State) (d : Drive) (c : Cart) : (s.bayReady d c).ring = (s.replied.leaveForLoad d).ring :=
  (bayFilled_same (·.ring) (fun _ _ _ => rfl) _ d c).trans rfl

theorem bayReady_outside (s : State) (d : Drive) (c : Cart) : (s.bayReady d c).outside = s.outside :=
  (bayFilled_same (·.outside) (fun _ _ _ => rfl) _ d c).trans
    ((State.setDown_outside (s.replied.leaveForLoad d) (bayLoc d)).trans ((State.leaveForLoad_outside s.replied d).trans rfl))

/-! ## What the load ends of the drive's use -/

theorem leaveForLoad_live (h : (t.chan d).state = .write ∨ (t.chan d).state = .unmounting) :
    t.leaveForLoad d = t.modChan d Channel.leaveWrite := by
  unfold State.leaveForLoad
  obtain h | h := h <;> rw [h]

theorem leaveForLoad_read (h : (t.chan d).state = .read) : t.leaveForLoad d = t.stopReader d true := by
  unfold State.leaveForLoad
  rw [h]

/-- R69, R160: a channel that does not read is left without a record, and with its state and first fault. -/
theorem leaveForLoad_quiet (h : (t.chan d).state ≠ .read) : (∀ e, e ≠ d → (t.leaveForLoad d).chan e = t.chan e)
    ∧ ((t.leaveForLoad d).chan d).state = (t.chan d).state ∧ (t.leaveForLoad d).ring = t.ring
    ∧ (t.leaveForLoad d).restore = t.restore := by
  by_cases live : (t.chan d).state = .write ∨ (t.chan d).state = .unmounting
  · rw [leaveForLoad_live live, State.chan_modChan_self]
    exact ⟨fun e ne => State.chan_modChan_ne _ d e _ ne.symm, rfl, rfl, rfl⟩
  · obtain ⟨write, unmounting⟩ := not_or.1 live
    rw [leaveForLoad_of_halted t d write unmounting h]
    exact ⟨fun _ _ => rfl, rfl, rfl, rfl⟩

theorem leaveForLoad_fault (t : State) (d : Drive) : ((t.leaveForLoad d).chan d).firstFault = (t.chan d).firstFault := by
  by_cases read : (t.chan d).state = .read
  · obtain ⟨x, eq, -⟩ := stopReader_chan t d true
    rw [leaveForLoad_read read, eq]
  · by_cases live : (t.chan d).state = .write ∨ (t.chan d).state = .unmounting
    · rw [leaveForLoad_live live, State.chan_modChan_self]
      rfl
    · obtain ⟨write, unmounting⟩ := not_or.1 live
      rw [leaveForLoad_of_halted t d write unmounting read]

/-! ## The channel that takes the record (R160) -/

theorem bayLoaded_chan (s : State) (d : Drive) (c : Cart) : ∃ mark, (s.bayLoaded d c).chan d =
    if c.media = .cleaning then { (s.replied.leaveForLoad d).chan d with
      state := .mounting, cleaningMark := true, cleanTimer := some (s.timebase + timeoutMicros s.params.cleanTimeout) }
    else { (s.replied.leaveForLoad d).chan d with
      state := .mounting, cleaningMark := mark, mountTimer := some (s.timebase + timeoutMicros s.params.mountTimeout) } := by
  obtain ⟨mark, eq⟩ := startMounting_chan (s.bayReady d c) d (c.media == .cleaning)
  have base : (s.bayReady d c).chan d = (s.replied.leaveForLoad d).chan d := chan_of_chans (bayReady_chans s d c) d
  have outside := bayReady_outside s d c
  have loaded : (s.bayLoaded d c).chan d = ((s.bayReady d c).startMounting d (c.media == .cleaning)).chan d :=
    chan_of_chans (State.setPicker_chans _ _) d
  refine ⟨mark, ?_⟩
  rw [loaded, eq, base, timebase_of_outside outside, params_of_outside outside]
  by_cases cleaning : c.media = .cleaning
  · rw [if_pos cleaning, if_pos (beq_iff_eq.2 cleaning)]
  · rw [if_neg cleaning, if_neg fun h => cleaning (beq_iff_eq.1 h)]

theorem bayLoaded_other (h : (s.chan d).state ≠ .read) (c : Cart) (ne : f ≠ d) : (s.bayLoaded d c).chan f = s.chan f := by
  have loaded : (s.bayLoaded d c).chan f = ((s.bayReady d c).startMounting d (c.media == .cleaning)).chan f :=
    chan_of_chans (State.setPicker_chans _ _) f
  rw [loaded, startMounting_other _ d f _ ne, chan_of_chans (bayReady_chans s d c) f]
  exact (leaveForLoad_quiet (t := s.replied) h).1 f ne

/-- R160: the records of a load of a bay whose channel does not read. -/
theorem bayLoaded_tells (h : (s.chan d).state ≠ .read) (c : Cart) :
    Tells s ((s.bayReady d c).startMounting d (c.media == .cleaning)) (if (s.chan d).state = .mounting then [] else
      [{ kind := .channelState, subject := BitVec.ofNat 16 d.val, e0 := w32 ChanState.mounting.code, e1 := w32 (s.chan d).state.code }]) := by
  obtain ⟨-, state, ring, -⟩ := leaveForLoad_quiet (t := s.replied) h
  have tells := startMounting_tells (s.bayReady d c) d (c.media == .cleaning)
  have same : ((s.bayReady d c).chan d).state = (s.chan d).state := by
    rw [chan_of_chans (bayReady_chans s d c) d]
    exact state
  rw [same] at tells
  exact (Tells.of_ring ((bayReady_ring s d c).trans (ring.trans rfl))).trans tells

theorem bayLoaded_says (h : (s.chan d).state ≠ .read) (c : Cart) : ∃ rs, Says s (s.bayLoaded d c) rs 2 := by
  have tells := bayLoaded_tells h c
  refine ⟨_, ((Says.of_tells tells fun x mem => ?_).mono (k := 1) ?_).setPicker .parked⟩
  · split at mem
    · cases mem
    · rw [List.mem_singleton.1 mem]
      exact (nomatch ·)
  · split
    · exact Nat.zero_le 1
    · exact Nat.le_refl 1

theorem bayLoaded_restore (h : (s.chan d).state ≠ .read) (c : Cart) : (s.bayLoaded d c).restore = s.restore := by
  obtain ⟨-, -, -, restore⟩ := leaveForLoad_quiet (t := s.replied) h
  rw [State.bayLoaded, State.setPicker_restore, startMounting_restore, bayReady_restore]
  exact restore

theorem bayLoaded_loc (s : State) (d : Drive) (c : Cart) (m : Loc) : (s.bayLoaded d c).loc m = (s.bayReady d c).loc m := by
  rw [State.bayLoaded, setPicker_loc, State.loc, startMounting_loader, State.loc]

theorem bayLoaded_cart (cart : s.picker.cart = some c) : ((s.bayLoaded d c).loc (bayLoc d)).cart = some (loadedCart c) := by
  rw [bayLoaded_loc]
  exact bayFilled_cart (loweredBay_cart cart)

/-! ## The clauses about a load (R153, R160) -/

theorem legKind_named (found : t.findReq r.stamp = some r) : ∃ x, (t.legKind r).findReq r.stamp = some { r with second := x } := by
  have still (u : State) (queue : u.loader.queue = t.loader.queue) : ∃ x, u.findReq r.stamp = some { r with second := x } :=
    ⟨r.second, (findReq_of_queue queue _).trans found⟩
  unfold State.legKind
  split
  · exact still _ rfl
  · refine still _ ?_
    unfold State.mountLegEnd
    extract_lets mine
    clear_value mine
    split
    · split <;> rfl
    · split
      · exact attachWaiting_same (·.loader.queue) (fun _ _ _ => rfl) _ _ _ _
      · exact attachWaiting_same (·.loader.queue) (fun _ _ _ => rfl) _ _ _ _
      · rfl
  · split
    · exact ⟨_, chooseScratch_findReq found _⟩
    · exact still _ rfl
  · split
    · next d _ _ =>
      refine ⟨some (bayLoc d, homeOr (t.bayCart d)), ?_⟩
      refine (findReq_modReq_self t r.stamp (f := fun x => { x with second := some (bayLoc d, homeOr (t.bayCart d)) })
        fun _ => rfl).trans ?_
      rw [found]
      rfl
    · exact still _ rfl
  · refine still _ ?_
    split
    · split <;> rfl
    · rfl
  · exact still _ rfl

theorem bay_chans (found : s.activeReq = some r) (clean : r.recorded = none) (d : Drive) (c : Cart) :
    (s.bayLoaded d c).legEnd.chans = (s.bayLoaded d c).chans := by
  have h := bayLoaded_lowered found d c
  obtain ⟨x, named⟩ := legKind_named h.findReq
  exact legEnd_chans h.active named clean

/-- R160: the channel after the leg that loads its bay. -/
theorem bay_channel (found : s.activeReq = some r) (clean : r.recorded = none) (cart : s.picker.cart = some c) :
    let v := (s.bayLoaded d c).legEnd
    ((v.chan d).state = .mounting ∧ (v.chan d).firstFault = (s.chan d).firstFault)
    ∧ ((s.chan d).state ≠ .read → ∀ e, e ≠ d → v.chan e = s.chan e)
    ∧ ((s.chan d).state = .write ∨ (s.chan d).state = .unmounting →
        (v.chan d).full = none ∧ (v.chan d).running = false ∧ (v.chan d).occupancy = 0 ∧ (v.chan d).drainTimer = none)
    ∧ ((s.chan d).state = .read → (v.chan d).reader.running = false)
    ∧ (c.media ≠ .cleaning → (v.loc (bayLoc d)).cart = some c
        ∧ (v.chan d).mountTimer = some (s.timebase + timeoutMicros s.params.mountTimeout))
    ∧ (c.media = .cleaning → (v.loc (bayLoc d)).cart = some { c with uses := c.uses - 1 } ∧ (v.chan d).cleaningMark = true
        ∧ (v.chan d).cleanTimer = some (s.timebase + timeoutMicros s.params.cleanTimeout)) := by
  have chan (e : Drive) : (s.bayLoaded d c).legEnd.chan e = (s.bayLoaded d c).chan e := chan_of_chans (bay_chans found clean d c) e
  have at_ : ((s.bayLoaded d c).legEnd.loc (bayLoc d)).cart = some (loadedCart c) :=
    (legEnd_cart (bayLoaded_lowered found d c).active _).trans (bayLoaded_cart cart)
  obtain ⟨mark, mounted⟩ := bayLoaded_chan s d c
  have fault : ((s.replied.leaveForLoad d).chan d).firstFault = (s.chan d).firstFault := leaveForLoad_fault s.replied d
  dsimp only
  refine ⟨?_, fun quiet e ne => ?_, fun live => ?_, fun read => ?_, fun data => ?_, fun cleaning => ?_⟩
  · rw [chan, mounted, ← fault]
    split <;> exact ⟨rfl, rfl⟩
  · rw [chan, bayLoaded_other quiet c ne]
  · have left : (s.replied.leaveForLoad d).chan d = (s.chan d).leaveWrite := by
      rw [leaveForLoad_live (t := s.replied) live, State.chan_modChan_self]
      rfl
    rw [chan, mounted, left]
    split <;> exact ⟨rfl, rfl, rfl, rfl⟩
  · obtain ⟨x, eq, off⟩ := stopReader_chan s.replied d true
    have left : ((s.replied.leaveForLoad d).chan d).reader.running = false := by
      rw [leaveForLoad_read (t := s.replied) read, eq]
      exact off
    rw [chan, mounted]
    split <;> exact left
  · rw [at_, chan, mounted, if_neg data, loadedCart, if_neg data]
    exact ⟨rfl, rfl⟩
  · rw [at_, chan, mounted, if_pos cleaning, loadedCart, if_pos cleaning]
    exact ⟨rfl, rfl, rfl⟩

/-- R66, R160: the first record of a load of a bay whose channel takes a new state. -/
theorem bay_head (quiet : (s.chan d).state ≠ .read) (new : (s.chan d).state ≠ .mounting) (space : s.ring.spaceFor 1) :
    (s.news (s.bayLoaded d c).legEnd).head? = some
      { kind := .channelState, subject := BitVec.ofNat 16 d.val, e0 := 1, e1 := w32 (s.chan d).state.code } := by
  have tells := bayLoaded_tells quiet c
  rw [if_neg new] at tells
  exact head_of_prefix (tells.news_prefix space (Nat.le_refl 1) ((Works.refl _).setPicker .parked).legEnd.buffer)

theorem bay_home {h : Fin 24} (found : s.activeReq = some r) (home : c.home = some h) :
    ((s.bayLoaded d c).legEnd.loc (slotLoc h)).reserved = some (.homeOf c.uid) := by
  refine legEnd_home (bayLoaded_lowered found d c).active ?_
  rw [bayLoaded_loc]
  exact bayFilled_home home _ d

/-- R153: a MOVE into a bay ends. -/
theorem bay_move (found : s.activeReq = some r) (quiet : (s.chan d).state ≠ .read) (clean : r.recorded = none)
    (kind : r.kind = .move) (last : r.second = none) (c : Cart) :
    ReqEnded s (s.bayLoaded d c).legEnd r .done (r.legsDone + 1) ∧ (s.bayLoaded d c).legEnd.restore = s.restore := by
  obtain ⟨rs, told⟩ := bayLoaded_says quiet c
  obtain ⟨ended, -, -, restore⟩ := (bayLoaded_lowered found d c).single_ends told (by omega) (.inl kind) last clean
  exact ⟨ended, restore.trans (bayLoaded_restore quiet c)⟩

theorem legKind_mount_last (kind : r.kind = .mount) (last : r.second = none) (dst : r.dst = bayLoc d) (alone : t.loader.preempt = none) :
    t.legKind r = t.attachWaiting r.stamp d none := by
  unfold State.legKind
  rw [kind]
  simp only [State.mountLegEnd, last, dst, alone, bayOf_bayLoc, Option.filter_none, Option.isSome_none, Bool.false_eq_true, if_false]

/-- R119, R153: the MOUNT ends, and its sessions are attached. -/
theorem bay_mount (found : s.activeReq = some r) (quiet : (s.chan d).state ≠ .read) (clean : r.recorded = none)
    (kind : r.kind = .mount) (last : r.second = none) (dst : r.dst = bayLoc d) (alone : s.loader.preempt = none) (c : Cart) :
    ReqEnded s (s.bayLoaded d c).legEnd r .done (r.legsDone + 1)
    ∧ (∀ i, (s.session i).mountReq = some r.stamp → (s.bayLoaded d c).legEnd.session i =
        { s.session i with state := .waitRead, drive := some d, mountReq := none, link := none })
    ∧ (∀ i, (s.session i).mountReq ≠ some r.stamp → (s.bayLoaded d c).legEnd.session i = s.session i) := by
  have h := bayLoaded_lowered found d c
  obtain ⟨rs, told⟩ := bayLoaded_says quiet c
  have restore := bayLoaded_restore quiet c
  have queue := h.queue
  have preempt : (s.bayLoaded d c).loader.preempt = s.loader.preempt := congrArg (·.preempt) h.rest
  generalize s.bayLoaded d c = u at *
  have kinds : (u.legLeft r).legKind r = (u.legLeft r).attachWaiting r.stamp d none :=
    legKind_mount_last kind last dst (preempt.trans alone)
  have queue' : ((u.legLeft r).legKind r).loader.queue = s.loader.queue := by
    rw [kinds]
    exact (attachWaiting_same (·.loader.queue) (fun _ _ _ => rfl) _ _ _ _).trans queue
  have preempt' : ((u.legLeft r).legKind r).loader.preempt = s.loader.preempt := by
    rw [kinds]
    exact (attachWaiting_same (·.loader.preempt) (fun _ _ _ => rfl) _ _ _ _).trans preempt
  have ring : ((u.legLeft r).legKind r).ring = (u.legLeft r).ring := by
    rw [kinds]
    exact attachWaiting_same (·.ring) (fun _ _ _ => rfl) _ _ _ _
  have found' : ((u.legLeft r).legKind r).findReq r.stamp = some r :=
    (findReq_of_queue (queue'.trans queue.symm) _).trans (activeReq_some h.active).2
  have ended := legEnd_ended (s := s) h.active found' (.refl r) rfl last rfl ((told.legLeft r).then_ring ring) (by omega)
    (by rw [queue']) (fun alone => preempt'.trans alone)
  rw [lastEnd_done clean] at ended
  have session (i : SessionId) : u.legEnd.session i =
      if (s.session i).mountReq = some r.stamp then (s.session i).attachedTo d none else s.session i := by
    have base : (u.legLeft r).session i = s.session i := session_of_restore restore i
    have counted : (u.legCounted r).session i = ((u.legLeft r).legKind r).session i := session_of_restore rfl i
    rw [legEnd_last h.active found' last, lastEnd_done clean, session_of_restore (endReq_done_restore _ _), counted, kinds,
      attachWaiting_session, base]
  refine ⟨ended, fun i waits => ?_, fun i other => ?_⟩
  · rw [session, if_pos waits]
    rfl
  · rw [session, if_neg other]

theorem legKind_clean_first (kind : r.kind = .clean) (first : r.legsDone = 0) (drive : r.drive = some d) (t : State) :
    t.legKind r = t.modReq r.stamp fun x => { x with second := some (bayLoc d, homeOr (t.bayCart d)) } := by
  unfold State.legKind
  rw [kind]
  dsimp only
  rw [first, drive] <;> rfl

/-- R163: the way home of the cleaner follows. -/
theorem bay_clean (found : s.activeReq = some r) (kind : r.kind = .clean) (first : r.legsDone = 0) (drive : r.drive = some d)
    (cart : s.picker.cart = some c) : (s.bayLoaded d c).legEnd.findReq r.stamp = some { legReq r with
      src := some (bayLoc d), dst := match c.home with | some h => slotLoc h | none => mailLoc, second := none } := by
  have h := bayLoaded_lowered found d c
  have bay : ((s.bayLoaded d c).legLeft r).bayCart d = some (loadedCart c) :=
    legLeft_loc (Q := fun x => x.cart = some (loadedCart c)) (fun _ _ k _ => k) (bayLoaded_cart cart) r
  have home : (loadedCart c).home = c.home := by
    unfold loadedCart
    split <;> rfl
  have way : homeOr (((s.bayLoaded d c).legLeft r).bayCart d) = match c.home with | some h => slotLoc h | none => mailLoc := by
    rw [bay, homeOr, Option.bind_some, home] <;> (cases c.home <;> rfl)
  have named : (((s.bayLoaded d c).legLeft r).legKind r).findReq r.stamp =
      some { r with second := some (bayLoc d, match c.home with | some h => slotLoc h | none => mailLoc) } := by
    rw [legKind_clean_first kind first drive, ← way]
    refine (findReq_modReq_self _ r.stamp (f := fun x => { x with
      second := some (bayLoc d, homeOr (((s.bayLoaded d c).legLeft r).bayCart d)) }) fun _ => rfl).trans ?_
    rw [h.findReq]
    rfl
  exact (legEnd_continues h.active named rfl).1

end Sys2Proof.Machine
end

section
/-! A location that is not as expected, and the end of homing (R143, R145). -/

namespace Sys2Proof.Machine

variable {s t u v w : State} {L : Loader} {st : Stage} {o : Order} {r q : Req} {l m a b : Loc} {e : ReqEnd} {n k : Nat}
  {rs : List Record} {c y : Cart} {d f : Drive} {p : PickState}

/-! ## NO_CARTRIDGE and BLOCKED (R143) -/

theorem clearExpectation_cart (t : State) (o : Order) (m : Loc) : ((t.clearExpectation o).loc m).cart = (t.loc m).cart := by
  unfold State.clearExpectation
  split
  · next x _ _ =>
    by_cases same : m = x
    · rw [same, State.loc_modLoc_self]
    · rw [loc_modLoc_ne _ _ same]
  · rfl

theorem Serves.cleared (found : s.activeReq = some r) (o : Order) : Serves s (s.replied.clearExpectation o) r r := by
  have same {β : Type} (g : State → β) (loc : ∀ t l f, g (State.modLoc t l f) = g t) := clearExpectation_same g loc s.replied o
  exact (Serves.replied found).of_same (congrArg Picker.active (same (·.picker) fun _ _ _ => rfl)) (same (·.loader.queue) fun _ _ _ => rfl)
    ⟨same (·.loader.nextStamp) fun _ _ _ => rfl, same (·.loader.nextId) fun _ _ _ => rfl⟩
    (same (·.loader.preempt) fun _ _ _ => rfl) ⟨[], 0, .of_ring ((same (·.ring) fun _ _ _ => rfl).trans rfl), Nat.zero_le 4⟩

theorem cleared_picker (s : State) (o : Order) : (s.replied.clearExpectation o).picker =
    { s.picker with order := none, inFlight := false } := clearExpectation_same (·.picker) (fun _ _ _ => rfl) s.replied o

theorem act_noCartridge (stage : o.stage = .grip) (loc : o.loc = some l) (found : s.activeReq = some r) : s.replied.act o .noCartridge =
    ((s.replied.clearExpectation o).setPicker .parked).endReq r (.failed .noCartridge) := by
  have active : ((s.replied.clearExpectation o).setPicker .parked).activeReq = some r :=
    (activeReq_of (by rw [setPicker_picker]) (setPicker_queue _ _)).trans (Serves.cleared found o).active
  unfold State.act
  rw [stage, loc]
  dsimp only
  rw [active]

/-- R143: the leg that finds its source empty ends. -/
theorem noCartridge_ends (stage : o.stage = .grip) (loc : o.loc = some l) (found : s.activeReq = some r) :
    let v := s.replied.act o .noCartridge
    (v.picker.order = none ∧ v.picker.inFlight = false) ∧ v.picker.state = .parked ∧ (v.loc l).expected = none
    ∧ (v.loc l).cart = (s.loc l).cart ∧ ReqEnded s v r (.failed .noCartridge) r.legsDone := by
  have serves := Serves.cleared found o
  obtain ⟨rs, n, told, few⟩ := serves.told
  have held := setPicker_endReq_held (s.replied.clearExpectation o) .parked r (.failed .noCartridge)
  dsimp only
  rw [act_noCartridge stage loc found, serves.setPicker_picker, cleared_picker, held_expected held, held_cart held,
    clearExpectation_cart, clearExpectation_awaits loc (.inl stage)]
  exact ⟨⟨rfl, rfl⟩, rfl, rfl, rfl, serves.setPicker_ended told few .parked (.failed .noCartridge)⟩

theorem act_blocked (stage : o.stage = .release) (loc : o.loc = some l) (found : s.activeReq = some r) : s.replied.act o .blocked =
    if r.kind = .returnCart then ((s.replied.clearExpectation o).setPicker .holding).requeue r (.waiting .unsure) (some l)
    else (((s.replied.clearExpectation o).setPicker .holding).endReq r (.failed .blocked)).queueReturnToSource := by
  have active : ((s.replied.clearExpectation o).setPicker .holding).activeReq = some r :=
    (activeReq_of (by rw [setPicker_picker]) (setPicker_queue _ _)).trans (Serves.cleared found o).active
  unfold State.act
  rw [stage, loc]
  dsimp only
  rw [active]

/-- R143: the leg whose destination is blocked ends, and its record goes back, or its RETURN waits. -/
theorem blocked_ends (stage : o.stage = .release) (loc : o.loc = some l) (found : s.activeReq = some r) :
    let v := s.replied.act o .blocked
    (v.picker.order = none ∧ v.picker.inFlight = false) ∧ v.picker.state = .holding ∧ (v.loc l).expected = none
    ∧ v.picker.cart = s.picker.cart ∧ v.picker.active = none
    ∧ (r.kind = .returnCart → v.findReq r.stamp = some { r with state := .waiting .unsure, blocked := some l })
    ∧ (r.kind ≠ .returnCart → s.loader.preempt = none → s.loader.queue.length ≤ 10 →
        (s.picker.legSource.getD mailLoc).val < 25 → v.loader.queue = s.loader.queue.filter (·.stamp ≠ r.stamp) ++
          [s.returned s.picker.cart (s.picker.legSource.getD mailLoc)]) := by
  have serves := Serves.cleared found o
  have awaits : ((s.replied.clearExpectation o).loc l).expected = none := clearExpectation_awaits loc (.inr stage)
  dsimp only
  rw [act_blocked stage loc found]
  by_cases kind : r.kind = .returnCart
  · rw [if_pos kind, requeue_picker, setPicker_picker, cleared_picker, held_expected (requeue_held _ _ _ _), setPicker_loc, awaits]
    exact ⟨⟨rfl, rfl⟩, rfl, rfl, rfl, rfl, fun _ => requeue_findReq (serves.found_later .holding) _ _, fun other => absurd kind other⟩
  · have picker := serves.returns_picker .holding .blocked
    have queue := serves.returns_queue .holding .blocked
    rw [cleared_picker] at picker queue
    rw [if_neg kind, picker, returns_expected, awaits]
    exact ⟨⟨rfl, rfl⟩, rfl, rfl, rfl, rfl, fun same => absurd same kind, fun _ => queue⟩

/-! ## HOME is done (R145) -/

/-- R145: the record that ends a RECOVER_PICKER. -/
def State.recovered (s : State) (p : PickState) : List Record :=
  match s.picker.recovery with
  | some t => [{ kind := .pickerFault, tag := t, e0 := w32 p.code }]
  | none => []

theorem endRecovery_says (t : State) (p : PickState) : Says t (t.endRecovery .done (w32 p.code)) (t.recovered p) 1 := by
  unfold State.endRecovery State.recovered
  split
  · next none_ =>
    rw [none_]
    exact (Says.refl t).mono (Nat.zero_le 1)
  · next tag some_ =>
    rw [some_]
    exact ((Says.refl t).emit (x := { kind := .pickerFault, byte1 := CmdOutcome.done.code, tag := tag, e0 := w32 p.code }) rfl
      (nomatch ·)).then_ring rfl

theorem endRecovery_chans (t : State) (x : CmdOutcome) (w : Word) : (t.endRecovery x w).chans = t.chans := by
  unfold State.endRecovery
  split
  · rfl
  · exact State.emit_chans _ _

/-- R145: the picker is parked at home. -/
def State.homed (s : State) : State := s.replied.modPicker fun p => { p with pos := some .home, fault := none }

/-- The picker but for the request it serves. -/
def Picker.unserving (p : Picker) : Picker := { p with active := none, cut := false }

theorem closeReq_unserving (t : State) (q : Req) (e : ReqEnd) : (t.closeReq q e).picker.unserving = t.picker.unserving := by
  rw [closeReq_picker]
  split <;> rfl

theorem endPreempt_unserving (t : State) : t.endPreempt.picker.unserving = t.picker.unserving := by rw [endPreempt_picker]

theorem raiseInternal_unserving (t : State) (q : Req) : (t.raiseInternal q).picker.unserving = t.picker.unserving := by
  rw [raiseInternal_picker]

theorem endReq_unserving (t : State) (q : Req) (e : ReqEnd) : (t.endReq q e).picker.unserving = t.picker.unserving :=
  endReq_same (·.picker.unserving) closeReq_unserving endPreempt_unserving
    (beginRemount_same (·.picker.unserving) (fun _ _ _ => rfl) endPreempt_unserving raiseInternal_unserving (fun _ _ => rfl)
      (fun _ _ => rfl) closeReq_unserving) t q e

theorem queueReturn_unserving (t : State) (l : Loc) : (t.queueReturn l).picker.unserving = t.picker.unserving :=
  queueReturn_keeps (P := fun w => w.picker.unserving = t.picker.unserving) (fun q => endReq_unserving t q _) rfl
    (fun _ _ h => h) (fun _ _ h => h) l

/-- R145: what homing leaves of the picker, whatever it served. -/
theorem unserving_fields {p q : Picker} (h : p.unserving = q.unserving) : p.state = q.state ∧ p.pos = q.pos ∧ p.cart = q.cart
    ∧ p.fault = q.fault ∧ p.order = q.order ∧ p.recovery = q.recovery :=
  ⟨congrArg (·.state) h, congrArg (·.pos) h, congrArg (·.cart) h, congrArg (·.fault) h, congrArg (·.order) h, congrArg (·.recovery) h⟩

/-- R145: the record that the picker holds as homing ends, a fresh one where it had none. -/
def State.regripped (s : State) : State :=
  (if s.homed.picker.cart.isSome then s.homed else s.homed.newCart.2).modPicker fun p =>
    { p with cart := some (s.picker.cart.getD (freshCart s.loader.nextUid)) }

/-- R145: the recovery of a picker that holds a record has ended. -/
def State.homedFull (s : State) : State :=
  (s.regripped.setPicker .holding).endRecovery .done (w32 PickState.holding.code)

/-- R145: where the RETURN goes. -/
def State.homeGoal (s : State) : Loc :=
  match s.picker.homeTo with
  | .mail => mailLoc
  | .legSource => s.picker.legSource.getD mailLoc

theorem regripped_picker (s : State) : s.regripped.picker = { s.picker with
    order := none, inFlight := false, pos := some .home, fault := none
    cart := some (s.picker.cart.getD (freshCart s.loader.nextUid)) } := by
  unfold State.regripped
  split <;> rfl

theorem regripped_same {β : Type} (g : State → β) (picker : ∀ t f, g (State.modPicker t f) = g t)
    (name : ∀ t, g (State.newCart t).2 = g t) (s : State) : g s.regripped = g s := by
  unfold State.regripped
  split
  · exact (picker _ _).trans ((picker _ _).trans (picker _ _))
  · exact (picker _ _).trans ((name _).trans ((picker _ _).trans (picker _ _)))

theorem homedFull_picker (s : State) : s.homedFull.picker = { s.picker with
    order := none, inFlight := false, pos := some .home, fault := none, state := .holding, recovery := none
    cart := some (s.picker.cart.getD (freshCart s.loader.nextUid)) } := by
  have ended : s.homedFull.picker = { (s.regripped.setPicker .holding).picker with recovery := none } := by
    rw [State.picker, State.homedFull, endRecovery_loader]
  rw [ended, setPicker_picker, regripped_picker]

theorem homedFull_loader (s : State) : s.homedFull.loader.queue = s.loader.queue
    ∧ s.homedFull.loader.nextStamp = s.loader.nextStamp ∧ s.homedFull.loader.nextId = s.loader.nextId := by
  have queue := regripped_same (·.loader.queue) (fun _ _ => rfl) (fun _ => rfl) s
  have stamp := regripped_same (·.loader.nextStamp) (fun _ _ => rfl) (fun _ => rfl) s
  have id := regripped_same (·.loader.nextId) (fun _ _ => rfl) (fun _ => rfl) s
  rw [State.homedFull, endRecovery_loader, setPicker_loader]
  exact ⟨queue, stamp, id⟩

theorem homedFull_chans (s : State) : s.homedFull.chans = s.chans := by
  rw [State.homedFull, endRecovery_chans, State.setPicker_chans]
  exact regripped_same (·.chans) (fun _ _ => rfl) (fun _ => rfl) s

theorem recovered_of {p : PickState} (h : t.picker.recovery = s.picker.recovery) : t.recovered p = s.recovered p := by
  unfold State.recovered
  rw [h]

theorem homedFull_says (s : State) : Says s s.homedFull (s.recovered .holding) 2 := by
  have grips : Says s s.regripped [] 0 := .of_ring (regripped_same (·.ring) (fun _ _ => rfl) (fun _ => rfl) s)
  have same : (s.regripped.setPicker .holding).recovered .holding = s.recovered .holding :=
    recovered_of (by rw [setPicker_picker, regripped_picker])
  have all := (grips.setPicker .holding).trans (endRecovery_says (s.regripped.setPicker .holding) .holding)
  rw [same] at all
  exact all

/-- R145: the picker that finds a record on its gripper, and the record it takes for one that it does not know. -/
def State.homedWith (x : Cart × State) : State :=
  ((x.2.modPicker fun p => { p with cart := some (p.cart.getD x.1) }).setPicker .holding).endRecovery .done (w32 PickState.holding.code)

theorem homedWith_full (s : State) :
    State.homedWith (if s.homed.picker.cart.isSome then (freshCart 0, s.homed) else s.homed.newCart) = s.homedFull := by
  unfold State.homedFull State.regripped
  by_cases holds : s.homed.picker.cart.isSome = true
  · obtain ⟨c, held⟩ := Option.isSome_iff_exists.1 holds
    have held' : s.picker.cart = some c := held
    have kept : s.homed.modPicker (fun p => { p with cart := some (p.cart.getD (freshCart 0)) }) =
        s.homed.modPicker fun p => { p with cart := some (s.picker.cart.getD (freshCart s.loader.nextUid)) } := by
      have same : ({ s.homed.picker with cart := some (s.picker.cart.getD (freshCart 0)) } : Picker) =
          { s.homed.picker with cart := some (s.picker.cart.getD (freshCart s.loader.nextUid)) } := by rw [held']; rfl
      exact congrArg (fun p => s.homed.modPicker fun _ => p) same
    rw [if_pos holds, if_pos holds, State.homedWith, kept]
  · rw [if_neg holds, if_neg holds]
    rfl

theorem homeDone_full (full : (s.filter .gripper).debounced = .on) : s.replied.homeDone = s.homedFull.queueReturn s.homeGoal := by
  have on : (s.homed.filter .gripper).debounced = .on := full
  have goal_ : s.replied.homeDone = (match s.homedFull.picker.homeTo with
      | .mail => s.homedFull.queueReturn mailLoc
      | .legSource => s.homedFull.queueReturnToSource) := by
    rw [← homedWith_full s]
    exact (if_pos on).trans rfl
  rw [goal_, State.queueReturnToSource, homedFull_picker, State.homeGoal]
  cases s.picker.homeTo <;> rfl

/-- R145: HOME is done with a record on the gripper. -/
theorem home_holds (full : (s.filter .gripper).debounced = .on) :
    let v := s.replied.homeDone
    (v.picker.pos = some .home ∧ v.picker.fault = none ∧ v.picker.order = none ∧ v.picker.recovery = none)
    ∧ v.picker.state = .holding ∧ v.picker.cart = some (s.picker.cart.getD (freshCart s.loader.nextUid))
    ∧ (s.loader.queue.length < 10 → v.chans = s.chans
        ∧ (s.ring.spaceFor 3 → ((s.news v).filter fun x => x.kind ≠ .doorEvent) = s.recovered .holding)
        ∧ (s.homeGoal.val < 25 → v.loader.queue = s.loader.queue ++ [s.returned v.picker.cart s.homeGoal])) := by
  have picker := homedFull_picker s
  obtain ⟨state, pos, cart, fault, order, recovery⟩ := unserving_fields (queueReturn_unserving s.homedFull s.homeGoal)
  obtain ⟨queue, stamp, id⟩ := homedFull_loader s
  rw [picker] at state pos cart fault order recovery
  dsimp only
  rw [homeDone_full full]
  refine ⟨⟨pos, fault, order, recovery⟩, state, cart, fun room => ?_⟩
  have shut : ¬ s.homedFull.queueFull = true := by rw [queueFull_iff, queue]; omega
  have joins : ∃ x, s.homedFull.queueReturn s.homeGoal = s.homedFull.joinInternal x := ⟨_, if_neg shut⟩
  refine ⟨?_, fun space => ?_, fun place => ?_⟩
  · obtain ⟨x, joins⟩ := joins
    rw [joins]
    exact homedFull_chans s
  · obtain ⟨x, joins⟩ := joins
    rw [joins]
    exact ((homedFull_says s).then_ring (u := s.homedFull.joinInternal x) rfl).told space (by omega)
  · rw [queueReturn_queue (by rw [queue]; omega) place, queue, cart, picker, State.returned, stamp, id, State.returned]

/-! ## HOME is done with an empty gripper (R145) -/

/-- R145: the record that the picker does not hold any more is gone. -/
def State.dropped (s : State) : State :=
  match s.homed.picker.cart with
  | none => s.homed
  | some c => ((s.homed.modPicker fun p => { p with cart := none }).releaseReserved (.homeOf c.uid)).emit
      { kind := .locationChanged, subject := 27, e0 := 0, e1 := 2 }

theorem homeDone_empty (empty : (s.filter .gripper).debounced ≠ .on) : s.replied.homeDone =
    (s.dropped.setPicker .parked).endRecovery .done (w32 PickState.parked.code) := by
  have off : ¬ (s.homed.filter .gripper).debounced = .on := empty
  exact (if_neg off).trans rfl

theorem dropped_none (h : s.picker.cart = none) : s.dropped = s.homed := by
  have held : s.homed.picker.cart = none := h
  rw [State.dropped, held]

theorem dropped_some (h : s.picker.cart = some c) : s.dropped =
    ((s.homed.modPicker fun p => { p with cart := none }).releaseReserved (.homeOf c.uid)).emit
      { kind := .locationChanged, subject := 27, e0 := 0, e1 := 2 } := by
  have held : s.homed.picker.cart = some c := h
  rw [State.dropped, held]

theorem dropped_says (s : State) : Says s s.dropped (if s.picker.cart.isSome then
    [{ kind := .locationChanged, subject := 27, e1 := 2 }] else []) 1 := by
  cases held : s.picker.cart with
  | none =>
    rw [dropped_none held]
    exact (Says.of_ring (t := s.homed) rfl).mono (Nat.zero_le 1)
  | some c =>
    rw [dropped_some held]
    exact (Says.of_ring (t := (s.homed.modPicker fun p => { p with cart := none }).releaseReserved (.homeOf c.uid)) rfl).emit rfl
      (nomatch ·)

theorem dropped_effect (s : State) : s.dropped.picker = { s.picker with
      order := none, inFlight := false, pos := some .home, fault := none, cart := none }
    ∧ s.dropped.loader.queue = s.loader.queue ∧ s.dropped.chans = s.chans
    ∧ ∀ c m, s.picker.cart = some c → (s.loc m).reserved = some (.homeOf c.uid) → (s.dropped.loc m).reserved = none := by
  cases held : s.picker.cart with
  | none =>
    rw [dropped_none held]
    refine ⟨?_, rfl, rfl, fun c m some_ => by cases some_⟩
    rw [← held]
    rfl
  | some c =>
    rw [dropped_some held, State.picker, State.emit_loader, State.emit_chans]
    refine ⟨rfl, rfl, rfl, fun x m same reserved => ?_⟩
    cases same
    have before : ((s.homed.modPicker fun p => { p with cart := none }).loc m).reserved = some (.homeOf c.uid) := reserved
    rw [emit_loc, releaseReserved_loc, if_pos before]

/-- R145: HOME is done with an empty gripper. -/
theorem home_parks (empty : (s.filter .gripper).debounced ≠ .on) :
    let v := s.replied.homeDone
    (v.picker.pos = some .home ∧ v.picker.fault = none ∧ v.picker.order = none ∧ v.picker.recovery = none)
    ∧ v.picker.state = .parked ∧ v.picker.cart = none ∧ v.loader.queue = s.loader.queue ∧ v.chans = s.chans
    ∧ (∀ c m, s.picker.cart = some c → (s.loc m).reserved = some (.homeOf c.uid) → (v.loc m).reserved = none)
    ∧ (s.ring.spaceFor 4 → ((s.news v).filter fun x => x.kind ≠ .doorEvent) =
        (if s.picker.cart.isSome then [{ kind := .locationChanged, subject := 27, e1 := 2 }] else []) ++ s.recovered .parked) := by
  obtain ⟨picker, queue, chans, reserved⟩ := dropped_effect s
  have told := dropped_says s
  have same : (s.dropped.setPicker .parked).recovered .parked = s.recovered .parked :=
    recovered_of (by rw [setPicker_picker, picker])
  have all := (told.setPicker .parked).trans (endRecovery_says (s.dropped.setPicker .parked) .parked)
  rw [same] at all
  have loader := endRecovery_loader (s.dropped.setPicker .parked) .done (w32 PickState.parked.code)
  have after : ((s.dropped.setPicker .parked).endRecovery .done (w32 PickState.parked.code)).picker =
      { (s.dropped.setPicker .parked).picker with recovery := none } := by rw [State.picker, loader]
  have loc (m : Loc) : ((s.dropped.setPicker .parked).endRecovery .done (w32 PickState.parked.code)).loc m = s.dropped.loc m := by
    rw [State.loc, loader]
    exact setPicker_loc _ _ m
  dsimp only
  rw [homeDone_empty empty, after, setPicker_picker, picker]
  refine ⟨⟨rfl, rfl, rfl, rfl⟩, rfl, rfl, ?_, ?_, fun c m held home => ?_, fun space => all.told space (by omega)⟩
  · rw [loader]
    exact (setPicker_queue _ _).trans queue
  · rw [endRecovery_chans, State.setPicker_chans, chans]
  · rw [loc]
    exact reserved c m held home

end Sys2Proof.Machine
end

section
/-! What each reply to an order in flight does, as O57 states it (R133, R142 to R145). -/

namespace Sys2Proof.Machine

variable {s t u v w : State} {L : Loader} {st : Stage} {o : Order} {r q : Req} {l m a b : Loc} {e : ReqEnd} {n k : Nat}
  {rs : List Record} {c y : Cart} {d : Drive} {p : PickState} {reply : Reply} {text : List Byte}

/-! ## Replies that fault the picker (R143) -/

theorem act_jam (t : State) (o : Order) : t.act o .jam = t.faultPicker .jam o := by
  unfold State.act
  cases o.stage <;> cases o.loc <;> rfl

/-- R141: a reply that an order's stage has a row for. -/
def listedReply (st : Stage) (reply : Reply) : Bool :=
  match st, reply with
  | _, .jam | .grip, .noCartridge | .release, .blocked => true
  | .readLabel, .label _ | .readLabel, .noLabel | .visitRead, .label _ | .visitRead, .noLabel => true
  | .readLabel, .done | .visitRead, .done => false
  | _, .done => true
  | _, _ => false

/-- R143: a reply without a row faults the picker. -/
theorem act_unlisted (h : listedReply o.stage reply = false) (t : State) : t.act o reply = t.faultPicker .picker o := by
  unfold State.act
  generalize o.stage = st at h
  split
  case h_14 => rfl
  all_goals cases h

/-! ## Arrivals -/

/-- R142: the picker has reached the source of its leg. -/
theorem leg_toSource (stage : o.stage = .toSource) (loc : o.loc = some l) (found : s.activeReq = some r) (whole : s.picker.cut = false)
    (unmarked : r.marked = false) (shut : s.inOpenMagazine l = false) :
    let v := s.replied.act o .done
    OrderSent s v .grip (some l) ∧ v.picker.state = .grip ∧ v.picker.pos = some (.loc l) ∧ (v.loc l).expected = some false
    ∧ v.picker.cart = s.picker.cart ∧ v.loader.queue = s.loader.queue ∧ v.chans = s.chans := by
  obtain ⟨sent, state, pos, cart, queue, chans⟩ := arrived_sends s .grip l
  dsimp only
  rw [toSource_step stage loc found unmarked, nextStep_sends (t := s.replied.arrive l) whole shut]
  exact ⟨sent, state, pos, sendOrder_awaits rfl _ l, cart, queue, chans⟩

/-- R156: a request that CANCEL_MOVE has marked ends at its source. -/
theorem leg_cancelled (stage : o.stage = .toSource) (loc : o.loc = some l) (found : s.activeReq = some r)
    (whole : s.picker.cut = false) (marked : r.marked = true) :
    let v := s.replied.act o .done
    (v.picker.order = none ∧ v.picker.inFlight = false) ∧ v.picker.state = .parked ∧ v.picker.pos = some (.loc l)
    ∧ ReqEnded s v r .cancelled r.legsDone := by
  have serves := Serves.arrives found l
  dsimp only
  rw [toSource_cancelled stage loc found whole marked, serves.setPicker_picker]
  exact ⟨⟨rfl, rfl⟩, rfl, rfl, serves.setPicker_ended (arrives_says s l) (Nat.zero_le 4) .parked .cancelled⟩

/-- R142: the picker has reached the destination of its leg. -/
theorem leg_toDest (stage : o.stage = .toDest) (loc : o.loc = some l) (whole : s.picker.cut = false)
    (shut : s.inOpenMagazine l = false) :
    let v := s.replied.act o .done
    OrderSent s v .release (some l) ∧ v.picker.state = .release ∧ v.picker.pos = some (.loc l) ∧ (v.loc l).expected = some true
    ∧ v.picker.cart = s.picker.cart ∧ v.loader.queue = s.loader.queue ∧ v.chans = s.chans := by
  obtain ⟨sent, state, pos, cart, queue, chans⟩ := arrived_sends s .release l
  dsimp only
  rw [act_toDest stage loc, nextStep_sends (t := s.replied.arrive l) whole shut]
  exact ⟨sent, state, pos, sendOrder_awaits rfl _ l, cart, queue, chans⟩

/-- R154: the picker has reached a location that it visits. -/
theorem leg_visit (stage : o.stage = .visit) (loc : o.loc = some l) (whole : s.picker.cut = false)
    (shut : s.inOpenMagazine l = false) :
    let v := s.replied.act o .done
    OrderSent s v .visitRead (some l) ∧ v.picker.state = .scan ∧ v.picker.pos = some (.loc l)
    ∧ v.loader.queue = s.loader.queue ∧ v.loader.locs = s.loader.locs := by
  obtain ⟨sent, state, pos, -, queue, -⟩ := arrived_sends s .visitRead l
  dsimp only
  rw [act_visit stage loc, nextStep_sends (t := s.replied.arrive l) whole shut]
  exact ⟨sent, state, pos, queue, sendOrder_locs rfl _ _⟩

/-! ## The grip -/

/-- R142: the picker has gripped the record of its source. -/
theorem leg_grip (stage : o.stage = .grip) (loc : o.loc = some l) (found : s.activeReq = some r) (whole : s.picker.cut = false) :
    let v := s.replied.act o .done
    (v.loc l).cart = none ∧ v.picker.legSource = some l
    ∧ (∀ c, (s.loc l).cart = some c → v.picker.cart = some (gripCart l c)
      ∧ (c.label ≠ none → s.inOpenMagazine r.dst = false →
          OrderSent s v .toDest (some r.dst) ∧ v.picker.state = .travel ∧ v.findReq r.stamp = some (gripReq r c))
      ∧ (c.label = none → s.inOpenMagazine l = false → OrderSent s v .readLabel (some l) ∧ v.picker.state = .scan))
    ∧ ((s.loc l).cart = none → s.inOpenMagazine l = false →
        v.picker.cart = some (gripCart l (freshCart s.loader.nextUid)) ∧ OrderSent s v .readLabel (some l)
        ∧ v.picker.state = .scan) := by
  dsimp only
  cases at_ : (s.loc l).cart with
  | some c =>
    have grip := grip_gripped found at_
    rw [grip.acts stage loc]
    cases label : c.label with
    | none =>
      have unread : (gripCart l c).label.isNone = true := by rw [gripCart, label]; rfl
      obtain ⟨here, source, cart⟩ := grip.next_keeps .readLabel l
      rw [if_pos unread]
      refine ⟨here, source, fun x same => ?_, fun none_ => by cases none_⟩
      obtain rfl := Option.some.inj same
      refine ⟨cart, fun labelled => absurd label labelled, fun _ shut => ?_⟩
      obtain ⟨sent, state, -⟩ := grip.sends whole shut .readLabel
      exact ⟨sent, state⟩
    | some text =>
      have read : ¬ (gripCart l c).label.isNone = true := by rw [gripCart, label]; exact Bool.false_ne_true
      obtain ⟨here, source, cart⟩ := grip.next_keeps .toDest r.dst
      rw [if_neg read]
      refine ⟨here, source, fun x same => ?_, fun none_ => by cases none_⟩
      obtain rfl := Option.some.inj same
      refine ⟨cart, fun _ shut => ?_, fun none_ => by rw [label] at none_; cases none_⟩
      exact grip.sends whole shut .toDest
  | none =>
    have grip := grip_fresh found at_
    have unread : (gripCart l (freshCart s.loader.nextUid)).label.isNone = true := rfl
    obtain ⟨here, source, cart⟩ := grip.next_keeps .readLabel l
    rw [grip.acts stage loc, if_pos unread]
    refine ⟨here, source, fun x same => (by cases same), fun _ shut => ?_⟩
    obtain ⟨sent, state, -⟩ := grip.sends whole shut .readLabel
    exact ⟨cart, sent, state⟩

/-! ## READ_LABEL in a leg (R144) -/

/-- R144: the next order after a label, and what the step leaves of the record and tells. -/
def LabelGoesOn (s v : State) (r : Req) (y : Cart) (rs : List Record) (n : Nat) : Prop :=
  (OrderSent s v .toDest (some r.dst) ∧ v.picker.state = .travel) ∧ v.picker.cart = some y
  ∧ (s.ring.spaceFor n → ((s.news v).filter fun x => x.kind ≠ .doorEvent) = rs)

theorem leg_unread (stage : o.stage = .readLabel) (found : s.activeReq = some r) (whole : s.picker.cut = false)
    (shut : s.inOpenMagazine r.dst = false) (at_ : s.picker.cart = some c) (shape : reply = .noLabel ∨ ∃ t, reply = .label t)
    (unread : labelOf reply = none) : LabelGoesOn s (s.replied.act o reply) r { c with label := none } [unlabelledRecord] 3
      ∧ (s.replied.act o reply).loader.counters.badLabels =
          if badLabel reply then s.loader.counters.badLabels.add 1 else s.loader.counters.badLabels := by
  obtain ⟨cart, told, bad⟩ := label_unread at_ unread
  obtain ⟨onward, cart', -, told', bad', -⟩ := label_sends whole shut told
  rw [act_readLabel stage found shape]
  exact ⟨⟨onward, cart'.trans cart, fun space => told'.told space (by omega)⟩, bad'.trans bad⟩

theorem leg_known (stage : o.stage = .readLabel) (found : s.activeReq = some r) (whole : s.picker.cut = false)
    (shut : s.inOpenMagazine r.dst = false) (at_ : s.picker.cart = some c) (read : labelOf (.label text) = some text)
    (known : c.label = some text) : LabelGoesOn s (s.replied.act o (.label text)) r c [labelledRecord text c] 3 := by
  obtain ⟨cart, told⟩ := label_known at_ read known
  obtain ⟨onward, cart', -, told', -, -⟩ := label_sends whole shut told
  rw [act_readLabel stage found (.inr ⟨text, rfl⟩)]
  exact ⟨onward, cart'.trans cart, fun space => told'.told space (by omega)⟩

/-- R144: a record with a label that no other record has. -/
def State.newlyLabelled (s : State) (c : Cart) (text : List Byte) : Cart :=
  { c with label := some text, uses := if text.getLast? = some 0x43 then s.params.cleanUsesNew else c.uses }

theorem labelled_none (s : State) (c : Cart) (text : List Byte) : s.labelled c text none = s.newlyLabelled c text := by
  rw [State.labelled, State.newlyLabelled, Bool.or_false]

theorem leg_new (stage : o.stage = .readLabel) (found : s.activeReq = some r) (whole : s.picker.cut = false)
    (shut : s.inOpenMagazine r.dst = false) (at_ : s.picker.cart = some c) (read : labelOf (.label text) = some text)
    (new : c.label ≠ some text) (alone : ∀ m k, (s.loc m).cart = some k → k.uid ≠ c.uid → k.label ≠ some text) :
    LabelGoesOn s (s.replied.act o (.label text)) r (s.newlyLabelled c text) [labelledRecord text (s.newlyLabelled c text)] 3 := by
  obtain ⟨cart, told⟩ := label_new at_ read new alone
  obtain ⟨onward, cart', -, told', -, -⟩ := label_sends whole shut told
  rw [labelled_none] at cart told'
  rw [act_readLabel stage found (.inr ⟨text, rfl⟩)]
  exact ⟨onward, cart'.trans cart, fun space => told'.told space (by omega)⟩

theorem leg_duplicate (stage : o.stage = .readLabel) (found : s.activeReq = some r) (whole : s.picker.cut = false)
    (shut : s.inOpenMagazine r.dst = false) (at_ : s.picker.cart = some c) (read : labelOf (.label text) = some text)
    (new : c.label ≠ some text) (there : (s.loc m).cart = some y) (apart : y.uid ≠ c.uid) (has : y.label = some text)
    (only : ∀ n k, (s.loc n).cart = some k → k.label = some text → n = m) :
    let v := s.replied.act o (.label text)
    LabelGoesOn s v r (s.labelled c text (some y)) [duplicateRecord (some m) none text, labelledRecord text (s.labelled c text (some y))] 4
    ∧ (v.loc m).cart = some { y with label := none, suspect := false }
    ∧ v.loader.counters.duplicateLabels = s.loader.counters.duplicateLabels.add 1 := by
  obtain ⟨cart, told, lost, count⟩ := label_moves at_ read new there apart has only
  obtain ⟨onward, cart', carts, told', -, count'⟩ := label_sends whole shut told
  dsimp only
  rw [act_readLabel stage found (.inr ⟨text, rfl⟩)]
  exact ⟨⟨onward, cart'.trans cart, fun space => told'.told space (by omega)⟩, (carts m).trans lost, count'.trans count⟩

/-! ## The end of a leg (R142, R153) -/

theorem act_placed (stage : o.stage = .release) (loc : o.loc = some l) (place : l.val < 25) (cart : s.picker.cart = some c) :
    s.replied.act o .done = (s.placed l c).legEnd := by rw [act_release stage loc, releaseDone_place place cart]

theorem act_loaded (stage : o.stage = .release) (loc : o.loc = some (bayLoc d)) (cart : s.picker.cart = some c) :
    s.replied.act o .done = (s.bayLoaded d c).legEnd := by rw [act_release stage loc, releaseDone_bay cart]

/-- R142: wherever the record is released, the picker has set it down. -/
theorem release_lowered (stage : o.stage = .release) (loc : o.loc = some l) (found : s.activeReq = some r)
    (cart : s.picker.cart = some c) : ∃ u, s.replied.act o .done = u.legEnd ∧ Lowered s u r := by
  obtain place | ⟨d, rfl⟩ : l.val < 25 ∨ ∃ d, l = bayLoc d := by
    by_cases place : l.val < 25
    · exact .inl place
    · exact .inr ⟨⟨l.val - 25, by omega⟩, Fin.ext (by change l.val = 25 + (l.val - 25); omega)⟩
  · exact ⟨_, act_placed stage loc place cart, placed_lowered found l c⟩
  · exact ⟨_, act_loaded stage loc cart, bayLoaded_lowered found d c⟩

/-- R153: what the end of any leg leaves. -/
theorem release_ends (stage : o.stage = .release) (loc : o.loc = some l) (found : s.activeReq = some r)
    (cart : s.picker.cart = some c) :
    let v := s.replied.act o .done
    (v.picker.order = none ∧ v.picker.inFlight = false) ∧ v.picker.state = .parked ∧ v.picker.active = none ∧ v.picker.cart = none
    ∧ v.picker.legSource = none
    ∧ (∀ m, (s.loc m).reserved = some (.request r.stamp) → (v.loc m).reserved ≠ some (.request r.stamp))
    ∧ (∀ a b, r.kind = .mount ∨ r.kind = .remount → r.second = some (a, b) →
        v.findReq r.stamp = some { legReq r with src := some a, dst := b, second := none }
        ∧ v.loader.queue.map (·.stamp) = s.loader.queue.map (·.stamp)) := by
  obtain ⟨u, acts, h⟩ := release_lowered stage loc found cart
  dsimp only
  rw [acts, h.ends]
  exact ⟨⟨rfl, rfl⟩, rfl, rfl, rfl, rfl, fun m _ => legEnd_released h.active m, fun a b kind second => h.mount_continues kind second⟩

/-- R142, R150: what the release at a place outside the bays leaves of the locations. -/
theorem release_places (found : s.activeReq = some r) (cart : s.picker.cart = some c) :
    ((s.placed l c).legEnd.loc l).cart = some c
    ∧ ∀ m, (s.loc m).reserved = some (.homeOf c.uid) → ((s.placed l c).legEnd.loc m).reserved = none := by
  have active := (placed_lowered found l c).active
  exact ⟨(legEnd_cart active l).trans (placed_cart cart), fun m home => legEnd_unreserved active (placed_home home)⟩

/-- R153: a request of one leg ends at a place outside the bays. -/
theorem release_single (found : s.activeReq = some r)
    (kind : r.kind = .move ∨ r.kind = .exportCart ∨ r.kind = .importCart ∨ r.kind = .returnCart) (last : r.second = none)
    (clean : r.recorded = none) (l : Loc) (c : Cart) : ReqEnded s (s.placed l c).legEnd r .done (r.legsDone + 1)
      ∧ (s.placed l c).legEnd.loader.exportWaiting = (r.kind == .exportCart || s.loader.exportWaiting)
      ∧ (s.placed l c).legEnd.chans = s.chans := by
  obtain ⟨ended, waiting, chans, -⟩ := (placed_lowered found l c).single_ends (placed_says s l c) (by omega) kind last clean
  exact ⟨ended, waiting, chans.trans (placed_chans s l c)⟩

/-- R163: a CLEAN ends with its cleaner at a place outside the bays. -/
theorem release_clean (found : s.activeReq = some r) (cart : s.picker.cart = some c) (kind : r.kind = .clean) (later : 1 ≤ r.legsDone)
    (drive : r.drive = some d) (last : r.second = none) (first : r.firstSrc = some a) (carries : r.cart = some c.uid)
    (apart : ∀ i, (s.session i).mountReq ≠ some r.stamp) (only : ∀ m k, (s.loc m).cart = some k → m ≠ l → k.uid ≠ c.uid) :
    ReqEnded s (s.placed l c).legEnd r r.lastEnd.outcome (r.legsDone + 1)
    ∧ (s.ring.spaceFor 4 → r.recorded = none ∨ s.loader.preempt = none → ∃ m, m.kind = .moveEnd
        ∧ ((s.news (s.placed l c).legEnd).filter fun x => x.kind ≠ .doorEvent) = [cleanedRecord r.lastEnd.outcome d a c, m]) :=
  (placed_lowered found l c).clean_ends (placed_says s l c) (placed_restore s l c) kind later drive last first carries apart
    (placed_cart cart) fun m k there ne => by
      rw [placed_cart_ne ne] at there
      exact only m k there ne

theorem lastEnd_outcome (r : Req) : r.lastEnd.outcome = match r.recorded with | some x => .failed x | none => .done := by
  unfold Req.lastEnd
  cases r.recorded <;> rfl

/-! ## Cut legs (R133) -/

/-- R133: the leg of the held record fails, and its RETURN is queued. -/
def CutFails (s v : State) (r : Req) (a : Loc) : Prop := r.kind ≠ .returnCart → ReqReported s v r (.failed .magazineOpen) r.legsDone
  ∧ (s.loader.preempt = none → s.loader.queue.length ≤ 10 → a.val < 25 → v.loader.queue =
      s.loader.queue.filter (·.stamp ≠ r.stamp) ++ [s.returned v.picker.cart a])

/-- R133: the picker stands with its record, and serves no request. -/
def CutHolds (v : State) : Prop :=
  v.picker.state = .holding ∧ v.picker.order = none ∧ v.picker.cut = false ∧ v.picker.active = none

/-- R133: the picker is parked again. -/
def CutParks (v : State) : Prop := v.picker.state = .parked ∧ v.picker.order = none ∧ v.picker.cut = false

theorem cut_toSource (stage : o.stage = .toSource) (loc : o.loc = some l) (found : s.activeReq = some r)
    (cut : s.picker.cut = true ∨ s.inOpenMagazine l = true) (empty : s.picker.cart = none) (unmarked : r.marked = false)
    (kind : r.kind ≠ .inventory) : CutParks (s.replied.act o .done)
      ∧ ReqEnded s (s.replied.act o .done) r (.failed .magazineOpen) r.legsDone := by
  obtain ⟨picker, ended⟩ := (Serves.arrives found l).cut_fails empty unmarked kind
  rw [toSource_step stage loc found unmarked, nextStep_cuts (t := s.replied.arrive l) cut, CutParks, picker]
  exact ⟨⟨rfl, rfl, rfl⟩, ended⟩

/-- R133: a cut visit goes back into the queue. -/
def CutWaits (s v : State) (r : Req) : Prop := CutParks v ∧ v.picker.active = none ∧ (∀ m, (v.loc m).cart = (s.loc m).cart)
  ∧ v.findReq r.stamp = some { r with state := .queued, blocked := none }
  ∧ (s.ring.spaceFor 2 → ((s.news v).filter fun x => x.kind ≠ .doorEvent) = [])

theorem cut_waits (h : Serves s t r r) (picker : t.picker.order = none) (empty : t.picker.cart = none) (unmarked : r.marked = false)
    (kind : r.kind = .inventory) (carts : ∀ m, (t.loc m).cart = (s.loc m).cart) (told : Says s t [] 0) : CutWaits s t.cutEnd r := by
  obtain ⟨ends, carts', found, told'⟩ := h.cut_requeues empty unmarked kind told
  rw [CutWaits, CutParks, ends]
  exact ⟨⟨rfl, picker, rfl⟩, rfl, fun m => (carts' m).trans (carts m), found, fun space => told'.told space (by omega)⟩

theorem cut_visit (stage : o.stage = .visit) (loc : o.loc = some l) (found : s.activeReq = some r)
    (cut : s.picker.cut = true ∨ s.inOpenMagazine l = true) (empty : s.picker.cart = none) (unmarked : r.marked = false)
    (kind : r.kind = .inventory) : CutWaits s (s.replied.act o .done) r := by
  rw [act_visit stage loc, nextStep_cuts (t := s.replied.arrive l) cut]
  exact cut_waits (Serves.arrives found l) rfl empty unmarked kind (fun _ => rfl) (arrives_says s l)

theorem cut_visitRead (stage : o.stage = .visitRead) (loc : o.loc = some l) (found : s.activeReq = some r)
    (shape : reply = .noLabel ∨ ∃ t, reply = .label t) (cut : s.picker.cut = true) (empty : s.picker.cart = none)
    (unmarked : r.marked = false) (kind : r.kind = .inventory) : CutWaits s (s.replied.act o reply) r := by
  have cut' : s.replied.picker.cut = true := cut
  rw [act_visitRead stage loc s.replied shape, if_pos cut']
  exact cut_waits (Serves.replied found) rfl empty unmarked kind (fun _ => rfl) (replied_says s)

theorem cut_grip (stage : o.stage = .grip) (loc : o.loc = some l) (found : s.activeReq = some r) (at_ : (s.loc l).cart = some c)
    (cut : s.picker.cut = true ∨ s.inOpenMagazine (if c.label = none then l else r.dst) = true) (kind : r.kind ≠ .returnCart) :
    let v := s.replied.act o .done
    CutHolds v ∧ v.picker.legSource = some l ∧ (v.loc l).cart = none ∧ v.picker.cart = some (gripCart l c) ∧ CutFails s v r l := by
  have grip := grip_gripped found at_
  have goes : ∃ st, s.replied.act o .done = (s.replied.gripDone l).nextStep st (if c.label = none then l else r.dst) := by
    rw [grip.acts stage loc]
    cases label : c.label with
    | none =>
      have unread : (gripCart l c).label.isNone = true := by rw [gripCart, label]; rfl
      exact ⟨.readLabel, if_pos unread⟩
    | some text =>
      have read : ¬ (gripCart l c).label.isNone = true := by rw [gripCart, label]; exact Bool.false_ne_true
      exact ⟨.toDest, if_neg read⟩
  obtain ⟨st, goes⟩ := goes
  obtain ⟨here, source, cart⟩ := grip.next_keeps st (if c.label = none then l else r.dst)
  obtain ⟨picker, reported, queue⟩ := grip.cuts cut st kind
  dsimp only
  rw [goes, CutHolds, CutFails, cart]
  refine ⟨?_, source, here, rfl, fun _ => ⟨reported, queue⟩⟩
  rw [picker]
  exact ⟨rfl, rfl, rfl, rfl⟩

theorem cut_readLabel (stage : o.stage = .readLabel) (found : s.activeReq = some r)
    (cut : s.picker.cut = true ∨ s.inOpenMagazine r.dst = true) (shape : reply = .noLabel ∨ ∃ t, reply = .label t)
    (at_ : (s.replied.labelReply none reply).picker.cart = some y) :
    let v := s.replied.act o reply
    CutHolds v ∧ v.picker.cart = some y ∧ CutFails s v r (s.picker.legSource.getD mailLoc)
    ∧ (r.kind = .returnCart → v.findReq r.stamp = some { r with state := .waiting .magazine, blocked := none }) := by
  obtain ⟨picker, fails, stays⟩ := label_cuts found cut at_
  dsimp only
  rw [act_readLabel stage found shape]
  refine ⟨?_, ?_, fails, stays⟩
  · rw [CutHolds, picker]
    exact ⟨rfl, rfl, rfl, rfl⟩
  · rw [picker]

theorem cut_toDest (stage : o.stage = .toDest) (loc : o.loc = some l) (found : s.activeReq = some r)
    (cut : s.picker.cut = true ∨ s.inOpenMagazine l = true) (holds : s.picker.cart.isSome = true) :
    let v := s.replied.act o .done
    CutHolds v ∧ v.picker.cart = s.picker.cart ∧ CutFails s v r (s.picker.legSource.getD mailLoc)
    ∧ (r.kind = .returnCart → v.findReq r.stamp = some { r with state := .waiting .magazine, blocked := none }) := by
  obtain ⟨picker, -, returns, stays⟩ := (Serves.arrives found l).cut_holds holds
  dsimp only
  rw [act_toDest stage loc, nextStep_cuts (t := s.replied.arrive l) cut, CutHolds, CutFails, picker]
  exact ⟨⟨rfl, rfl, rfl, rfl⟩, rfl, returns, stays⟩

end Sys2Proof.Machine
end

section
/-! O57: motion replies, faults, cut legs, homing, RECOVER_PICKER and RESET_LOADER (7.7, 7.8, 8.3). -/

namespace Sys2Proof.Machine

/-- The records told but for the dropped counts, as the statement writes the record of a fault. -/
theorem faulted_record (s : State) (c : Cause) (o : Order) :
    faultedRecord s.picker.state o c (match s.activeReq with | some r => r.id.toNat | none => 0) s.picker.cart.isSome s.picker.recovery =
      (match s.picker.recovery with
        | some t =>
          { kind := .pickerFault, byte1 := 0x21, tag := t, subject := 0xFFFF, e0 := w32 c.code, e1 := 4
            e3 := w32 s.picker.cart.isSome.toNat }
        | none =>
          { kind := .pickerFault, byte1 := c.byte
            subject := match o.loc with | some l => BitVec.ofNat 16 l.val | none => 0xFFFF
            e0 := w32 s.picker.state.code, e1 := w32 o.stage.kindCode
            e2 := match s.activeReq with | some r => w32 r.id.toNat | none => 0
            e3 := w32 s.picker.cart.isSome.toNat }) := by
  unfold faultedRecord
  cases s.picker.recovery with
  | some t => rfl
  | none => cases s.activeReq <;> rfl

/-- Settles O57: each reply, timeout and opening of the door by the step of `State.act` or `State.faultPicker` that it takes. -/
theorem pickerOrdersFaultsAndRecovery : Obligations.PickerOrdersFaultsAndRecovery := by
  unfold Obligations.PickerOrdersFaultsAndRecovery
  intro s tag space news told text strays sent reported ended faulted returned listed
  have faults {v : State} {c : Cause} {o : Order} (h : PickerFaulted s v c o) : faulted v c o := by
    obtain ⟨state, fault, pos, flight, cut, cart, recovery, awaits, idle, ended', last⟩ := h
    refine ⟨state, fault, pos, flight, cut, cart, recovery, awaits, idle, ended', fun room alone apart => ?_⟩
    exact (last room alone apart).trans (congrArg some (faulted_record s c o))
  refine ⟨fun n r run other => exec_motionReply_stray run other r, fun o order idle => ⟨fun r run still => ?_, fun r run homing shut => ?_, ?_⟩,
    fun o order flight => ⟨?_, fun t run candidate deadline => ?_⟩, fun o reply run order flight => ?_, ?_⟩
  · exact abandoned_reply run order idle still r
  · exact abandoned_homes run order idle homing shut r
  · exact abandoned_timeout order idle
  · obtain ⟨v, exec, fault, rest⟩ := motion_timeout order flight
    exact ⟨v, exec, faults fault, rest⟩
  · obtain ⟨v, exec, fault, rest⟩ := door_fault order flight run candidate deadline
    exact ⟨v, exec, faults fault, rest⟩
  · refine ⟨s.replied.act o reply, exec_motionReply_acts run order flight reply, act_mem _ _ _, act_timebase _ _ _,
      ?jam, ?unlisted, ?leg, ?release, ?cut, ?home⟩
    case jam =>
      rintro rfl
      obtain ⟨fault, stands⟩ := faulted_reply s .jam o
      rw [act_jam]
      exact ⟨faults fault, stands, (faultPicker_counts s.replied .jam o).1⟩
    case unlisted =>
      intro unlisted
      obtain ⟨fault, stands⟩ := faulted_reply s .picker o
      obtain ⟨-, -, errors⟩ := faultPicker_counts s.replied .picker o
      rw [act_unlisted unlisted]
      exact ⟨faults fault, stands, errors⟩
    case leg =>
      intro l r loc found whole stands
      refine ⟨?_, ?_, ?_, ?_, ?_, ?_, ?_⟩
      · rintro stage rfl unmarked shut
        exact leg_toSource stage loc found whole unmarked shut
      · rintro stage rfl marked
        exact leg_cancelled stage loc found whole marked
      · rintro stage rfl
        exact leg_grip stage loc found whole
      · intro c stage at_ shut onward unread read
        refine ⟨?_, fun t label => ⟨fun bad => ?_, fun good => ⟨fun known => ?_, fun new alone => ?_, fun m k new there apart has only => ?_⟩⟩⟩
        · rintro rfl
          obtain ⟨⟨onward, cart, said⟩, -⟩ := leg_unread stage found whole shut at_ (.inl rfl) rfl
          exact ⟨onward, cart, said⟩
        · subst label
          obtain ⟨⟨onward, cart, said⟩, count⟩ := leg_unread stage found whole shut at_ (.inr ⟨t, rfl⟩) (labelOf_bad bad)
          exact ⟨onward, cart, said, by rw [count, badLabel_bad bad]; rfl⟩
        · subst label
          exact leg_known stage found whole shut at_ (labelOf_label good) known
        · subst label
          exact leg_new stage found whole shut at_ (labelOf_label good) new alone
        · subst label
          obtain ⟨⟨onward, cart, said⟩, lost, count⟩ :=
            leg_duplicate stage found whole shut at_ (labelOf_label good) new there apart has only
          exact ⟨onward, cart, lost, count, said⟩
      · rintro stage rfl shut
        exact leg_toDest stage loc whole shut
      · rintro stage rfl shut
        exact leg_visit stage loc whole shut
      · intro labelled stage unmarked yes no
        exact visitRead_ends found stage loc whole unmarked yes no
    case release =>
      intro l r loc found stands
      refine ⟨?_, ?_, ?_⟩
      · rintro c stage rfl cart after
        obtain ⟨stood, state, active, empty, source, released, mount⟩ := release_ends stage loc found cart
        refine ⟨stood, state, active, empty, source, released, mount, fun place => ?_, fun d bay clean => ?_⟩
        · rw [act_placed stage loc place cart]
          obtain ⟨here, homes⟩ := release_places (l := l) found cart
          have lowered := placed_lowered found l c
          refine ⟨here, homes, fun kind last clean => release_single found kind last clean l c, ?_, ?_⟩
          · intro d kind first drive last clean usable
            exact lowered.changeover (placed_says s l c) kind first drive last clean
          · intro d a kind later drive last first carries apart only outcome
            obtain ⟨ended, said⟩ := release_clean found cart kind later drive last first carries apart only
            rw [lastEnd_outcome] at ended said
            exact ⟨ended, said⟩
        · intro was
          subst bay
          rw [act_loaded stage loc cart]
          obtain ⟨channel, others, live, read, data, cleaning⟩ := bay_channel found clean cart
          exact ⟨channel.1, channel.2, fun quiet => ⟨others quiet, fun new room => bay_head quiet new room⟩, live, read,
            fun h home => bay_home found home, data, cleaning,
            fun kind last quiet => bay_move found quiet clean kind last c,
            fun kind last dst alone quiet => bay_mount found quiet clean kind last dst alone c,
            fun kind first drive => bay_clean found kind first drive cart⟩
      · rintro stage rfl
        exact noCartridge_ends stage loc found
      · rintro stage rfl
        exact blocked_ends stage loc found
    case cut =>
      intro l r loc found cutAt source parks waits holds fails stays
      refine ⟨?_, ?_, ?_, ?_, ?_, ?_⟩
      · rintro stage rfl cut empty unmarked kind
        exact cut_toSource stage loc found cut empty unmarked kind
      · rintro stage rfl cut empty unmarked kind
        exact cut_visit stage loc found cut empty unmarked kind
      · intro stage shape cut empty unmarked kind
        exact cut_visitRead stage loc found shape cut empty unmarked kind
      · rintro c stage rfl at_ cut kind
        exact cut_grip stage loc found at_ cut kind
      · intro c stage at_ cut
        refine ⟨?_, fun t label long short chars => ?_⟩
        · rintro rfl
          exact cut_readLabel stage found cut (.inl rfl) (label_unread at_ rfl).1
        · subst label
          obtain ⟨y, taken, uid, label⟩ := label_taken at_ (labelOf_label ⟨long, short, chars⟩)
          obtain ⟨stands, cart, fails, stays⟩ := cut_readLabel stage found cut (.inr ⟨t, rfl⟩) taken
          refine ⟨stands, ?_, ?_, fails, stays⟩
          · rw [cart, Option.map_some, uid]
          · rw [cart, Option.bind_some, label]
      · rintro stage rfl cut held
        exact cut_toDest stage loc found cut held
    case home =>
      rintro stage rfl recovered
      have acts : s.replied.act o .done = s.replied.homeDone := by
        unfold State.act
        rw [stage]
      rw [acts]
      by_cases full : (s.filter .gripper).debounced = .on
      · obtain ⟨⟨pos, fault, order', recovery⟩, holds⟩ := home_holds full
        exact ⟨pos, fault, order', recovery, fun _ => holds, fun empty => absurd full empty⟩
      · obtain ⟨⟨pos, fault, order', recovery⟩, parks⟩ := home_parks full
        exact ⟨pos, fault, order', recovery, fun on => absurd on full, fun _ => parks⟩
  · exact ⟨(recover_ends s tag).1, (recover_ends s tag).2, reset_ends s tag⟩

end Sys2Proof.Machine
end
